-- ==== Sys2Proof/Word.lean ====
section
/-! DEFINITION. The word types of the model and their plainest arithmetic: bytes, register words, stream lines, flits. -/
namespace Sys2Proof

/-- One byte. -/
abbrev Byte := BitVec 8

/-- A half word. -/
abbrev W16 := BitVec 16

/-- A register of the register window (R9: every register is 32 bits wide). -/
abbrev W32 := BitVec 32

/-- A 64-bit value: parameter registers, index registers, the time counter, page-map entries. -/
abbrev W64 := BitVec 64

/-- One 64-byte line of a stream register or of the working store (R65, R70), byte 0 in bits 7..0. -/
abbrev Line := BitVec 512

/-- A flit of 256 bytes (R84), byte 0 in bits 7..0. -/
abbrev Flit := BitVec 2048

end Sys2Proof
end

