-- ==== Sys2Proof/Machine/Data.lean ====
section
/-! DEFINITION. The plain data structures of the state: sorted maps, byte memories in one canonical form, and the conversions between bytes, words and lines. -/
namespace Sys2Proof.Machine

/-- A map from numbers to values: a list sorted by key, no key twice. A key that is not listed reads as the
default its reader names. -/
abbrev SMap (α : Type) := List (Nat × α)

/-- The value at a key, if the map lists it. -/
def SMap.find {α : Type} : SMap α → Nat → Option α
  | [], _ => none
  | (k, v) :: rest, key => if k = key then some v else SMap.find rest key

/-- The value at a key, or the default. -/
def SMap.get {α : Type} (m : SMap α) (key : Nat) (dflt : α) : α := (m.find key).getD dflt

/-- The map with a value at a key. -/
def SMap.put {α : Type} : SMap α → Nat → α → SMap α
  | [], key, x => [(key, x)]
  | (k, v) :: rest, key, x =>
    if k = key then (key, x) :: rest
    else if key < k then (key, x) :: (k, v) :: rest
    else (k, v) :: SMap.put rest key x

/-- The map without a key. -/
def SMap.del {α : Type} (m : SMap α) (key : Nat) : SMap α := m.filter (fun e => e.1 != key)

/-- The map with a value changed by a function, the default where it is not listed. -/
def SMap.modify {α : Type} (m : SMap α) (key : Nat) (dflt : α) (f : α → α) : SMap α := m.put key (f (m.get key dflt))

/-- A byte memory: address and byte pairs, addresses strictly rising, no entry equal to what an unlisted address
reads as, which is 0 (R252 for the stores; DESIGN CHOICE, log entry 4, for LPDDR5X and buffers). -/
abbrev Mem := List Host.Cell

/-- What an address that a memory does not list reads as. -/
def Mem.unlisted : Byte := 0

/-- The byte at an address. -/
def Mem.read : Mem → Nat → Byte
  | [], _ => Mem.unlisted
  | (k, v) :: rest, a => if k = a then v else Mem.read rest a

/-- The memory with one byte written, canonical form kept. -/
def Mem.write : Mem → Nat → Byte → Mem
  | [], a, b => if b = Mem.unlisted then [] else [(a, b)]
  | (k, v) :: rest, a, b =>
    if a = k then (if b = Mem.unlisted then rest else (a, b) :: rest)
    else if a < k then (if b = Mem.unlisted then (k, v) :: rest else (a, b) :: (k, v) :: rest)
    else (k, v) :: Mem.write rest a b

/-- The canonical form: addresses above a bound and strictly rising, no entry equal to the unlisted byte. -/
def Mem.above : Nat → Mem → Bool
  | _, [] => true
  | lo, (k, v) :: rest => decide (lo ≤ k) && decide (v ≠ Mem.unlisted) && Mem.above (k + 1) rest

/-- The canonical form of a memory. -/
def Mem.wf (m : Mem) : Bool := Mem.above 0 m

/-- `n` bytes from an address on, in rising order. -/
def Mem.bytes (m : Mem) (a : Nat) : Nat → List Byte
  | 0 => []
  | n + 1 => m.read a :: Mem.bytes m (a + 1) n

/-- The memory with a list of bytes written from an address on. -/
def Mem.store (m : Mem) (a : Nat) : List Byte → Mem
  | [] => m
  | b :: bs => Mem.store (m.write a b) (a + 1) bs

/-- The part of a memory in `[lo, lo + n)`, moved down to address 0. -/
def Mem.window (m : Mem) (lo n : Nat) : Mem :=
  (m.filter (fun c => decide (lo ≤ c.1) && decide (c.1 < lo + n))).map (fun c => (c.1 - lo, c.2))

/-- The memory with `[lo, lo + n)` cleared to the unlisted byte. -/
def Mem.clear (m : Mem) (lo n : Nat) : Mem :=
  m.filter (fun c => !(decide (lo ≤ c.1) && decide (c.1 < lo + n)))

/-- Little-endian value of a list of bytes. -/
def leNat : List Byte → Nat
  | [] => 0
  | b :: bs => b.toNat + 256 * leNat bs

/-- The `n` low bytes of a number, least significant first. -/
def toBytes (n : Nat) (v : Nat) : List Byte :=
  match n with
  | 0 => []
  | k + 1 => BitVec.ofNat 8 v :: toBytes k (v / 256)

/-- Big-endian value of a list of bytes. -/
def beNat (bs : List Byte) : Nat := leNat bs.reverse

/-- The line at a line number of a memory (64 bytes, R70). -/
def Mem.line (m : Mem) (k : Nat) : Line := BitVec.ofNat 512 (leNat (m.bytes (64 * k) 64))

/-- The memory with a line written. -/
def Mem.putLine (m : Mem) (k : Nat) (v : Line) : Mem := m.store (64 * k) (toBytes 64 v.toNat)

/-- The bytes of a line. -/
def lineBytes (v : Line) : List Byte := toBytes 64 v.toNat

/-- A line from bytes; bytes past 64 are dropped, missing bytes are 0. -/
def lineOf (bs : List Byte) : Line := BitVec.ofNat 512 (leNat (bs.take 64))

/-- A list cut into pieces of `n` elements (the last may be shorter), at most `fuel` pieces. -/
def chunksOf {α : Type} (n : Nat) : Nat → List α → List (List α)
  | 0, _ => []
  | fuel + 1, l => if l.isEmpty then [] else l.take n :: chunksOf n fuel (l.drop n)

/-- A list cut into pieces of `n` elements. -/
def pieces {α : Type} (n : Nat) (l : List α) : List (List α) := chunksOf n (l.length) l

/-- The element at an index, or a default. -/
def nthD {α : Type} (l : List α) (i : Nat) (d : α) : α := (l[i]?).getD d

/-- A list with the element at an index replaced; unchanged where the index is past its end. -/
def setAt {α : Type} (l : List α) (i : Nat) (x : α) : List α := l.set i x

/-- Bits `[lo + n - 1 : lo]` of a number. -/
def bitsN (v lo n : Nat) : Nat := v / 2 ^ lo % 2 ^ n

/-- Bit `i` of a number. -/
def bitN (v i : Nat) : Bool := v / 2 ^ i % 2 = 1

/-- A two's-complement value of `n` bits. -/
def signedN (n v : Nat) : Int := if 2 ^ (n - 1) ≤ v % 2 ^ n then (v % 2 ^ n : Int) - 2 ^ n else (v % 2 ^ n : Int)

/-- The `n`-bit two's-complement pattern of an integer. -/
def patternN (n : Nat) (v : Int) : Nat := (v % (2 ^ n : Int)).toNat

/-- A counter that saturates at its width. -/
def satAdd (n cur add : Nat) : Nat := min (2 ^ n - 1) (cur + add)

/-- The ceiling of a quotient. -/
def ceilDiv (a b : Nat) : Nat := (a + b - 1) / b

/-- The indexes of the bits that are 1, below `n`. -/
def bitList (v n : Nat) : List Nat := (List.range n).filter (bitN v ·)

/-- The number of bits that are 1, below `n`. -/
def popCount (v n : Nat) : Nat := (bitList v n).length

/-- A list folded over a state. -/
def forEach {α σ : Type} (l : List α) (s : σ) (f : σ → α → σ) : σ := l.foldl f s

end Sys2Proof.Machine
end

