-- ==== Sys2Proof/Formats.lean ====
section
/-! DEFINITION. The named choices of the plan: element types, output formats, rounding modes, comparisons. -/
namespace Sys2Proof.Machine

/-- Element types of tiles and activation rows (R97, R100, R148). -/
inductive Elem
  | e4m3 | e5m2 | e3m2 | e2m3 | e2m1 | int8 | bf16 | fp16
  deriving DecidableEq, Repr

/-- Output formats of drain and v.cvt (R114). -/
inductive Fmt
  | fp32 | fp16 | bf16 | e4m3 | e5m2
  | mxfp8e4m3 | mxfp8e5m2 | mxfp6e3m2 | mxfp6e2m3 | mxfp4 | mxint8
  | mxfp8 | mxfp6  -- name no format: the Gatehouse rejects them (R114)
  | int8 | int32 | xw32 | xw64 | xw128
  deriving DecidableEq, Repr

/-- Rounding modes (R115). -/
inductive Rnd
  | rne | rz | rnesat | sr
  deriving DecidableEq, Repr

/-- XW widths a plan stores and sends (R103). -/
inductive XwN
  | n32 | n64 | n128
  deriving DecidableEq, Repr

/-- The width in bits. -/
def XwN.bits : XwN → Nat
  | .n32 => 32 | .n64 => 64 | .n128 => 128

/-- Element types of the vector walk (R172). -/
inductive VTy
  | fp32 | bf16
  deriving DecidableEq, Repr

/-- Bytes of one vector element. -/
def VTy.bytes : VTy → Nat
  | .fp32 => 4 | .bf16 => 2

/-- Comparisons of v.cmp and pred (R174, R202). -/
inductive Cmp
  | eq | ne | lt | le | gt | ge | ltu | leu | gtu | geu
  deriving DecidableEq, Repr

/-- Latency classes (R144, R216). -/
inductive LatClass
  | lc1 | lc2
  deriving DecidableEq, Repr

end Sys2Proof.Machine
end

