-- ==== Sys2Proof/Plan.lean ====
section
/-! DEFINITION. The instructions of a plan as the listing syntax writes them (R138 to R140), without their private encoding. A command that issues an instruction and a listing line of a bundle share these operands. -/
namespace Sys2Proof.Machine

/-- An issue slot (R80, R139). -/
inductive Slot
  | bed (n : Nat) | vec (n : Nat) | sfu | rd (n : Nat) | wr (n : Nat) | shuf | idx | xing (n : Nat) | dma | ctl
  deriving DecidableEq, Repr

/-- The guard `if=Qn` or `if=!Qn` (R141). -/
structure Guard where
  q : Nat
  neg : Bool
  deriving DecidableEq, Repr

/-- Where and when an instruction issues: pavilion, cycle counted from the step's first cycle, slot, guard. -/
structure Issue where
  pav : Nat
  cycle : Nat
  slot : Slot
  guard : Option Guard
  deriving DecidableEq, Repr

/-- Line `line` of stream register `reg`, or the first line of a run from there on (R140, R172). -/
structure LineRef where
  reg : Nat
  line : Nat
  deriving DecidableEq, Repr

/-- One half of a stream register: lines 0 to 15, or 16 to 31 (R157). -/
structure HalfRef where
  reg : Nat
  high : Bool
  deriving DecidableEq, Repr

/-- Rows j0 to j1 of accumulator row group `grp` of the issuing bed (R62, R140). -/
structure AccRef where
  grp : Nat
  j0 : Nat
  j1 : Nat
  deriving DecidableEq, Repr

/-- A static or indexed offset, `ws:` or `wt:` (R140). -/
structure Addr where
  off : Nat
  idx : Option Nat
  deriving DecidableEq, Repr

/-- An awaited level: an immediate, or an index register plus an immediate (R140). -/
inductive Level
  | imm (n : W32)
  | idx (k : Nat) (plus : W32)
  deriving DecidableEq, Repr

/-- The wait operand `wait=K<ctr>>=<level>` (R159). -/
structure Wait where
  ctr : Nat
  level : Level
  deriving DecidableEq, Repr

/-- An index register or an immediate. -/
inductive IdxImm
  | reg (k : Nat)
  | imm (v : Int)
  deriving DecidableEq, Repr

/-- A parameter register, plus an index register where one is named. -/
structure ParamRef where
  p : Nat
  idx : Option Nat
  deriving DecidableEq, Repr

/-- Operands of mm (R148). `w` is a weight-tier offset. -/
structure MmArgs where
  wfmt : Elem
  sp24 : Bool
  acc : AccRef
  act : LineRef
  w : Addr
  win : Int
  afmt : Elem
  deriving DecidableEq, Repr

/-- `sr=P<p> col=<e0>[+I<k>]` (R155). -/
structure SrArgs where
  p : Nat
  e0 : Nat
  idx : Option Nat
  deriving DecidableEq, Repr

/-- Operands of drain (R153 to R155). -/
structure DrainArgs where
  acc : AccRef
  dst : LineRef
  fmt : Fmt
  rnd : Option Rnd
  win : Int
  wout : Option Int
  cmp : Option LineRef
  tid : Option Nat
  sr : Option SrArgs
  deriving DecidableEq, Repr

/-- Lane-array operations (R174). -/
inductive LaneOp
  | add | sub | mul | fma | min | max
  | cmp (op : Cmp)
  | sel
  | rot (amt : IdxImm)
  deriving DecidableEq, Repr

/-- Operands of a lane-array instruction (R172 to R175). -/
structure LaneArgs where
  dst : LineRef
  a : LineRef
  b : Option LineRef
  rowlen : Option Nat
  c : Option LineRef
  len : Nat
  ty : VTy
  deriving DecidableEq, Repr

/-- Source formats of v.cvt are the output formats (R114, R176). -/
structure CvtArgs where
  dst : LineRef
  src : LineRef
  len : Nat
  ffrom : Fmt
  fto : Fmt
  rnd : Option Rnd
  win : Option Int
  wout : Option Int
  scmp : Option LineRef
  dcmp : Option LineRef
  tid : Option Nat
  rowlen : Option Nat
  sr : Option SrArgs
  deriving DecidableEq, Repr

/-- Row reductions (R177). -/
inductive RedOp
  | sum | rmax | argmax
  deriving DecidableEq, Repr

/-- Operands of a row reduction; `k` counts only for v.topk (R177, R178). -/
structure RedArgs where
  dst : LineRef
  src : LineRef
  rows : Nat
  n : Nat
  k : Nat
  ty : VTy
  base : IdxImm
  deriving DecidableEq, Repr

/-- Output form of v.treemask (R180). -/
inductive MaskFmt
  | fp32 | bf16 | bit
  deriving DecidableEq, Repr

/-- Operands of v.treemask (R179, R180). -/
structure TreeArgs where
  dst : LineRef
  par : LineRef
  n : IdxImm
  rows : Nat
  fmt : MaskFmt
  vld : Option LineRef
  deriving DecidableEq, Repr

/-- Seed of v.rng (R181). -/
inductive SeedSrc
  | param (p : Nat)
  | entropy
  deriving DecidableEq, Repr

/-- Position of v.rng: a parameter register or an index register (R181). -/
inductive PosSrc
  | param (p : Nat)
  | idx (k : Nat)
  deriving DecidableEq, Repr

/-- Operands of v.rng (R181). -/
structure RngArgs where
  dst : LineRef
  len : Nat
  seed : SeedSrc
  pos : PosSrc
  d0 : IdxImm
  f32 : Bool
  deriving DecidableEq, Repr

/-- Operands of v.sample (R182). -/
structure SampleArgs where
  dst : LineRef
  w : LineRef
  cand : LineRef
  rows : Nat
  k : Nat
  key : Nat
  deriving DecidableEq, Repr

/-- Special-function operations (R184). -/
inductive SfOp
  | exp | log | rsqrt | tanh | sigm
  deriving DecidableEq, Repr

/-- Operands of a special-function instruction (R184). -/
structure SfArgs where
  dst : LineRef
  src : LineRef
  len : Nat
  ty : VTy
  tto : Option VTy
  deriving DecidableEq, Repr

/-- `pages=pg:P<p>[+I<k>] n= walk= skip=` (R190). -/
structure PageArgs where
  pg : ParamRef
  n : Nat
  chain : Bool
  skip : IdxImm
  deriving DecidableEq, Repr

/-- Destination of a reduction: a scheduled tree, or an address (R197). -/
inductive RedDest
  | tree (id : Nat)
  | toAddr (p : Nat)
  deriving DecidableEq, Repr

/-- Source of i.mov (R162). -/
inductive MovSrc
  | idx (a : Nat)
  | param (p : Nat)
  | imm (v : BitVec 32)
  deriving DecidableEq, Repr

/-- Forms of pred (R202). -/
inductive PredArgs
  | cmp (a : Nat) (op : Cmp) (b : IdxImm)
  | bit (p : Nat) (b : Nat)
  | nz (l : LineRef)
  deriving DecidableEq, Repr

/-- Page named by stat.rd (R204). -/
inductive StatPage
  | pavilion | step
  deriving DecidableEq, Repr

/-- Done counter and end of the DMA window of a transfer (R186, R187). -/
structure DoneBy where
  by_ : Nat
  done : Nat
  deriving DecidableEq, Repr

/-- An instruction of a plan with its operands. -/
inductive PlanOp
  | mm (o : MmArgs)
  | zero (acc : AccRef)
  | drain (o : DrainArgs)
  | chkRd (acc : AccRef) (dst : LineRef)
  | ld (dst : HalfRef) (src : Addr) (wait : Option Wait)
  | st (dst : Addr) (src : HalfRef)
  | gather (dst : HalfRef) (base span : Nat) (idx : LineRef) (wait : Option Wait)
  | scatter (base span : Nat) (idx : LineRef) (src : HalfRef)
  | perm (dst src map elt : Nat)
  | xpose (dst src elt : Nat)
  | iMov (d : Nat) (src : MovSrc)
  | iAdd (d a : Nat) (b : IdxImm)
  | iMul (d a : Nat) (b : IdxImm)
  | xsend (x : Nat) (src : LineRef) (wait : Option Wait)
  | xrecv (x : Nat) (dst : LineRef) (wait : Option Wait)
  | lane (op : LaneOp) (o : LaneArgs)
  | cvt (o : CvtArgs)
  | rng (o : RngArgs)
  | red (op : RedOp) (o : RedArgs)
  | topk (o : RedArgs)
  | treemask (o : TreeArgs)
  | sample (o : SampleArgs)
  | sf (op : SfOp) (o : SfArgs)
  | pageIn (dst : Nat) (pg : PageArgs) (d : DoneBy)
  | pageOut (src : Nat) (pg : PageArgs) (part : Option (IdxImm × Nat)) (d : DoneBy)
  | await (ctr : Nat) (level : Level)
  | fence (trk : Nat) (cnt : Nat)
  | fput (tgt : ParamRef) (src len : Nat) (trk : Option Nat) (tc0 : Bool) (d : DoneBy)
  | fget (from_ : ParamRef) (dst len : Nat) (d : DoneBy)
  | fmcast (grp src len off : Nat) (trk : Option Nat) (d : DoneBy)
  | fredXw (n : XwN) (dst : RedDest) (src cmp elems : Nat) (win : Int) (trk : Nat) (d : DoneBy)
  | fredF (dst : RedDest) (src elems trk : Nat) (d : DoneBy)
  | faddI64 (tgt : ParamRef) (val : Nat) (trk : Option Nat) (d : DoneBy)
  | faddXw (n : XwN) (tgt : ParamRef) (src cmp elems : Nat) (win : Int) (trk : Option Nat) (d : DoneBy)
  | loop (n : Nat) (act : Option IdxImm) (ctr : Option Nat)
  | endloop
  | beat (skip : Nat)
  | nop
  | pld (dst : LineRef) (src : ParamRef) (n : Nat)
  | pred (q : Nat) (o : PredArgs)
  | stepEnd
  | timeRd (dst : LineRef)
  | statRd (dst : LineRef) (page : StatPage) (off : Nat)
  deriving DecidableEq, Repr

/-- A listing line without its pavilion: cycle, slot, guard, instruction (R138). -/
structure PlanLine where
  cycle : Nat
  slot : Slot
  guard : Option Guard
  op : PlanOp
  deriving DecidableEq, Repr

end Sys2Proof.Machine
end

