-- ==== Sys2Proof/Machine/FabState.lean ====
section
/-! DEFINITION. Packets, transfers, trackers, the router and the fabric ports (08_parterre.md, 09_fabric_links.md): plain data. -/
namespace Sys2Proof.Machine

/-- A packet: its header fields (R292) and payload. `rsv` says whether a reserved header bit is set (R296). -/
structure Packet where
  dest : Nat
  src : Nat
  mid : Nat
  phase : Bool
  tc : Nat
  typ : Nat
  hops : Nat
  epoch : Nat
  plan : Bool
  deflected : Bool
  rsv : Bool
  tag : Nat
  tagGen : Nat
  pseq : Nat
  tracker : Nat
  stepGen : Nat
  plot : Nat
  plotGen : Nat
  addr : Nat
  len : Nat
  pcount : Nat
  contrib : Nat
  xwn : Nat
  win : Int
  aux : Nat
  tree : Nat
  trkValid : Bool
  payload : List Byte
  deriving DecidableEq, Repr

/-- The packet with every field 0 and no payload. -/
def Packet.blank : Packet where
  dest := 0
  src := 0
  mid := 0
  phase := false
  tc := 0
  typ := 0
  hops := 0
  epoch := 0
  plan := false
  deflected := false
  rsv := false
  tag := 0
  tagGen := 0
  pseq := 0
  tracker := 0
  stepGen := 0
  plot := 0
  plotGen := 0
  addr := 0
  len := 0
  pcount := 0
  contrib := 0
  xwn := 0
  win := 0
  aux := 0
  tree := 0
  trkValid := false
  payload := []

/-- Who issued a transfer (R287). -/
inductive XferOwner
  | plan (pav : Nat)
  | kioskInput (ctx : Nat)          -- fill of the input buffer (R399)
  | kioskPark (ctx seq : Nat)       -- remote park copy (R432)
  | kioskFetch (ctx seq : Nat)      -- fetch back from a remote park (R430)
  | kioskInbox (ctx : Nat)          -- inbox entry or producer word (R432, R433)
  | loadJob (job : Nat)             -- a LOAD copy (R448)
  | faddCmd                         -- PARTERRE.FADD_CMD (R291)
  | dmaLoad (ctx : Nat)             -- program image read (R223)
  | shadow                          -- shadow copy (R517)
  | mgmt                            -- register request of this manager (R589)
  deriving DecidableEq, Repr

/-- What a transfer moves. -/
inductive XferKind
  | pageIn | pageOut | put | get | mcast | red | fadd | load | inputFill | reg
  deriving DecidableEq, Repr

/-- An open transfer (R185 to R190, R287 to R290). `serial` tells transfers of one device apart; `fabric` ones hold a
tag. `pages` are the pages it takes, `got` the bytes that have arrived and are not yet placed, `placed` the KiB or
bursts placed, `confirmed` the packets confirmed (for a multicast, the member copies in `members`). -/
structure Xfer where
  serial : Nat
  owner : XferOwner
  kind : XferKind
  fabric : Bool
  tag : Nat
  gen : Nat
  plan : Bool
  plot : Nat
  keyGen : Nat
  done : Option Nat
  loc : Nat
  len : Nat
  addr : Nat
  pages : List Nat
  members : List Nat
  pcount : Nat
  confirmed : List Nat
  memberConf : List (Nat × Nat)
  got : Mem
  gotBursts : List Nat
  placed : List Nat
  issued : Nat
  err : Option Nat
  deriving DecidableEq, Repr

/-- A completion tracker (R315): CURRENT and NEXT; its generation is the step number of the plot's running context. -/
structure Tracker where
  cur : Nat
  next : Nat
  deriving DecidableEq, Repr

/-- An arrival entry (R317). -/
structure Arrival where
  src : Nat
  tag : Nat
  gen : Nat
  placed : List Nat
  pcount : Nat
  since : Nat
  deriving DecidableEq, Repr

/-- Placed packets of one transfer not yet confirmed to its origin (R288). -/
structure Unconf where
  src : Nat
  tag : Nat
  gen : Nat
  plot : Nat
  plan : Bool
  seqs : List Nat
  since : Nat
  deriving DecidableEq, Repr

/-- A partial in the combine buffer (R301). -/
structure Combining where
  pkt : Packet
  expect : Nat
  since : Nat
  deriving DecidableEq, Repr

/-- An armed routing switch (R309). -/
structure ArmedSwitch where
  epoch : Nat
  count : W64
  deriving DecidableEq, Repr

/-- The router (R299 to R310). Bank entries are keyed 4,096 * bank + device. -/
structure Router where
  entries : SMap Nat
  active : Nat
  epoch : Nat
  oldEpoch : Nat
  retained : Bool
  retainedSince : Nat
  armed : Option ArmedSwitch
  combine : List Combining
  sched : SMap (List Packet)
  demoted : List Packet                -- packets that have left their scheduled route and found no output free yet (R300)
  recentLeft : List (Nat × Nat × Nat)  -- trees, addresses and step generations whose partial has left
  deriving DecidableEq, Repr

/-- Link states (R327). -/
inductive LinkState
  | off | calibrate | train | init | up | held | down | draining | drained | failed
  deriving DecidableEq, Repr

/-- A fabric port (R327 to R356). Credits are lists over the four traffic classes. -/
structure Port where
  st : LinkState
  phase : LinkState                    -- the phase of retraining in HELD and DOWN: TRAIN or INIT
  cause : Nat
  txGen : Nat
  rxGen : Nat
  txSeq : Nat
  ackRecv : Nat
  rxE : Nat
  lastAckSent : Nat
  ackValid : Bool
  nakPending : Bool
  unacked : Nat
  unackedSince : Nat
  replay : List (Nat × Nat × Packet)   -- SEQ, elapsed tick of its last sending, packet
  lastReplay : Option (Nat × Nat)      -- point and elapsed tick of the last replay started
  replaysNoAck : Nat
  advH : List Nat
  advD : List Nat
  chargedH : List Nat
  chargedD : List Nat
  returnedH : List Nat
  returnedD : List Nat
  takenH : List Nat
  takenD : List Nat
  initAt : Nat
  initDepart : Nat
  initResume : Bool
  gotInit : Bool
  gotInitAck : Bool
  peer : Option (Nat × Nat)
  rtt : Nat
  downTick : W64
  downSince : Nat
  graceLen : Nat
  graceOpen : Bool
  drainAfter : Bool
  fails : Nat
  retrains : Nat
  phaseSince : Nat
  exchNum : Nat
  exchOpen : Bool
  exchAt : Nat
  exchStamp : Nat                      -- t1, in eighths of a tick
  lastExch : Nat
  linkDelay : Option Nat               -- d in eighths of a tick (R377)
  peerSynced : Bool
  peerManager : Bool
  upAgain : Bool                       -- an exchange completed in INIT leads to a resume
  waiting : List Packet                -- packets of the shell and the bell that wait for room or credits (R340, R344)
  rx : List Packet                     -- accepted packets the router has not taken (R335, R341)
  deriving DecidableEq, Repr

/-- A port without power (R327). -/
def Port.off : Port where
  st := .off
  phase := .off
  cause := 0
  txGen := 0
  rxGen := 0
  txSeq := 0
  ackRecv := 0
  rxE := 0
  lastAckSent := 0
  ackValid := false
  nakPending := false
  unacked := 0
  unackedSince := 0
  replay := []
  lastReplay := none
  replaysNoAck := 0
  advH := [0, 0, 0, 0]
  advD := [0, 0, 0, 0]
  chargedH := [0, 0, 0, 0]
  chargedD := [0, 0, 0, 0]
  returnedH := [0, 0, 0, 0]
  returnedD := [0, 0, 0, 0]
  takenH := [0, 0, 0, 0]
  takenD := [0, 0, 0, 0]
  initAt := 0
  initDepart := 0
  initResume := false
  gotInit := false
  gotInitAck := false
  peer := none
  rtt := 0
  downTick := 0
  downSince := 0
  graceLen := 0
  graceOpen := false
  drainAfter := false
  fails := 0
  retrains := 0
  phaseSince := 0
  exchNum := 0
  exchOpen := false
  exchAt := 0
  exchStamp := 0
  lastExch := 0
  linkDelay := none
  peerSynced := false
  peerManager := false
  upAgain := false
  waiting := []
  rx := []

/-- The link part of a frame (R331): what a received frame carries beside its packet or INIT body. `crcOk` says whether
the frame passed the FEC and CRC check. -/
structure FrameHdr where
  crcOk : Bool
  rsv : Bool
  seq : Nat
  ack : Nat
  ackValid : Bool
  nak : Bool
  gen : Nat
  credH : List Nat
  credD : List Nat
  deriving DecidableEq, Repr

/-- The body of INIT and INIT_ACK frames (R333). -/
structure InitBody where
  dev : Nat
  port : Nat
  resume : Bool
  advH : List Nat
  advD : List Nat
  expect : Nat
  deriving DecidableEq, Repr

/-- A TIME packet's payload (R376), stamps in eighths of a tick. -/
structure TimeBody where
  depart : Nat
  reqArrive : Nat
  exch : Nat
  kind : Nat
  synced : Bool
  manager : Bool
  deriving DecidableEq, Repr

/-- What a frame carries (R332). -/
inductive FrameBody
  | idle
  | packet (p : Packet)
  | init (b : InitBody)
  | initAck (b : InitBody)
  deriving DecidableEq, Repr

/-- A frame the port sent, with its link header (R331). -/
structure FrameOut where
  seq : Nat
  ack : Nat
  ackValid : Bool
  nak : Bool
  gen : Nat
  credH : List Nat
  credD : List Nat
  body : FrameBody
  deriving DecidableEq, Repr

end Sys2Proof.Machine
end

