-- ==== Sys2Proof/Bundle.lean ====
section
/-! DEFINITION. The content of a bundle (06_programs_and_gatehouse.md): the public header of R213 and, as the decoded form of the private part, the declared tables and the step variants of R210 (log entry 6). -/
namespace Sys2Proof.Machine

/-- The container header (R213), fields as read. `reservedOk` says that every reserved byte is 0. -/
structure BundleHdr where
  magic : Nat
  version : Nat
  size : Nat
  configId : W64
  flags : Nat
  ogi : Nat
  stepVariants : Nat
  fallbacks : Nat
  sysDigest : List Byte
  digest : List Byte
  totalLen : Nat
  pavUse : Nat
  pkgUse : Nat
  paramDecls : Nat
  fbMap : Nat
  sliceNeed : Nat
  ledgerPeak : Nat
  reservedOk : Bool
  deriving DecidableEq, Repr

/-- A through route of a pavilion (R86). -/
structure Through where
  pav : Nat
  inX : Nat
  outX : Nat
  deriving DecidableEq, Repr

/-- What a rendezvous counter counts (R77). -/
inductive CtrKind
  | crossing (x : Nat)
  | staging (i : Nat)
  | transfers
  deriving DecidableEq, Repr

/-- A counter binding of the counter plan. -/
structure CtrBind where
  pav : Nat
  ctr : Nat
  kind : CtrKind
  deriving DecidableEq, Repr

/-- A scheduled route or tree as it crosses this device's router (R298, R301, R313): destination device and, for a
reduction tree, the global address of its buffer; output ports, whether it also leaves locally, slots on each port,
contributions expected where partials meet, members below each port. -/
structure SchedRoute where
  tree : Option Nat
  dest : Nat
  addr : Nat
  outs : List Nat
  home : Bool
  slots : List (Nat × Nat)
  expect : Nat
  below : List (Nat × List Nat)
  deriving DecidableEq, Repr

/-- One step variant (R210, R234). `issueBytes` is the space each stream takes in a bank (R226). -/
structure VariantBody where
  streams : List (Nat × List PlanLine)
  through : List Through
  binds : List CtrBind
  routes : List SchedRoute
  batchMax : Nat
  pageMax : Nat
  beats : Nat
  deadline : Nat
  issueBytes : List (Nat × Nat)
  deriving DecidableEq, Repr

/-- Parameter types (R229). -/
inductive ParamTy
  | u64 | s64 | fp32 | mask | seed | pageEntry | globalAddr
  deriving DecidableEq, Repr

/-- Owners (R230). -/
inductive ParamOwner
  | static | kiosk | host
  deriving DecidableEq, Repr

/-- A parameter declaration (R229): bounds `lo`, `hi` as the type reads them; a STATIC register's value. -/
structure ParamDecl where
  p : Nat
  ty : ParamTy
  lo : Nat
  hi : Nat
  owner : ParamOwner
  value : Nat
  deriving DecidableEq, Repr

/-- Recipe sources (R232). -/
inductive RecipeSrc
  | const (v : Nat)
  | batchCount | slotMask | seed | tokenIndex | position | seqHandle
  | sampling (topP : Bool)
  | treeNodes
  | pageList (stream firstBlock j : Nat)
  deriving DecidableEq, Repr

/-- A patch recipe (R232). -/
structure Recipe where
  first : Nat
  stride : Nat
  slots : Nat
  src : RecipeSrc
  idle : Nat
  deriving DecidableEq, Repr

/-- A staging buffer (R74). -/
structure Staging where
  pav : Nat
  off : Nat
  kib : Nat
  ctr : Nat
  deriving DecidableEq, Repr

/-- A reduction buffer (R197): value and companion planes, `n` absent for an FP32 buffer of fred.f. -/
structure RedBuf where
  pav : Nat
  off : Nat
  cmpOff : Nat
  n : Option XwN
  elems : Nat
  win : Int
  deriving DecidableEq, Repr

/-- A multicast group (R196). -/
structure Group where
  id : Nat
  tc0 : Bool
  tree : Nat
  members : List Nat
  deriving DecidableEq, Repr

/-- A tensor declaration (R126). -/
structure TensorDecl where
  tid : Nat
  win : Option Int
  fmt : Fmt
  rnd : Option Rnd
  deriving DecidableEq, Repr

/-- A working-store region of one pavilion. -/
structure StoreRegion where
  pav : Nat
  off : Nat
  len : Nat
  deriving DecidableEq, Repr

/-- The declared tables and variant sets of a bundle (R210). `sets` lists the base set under 0x7F first, then the
fallback sets by slot; `capacity`, `streams`, `perPage`, `kvEntry` are C, s, p and the KV entry size of R399, R404 and
R426. `declared` gives window, format, rounding and tensor id of each tensor as each set declares them (R46, R126). -/
structure BundleBody where
  wellFormed : Bool
  sets : List (Nat × List VariantBody)
  params : List ParamDecl
  recipes : List Recipe
  staging : List Staging
  redBufs : List RedBuf
  groups : List Group
  regions : List (Nat × Nat)
  tensors : List (Nat × List TensorDecl)
  live : List StoreRegion
  xwTensors : List RedBuf
  trackers : List Nat
  rings : List Nat
  inputBuf : Option Nat
  commit : Option StoreRegion
  capacity : Nat
  streams : Nat
  perPage : Nat
  kvEntry : Nat
  deriving DecidableEq, Repr

/-- A bundle in a slot: header and content. -/
structure Bundle where
  hdr : BundleHdr
  body : BundleBody
  deriving DecidableEq, Repr

end Sys2Proof.Machine
end

