-- ==== Sys2Proof/Machine/PowerState.lean ====
section
/-! DEFINITION. What outlives power, the module's identity, power, heat, Belvedere and the time domain (10, 13, 16, 19): plain data. -/
namespace Sys2Proof.Machine

/-- A firmware component in a slot (R482): SHA-384 of its content, security version, SHA-384 of the public key that
signed it, and whether the signature verifies under that key (log entry 7). -/
structure Comp where
  digest : List Byte
  svn : Nat
  keyHash : Nat
  sigOk : Bool
  deriving DecidableEq, Repr

/-- A flash slot (R481): whether a complete image was written, and its eight components. -/
structure SlotImg where
  complete : Bool
  comps : List Comp
  deriving DecidableEq, Repr

/-- One copy of the flash descriptor (R481). -/
structure FlashDesc where
  valid : Bool
  seq : Nat
  slot : Nat
  trial : Bool
  deriving DecidableEq, Repr

/-- Roles of the management port (R493). -/
inductive Role
  | admin | operator | readOnly
  deriving DecidableEq, Repr

/-- A local account (R493). -/
structure MgmtAcct where
  valid : Bool
  role : Role
  mustChange : Bool
  deriving DecidableEq, Repr

/-- An operator anchor (R490, R493): SHA-384 of the authority's public key, and the role it carries. -/
structure OpAnchor where
  digest : List Byte
  role : Role
  deriving DecidableEq, Repr

/-- What survives the removal of power: the fuses (R480), the flash (R481) and the configuration store. -/
structure NonVol where
  uds : Nat
  keyHash : List Nat
  keyRevoked : Nat
  svn : List Nat
  debugLock : Bool
  slots : List SlotImg
  desc : List FlashDesc
  devCert : List Byte
  serverCert : Bool
  accounts : SMap MgmtAcct
  anchors : SMap OpAnchor
  delegation : W32
  deriving DecidableEq, Repr

/-- The module's identity, straps and fuses of manufacture (R4, R7, R216, R622). -/
structure Module where
  code : Nat
  stepB : Bool
  revision : Nat
  serial : W64
  macBase : Nat
  fusedPair : Option Nat
  slotId : Nat
  deriving DecidableEq, Repr

/-- Where the device stands in its power-up sequence (R613); `live` is READY or RUNNING. -/
inductive DevPhase
  | off | waiting | rom | boot | calibrate | live | rest | bootFail
  deriving DecidableEq, Repr

/-- Settings the power controller judges a window by (R540). -/
structure WinCfg where
  capped : Bool
  capW : Nat
  throttleC : Nat
  deriving DecidableEq, Repr

/-- Power and heat (R534 to R543). Temperatures are in 0.0625 degrees C. -/
structure Power where
  en : Bool
  good : Bool
  enAt : Nat
  offAt : Nat
  everOn : Bool                        -- READY reached since PWR_GOOD
  lockout : Bool                       -- conversion stopped: waits for PWR_EN low for 1 s (R612)
  phase : DevPhase
  goodAt : Nat
  phaseAt : Nat
  refOk : Bool
  refSince : Nat
  domains : Nat
  tripped : Bool
  fatal : Bool
  state : Nat                          -- POWER_STATE
  hp : Nat
  ht : Nat
  hc : Nat
  holds : List (Nat × Nat)             -- changes of H in the last 1,024 ticks: elapsed tick, H before (R540)
  capRun : Nat
  warned : Bool
  inputBad : Bool
  win : WinCfg
  temps : SMap Int
  invalid : Nat
  overMax : Bool
  inputPower : Nat
  inputVolt : Nat
  domPower : SMap (Nat × Nat)
  initLeft : Nat                       -- pairs whose power-on initialisation runs
  cleared : Nat                        -- CLEARED per pair (R472)
  deriving DecidableEq, Repr

/-- A telemetry record (R547): tick and the values read. -/
structure Telem where
  tick : W64
  vals : List W32
  deriving DecidableEq, Repr

/-- An event of the measurement log (R485). -/
structure MEvent where
  reg : Nat
  d : List Byte
  tick : W64
  typ : Nat
  deriving DecidableEq, Repr

/-- Belvedere, boot, update and measured boot (R482 to R486, R544 to R550). -/
structure Belv where
  st : Nat                             -- 0 RUNNING, 1 RESTARTING, 2 HALTED
  cause : Nat
  restarts : List Nat
  restartTick : W64
  load : Nat
  telem : List Telem
  telemAt : Nat
  update : Nat                         -- UPDATE_STATE
  activating : Nat
  todo : List Nat                      -- components still to activate
  target : Nat                         -- slot being activated
  confirmSince : Nat
  slot : Nat
  fallback : Bool
  keyUsed : Nat
  bootTried : List Nat
  verified : Nat
  running : List Comp
  udsLocked : Bool
  cdi : Bool                           -- CDI1 held
  alias_ : Nat                         -- serial number of the alias key pair
  devKeyLocked : Bool
  mrs : List (List Byte)
  mlog : List MEvent
  restartSince : Nat
  deriving DecidableEq, Repr

/-- The time domain (R372 to R387). -/
structure Time where
  count : W64
  elapsed : Nat
  everLocked : Bool
  locked : Bool
  holdover : Bool
  holdSince : Nat
  expired : Bool
  sync : Nat                           -- 0 FREE, 1 UNSYNCED, 2 ACQUIRE, 3 SYNCED
  upstream : Option Nat
  good : Nat                           -- exchanges in a row within half a tick
  offset : Int
  rate : Int
  freq : Int                           -- running estimate of the frequency difference
  launch : Nat                         -- LAUNCH_STATUS [1:0]
  launchLate : Bool
  launchCtx : Nat
  launchAt : W64
  launchTick : W64
  deriving DecidableEq, Repr

end Sys2Proof.Machine
end

