-- ==== Sys2Proof/Machine/ServeState.lean ====
section
/-! DEFINITION. The Kiosk's tables and the weight loader's tables (11_kiosk.md, 12_weights.md): plain data. -/
namespace Sys2Proof.Machine

/-- Sequence states (R392). -/
inductive SeqSt
  | free | queued | running | parked | resuming
  deriving DecidableEq, Repr

/-- A sequence table entry (R392). -/
structure SeqEntry where
  st : SeqSt
  gen : Nat
  ctx : Nat
  cancelPending : Bool
  parkPending : Bool
  tree : Bool
  heldBudget : Bool
  account : Nat
  outRing : Nat
  seed : Nat
  deadline : Nat
  position : Nat
  tokensOut : Nat
  promptLeft : Nat
  maxNew : Nat
  promptAddr : Nat
  head : Nat
  tail : Nat
  retries : Nat
  reservedPages : Nat
  nextToken : Nat
  pins : List (Nat × Nat)              -- regions, by name and epoch, that a request under PIN holds (R256, R457)
  deriving DecidableEq, Repr

/-- The free entry (R391: every entry of a new context starts at generation 0). -/
def SeqEntry.free : SeqEntry where
  st := .free
  gen := 0
  ctx := 0
  cancelPending := false
  parkPending := false
  tree := false
  heldBudget := false
  account := 0
  outRing := 0
  seed := 0
  deadline := 0
  position := 0
  tokensOut := 0
  promptLeft := 0
  maxNew := 0
  promptAddr := 0
  head := 0
  tail := 0
  retries := 0
  reservedPages := 0
  nextToken := 0
  pins := []

/-- A ring (R394): the indices and the generation; its base, k, kind and context are registers. -/
structure Ring where
  inUse : Bool
  gen : Nat
  prod : Nat
  cons : Nat
  deriving DecidableEq, Repr

/-- A customer account (R407). -/
structure Account where
  valid : Bool
  plot : Nat
  rate : Nat
  burst : Nat
  level : Int
  weight : Nat
  promptCost : Nat
  genCost : Nat
  service : Nat
  lastTick : Nat
  deriving DecidableEq, Repr

/-- The account that nothing has set (KIOSK.ACCT registers reset to 0, R435). -/
def Account.blank : Account := ⟨false, 0, 0, 0, 0, 0, 0, 0, 0, 0⟩

/-- The commands of a submission ring (R396). -/
inductive CmdKind
  | submit | cancel | park | resume
  deriving DecidableEq, Repr

/-- An accepted command that waits for its compose or commit, in acceptance order (R398, R434). -/
structure KCmd where
  kind : CmdKind
  idx : Nat
  gen : Nat
  tick : W64
  promptAddr : Nat
  promptLen : Nat
  maxNew : Nat
  deadline : Nat
  ttl : Nat
  deriving DecidableEq, Repr

/-- A record waiting to be written (R416). -/
structure KRec where
  ring : Nat
  idx : Nat
  gen : Nat
  status : Nat
  token : Nat
  position : Nat
  logprob : Nat
  flags : Nat
  deriving DecidableEq, Repr

/-- A slot of a composed batch (R399, R400). -/
structure BatchSlot where
  seq : Nat
  count : Nat
  sample : Bool
  tree : Bool
  first : Nat                          -- POSITION at compose
  deriving DecidableEq, Repr

/-- Where a context stands in its step cycle (R398). -/
inductive Phase
  | open_ | composed | released
  deriving DecidableEq, Repr

/-- A move of a KV entry under way (R426). -/
structure KvMove where
  seq : Nat
  fromPos : Nat
  toPos : Nat
  deriving DecidableEq, Repr

/-- A remote park or its fetch back (R430, R432): local pages, pages in the park region, copies not yet confirmed. -/
structure ParkCopy where
  seq : Nat
  dev : Nat
  local_ : List Nat
  remote : List Nat
  pend : List Nat
  fetch : Bool
  failed : Bool
  deriving DecidableEq, Repr

/-- Pages this device holds for another one (R432). -/
structure RemoteHold where
  plot : Nat
  dev : Nat
  pages : List Nat
  expiry : Nat
  deriving DecidableEq, Repr

/-- A composition record of the lead Kiosk (R433): the lead, step, variant, the recipe values by register, the batch (each
slot's `seq` is the whole handle), and the COMPARE bit of each slot (R518). -/
structure FollowStep where
  lead : Nat
  step : Nat
  variant : Nat
  values : List (Nat × Nat)
  slots : List BatchSlot
  image : List Byte
  compare : List Bool
  deriving DecidableEq, Repr

/-- The commit decision of one slot (R433): the sequence handle, the position and the generated tokens after the commit,
the nodes accepted, and whether the request has completed. -/
structure Decision where
  handle : Nat
  position : Nat
  tokensOut : Nat
  prompt : Nat
  base : Nat
  path : List Nat
  done : Bool
  parked : Bool
  deriving DecidableEq, Repr

/-- An entry of an INBOX ring (R432, R433), decoded (log entry 30): a park, a release of parked pages, the lead's batch
composition, the lead's commit decisions. -/
inductive InboxMsg
  | park (plot dev : Nat) (pages : List Nat) (expiry : Nat)
  | release (plot dev : Nat) (pages : List Nat)
  | composition (f : FollowStep)
  | decisions (step : Nat) (withheld : Bool) (ds : List Decision)
  deriving DecidableEq, Repr

/-- The Kiosk's state of one context. `waiting` are records and results to be written, `aborts` sequences to be aborted at
the next commit point (R413), `notes` completions and parks that the next decisions for the followers tell (R433). -/
structure KCtx where
  phase : Phase
  cmds : List KCmd
  waiting : List KRec
  batch : List BatchSlot
  forNew : Bool                        -- the composition is for the bundle that the release activates (R225)
  variant : Nat
  commitTick : W64
  outFull : Option Nat                 -- elapsed tick since which a release is held (R418)
  moves : List KvMove
  parks : List ParkCopy
  parkedAt : SMap (List Nat)           -- pages of the park region that hold a remotely parked sequence
  follow : List FollowStep
  resetWanted : Bool
  aborts : List Nat
  notes : List Decision
  deriving DecidableEq, Repr

/-- A context's Kiosk state as it stands after reset. -/
def KCtx.init : KCtx where
  phase := .open_
  cmds := []
  waiting := []
  batch := []
  forNew := false
  variant := 0
  commitTick := 0
  outFull := none
  moves := []
  parks := []
  parkedAt := []
  follow := []
  resetWanted := false
  aborts := []
  notes := []

/-- States of a shard table entry (R451). -/
inductive ShardSt
  | empty | expected | writing | done | failed | mismatch
  deriving DecidableEq, Repr

/-- A shard table entry (R441, R443, R451). -/
structure Shard where
  st : ShardSt
  local_ : Bool
  sweep : Bool
  plot : Nat
  cause : Nat
  name : Nat
  epoch : Nat
  pav : Nat
  off : Nat
  len : Nat
  iv : List Byte
  keyId : Nat
  digest : List Byte
  lastSweep : W64                      -- tick of the last good sweep (R455)
  sweptEl : Nat                        -- elapsed ticks at it: the interval's own timer
  src : Option (Nat × Nat × Nat)       -- SRC, TAG, TAG_GEN of the transfer that writes it
  deriving DecidableEq, Repr

/-- States of a load job (R460). -/
inductive JobSt
  | free | queued | reading | done | failed
  deriving DecidableEq, Repr

/-- A load job (R447 to R449): descriptor, key copied at its start, progress. -/
structure Job where
  st : JobSt
  missing : Bool
  cause : Nat
  shard : Nat
  ctx : Nat
  group : Nat
  qp : Nat
  remote : Nat
  rkey : Nat
  tag : Nat
  key : Option Nat                     -- serial of the key copied (R445)
  plot : Nat
  keyGen : Nat
  recvd : Nat                          -- ciphertext bytes received in order
  plain : Mem                          -- plaintext decrypted
  copies : List Nat                    -- serials of the LOAD copies
  tagOk : Option Bool
  order : Nat
  deriving DecidableEq, Repr

/-- An unused job. -/
def Job.free : Job where
  st := .free
  missing := false
  cause := 0
  shard := 0
  ctx := 0
  group := 0
  qp := 0
  remote := 0
  rkey := 0
  tag := 0
  key := none
  plot := 0
  keyGen := 0
  recvd := 0
  plain := []
  copies := []
  tagOk := none
  order := 0

/-- A shard key held for a plot (R444), by the serial number of the installation. -/
structure ShardKey where
  plot : Nat
  keyId : Nat
  serial : Nat
  key : List Byte
  deriving DecidableEq, Repr

/-- A publisher key (R444). -/
structure PubKey where
  plot : Nat
  slot : Nat
  key : List Byte
  deriving DecidableEq, Repr

/-- A shard record of a manifest (R441). -/
structure ShardRec where
  name : Nat
  pav : Nat
  off : Nat
  len : Nat
  iv : List Byte
  keyId : Nat
  digest : List Byte
  reservedOk : Bool
  deriving DecidableEq, Repr

/-- A weight region descriptor (R254). -/
structure Region where
  name : Nat
  epoch : Nat
  gen : Nat
  st : Nat
  swappable : Bool
  plot : Nat
  pavMask : Nat
  base : Nat
  len : Nat
  refs : Nat                           -- references taken (R256)
  deriving DecidableEq, Repr

/-- A descriptor with all bits 0 (R254, R280). -/
def Region.free : Region := ⟨0, 0, 0, 0, false, 0, 0, 0, 0, 0⟩

/-- What a command leaves for the end of its tick: a region to free (R257), a key slot to destroy (R277). -/
inductive TickAct
  | freeRegion (idx : Nat)
  | killKey (slot : Nat)
  deriving DecidableEq, Repr

/-- A page map entry (R270). -/
structure PageEntry where
  st : Nat
  plot : Nat
  seq : Nat
  gen : Nat
  next : Nat
  poison : Bool
  partial_ : Bool
  tail : Bool
  deriving DecidableEq, Repr

/-- A FREE page (R270). -/
def PageEntry.free : PageEntry := ⟨0, 0, 0, 0, 0, false, false, false⟩

/-- A key slot (R276): LOADED, generation, serial number of the key pair it holds, and the 2 × 32 bytes of the pair, 0 once
overwritten. -/
structure KeySlot where
  loaded : Bool
  gen : Nat
  serial : Nat
  pair : List Byte
  deriving DecidableEq, Repr

end Sys2Proof.Machine
end

