-- ==== Sys2Proof/Machine/TrustState.lean ====
section
/-! DEFINITION. Contexts, step controllers, plots, calendars, memory controllers, SPDM and faults (01, 06, 07, 13, 14): plain data. -/
namespace Sys2Proof.Machine

/-- The staged slot of a context (R223). -/
structure Staged where
  st : Nat
  total : Nat
  recvd : Nat
  since : Nat
  bundle : Option Bundle
  deriving DecidableEq, Repr

/-- The empty slot. -/
def Staged.empty : Staged := ⟨0, 0, 0, 0, none⟩

/-- A step that has ended and whose commit point has not been taken (R410, R510). -/
structure EndedStep where
  number : W64
  variant : Nat
  endTick : W64
  endEl : Nat
  withheld : Bool
  varExec : Bool
  canary : Bool
  deriving DecidableEq, Repr

/-- A context (R473): modes, bundle slots, parameter copies, the set that runs, its place in a collective. -/
structure Ctx where
  st : Nat
  plot : Nat
  modes : W32
  staged : Staged
  active : Option Bundle
  rejectCode : Nat
  rejectWhere : Nat
  rejectCycle : Nat
  set : Nat
  want : Nat
  noVariant : Bool
  imageEcc : Bool
  live : SMap W64
  pend : SMap W64
  paramReady : Bool
  held : List (Nat × W64)
  steps : W64
  ended : Option EndedStep
  withholdNext : List (W64 × Nat)      -- steps an ABORT arrived for before their release, with its origin (R509)
  launch : Option W64
  verdicts : List Nat                  -- 4,096 * step + follower of each clean verdict
  freshSet : Bool                      -- the next bundle's working set starts at 0 (R479)
  lossAt : Nat
  saved : Bool                         -- the save area holds its state (R278)
  late : List (Nat × W64)              -- host patches of one tick, in order: a release in that tick leaves them out (R228)
  lateAt : Nat
  deriving DecidableEq, Repr

/-- A FREE context. -/
def Ctx.free : Ctx where
  st := 0
  plot := 0
  modes := 0
  staged := Staged.empty
  active := none
  rejectCode := 0
  rejectWhere := 0
  rejectCycle := 0
  set := 0x7F
  want := 0x7F
  noVariant := false
  imageEcc := false
  live := []
  pend := []
  paramReady := false
  held := []
  steps := 0
  ended := none
  withholdNext := []
  launch := none
  verdicts := []
  freshSet := false
  lossAt := 0
  saved := false
  late := []
  lateAt := 0

/-- The step controller and beat barrier of one plot (R15 to R20, R32). -/
structure StepCtl where
  running : Bool
  ctx : Nat
  variant : Nat
  beats : Nat
  deadline : Nat
  start : W64
  startEl : Nat
  endTick : W64
  lastDur : Nat
  lastRes : W32
  group : Nat
  sliceFin : Option W64                -- end of the slice in which the step was released (R34)
  beat : Nat
  throttle : Nat
  varExec : Bool
  withheld : Bool
  abandoned : Bool
  canary : Bool
  deriving DecidableEq, Repr

/-- A step controller with nothing run. -/
def StepCtl.idle : StepCtl where
  running := false
  ctx := 0
  variant := 0
  beats := 0
  deadline := 0
  start := 0
  startEl := 0
  endTick := 0
  lastDur := 0
  lastRes := 0
  group := 0
  sliceFin := none
  beat := 0
  throttle := 0
  varExec := false
  withheld := false
  abandoned := false
  canary := false

/-- A slice calendar (R475). -/
structure Calendar where
  epoch : W64
  period : Nat
  entries : List (Nat × Nat × Nat)     -- context, offset, length
  deriving DecidableEq, Repr

/-- A context change under way (R478). -/
structure Switching where
  from_ : Option Nat
  into : Nat
  since : Nat
  deriving DecidableEq, Repr

/-- A plot (R463 to R478). -/
structure Plot where
  st : Nat                             -- 0 FREE, 1 ACTIVE, 2 REMOVING
  gen : Nat
  cleanAt : Nat
  desc : List W32
  slots : List Nat
  anchor : List Byte
  assigning : Bool
  assignSince : Nat
  tickF : Option Nat
  running : Option Calendar
  armed : Option (Calendar × W64)
  resident : Option Nat
  slice : Option (Nat × W64)           -- context of the current slice, tick of its end
  switching : Option Switching
  lastPkg : Option Nat                 -- package of the last KV page allocated (R427)
  deriving DecidableEq, Repr

/-- A FREE plot, generation 0. -/
def Plot.free : Plot where
  st := 0
  gen := 0
  cleanAt := 0
  desc := List.replicate 16 0
  slots := List.replicate 12 0
  anchor := []
  assigning := false
  assignSince := 0
  tickF := none
  running := none
  armed := none
  resident := none
  slice := none
  switching := none
  lastPkg := none

/-- A memory controller with its PHY (R263 to R268, R621). -/
structure MemCtl where
  populated : Bool
  phy : Nat
  attempts : Nat
  chanOk : Nat
  chanBad : Nat
  lastMs : Nat
  margins : List W32
  temp : Int
  doubled : Bool
  quick : Bool                         -- retraining from stored results
  planRun : Nat                        -- bursts of the plan queue served since the background queue's last, at most 19 (R267)
  eccAddr : W64
  deriving DecidableEq, Repr

/-- Classes of SPDM sessions (R490). -/
inductive SessCls
  | operator (anchor : Nat)
  | tenant (p : Nat)
  deriving DecidableEq, Repr

/-- An SPDM session (R490 to R492). `link` is the transport it was opened on. -/
structure Sess where
  cls : Option SessCls                 -- none until FINISH succeeds
  link : Nat
  since : Nat
  updates : Nat
  encap : Bool
  deriving DecidableEq, Repr

/-- A clear run (R472). -/
structure ClearRun where
  mask : Nat
  since : Nat
  deriving DecidableEq, Repr

/-- An entry of the log (R503). -/
structure LogEntry where
  tick : W64
  seq : Nat
  typ : Nat
  cls : Nat
  bit : Nat
  page : Nat
  aux : Nat
  plot : Nat
  ctx : Nat
  device : Nat
  role : Nat
  step : W64
  beat : Nat
  locus : Nat
  temp : Int
  volt : Nat
  stretch : Nat
  margin : Nat
  flags : Nat
  locus2 : Nat
  members : List Nat
  deriving DecidableEq, Repr

/-- The log, its intake queue and the quarantine counts (R503 to R505, R523, R548, R607). -/
structure Log where
  head : Nat
  oldest : Nat
  wrapped : Bool
  entries : SMap LogEntry              -- by slot
  queue : List LogEntry
  lost : Nat                           -- entries dropped since the last LOST entry
  lastC : SMap Nat                     -- class C entries: bit's key to millisecond (R502)
  hits : SMap (List Nat)               -- quarantine hits: 32 * rule + pavilion
  since : Nat                          -- one above the elapsed tick of the latest writes, 0 where there are none (R609)
  was : Nat × Nat                      -- head and oldest as that tick began
  gone : SMap LogEntry                 -- by slot: the entries that tick has overwritten
  deriving DecidableEq, Repr

/-- Bells, fate tags, canary and shadow (R506 to R521). -/
structure Recov where
  bellId : Nat
  seen : List (Nat × Nat)
  fate : SMap (List Nat)               -- the manager's table: tags of each device
  canaryAt : Nat
  canaryDue : Bool
  canaryStat : Nat
  following : Bool                     -- copying or following from T0
  promoteAt : Option Nat               -- elapsed tick from which the new primary releases (R521)
  digestPos : Nat
  deriving DecidableEq, Repr

end Sys2Proof.Machine
end

