-- ==== Sys2Proof/Machine/HostState.lean ====
section
/-! DEFINITION. Routes, GCT connections, queue pairs, memory regions, MACsec, PTP and Redfish (17, 18), and what the device sends: plain data. -/
namespace Sys2Proof.Machine

/-- A route into the register window (R583, R586). -/
inductive Route
  | gct (conn : Nat)
  | space3 (src : Nat)
  | belvedere (role : Role)
  deriving DecidableEq, Repr

/-- An alert not yet acknowledged (R561). -/
structure AlertOut where
  seq : Nat
  page : Nat
  bit : Nat
  tick : W64
  sent : Nat
  tries : Nat
  deriving DecidableEq, Repr

/-- A cached response (R560). -/
structure Cached where
  seq : Nat
  op : Nat
  status : Nat
  payload : List Byte
  deriving DecidableEq, Repr

/-- A GCT connection (R559 to R562). `iface` is the logical interface, 8 the management port. -/
structure Conn where
  open_ : Bool
  gen : Nat
  iface : Nat
  peer : Nat
  nonce : Nat
  openedAt : Nat
  session : Nat
  prot : Nat
  window : Nat
  maxPay : Nat
  expect : Nat
  cache : List Cached
  sub : Bool
  alertSeq : Nat
  alerts : List AlertOut
  last : Nat
  deriving DecidableEq, Repr

/-- A connection number that nothing has used. -/
def Conn.free : Conn := ⟨false, 0, 0, 0, 0, 0, 0, 0, 0, 0, 1, [], false, 0, [], 0⟩

/-- An outstanding request of a queue pair (R571): kind (0 READ, 1 WRITE), PSN, use, length. -/
structure QpOp where
  write : Bool
  psn : Nat
  job : Nat
  ring : Nat
  off : Nat
  len : Nat
  sent : Nat
  deriving DecidableEq, Repr

/-- A queue pair (R572, R574); its configuration lies in registers. -/
structure Qp where
  st : Nat
  psn : Nat
  epsn : Nat
  ops : List QpOp
  retries : Nat
  rate : Nat                           -- Mb/s
  target : Nat
  alpha : Nat                          -- in 1/65,536
  byteCnt : Nat
  incr : Nat
  lastCnp : Option Nat
  timerAt : Nat                        -- elapsed tick from which the rate increase timer runs
  deriving DecidableEq, Repr

/-- A queue pair in RESET. -/
def Qp.reset : Qp := ⟨0, 0, 0, [], 0, 0, 0, 65536, 0, 0, none, 0⟩

/-- A memory region (R573). -/
structure Mr where
  valid : Bool
  gen : Nat
  base : Nat
  len : Nat
  plot : Nat
  read : Bool
  write : Bool
  tag : Nat
  deriving DecidableEq, Repr

/-- A region index that nothing has created. -/
def Mr.free : Mr := ⟨false, 0, 0, 0, 0, false, false, 0⟩

/-- A MACsec secure association (R557). -/
structure Sa where
  key : List Byte
  pn : Nat
  deriving DecidableEq, Repr

/-- A host port: interface state, receive buffers, pauses, MACsec (R554 to R557). SAs are keyed
8 * interface + 4 * direction + AN. -/
structure HPort where
  up : Nat
  fec : Nat
  held : SMap Nat                      -- bytes held per priority
  pfcSent : Nat                        -- priorities PFC has been sent for
  paused : Nat                         -- transmit queues a peer has paused
  sas : SMap Sa
  txAn : SMap Nat
  inReset : Bool
  deriving DecidableEq, Repr

/-- A host port with no link. -/
def HPort.down : HPort := ⟨0, 0, [], 0, 0, [], [], false⟩

/-- The PTP mapping (R575). -/
structure Ptp where
  st : Nat
  valid : Bool
  wallBase : W64
  countBase : W64
  rate : Int
  deriving DecidableEq, Repr

/-- A Redfish session (R577). -/
structure RfSess where
  role : Role
  last : Nat
  deriving DecidableEq, Repr

/-- SPDM answers (R489, R491), content left to DSP0274. -/
inductive SpdmOut
  | version (v : Nat)
  | capabilities (transfer max : Nat)
  | algorithms
  | digests (d : List Byte)
  | certificate (slot : Nat)
  | challengeAuth (mrs : List (List Byte))
  | measurements (blocks : List (Nat × List Byte))
  | keyExchangeRsp (session : Nat)
  | finishRsp
  | heartbeatAck
  | keyUpdateAck
  | endSessionAck
  | vendor (code : Nat)
  | encapRequest
  | encapAck
  | unsupported
  | notReady (exponent : Nat)
  | error (code : Nat)
  deriving DecidableEq, Repr

/-- What the device sends or drives, in order (the model's own record; the spec gives the messages). -/
inductive Out
  | frame (port : Nat) (f : FrameOut)
  | gct (conn seq op status : Nat) (payload : List Byte)
  | gctAck (conn ack : Nat)
  | gctAlert (conn seq page bit : Nat) (tick : W64)
  | spdm (link : Nat) (m : SpdmOut)
  | redfish (status : Nat) (body : List Byte)
  | redfishEvent (page bit : Nat)
  | smbus (bytes : List Byte)
  | roceRead (qp psn addr rkey len : Nat)
  | roceWrite (qp psn addr rkey : Nat) (data : List Byte)
  | roceResp (qp psn : Nat) (data : List Byte)
  | roceAck (qp psn : Nat)
  | roceNak (qp psn : Nat)
  | cnp (qp : Nat)
  | pfc (port prio quanta : Nat)
  | reply (iface kind : Nat)
  | readback (addr : Nat) (value : W32)
  deriving DecidableEq, Repr

end Sys2Proof.Machine
end

