-- ==== Sys2Proof/Machine/Exact.lean ====
section
/-! DEFINITION. Exact values, the floating-point and scale formats (R97 to R102), rounding (R115 to R118), and the XW formats with their companions (R103 to R106). -/
namespace Sys2Proof.Machine

/-- An exact value: not a number, an infinity, or `mag * 2 ^ exp` with a sign (the sign of a zero counts). -/
inductive Val
  | nan
  | inf (neg : Bool)
  | fin (neg : Bool) (mag : Nat) (exp : Int)
  deriving DecidableEq, Repr

/-- What a format's all-ones exponent stands for (R97). -/
inductive Special
  | ieee | e4m3 | none
  deriving DecidableEq, Repr

/-- The layout of a floating-point format (R97). -/
structure FloatFmt where
  ebits : Nat
  mbits : Nat
  bias : Nat
  special : Special
  deriving DecidableEq, Repr

def fFP32 : FloatFmt := ⟨8, 23, 127, .ieee⟩
def fFP16 : FloatFmt := ⟨5, 10, 15, .ieee⟩
def fBF16 : FloatFmt := ⟨8, 7, 127, .ieee⟩
def fE5M2 : FloatFmt := ⟨5, 2, 15, .ieee⟩
def fE4M3 : FloatFmt := ⟨4, 3, 7, .e4m3⟩
def fE3M2 : FloatFmt := ⟨3, 2, 3, .none⟩
def fE2M3 : FloatFmt := ⟨2, 3, 1, .none⟩
def fE2M1 : FloatFmt := ⟨2, 1, 1, .none⟩

/-- The value of a bit pattern (R97, R98: subnormals are never flushed). -/
def FloatFmt.decode (f : FloatFmt) (bits : Nat) : Val :=
  let neg := bitN bits (f.ebits + f.mbits)
  let ex := bitsN bits f.mbits f.ebits
  let ma := bits % 2 ^ f.mbits
  let ones := 2 ^ f.ebits - 1
  if f.special = .ieee ∧ ex = ones then (if ma = 0 then .inf neg else .nan)
  else if f.special = .e4m3 ∧ ex = ones ∧ ma = 2 ^ f.mbits - 1 then .nan
  else if ex = 0 then .fin neg ma (1 - f.bias - f.mbits)
  else .fin neg (2 ^ f.mbits + ma) (ex - f.bias - f.mbits)

/-- A rounding with its stochastic draw (R115, R122). -/
inductive RMode
  | rne | rz | rnesat | sr (u : Nat)
  deriving DecidableEq, Repr

/-- `mag * 2 ^ exp` rounded to a whole number of `2 ^ q` (R115, R122). -/
def roundTo (m : RMode) (mag : Nat) (exp q : Int) : Nat :=
  if q ≤ exp then mag * 2 ^ (exp - q).toNat
  else
    let sh := (q - exp).toNat
    let lo := mag / 2 ^ sh
    let rem := mag % 2 ^ sh
    match m with
    | .rz => lo
    | .rne | .rnesat =>
      if 2 ^ sh < 2 * rem ∨ (2 * rem = 2 ^ sh ∧ lo % 2 = 1) then lo + 1 else lo
    | .sr u => if u < rem * 2 ^ 32 / 2 ^ sh then lo + 1 else lo

/-- The code of the largest finite magnitude. -/
def FloatFmt.maxCode (f : FloatFmt) : Nat :=
  match f.special with
  | .ieee => (2 ^ f.ebits - 1) * 2 ^ f.mbits - 1
  | .e4m3 => 2 ^ (f.ebits + f.mbits) - 2
  | .none => 2 ^ (f.ebits + f.mbits) - 1

/-- A sign put over a magnitude code. -/
def FloatFmt.signed (f : FloatFmt) (neg : Bool) (code : Nat) : Nat :=
  code + (if neg then 2 ^ (f.ebits + f.mbits) else 0)

/-- The canonical NaN (R118). -/
def FloatFmt.nanCode (f : FloatFmt) : Nat :=
  match f.special with
  | .ieee => if f.ebits = 5 ∧ f.mbits = 2 then 0x7F else (2 ^ f.ebits - 1) * 2 ^ f.mbits + 2 ^ (f.mbits - 1)
  | .e4m3 => 0x7F
  | .none => 0

/-- The code of a rounding overflow (R117). -/
def FloatFmt.overflow (f : FloatFmt) (m : RMode) (neg : Bool) : Nat :=
  let max := f.signed neg f.maxCode
  match f.special, m with
  | _, .rz => max
  | .none, _ => max
  | _, .rnesat => max
  | .ieee, _ => f.signed neg ((2 ^ f.ebits - 1) * 2 ^ f.mbits)
  | .e4m3, _ => f.nanCode

/-- The magnitude code of a value on the grid with unbounded exponent range (R116). -/
def FloatFmt.gridCode (f : FloatFmt) (m : RMode) (mag : Nat) (exp : Int) : Nat :=
  if mag = 0 then 0
  else
    let emin : Int := 1 - f.bias
    let e : Int := max ((Nat.log2 mag : Int) + exp) emin
    (e - emin).toNat * 2 ^ f.mbits + roundTo m mag exp (e - f.mbits)

/-- The code of a finite value: rounded, then judged for overflow (R116, R117). -/
def FloatFmt.encodeFin (f : FloatFmt) (m : RMode) (neg : Bool) (mag : Nat) (exp : Int) : Nat :=
  let code := f.gridCode m mag exp
  if f.maxCode < code then f.overflow m neg else f.signed neg code

/-- The code of any value (R116 to R118). -/
def FloatFmt.encode (f : FloatFmt) (m : RMode) : Val → Nat
  | .nan => f.nanCode
  | .inf neg =>
    match f.special, m with
    | .ieee, .rnesat => if f.ebits = 5 ∧ f.mbits = 2 then f.signed neg f.maxCode
        else f.signed neg ((2 ^ f.ebits - 1) * 2 ^ f.mbits)
    | .ieee, _ => f.signed neg ((2 ^ f.ebits - 1) * 2 ^ f.mbits)
    | .e4m3, .rnesat => f.signed neg f.maxCode
    | .e4m3, _ => f.nanCode
    | .none, _ => f.signed neg f.maxCode
  | .fin neg mag exp => f.encodeFin m neg mag exp

/-- The integer code of a value for INT8 and INT32 (R117, R118), `n` bits two's complement. -/
def encodeInt (n : Nat) (m : RMode) : Val → Nat
  | .nan => 0
  | .inf neg => patternN n (if neg then -(2 ^ (n - 1)) else 2 ^ (n - 1) - 1)
  | .fin neg mag exp =>
    let k : Int := roundTo m mag exp 0
    let x := if neg then -k else k
    patternN n (max (-(2 ^ (n - 1))) (min (2 ^ (n - 1) - 1) x))

/-- `floor(mag * 2 ^ exp / 2 ^ w)` with the sign (R108, R121). -/
def floorAt (neg : Bool) (mag : Nat) (exp w : Int) : Int :=
  let m : Int := if neg then -(mag : Int) else mag
  if w ≤ exp then m * 2 ^ (exp - w).toNat else m / 2 ^ (w - exp).toNat

/-- The value of an exact integer times `2 ^ w`. -/
def Val.ofInt (s w : Int) : Val := .fin (decide (s < 0)) s.natAbs w

/-- Is the value finite? -/
def Val.isFin : Val → Bool
  | .fin _ _ _ => true
  | _ => false

/-- The sign of a value. -/
def Val.neg : Val → Bool
  | .nan => false
  | .inf n => n
  | .fin n _ _ => n

/-- Is the value a zero? -/
def Val.isZero : Val → Bool
  | .fin _ m _ => m = 0
  | _ => false

/-- The integer magnitude of two finite values brought to one exponent. -/
def alignFin (n1 : Bool) (m1 : Nat) (e1 : Int) (n2 : Bool) (m2 : Nat) (e2 : Int) : Int × Int × Int :=
  let e := min e1 e2
  let a : Int := m1 * 2 ^ (e1 - e).toNat
  let b : Int := m2 * 2 ^ (e2 - e).toNat
  (if n1 then -a else a, if n2 then -b else b, e)

/-- An exact sum (a sum of opposite values is +0 under round to nearest). -/
def Val.add : Val → Val → Val
  | .nan, _ => .nan
  | _, .nan => .nan
  | .inf a, .inf b => if a = b then .inf a else .nan
  | .inf a, _ => .inf a
  | _, .inf b => .inf b
  | .fin n1 m1 e1, .fin n2 m2 e2 =>
    let (a, b, e) := alignFin n1 m1 e1 n2 m2 e2
    if a + b = 0 then .fin (n1 && n2) 0 e else Val.ofInt (a + b) e

/-- The negated value. -/
def Val.negate : Val → Val
  | .nan => .nan
  | .inf n => .inf (!n)
  | .fin n m e => .fin (!n) m e

/-- An exact product (R111). -/
def Val.mul : Val → Val → Val
  | .nan, _ => .nan
  | _, .nan => .nan
  | .inf a, .inf b => .inf (a != b)
  | .inf a, .fin n m _ => if m = 0 then .nan else .inf (a != n)
  | .fin n m _, .inf b => if m = 0 then .nan else .inf (n != b)
  | .fin n1 m1 e1, .fin n2 m2 e2 => .fin (n1 != n2) (m1 * m2) (e1 + e2)

/-- The order of two values that are not NaN: -1, 0 or 1; zeros are equal. -/
def Val.order : Val → Val → Int
  | .inf a, .inf b => if a = b then 0 else if a then -1 else 1
  | .inf a, _ => if a then -1 else 1
  | _, .inf b => if b then 1 else -1
  | .fin n1 m1 e1, .fin n2 m2 e2 =>
    let (a, b, _) := alignFin n1 m1 e1 n2 m2 e2
    if a < b then -1 else if b < a then 1 else 0
  | _, _ => 0

/-- A quotient with a sticky last bit, exact enough for one rounding to FP32. -/
def Val.div : Val → Val → Val
  | .nan, _ => .nan
  | _, .nan => .nan
  | .inf _, .inf _ => .nan
  | .inf a, v => .inf (a != v.neg)
  | v, .inf b => .fin (v.neg != b) 0 0
  | .fin n1 m1 e1, .fin n2 m2 e2 =>
    if m2 = 0 then (if m1 = 0 then .nan else .inf (n1 != n2))
    else
      let k := 64 + Nat.log2 m2
      let num := m1 * 2 ^ k
      .fin (n1 != n2) (2 * (num / m2) + (if num % m2 = 0 then 0 else 1)) (e1 - e2 - k - 1)

/-- The FP32 value of 32 bits. -/
def fp32 (b : Nat) : Val := fFP32.decode b
/-- Rounded to FP32 by round-to-nearest-even (R128). -/
def toFp32 (v : Val) : Nat := fFP32.encode .rne v
/-- The FP32 sum, product, quotient of two FP32 patterns (R128). -/
def fp32Add (a b : Nat) : Nat := toFp32 ((fp32 a).add (fp32 b))
def fp32Mul (a b : Nat) : Nat := toFp32 ((fp32 a).mul (fp32 b))
def fp32Div (a b : Nat) : Nat := toFp32 ((fp32 a).div (fp32 b))
/-- The FP32 pattern of a BF16 pattern, exact (R177). -/
def widenBf16 (b : Nat) : Nat := b * 65536
/-- One rounding of an FP32 pattern to BF16 (R128). -/
def narrowBf16 (b : Nat) : Nat := fBF16.encode .rne (fp32 b)

/-! ### XW values -/

/-- An exact sum with the special-value bits of a companion (R104, R105). -/
structure Xw where
  sum : Int
  nan : Bool
  posInf : Bool
  negInf : Bool
  ovf : Bool
  deriving DecidableEq, Repr

/-- The empty XW value. -/
def Xw.zero : Xw := ⟨0, false, false, false, false⟩

/-- Two XW values of one n and W combined (R105). -/
def Xw.combine (a b : Xw) : Xw :=
  ⟨a.sum + b.sum, a.nan || b.nan, a.posInf || b.posInf, a.negInf || b.negInf, a.ovf || b.ovf⟩

/-- The value part of an exact sum at n bits, in `[-2^(n-1), 2^(n-1) - 1]` (R105). -/
def xwValue (n : Nat) (s : Int) : Int := Int.bmod s (2 ^ n)
/-- The excess of an exact sum at n bits (R105). -/
def xwExcess (n : Nat) (s : Int) : Int := (s - xwValue n s) / 2 ^ n

/-- The value bits and the 16-bit companion of an XW value; an excess outside 12 bits stays at the limit and sets
OVF (R104, R105). -/
def Xw.pack (n : Nat) (x : Xw) : Nat × Nat :=
  let ex := xwExcess n x.sum
  let exc := max (-2048) (min 2047 ex)
  let ovf := x.ovf || ex != exc
  (patternN n (xwValue n x.sum),
    x.nan.toNat + 2 * x.posInf.toNat + 4 * x.negInf.toNat + 8 * ovf.toNat + 16 * patternN 12 exc)

/-- The XW value of value bits and a 16-bit companion. -/
def Xw.unpack (n : Nat) (v c : Nat) : Xw :=
  ⟨signedN n v + signedN 12 (bitsN c 4 12) * 2 ^ n, bitN c 0, bitN c 1, bitN c 2, bitN c 3⟩

/-- Has the value overflowed at n bits (R106)? -/
def Xw.overflowed (n : Nat) (x : Xw) : Bool := x.ovf || xwExcess n x.sum != 0

/-- The result of an XW value at window `w` (R112): special, or the finite exact sum. -/
def Xw.val (x : Xw) (w : Int) : Val :=
  if x.nan || (x.posInf && x.negInf) then .nan
  else if x.posInf then .inf false
  else if x.negInf then .inf true
  else Val.ofInt x.sum w

end Sys2Proof.Machine
end

