-- ==== Sys2Proof/Machine/PavState.lean ====
section
/-! DEFINITION. The state of one pavilion (02_pavilion.md, 04_matrix_and_movement.md, 05_vector_and_control.md): plain data. -/
namespace Sys2Proof.Machine

/-- RUN_STATE.STATE (R91). -/
inductive RunState
  | off | reset | idle | running | fenced
  deriving DecidableEq, Repr

/-- One accumulator element: XW112 value and 32-bit companion (R103, R104). -/
structure AccEl where
  v : BitVec 112
  comp : BitVec 32
  deriving DecidableEq, Repr

/-- One accumulator row: 64 elements and the checksum column (R62, R135). -/
structure AccRow where
  els : List AccEl
  chk : BitVec 128
  deriving DecidableEq, Repr

/-- What one activation row adds to one element: terms, special values, overflow, and the residue of the terms
(R108, R112, R137). -/
structure Contrib where
  sum : Int
  nan : Bool
  posInf : Bool
  negInf : Bool
  ovf : Bool
  res : Nat
  deriving DecidableEq, Repr

/-- A disturbance of the multiplier array: row of the instruction, block or product within the row, column, and what
it adds to the integer the multiplier produced (R133, R136 detect it). -/
structure Upset where
  row : Nat
  blk : Nat
  col : Nat
  delta : Int
  deriving DecidableEq, Repr

/-- A result on its way (R66). -/
inductive Effect
  | bytes (addr : Nat) (bs : List Byte)          -- stream register bytes, from byte 2048 * register on
  | idx (k : Nat) (v : W64)
  | pred (q : Nat) (b : Bool)
  | store (addr : Nat) (bs : List Byte)          -- working store
  | acc (bed row : Nat) (cs : List Contrib) (chk : Int)
  | accZero (bed row : Nat)
  deriving DecidableEq, Repr

/-- A result with the cycle from which it can be read. -/
structure Pend where
  ready : Nat
  eff : Effect
  deriving DecidableEq, Repr

/-- An instruction that has issued and still has rows or chunks to run (R144, R173). `lat` holds the values latched
in the issue cycle: index registers, entropy, time, statistics. -/
structure Active where
  op : PlanOp
  start : Nat
  bed : Nat
  next : Nat
  killed : Bool
  lat : List Nat
  tile : Mem
  upsets : List Upset
  deriving DecidableEq, Repr

/-- A running loop (R199): issue cycle, passes, activity bound, counter register, pass. -/
structure LoopFrame where
  start : Nat
  n : Nat
  act : Option Nat
  ctr : Option Nat
  pass : Nat
  deriving DecidableEq, Repr

/-- A flit on a crossing with the generation its sender stamped on it (R84, R369). -/
structure FlitG where
  data : Flit
  gen : BitVec 2
  deriving DecidableEq, Repr

/-- The charge category of a stall (R32, R168). -/
inductive StallCat
  | crossing | staging | fabric
  deriving DecidableEq, Repr

/-- A stopped clock: kind and index of STALL_CAUSE (R92), the counter value at its start, the elapsed tick from which
its current category is charged, the elapsed tick at which it times out (R368). -/
structure Stall where
  kind : Nat
  index : Nat
  cat : StallCat
  since : W64
  sinceEl : Nat
  limit : Nat
  deriving DecidableEq, Repr

/-- An instruction of the word at which the clock stopped. -/
structure Held where
  iss : Issue
  op : PlanOp
  upsets : List Upset
  counted : Bool                       -- counted as a crossing read or send that stalled (R27, R168)
  deriving DecidableEq, Repr

/-- The tile loader and tile buffers of one bed (R60, R146). -/
structure Tile where
  prev : Option Nat
  loadStart : Nat
  snap : SMap W64
  buf : Mem
  other : Mem
  deriving DecidableEq, Repr

/-- The fill sequence of one staging buffer (R269): the transfers in issue order with their KiB, and the KiB placed. -/
structure FillSeq where
  buf : Nat
  order : List (Nat × Nat × Bool)      -- transfer serial, KiB, filled by page.in or the Kiosk (LPDDR5X staging)
  placed : List Nat                    -- positions of the sequence placed
  counted : Nat                        -- KiB counted so far
  units : List Nat                     -- 64-byte units written from other devices, of KiB not yet whole (R74)
  deriving DecidableEq, Repr

/-- The stretched cycles of the current step, and the ticks it lost by category (R32, R38). -/
structure Lost where
  stretch : Nat
  crossing : Nat
  staging : Nat
  fabric : Nat
  hold : Nat
  stretchFs : Nat                      -- femtoseconds that the stretched cycles have added (R361)
  deriving DecidableEq, Repr

/-- What happens in a pavilion that the device records (R93, R94, R169). The detail of an overflow names the bed and the row of a drain in CHK_FAULT's places, with VALID 1; VALID 0 names the vector walk (R119, R504; log entry 159). -/
inductive PavEv
  | checksum (bed row : Nat)
  | residue (bed row : Nat)
  | accOverflow (detail n : Nat) (fault : Bool)
  | storeUncorr (off : Nat)
  | storeCorr (n : Nat)
  | tierUncorr (off : Nat)
  | tierCorr (n : Nat)
  | count (off n : Nat)
  deriving DecidableEq, Repr

/-- One pavilion. -/
structure Pav where
  fused : Bool
  run : RunState
  plot : Nat
  ctx : Nat
  cycle : Nat
  issued : List Slot                   -- slots that have issued in the cycle reached (R211)
  gated : Bool
  gatedSince : Nat
  gateCounted : Nat                    -- elapsed tick up to which GATED_TICKS has counted the gate
  ended : Bool                         -- step.end has completed (R17)
  stall : Option Stall
  held : List Held
  lastCause : Nat                      -- STALL_CAUSE of a stall that reached its timeout (R169)
  sregs : Mem
  idx : SMap W64
  preds : SMap Bool
  ctrs : SMap W32
  acc : SMap AccRow
  tiles : SMap Tile
  pend : List Pend
  checks : List (Nat × PavEv)          -- comparisons that failed, with the cycle in which they are made (R151)
  active : List Active
  loops : List LoopFrame
  fifos : SMap (List Flit)
  wires : SMap (List FlitG)
  freeCnt : SMap Nat
  freed : SMap Nat                     -- entries read and not yet returned to the sender
  inGen : SMap (BitVec 2)
  outGen : SMap (BitVec 2)
  lost : Lost
  stretched : Nat                      -- stretched cycles of the current beat (R362)
  carryStretch : Nat                   -- stretched cycles of the next beat: its cycle 0, after a warning in cycle 255 (R361, R362)
  lastStretched : Nat                  -- stretched cycles of the last completed beat (R389)
  minMargin : Nat                      -- lowest margin measured in the current beat (R503)
  store : Mem
  storeBad : List Nat
  storeSoft : List Nat
  sweepLine : Nat                      -- the line the sweep port reads next (R260)
  scrubQ : List Nat                    -- corrected tier words queued for write-back (R260)
  tier : Mem
  tierBad : List Nat
  tierSoft : List Nat
  fills : List FillSeq
  banks : List (Option (Nat × Nat))    -- issue-memory banks: context and set
  slowPeriod : Bool                    -- the next cycle is stretched (R361)
  oscBadWindows : Nat                  -- windows in a row beyond 2,000 ppm (R358)
  lockedOnce : Bool
  hsOpen : SMap Nat                    -- notices awaiting ACK: elapsed tick of REQ (R366, R367); 2 * crossing a reset notice, + 1 a ready notice
  hsMore : SMap Nat                    -- later notices of the same signal, sent one by one (R366)
  cut : List Nat                       -- outbound crossings whose free-entry count stays 0 until the ready notice (R370)
  awaits : List Nat                    -- crossings whose far side was reset beside this one and is not ready yet (R371)
  vecTo : Nat                          -- first cycle after the vector walk's busy cycles
  deriving DecidableEq, Repr

/-- The all-zero accumulator row (R113). -/
def AccRow.zero : AccRow := ⟨List.replicate 64 ⟨0, 0⟩, 0⟩

/-- A pavilion as it stands with its power off: stores at 0, nothing under way. -/
def Pav.off (fused : Bool) : Pav where
  fused := fused
  run := .off
  plot := 0
  ctx := 0
  cycle := 0
  issued := []
  gated := false
  gatedSince := 0
  gateCounted := 0
  ended := false
  stall := none
  held := []
  lastCause := 0
  sregs := []
  idx := []
  preds := []
  ctrs := []
  acc := []
  tiles := []
  pend := []
  checks := []
  active := []
  loops := []
  fifos := []
  wires := []
  freeCnt := []
  freed := []
  inGen := []
  outGen := []
  lost := ⟨0, 0, 0, 0, 0, 0⟩
  stretched := 0
  carryStretch := 0
  lastStretched := 0
  minMargin := 63
  store := []
  storeBad := []
  storeSoft := []
  sweepLine := 0
  scrubQ := []
  tier := []
  tierBad := []
  tierSoft := []
  fills := []
  banks := [none, none]
  slowPeriod := false
  oscBadWindows := 0
  lockedOnce := false
  hsOpen := []
  hsMore := []
  cut := []
  awaits := []
  vecTo := 0

end Sys2Proof.Machine
end

