-- ==== Sys2Proof/Syntax.lean ====
section
/-! DEFINITION. The commands of the block: one constructor for each row of spec/opcode_table.json, in the table's order. Operands that the spec's rows carry without naming them in the table (an address, a value, a packet, what a sensor reads) stand as arguments. -/
namespace Sys2Proof

open Machine

/-- The envelope of a GCT request as the device receives it (R558): connection and generation, the peer and interface
it came from, sequence and acknowledgement numbers, and whether its tag verifies (R562). -/
structure GctMsg where
  conn : Nat
  gen : Nat
  peer : Nat
  iface : Nat
  session : Nat
  seq : Nat
  ack : Nat
  tagOk : Bool
  wellFormed : Bool
  deriving DecidableEq, Repr

/-- Memory words found upset at a read: 16-byte word index, and whether it is uncorrectable (R76, R253). -/
abbrev Hits := List (Nat × Bool)

/-- A command of the block. -/
inductive Instr
  | pwrEnAssert (limitsKept inRange : Bool)
  | pwrGoodTimeout
  | pwrEnDeassert
  | rstNLow (us : Nat)
  | fullReset (r : Route)
  | romStage1Check
  | componentVerify
  | readyEntry
  | memctlTrainAttemptEnd (m chanOk ms : Nat) (margins : List W32)
  | pairInitDone (pair : Nat)
  | oscLock (pav : Nat)
  | fllWindow (pav : Nat) (ppm : Int) (periods : Bool)
  | unfence (r : Route) (pav : Nat)
  | issueFill (ctx : Nat) (ok : Bool)
  | kioskCompose (ctx : Nat)
  | stepRelease (ctx : Nat)
  | beatRelease (plot : Nat)
  | stepEndBarrier (plot : Nat)
  | stallResume (pav : Nat)
  | stallTimeout (pav : Nat)
  | cycleStretch (pav : Nat) (margins : List Nat)
  | mm (i : Issue) (o : MmArgs) (ups : List Upset) (hits : Hits)
  | zero (i : Issue) (acc : AccRef)
  | drain (i : Issue) (o : DrainArgs)
  | chkRd (i : Issue) (acc : AccRef) (dst : LineRef)
  | ld (i : Issue) (dst : HalfRef) (src : Addr) (w : Option Wait) (hits : Hits)
  | st (i : Issue) (dst : Addr) (src : HalfRef)
  | gather (i : Issue) (dst : HalfRef) (base span : Nat) (idx : LineRef) (w : Option Wait) (hits : Hits)
  | scatter (i : Issue) (base span : Nat) (idx : LineRef) (src : HalfRef)
  | perm (i : Issue) (dst src map elt : Nat)
  | xpose (i : Issue) (dst src elt : Nat)
  | iMov (i : Issue) (d : Nat) (src : MovSrc)
  | iAdd (i : Issue) (d a : Nat) (b : IdxImm)
  | iMul (i : Issue) (d a : Nat) (b : IdxImm)
  | xsend (i : Issue) (x : Nat) (src : LineRef) (w : Option Wait)
  | xrecv (i : Issue) (x : Nat) (dst : LineRef) (w : Option Wait)
  | flitArrival (pav x : Nat)
  | freeEntryReturn (pav x : Nat)
  | vAdd (i : Issue) (o : LaneArgs)
  | vSub (i : Issue) (o : LaneArgs)
  | vMul (i : Issue) (o : LaneArgs)
  | vFma (i : Issue) (o : LaneArgs)
  | vMin (i : Issue) (o : LaneArgs)
  | vMax (i : Issue) (o : LaneArgs)
  | vCmp (i : Issue) (op : Cmp) (o : LaneArgs)
  | vSel (i : Issue) (o : LaneArgs)
  | vRot (i : Issue) (amt : IdxImm) (o : LaneArgs)
  | vCvt (i : Issue) (o : CvtArgs)
  | vRng (i : Issue) (o : RngArgs)
  | vSum (i : Issue) (o : RedArgs)
  | vRmax (i : Issue) (o : RedArgs)
  | vArgmax (i : Issue) (o : RedArgs)
  | vTopk (i : Issue) (o : RedArgs)
  | vTreemask (i : Issue) (o : TreeArgs)
  | vSample (i : Issue) (o : SampleArgs)
  | sfExp (i : Issue) (o : SfArgs)
  | sfLog (i : Issue) (o : SfArgs)
  | sfRsqrt (i : Issue) (o : SfArgs)
  | sfTanh (i : Issue) (o : SfArgs)
  | sfSigm (i : Issue) (o : SfArgs)
  | pageIn (i : Issue) (dst : Nat) (pg : PageArgs) (d : DoneBy)
  | pageOut (i : Issue) (src : Nat) (pg : PageArgs) (part : Option (IdxImm × Nat)) (d : DoneBy)
  | await (i : Issue) (ctr : Nat) (level : Level)
  | fence (i : Issue) (trk cnt : Nat)
  | fput (i : Issue) (tgt : ParamRef) (src len : Nat) (trk : Option Nat) (tc0 : Bool) (d : DoneBy)
  | fget (i : Issue) (src : ParamRef) (dst len : Nat) (d : DoneBy)
  | fmcast (i : Issue) (grp src len off : Nat) (trk : Option Nat) (d : DoneBy)
  | fredXw (i : Issue) (n : XwN) (dst : RedDest) (src cmp elems : Nat) (win : Int) (trk : Nat) (d : DoneBy)
  | fredF (i : Issue) (dst : RedDest) (src elems trk : Nat) (d : DoneBy)
  | faddI64 (i : Issue) (tgt : ParamRef) (val : Nat) (trk : Option Nat) (d : DoneBy)
  | faddXw (i : Issue) (n : XwN) (tgt : ParamRef) (src cmp elems : Nat) (win : Int) (trk : Option Nat) (d : DoneBy)
  | loop (i : Issue) (n : Nat) (act : Option IdxImm) (ctr : Option Nat)
  | endloop (i : Issue)
  | beat (i : Issue) (skip : Nat)
  | nop (i : Issue)
  | pld (i : Issue) (dst : LineRef) (src : ParamRef) (n : Nat)
  | pred (i : Issue) (q : Nat) (o : PredArgs)
  | stepEnd (i : Issue)
  | timeRd (i : Issue) (dst : LineRef)
  | statRd (i : Issue) (dst : LineRef) (page : StatPage) (off : Nat)
  | stagingKibPlaced (xfer kib : Nat)
  | transferComplete (xfer : Nat) (cause : Nat)
  | lpddrBurstRead (burst : Nat) (xfer : Option Nat) (fails : Nat) (corrected : Bool)
  | lpddrBurstWrite (burst : Nat) (xfer : Nat)
  | memctlPatrolScrub (burst : Nat) (fails : Nat) (corrected : Bool)
  | phyRecalibration (m : Nat)
  | refreshDoubling (m : Nat) (temp : Int)
  | storeScrubRead (pav line : Nat) (hits : Hits)
  | wtierScrub (pav line : Nat) (hits : Hits)
  | regionCreate (r : Route) (idx : Nat)
  | regionFree (r : Route) (idx : Nat)
  | regionAbandon (r : Route) (idx : Nat)
  | keyGenerate (r : Route) (slot : Nat)
  | keyDestroy (r : Route) (slot : Nat)
  | bundleVerifyDone (ctx : Nat) (body : BundleBody)
  | loadActivate (r : Route) (ctx : Nat)
  | loadDiscardStaged (r : Route) (ctx : Nat)
  | loadDiscardActive (r : Route) (ctx : Nat)
  | paramCommit (r : Route) (ctx : Nat)
  | sysDigestWrite (r : Route) (digest : List Byte)
  | packetRoute (cands : List (Nat × Packet))
  | combineSend (tree addr : Nat)
  | put (p : Packet)
  | getReq (p : Packet)
  | getResp (p : Packet)
  | completion (p : Packet)
  | completionTimer (src tag : Nat)
  | faddI64Packet (p : Packet)
  | xwAdd (p : Packet)
  | fAdd (p : Packet)
  | mcast (p : Packet)
  | nullPacket (p : Packet)
  | loadPacket (p : Packet)
  | errorResp (p : Packet)
  | fenceNotice (p : Packet)
  | flushNotice (p : Packet)
  | regReq (p : Packet)
  | regResp (p : Packet)
  | fenceSet (p : Packet)
  | linkMgmt (p : Packet)
  | xferTimeout (xfer : Nat)
  | arrivalReap (src tag : Nat)
  | switchArm (r : Route) (epoch : Nat)
  | routeSwitch
  | bankRetainEnd
  | faddCmd (r : Route)
  | fenceMapWrite (r : Route) (k : Nat) (v : W32)
  | framePacket (port : Nat) (h : FrameHdr) (p : Packet)
  | frameIdle (port : Nat) (h : FrameHdr)
  | frameInit (port : Nat) (h : FrameHdr) (b : InitBody)
  | frameInitAck (port : Nat) (h : FrameHdr) (b : InitBody)
  | ackTimer (port : Nat)
  | replayTimer (port : Nat)
  | lockLoss (port : Nat) (us : Nat)
  | graceExpiry (port : Nat)
  | bringupPhaseDone (port : Nat) (lanes : W32)
  | bringupPhaseTimeout (port : Nat)
  | initRepeat (port : Nat)
  | linkEnable (r : Route) (port : Nat)
  | linkDrain (r : Route) (port : Nat)
  | linkUndrain (r : Route) (port : Nat)
  | linkRecalibrate (r : Route) (port : Nat)
  | drainComplete (port : Nat)
  | fecAlarmWindow (port : Nat) (corrected uncorrected : Nat)
  | timeExchange (port : Nat)
  | timePacket (port : Nat) (b : TimeBody) (arrive : Nat)
  | exchangeLost (port : Nat)
  | resetNotice (pav x : Nat)
  | readyNotice (pav x : Nat)
  | handshakeTimeout (pav x : Nat)
  | refLoss
  | refReturn
  | holdoverExpiry
  | timePllUnlock
  | launchArm (r : Route) (ctx : Nat)
  | launchCancel (r : Route) (ctx : Nat)
  | launch
  | timeJumpCmd (r : Route)
  | ringDoorbell (r : Route) (ring gen : Nat) (index : W32)
  | cmdSubmit (ring : Nat)
  | cmdCancel (ring : Nat)
  | cmdPark (ring : Nat)
  | cmdResume (ring : Nat)
  | commit (ctx : Nat)
  | mirrorFailed (ring : Nat)
  | idleCommit (ctx : Nat)
  | compactionDone (ctx : Nat)
  | remoteParkDone (ctx seq : Nat)
  | resumeFetchDone (ctx seq : Nat)
  | inboxRead (ctx ring : Nat) (m : InboxMsg)
  | remoteParkExpiry (plot dev : Nat)
  | ringCreate (r : Route) (ring : Nat)
  | ringDestroy (r : Route) (ring : Nat)
  | manifestCmd (r : Route) (ctx : Nat) (sigOk : Bool)
  | jobSubmit (r : Route)
  | jobStart (job : Nat)
  | jobComplete (job : Nat)
  | shardReadbackDone (entry : Nat)
  | weightSweep (entry : Nat)
  | plotAssign (r : Route) (p : Nat)
  | plotAssignDone (p : Nat)
  | plotRemove (r : Route) (p : Nat)
  | plotRemoveFinal (p : Nat)
  | plotFree (p : Nat)
  | clearCmd (r : Route) (mask : Nat)
  | clearDone (bad : Nat)
  | ctxCreate (r : Route) (ctx : Nat)
  | ctxDestroy (r : Route) (ctx : Nat)
  | calArm (r : Route) (p : Nat)
  | calendarSwitch (p : Nat)
  | sliceStart (p ctx : Nat)
  | contextRestoreDone (p : Nat) (ok : Bool)
  | svnCommit (r : Route)
  | spdmGetVersion (link : Nat)
  | spdmGetCapabilities (link : Nat)
  | spdmNegotiateAlgorithms (link : Nat)
  | spdmGetDigests (link : Nat)
  | spdmGetCertificate (link slot : Nat)
  | spdmChallenge (link : Nat)
  | spdmGetMeasurements (link index : Nat)
  | spdmKeyExchange (link : Nat)
  | spdmFinish (link session : Nat) (anchor : List Byte) (ok : Bool)
  | spdmHeartbeat (session : Nat)
  | heartbeatTimeout (session : Nat)
  | spdmKeyUpdate (session : Nat)
  | spdmEndSession (session : Nat)
  | weightKey (session kind plot slot keyId : Nat) (key : List Byte) (onCurve : Bool)
  | spdmRespondIfReady (link : Nat)
  | spdmGetEncapsulatedRequest (session : Nat)
  | spdmDeliverEncapsulatedResponse (session : Nat)
  | spdmUnsupported (link code : Nat)
  | mgmtLogin (cert : Option (List Byte)) (acct : Nat) (ok : Bool) (newPassword : Bool)
  | loginLockExpiry (acct : Nat)
  | delegationWrite (r : Route) (v : W32)
  | plotSelWrite (r : Route) (p : Nat)
  | bellAbort (port : Nat) (p : Packet)
  | bellVerdict (p : Packet)
  | verdictTimeout (ctx : Nat)
  | fateFenceSet (r : Route) (kind value : Nat)
  | fateFenceClear (r : Route) (kind value : Nat)
  | canaryInterval
  | shadowCfgWrite (r : Route) (v : W32)
  | shadowStart
  | promoteRelease
  | logIntake
  | logEntryLost (e : LogEntry)
  | errInject (r : Route) (page bit : Nat)
  | errStatusClear (r : Route) (page : Nat) (mask : W32)
  | intStatusClear (r : Route) (page : Nat) (mask : W32)
  | lockWrite (r : Route) (page : Nat) (v : W32)
  | counterRead (r : Route) (page off : Nat)
  | resetHold (r : Route) (page : Nat)
  | pairReset (r : Route) (page : Nat)
  | fportReset (r : Route) (port : Nat)
  | hportReset (r : Route) (port : Nat)
  | memctlReset (r : Route) (m : Nat)
  | kioskReset (r : Route)
  | gatehouseReset (r : Route)
  | belvedereReset (r : Route)
  | domainCmdOn (r : Route) (dom : Nat)
  | domainCmdOff (r : Route) (dom : Nat)
  | restEnter (r : Route)
  | restExit (r : Route)
  | powerWindow (power : Nat) (temps : List (Nat × Int))
  | currentWarning (dom : Nat)
  | inputRange (mv : Nat)
  | conversionStop (mv : Nat)
  | pairSupplyFault (pair mv : Nat)
  | domainSupplyFault (dom mv : Nat)
  | thermTrip (sensor : Nat) (temp : Int)
  | sensorInvalid (k : Nat) (temp : Int)
  | belvedereWatchdog
  | belvedereSramEcc (inLog : Bool)
  | belvedereRestart (r : Route)
  | telemetryPeriod (overloaded : Bool)
  | slotImageWrite (r : Route) (img : SlotImg)
  | updateActivate (r : Route)
  | updateConfirm (r : Route)
  | updateRevert (r : Route)
  | confirmWindowExpiry
  | gctConnect (iface peer nonce session prot window maxPay : Nat)
  | gctClose (m : GctMsg)
  | gctIdleTimeout (conn : Nat)
  | alertSubscribe (m : GctMsg) (on : Bool)
  | gctRegRead (m : GctMsg) (off count : Nat)
  | gctRegWrite (m : GctMsg) (off : Nat) (vals : List W32)
  | gctDoorbell (m : GctMsg) (bells : List (Nat × Nat × W32))
  | paramPatch (m : GctMsg) (ctx : Nat) (entries : List (Nat × W64))
  | progBegin (m : GctMsg) (ctx total : Nat)
  | progData (m : GctMsg) (ctx off : Nat) (data : List Byte)
  | gctSpdm (m : GctMsg) (code : Nat)
  | gctAlertAck (m : GctMsg)
  | gctAlertRetx (conn seq : Nat)
  | rdmaReadRequest (qp psn addr rkey len : Nat) (ecn : Bool)
  | rdmaWriteRequest (qp psn addr rkey : Nat) (data : List Byte) (ecn : Bool)
  | rdmaReadResponse (qp psn : Nat) (cipher plain : List Byte) (tagOk : Option Bool)
  | rdmaAck (qp psn : Nat)
  | rdmaAckTimeout (qp : Nat)
  | cnpReceived (qp : Nat)
  | dcqcnTimer (qp : Nat)
  | qpConnect (r : Route) (qp : Nat)
  | qpReset (r : Route) (qp : Nat)
  | mrCreate (r : Route) (mr : Nat)
  | mrDestroy (r : Route) (mr : Nat)
  | saInstall (r : Route) (port an dir : Nat)
  | saDelete (r : Route) (port an dir : Nat)
  | saUse (r : Route) (port an : Nat)
  | ethFrameReceive (port iface len : Nat) (pcp : Option Nat) (dscp vlan : Nat) (known : Bool) (sec : Option (Nat × Nat × Bool))
  | pfcReceived (port prio quanta : Nat)
  | arpNdIcmp (iface kind : Nat)
  | ptpSync (masterNs : W64) (arrive : W64) (rate : Int) (calibrated : Bool)
  | redfishRequest (session : Option Nat) (resource : Nat) (write : Bool) (arg : Nat) (bytes : List Byte) (len waiting : Nat)
  | smbusStatus
  | smbusIdentity
  | smbusFirmware
  | smbusBoot
  | smbusCertDigest
  | smbusAlertResponse
  | logEntrySel (r : Route) (seq : Nat)
  | logClear (r : Route)
  | roleWrite (r : Route) (v : W32)
  | portEnableWrite (r : Route) (budget : Bool) (v : W32)
  | regWriteGeneric (r : Route) (page off : Nat) (v : W32)
  | programImageDmaLoad (ctx addr : Nat) (data : List Byte)
  | keyRevocation (k signer : Nat) (sigOk : Bool)
  | hostInterfaceDown (iface : Nat)
  | hostInterfaceUp (iface : Nat)
  | ptpLost
  | redfishSessionTimeout (session : Nat)
  | belvedereRestartDone (ok : Bool)
  | inputRangeEnd (mv : Nat)
  | sensorRecovery (k : Nat) (temp : Int)
  deriving DecidableEq, Repr

end Sys2Proof
end

