-- ==== Sys2Proof/Config.lean ====
section
/-! DEFINITION. What the spec leaves free: constants with no body, so that no proof can see their values. Each is named in a row of the assumption log. -/
namespace Sys2Proof

/-- The signed distance, in FP32 steps, by which a special function's result differs from the correctly
rounded one (R130 bounds it by 2 units in the last place and fixes no more). First argument: the operation's number. -/
opaque Config.sfOffset : Nat → BitVec 32 → Int

/-- Words the hardware entropy source gives (R125, R276), one for each count of the draw counter. -/
opaque Config.entropy : Nat → BitVec 64

/-- What a byte decrypts to when the burst was encrypted under another key, was never written, or was written in
the clear (R275, R276): by the serial number of the key read with, and the address. -/
opaque Config.foreignByte : Nat → Nat → BitVec 8

/-- The bytes a free choice of the device yields (identifiers, nonces, keys and signatures the spec gives no value
for), one for each count of the draw counter. -/
opaque Config.freeWord : Nat → BitVec 64

/-- A 32-bit result that the spec states for no such operand, by the operation's number and the operand. -/
opaque Config.unstated32 : Nat → Nat → BitVec 32

/-- The value that a read-only register shows for which the spec gives no value (identity, revision, measured
analog values), by page, offset and the draw counter. -/
opaque Config.measured : Nat → Nat → Nat → BitVec 32

/-- How a measured event is written as bytes before its SHA-384 is taken (R485 names the events and fixes no bytes):
by the measurement register and what the event holds. -/
opaque Config.eventBytes : Nat → List (BitVec 8) → List (BitVec 8)

/-- The bytes of an inbox entry (R432, R433 name what it holds and fix no layout): by its kind (1 park, 2 release,
3 composition, 4 decisions) and the values it carries. -/
opaque Config.inboxBytes : Nat → List Nat → List (BitVec 8)

/-- Where a device keeps the next inbox entry and the producer word of a context's INBOX ring: offsets of its LPDDR5X,
by device and context (R432 gives no place). -/
opaque Config.inboxPlace : Nat → Nat → Nat
opaque Config.inboxWord : Nat → Nat → Nat

/-- What the payload of a FENCE_SET packet says (R311 gives it no layout): device numbers with the value of their fence bits;
and the payload that says it of one device. -/
opaque Config.fenceUpdates : List (BitVec 8) → List (Nat × Bool)
opaque Config.fencePayload : Nat → Bool → List (BitVec 8)

/-- The running estimate of the frequency difference to the upstream device, in 0.01 ppm (R379 fixes no rule for it): by the
estimate before and the offset measured. -/
opaque Config.freqEstimate : Int → Int → Int

/-- BASE of a region on another device, by device and descriptor index: a reader that does not hold the region itself has no
register that gives it (R446, R448). -/
opaque Config.memberBase : Nat → Nat → Nat

end Sys2Proof
end

