-- ==== Sys2Proof/Machine/RegTable.lean ====
section
/-! DEFINITION. The register window's rows: for each block, offsets, access type, writable or defined bits, reset value (R9, R594 and the register tables of every chapter), as the spec's tables list them. -/
namespace Sys2Proof.Machine

/-- Access types (R9). -/
inductive Acc
  | ro | rw | w1c | w1s | wo | rc
  deriving DecidableEq, Repr

/-- A row of a register table: first and last offset, access, defined bits, reset value, and whether the two offsets are
the halves of one 64-bit value (R12, R587). -/
structure RegRow where
  lo : Nat
  hi : Nat
  acc : Acc
  mask : Nat
  reset : Nat
  pair : Bool
  deriving DecidableEq, Repr

/-- Rows of DEVICE, part 1. -/
def rowsDevice0 : List RegRow :=
  [ ⟨0x100, 0x100, .rc, 0xFFFFFFFF, 0, false⟩,
    ⟨0x104, 0x104, .rc, 0xFFFFFFFF, 0, false⟩,
    ⟨0x108, 0x108, .rc, 0xFFFFFFFF, 0, false⟩,
    ⟨0x10C, 0x10C, .rc, 0xFFFFFFFF, 0, false⟩,
    ⟨0x110, 0x110, .rc, 0xFFFFFFFF, 0, false⟩,
    ⟨0x180, 0x180, .rc, 0xFFFFFFFF, 0, false⟩,
    ⟨0x184, 0x184, .rc, 0xFFFFFFFF, 0, false⟩,
    ⟨0x188, 0x188, .rc, 0xFFFFFFFF, 0, false⟩,
    ⟨0x18C, 0x18C, .rc, 0xFFFFFFFF, 0, false⟩,
    ⟨0x190, 0x190, .rc, 0xFFFFFFFF, 0, false⟩,
    ⟨0x194, 0x194, .rc, 0xFFFFFFFF, 0, false⟩,
    ⟨0x198, 0x198, .rc, 0xFFFFFFFF, 0, false⟩,
    ⟨0x19C, 0x19C, .rc, 0xFFFFFFFF, 0, false⟩,
    ⟨0x400, 0x400, .ro, 0xF, 2, false⟩,
    ⟨0x404, 0x404, .ro, 0xFFFF, 0, false⟩,
    ⟨0x408, 0x40C, .ro, 0xFFFFFFFF, 0, true⟩,
    ⟨0x410, 0x410, .rw, 0x3, 2, false⟩,
    ⟨0x414, 0x414, .rw, 0xFFF, 4095, false⟩,
    ⟨0x418, 0x418, .rw, 0x1FFF1FFF, 0, false⟩,
    ⟨0x41C, 0x41C, .rw, 0xF, 0, false⟩,
    ⟨0x420, 0x420, .ro, 0xFFFFFFFF, 0, false⟩,
    ⟨0x424, 0x424, .wo, 0x1, 0, false⟩,
    ⟨0x428, 0x428, .ro, 0x3FFFFF, 0, false⟩,
    ⟨0x42C, 0x42C, .ro, 0xFFFFFFFF, 0, false⟩,
    ⟨0x430, 0x430, .ro, 0x3FFFFFFF, 0, false⟩,
    ⟨0x800, 0x800, .rw, 0xFFFFFFFF, 0, false⟩,
    ⟨0x804, 0x804, .rw, 0xFFFFFFFF, 0, false⟩,
    ⟨0x808, 0x808, .wo, 0xFFFFF, 0, false⟩,
    ⟨0x80C, 0x80C, .ro, 0x1FFF0003, 0, false⟩,
    ⟨0x820, 0x820, .rw, 0x3FFF, 0, false⟩]

/-- Rows of DEVICE, part 2. -/
def rowsDevice1 : List RegRow :=
  [ ⟨0x824, 0x828, .rw, 0xFFFFFFFF, 0, true⟩,
    ⟨0x82C, 0x82C, .rw, 0x1FFFFFF, 0, false⟩,
    ⟨0x830, 0x830, .rw, 0xFFFFFF, 10000, false⟩,
    ⟨0x834, 0x838, .rw, 0xFFFFFFFF, 0, true⟩,
    ⟨0x840, 0x840, .rw, 0xFFFF01FF, 3932160, false⟩,
    ⟨0x844, 0x844, .ro, 0x3, 0, false⟩,
    ⟨0x848, 0x848, .w1c, 0xFFFFFFFF, 0, false⟩,
    ⟨0x84C, 0x850, .rw, 0xFFFFFFFF, 0, true⟩,
    ⟨0x860, 0x860, .rw, 0xF, 0, false⟩,
    ⟨0x864, 0x864, .rw, 0xFFFFFFFF, 0, false⟩,
    ⟨0x868, 0x868, .rw, 0x3FFFFFF, 0, false⟩]

/-- Rows of BELVEDERE, part 1. -/
def rowsBelvedere0 : List RegRow :=
  [ ⟨0x100, 0x100, .rc, 0xFFFFFFFF, 0, false⟩,
    ⟨0x104, 0x104, .rc, 0xFFFFFFFF, 0, false⟩,
    ⟨0x108, 0x108, .rc, 0xFFFFFFFF, 0, false⟩,
    ⟨0x10C, 0x10C, .rc, 0xFFFFFFFF, 0, false⟩,
    ⟨0x400, 0x400, .ro, 0xFF03, 0, false⟩,
    ⟨0x404, 0x404, .rw, 0xFFFF, 2000, false⟩,
    ⟨0x408, 0x408, .wo, 0x1, 0, false⟩,
    ⟨0x40C, 0x410, .ro, 0xFFFFFFFF, 0, true⟩,
    ⟨0x414, 0x414, .ro, 0xFF, 0, false⟩,
    ⟨0x418, 0x418, .rw, 0xFFFF, 100, false⟩,
    ⟨0x41C, 0x41C, .ro, 0x7FF, 0, false⟩,
    ⟨0x420, 0x420, .wo, 0x7, 0, false⟩,
    ⟨0x424, 0x424, .rw, 0xFFFF, 3600, false⟩]

/-- Rows of GATEHOUSE, part 1. -/
def rowsGatehouse0 : List RegRow :=
  [ ⟨0x100, 0x100, .rc, 0xFFFFFFFF, 0, false⟩,
    ⟨0x104, 0x104, .rc, 0xFFFFFFFF, 0, false⟩,
    ⟨0x108, 0x108, .rc, 0xFFFFFFFF, 0, false⟩,
    ⟨0x10C, 0x10C, .rc, 0xFFFFFFFF, 0, false⟩,
    ⟨0x110, 0x110, .rc, 0xFFFFFFFF, 0, false⟩,
    ⟨0x114, 0x114, .rc, 0xFFFFFFFF, 0, false⟩,
    ⟨0x118, 0x118, .rc, 0xFFFFFFFF, 0, false⟩,
    ⟨0x11C, 0x11C, .rc, 0xFFFFFFFF, 0, false⟩,
    ⟨0x400, 0x400, .ro, 0xFFFFFFFF, 0, false⟩,
    ⟨0x404, 0x408, .ro, 0xFFFFFFFF, 0, true⟩,
    ⟨0x40C, 0x40C, .rw, 0xFF, 0, false⟩,
    ⟨0x410, 0x410, .wo, 0x7FF, 0, false⟩,
    ⟨0x414, 0x414, .ro, 0x1F, 0, false⟩,
    ⟨0x418, 0x418, .ro, 0xFFFF, 0, false⟩,
    ⟨0x41C, 0x41C, .ro, 0x1FFFFF, 0, false⟩,
    ⟨0x420, 0x420, .ro, 0xFFFFFFFF, 0, false⟩,
    ⟨0x424, 0x424, .ro, 0x3F, 63, false⟩,
    ⟨0x428, 0x428, .wo, 0x1FF, 0, false⟩,
    ⟨0x42C, 0x42C, .ro, 0x1, 0, false⟩,
    ⟨0x430, 0x430, .ro, 0xFFFFFFFF, 0, false⟩,
    ⟨0x440, 0x46C, .rw, 0xFFFFFFFF, 0, false⟩]

/-- Rows of KIOSK, part 1. -/
def rowsKiosk0 : List RegRow :=
  [ ⟨0x100, 0x100, .rc, 0xFFFFFFFF, 0, false⟩,
    ⟨0x104, 0x104, .rc, 0xFFFFFFFF, 0, false⟩,
    ⟨0x108, 0x108, .rc, 0xFFFFFFFF, 0, false⟩,
    ⟨0x10C, 0x10C, .rc, 0xFFFFFFFF, 0, false⟩,
    ⟨0x110, 0x110, .rc, 0xFFFFFFFF, 0, false⟩,
    ⟨0x114, 0x114, .rc, 0xFFFFFFFF, 0, false⟩,
    ⟨0x118, 0x118, .rc, 0xFFFFFFFF, 0, false⟩,
    ⟨0x11C, 0x11C, .rc, 0xFFFFFFFF, 0, false⟩,
    ⟨0x120, 0x120, .rc, 0xFFFFFFFF, 0, false⟩,
    ⟨0x124, 0x124, .rc, 0xFFFFFFFF, 0, false⟩,
    ⟨0x128, 0x128, .rc, 0xFFFFFFFF, 0, false⟩,
    ⟨0x12C, 0x12C, .rc, 0xFFFFFFFF, 0, false⟩,
    ⟨0x130, 0x130, .rc, 0xFFFFFFFF, 0, false⟩,
    ⟨0x134, 0x134, .rc, 0xFFFFFFFF, 0, false⟩,
    ⟨0x138, 0x138, .rc, 0xFFFFFFFF, 0, false⟩,
    ⟨0x13C, 0x13C, .rc, 0xFFFFFFFF, 0, false⟩,
    ⟨0x140, 0x140, .rc, 0xFFFFFFFF, 0, false⟩,
    ⟨0x144, 0x144, .rc, 0xFFFFFFFF, 0, false⟩,
    ⟨0x148, 0x148, .rc, 0xFFFFFFFF, 0, false⟩,
    ⟨0x14C, 0x14C, .rc, 0xFFFFFFFF, 0, false⟩,
    ⟨0x150, 0x150, .rc, 0xFFFFFFFF, 0, false⟩,
    ⟨0x154, 0x154, .rc, 0xFFFFFFFF, 0, false⟩,
    ⟨0x158, 0x158, .rc, 0xFFFFFFFF, 0, false⟩,
    ⟨0x400, 0x400, .rw, 0xFF, 0, false⟩,
    ⟨0x404, 0x404, .rw, 0xFFF, 768, false⟩,
    ⟨0x408, 0x408, .ro, 0x33, 0, false⟩,
    ⟨0x40C, 0x40C, .rw, 0xFFFFFFFF, 4294967295, false⟩,
    ⟨0x410, 0x410, .rw, 0x3FFFF, 0, false⟩,
    ⟨0x414, 0x414, .rw, 0x3FFFF, 0, false⟩,
    ⟨0x418, 0x41C, .rw, 0xFFFFFFFF, 0, true⟩]

/-- Rows of KIOSK, part 2. -/
def rowsKiosk1 : List RegRow :=
  [ ⟨0x420, 0x424, .rw, 0xFFFFFFFF, 0, true⟩,
    ⟨0x428, 0x428, .rw, 0x7FFFF, 0, false⟩,
    ⟨0x42C, 0x430, .rw, 0xFFFFFFFF, 0, true⟩,
    ⟨0x434, 0x434, .ro, 0xFFFFFFFF, 1, false⟩,
    ⟨0x438, 0x438, .ro, 0xFFFFFFFF, 1, false⟩,
    ⟨0x43C, 0x43C, .rw, 0xFFFFFFFF, 5000, false⟩,
    ⟨0x440, 0x440, .rw, 0x3FF, 100, false⟩,
    ⟨0x444, 0x444, .rw, 0x1FFF, 0, false⟩,
    ⟨0x448, 0x448, .rw, 0xFFFFFF, 0, false⟩,
    ⟨0x44C, 0x44C, .rw, 0xFFFFFF, 0, false⟩,
    ⟨0x450, 0x450, .ro, 0xFFFFFFFF, 0, false⟩,
    ⟨0x454, 0x454, .ro, 0xFFFFFFFF, 0, false⟩,
    ⟨0x458, 0x458, .ro, 0xFFFFFFFF, 0, false⟩,
    ⟨0x45C, 0x45C, .ro, 0xFFFFFFFF, 0, false⟩,
    ⟨0x460, 0x460, .rw, 0x1FF, 256, false⟩,
    ⟨0x470, 0x470, .rw, 0x3FFFF, 0, false⟩,
    ⟨0x474, 0x4B0, .ro, 0xFFFFFFFF, 0, false⟩,
    ⟨0x4C0, 0x4C0, .rw, 0xFFFF, 0, false⟩,
    ⟨0x4C4, 0x4C4, .rw, 0xFFFFFFFF, 0, false⟩,
    ⟨0x4C8, 0x4C8, .rw, 0xFFFFFFFF, 0, false⟩,
    ⟨0x4CC, 0x4D0, .rw, 0xFFFFFFFF, 0, true⟩,
    ⟨0x4D4, 0x4D4, .rw, 0x1FFF, 0, false⟩,
    ⟨0x4D8, 0x4D8, .rw, 0xFFFFFFFF, 0, false⟩,
    ⟨0x4DC, 0x4E0, .ro, 0xFFFFFFFF, 0, true⟩,
    ⟨0x500, 0x500, .rw, 0x7FFF, 0, false⟩,
    ⟨0x504, 0x508, .rw, 0xFFFFFFFF, 0, true⟩,
    ⟨0x50C, 0x50C, .rw, 0x1FFF7F, 0, false⟩,
    ⟨0x510, 0x510, .ro, 0xFFFFFFFF, 0, false⟩,
    ⟨0x514, 0x514, .ro, 0xFFFFFFFF, 0, false⟩,
    ⟨0x518, 0x51C, .rw, 0xFFFFFFFF, 0, true⟩]

/-- Rows of KIOSK, part 3. -/
def rowsKiosk2 : List RegRow :=
  [ ⟨0x520, 0x520, .rw, 0x7FF, 0, false⟩,
    ⟨0x524, 0x524, .rw, 0xFFFFFFFF, 0, false⟩,
    ⟨0x528, 0x528, .wo, 0x1FFFF, 0, false⟩,
    ⟨0x52C, 0x52C, .ro, 0x3, 0, false⟩,
    ⟨0x530, 0x534, .wo, 0xFFFFFFFF, 0, true⟩]

/-- Rows of TIME, part 1. -/
def rowsTime0 : List RegRow :=
  [ ⟨0x100, 0x100, .rc, 0xFFFFFFFF, 0, false⟩,
    ⟨0x104, 0x104, .rc, 0xFFFFFFFF, 0, false⟩,
    ⟨0x108, 0x108, .rc, 0xFFFFFFFF, 0, false⟩,
    ⟨0x10C, 0x10C, .rc, 0xFFFFFFFF, 0, false⟩,
    ⟨0x110, 0x110, .rc, 0xFFFFFFFF, 0, false⟩,
    ⟨0x114, 0x114, .rc, 0xFFFFFFFF, 0, false⟩,
    ⟨0x118, 0x118, .rc, 0xFFFFFFFF, 0, false⟩,
    ⟨0x11C, 0x11C, .rc, 0xFFFFFFFF, 0, false⟩,
    ⟨0x120, 0x120, .rc, 0xFFFFFFFF, 0, false⟩,
    ⟨0x400, 0x404, .ro, 0xFFFFFFFF, 0, true⟩,
    ⟨0x408, 0x408, .ro, 0x1FF, 0, false⟩,
    ⟨0x40C, 0x40C, .ro, 0xFFFFFFFF, 0, false⟩,
    ⟨0x410, 0x410, .ro, 0xFFFFFFFF, 0, false⟩,
    ⟨0x414, 0x414, .rw, 0x3FF, 10, false⟩,
    ⟨0x418, 0x418, .rw, 0x3FF, 100, false⟩,
    ⟨0x41C, 0x41C, .rw, 0xFF, 16, false⟩,
    ⟨0x420, 0x424, .rw, 0xFFFFFFFF, 0, true⟩,
    ⟨0x428, 0x428, .wo, 0x3FF, 0, false⟩,
    ⟨0x42C, 0x42C, .ro, 0xFF07, 0, false⟩,
    ⟨0x430, 0x434, .ro, 0xFFFFFFFF, 0, true⟩,
    ⟨0x440, 0x46C, .ro, 0x800FFFFF, 0, false⟩,
    ⟨0x470, 0x474, .rw, 0xFFFFFFFF, 0, true⟩,
    ⟨0x478, 0x478, .wo, 0x1, 0, false⟩]

/-- Rows of STEP, part 1. -/
def rowsStep0 : List RegRow :=
  [ ⟨0x100, 0x100, .rc, 0xFFFFFFFF, 0, false⟩,
    ⟨0x104, 0x104, .rc, 0xFFFFFFFF, 0, false⟩,
    ⟨0x108, 0x108, .rc, 0xFFFFFFFF, 0, false⟩,
    ⟨0x10C, 0x10C, .rc, 0xFFFFFFFF, 0, false⟩,
    ⟨0x110, 0x110, .rc, 0xFFFFFFFF, 0, false⟩,
    ⟨0x114, 0x114, .rc, 0xFFFFFFFF, 0, false⟩,
    ⟨0x118, 0x118, .rc, 0xFFFFFFFF, 0, false⟩,
    ⟨0x11C, 0x11C, .rc, 0xFFFFFFFF, 0, false⟩,
    ⟨0x120, 0x120, .rc, 0xFFFFFFFF, 0, false⟩,
    ⟨0x124, 0x124, .rc, 0xFFFFFFFF, 0, false⟩,
    ⟨0x128, 0x128, .rc, 0xFFFFFFFF, 0, false⟩,
    ⟨0x400, 0x404, .ro, 0xFFFFFFFF, 0, true⟩,
    ⟨0x408, 0x40C, .ro, 0xFFFFFFFF, 0, true⟩,
    ⟨0x410, 0x414, .ro, 0xFFFFFFFF, 0, true⟩,
    ⟨0x418, 0x418, .ro, 0xFFFF, 0, false⟩,
    ⟨0x41C, 0x41C, .ro, 0xFFFFFFFF, 0, false⟩,
    ⟨0x420, 0x420, .ro, 0xFFFFFFFF, 0, false⟩,
    ⟨0x424, 0x424, .ro, 0xFFFFFFFF, 0, false⟩,
    ⟨0x428, 0x428, .ro, 0xFFFFFFFF, 0, false⟩]

/-- Rows of POWER, part 1. -/
def rowsPower0 : List RegRow :=
  [ ⟨0x100, 0x100, .rc, 0xFFFFFFFF, 0, false⟩,
    ⟨0x104, 0x104, .rc, 0xFFFFFFFF, 0, false⟩,
    ⟨0x108, 0x108, .rc, 0xFFFFFFFF, 0, false⟩,
    ⟨0x400, 0x400, .rw, 0xF, 8, false⟩,
    ⟨0x404, 0x404, .rw, 0x1, 0, false⟩,
    ⟨0x408, 0x408, .rw, 0x3FF, 450, false⟩,
    ⟨0x40C, 0x40C, .ro, 0x77FF, 0, false⟩,
    ⟨0x410, 0x410, .ro, 0xFFFF, 0, false⟩,
    ⟨0x414, 0x414, .ro, 0xFFFF, 0, false⟩,
    ⟨0x418, 0x418, .ro, 0xFFFFFFFF, 0, false⟩,
    ⟨0x41C, 0x41C, .ro, 0xFFFFFF, 0, false⟩,
    ⟨0x420, 0x420, .wo, 0x7F, 0, false⟩,
    ⟨0x424, 0x424, .ro, 0x3, 0, false⟩,
    ⟨0x428, 0x428, .wo, 0x3, 0, false⟩,
    ⟨0x42C, 0x42C, .ro, 0x3, 0, false⟩,
    ⟨0x440, 0x49C, .ro, 0xFFFFFFFF, 0, false⟩]

/-- Rows of THERMAL, part 1. -/
def rowsThermal0 : List RegRow :=
  [ ⟨0x100, 0x100, .rc, 0xFFFFFFFF, 0, false⟩,
    ⟨0x104, 0x104, .rc, 0xFFFFFFFF, 0, false⟩,
    ⟨0x400, 0x400, .ro, 0x3FFFFF, 0, false⟩,
    ⟨0x404, 0x404, .rw, 0xFF, 100, false⟩,
    ⟨0x408, 0x40C, .ro, 0xFFFFFFFF, 0, true⟩,
    ⟨0x440, 0x4FC, .ro, 0xFFFFFFFF, 0, false⟩]

/-- Rows of SECURITY, part 1. -/
def rowsSecurity0 : List RegRow :=
  [ ⟨0x100, 0x100, .rc, 0xFFFFFFFF, 0, false⟩,
    ⟨0x104, 0x104, .rc, 0xFFFFFFFF, 0, false⟩,
    ⟨0x108, 0x108, .rc, 0xFFFFFFFF, 0, false⟩,
    ⟨0x10C, 0x10C, .rc, 0xFFFFFFFF, 0, false⟩,
    ⟨0x110, 0x110, .rc, 0xFFFFFFFF, 0, false⟩,
    ⟨0x114, 0x114, .rc, 0xFFFFFFFF, 0, false⟩,
    ⟨0x118, 0x118, .rc, 0xFFFFFFFF, 0, false⟩,
    ⟨0x11C, 0x11C, .rc, 0xFFFFFFFF, 0, false⟩,
    ⟨0x120, 0x120, .rc, 0xFFFFFFFF, 0, false⟩,
    ⟨0x400, 0x400, .rw, 0x1, 0, false⟩,
    ⟨0x404, 0x404, .rw, 0xF, 0, false⟩,
    ⟨0x408, 0x408, .ro, 0xFFFFFFF3, 0, false⟩,
    ⟨0x40C, 0x40C, .wo, 0x3F, 0, false⟩,
    ⟨0x410, 0x410, .ro, 0x1F, 0, false⟩,
    ⟨0x414, 0x418, .ro, 0xFFFFFFFF, 0, true⟩,
    ⟨0x41C, 0x41C, .wo, 0x1FFFF, 0, false⟩,
    ⟨0x420, 0x420, .ro, 0x7FFFF, 0, false⟩,
    ⟨0x440, 0x440, .rw, 0xFFFFFFFF, 0, false⟩,
    ⟨0x444, 0x444, .rw, 0x1FFFF, 0, false⟩,
    ⟨0x448, 0x448, .rw, 0x7FFFFFFF, 0, false⟩,
    ⟨0x44C, 0x44C, .rw, 0xFFFF, 0, false⟩,
    ⟨0x450, 0x450, .rw, 0x1FFFF, 0, false⟩,
    ⟨0x454, 0x454, .rw, 0xFFFF, 0, false⟩,
    ⟨0x458, 0x458, .rw, 0x1FFFF, 0, false⟩,
    ⟨0x45C, 0x45C, .rw, 0x3FFFF, 0, false⟩,
    ⟨0x460, 0x460, .rw, 0x3FFFF, 0, false⟩,
    ⟨0x464, 0x464, .rw, 0x1FFFFF, 0, false⟩,
    ⟨0x468, 0x468, .rw, 0x7FFFFF, 0, false⟩,
    ⟨0x46C, 0x46C, .rw, 0x1FFFFF, 0, false⟩,
    ⟨0x470, 0x470, .rw, 0x1, 0, false⟩]

/-- Rows of SECURITY, part 2. -/
def rowsSecurity1 : List RegRow :=
  [ ⟨0x474, 0x474, .rw, 0x0, 0, false⟩,
    ⟨0x478, 0x478, .rw, 0x0, 0, false⟩,
    ⟨0x47C, 0x47C, .rw, 0x0, 0, false⟩,
    ⟨0x480, 0x484, .rw, 0xFFFFFFFF, 0, true⟩,
    ⟨0x488, 0x48C, .rw, 0xFFFFFFFF, 0, true⟩,
    ⟨0x490, 0x494, .rw, 0xFFFFFFFF, 0, true⟩,
    ⟨0x498, 0x49C, .rw, 0xFFFFFFFF, 0, true⟩,
    ⟨0x4A0, 0x4A4, .rw, 0xFFFFFFFF, 0, true⟩,
    ⟨0x4A8, 0x4AC, .rw, 0xFFFFFFFF, 0, true⟩,
    ⟨0x4B0, 0x4B4, .rw, 0xFFFFFFFF, 0, true⟩,
    ⟨0x4B8, 0x4BC, .rw, 0xFFFFFFFF, 0, true⟩,
    ⟨0x4C0, 0x4C4, .rw, 0xFFFFFFFF, 0, true⟩,
    ⟨0x4C8, 0x4CC, .rw, 0xFFFFFFFF, 0, true⟩,
    ⟨0x4D0, 0x4D4, .rw, 0xFFFFFFFF, 0, true⟩,
    ⟨0x4D8, 0x4DC, .rw, 0xFFFFFFFF, 0, true⟩,
    ⟨0x4E0, 0x50C, .rw, 0xFFFFFFFF, 0, false⟩,
    ⟨0x520, 0x520, .rw, 0xFF, 0, false⟩,
    ⟨0x524, 0x524, .rw, 0x1FF, 0, false⟩,
    ⟨0x528, 0x528, .wo, 0x3FF, 0, false⟩,
    ⟨0x52C, 0x52C, .ro, 0x7, 0, false⟩,
    ⟨0x530, 0x530, .ro, 0x3, 0, false⟩,
    ⟨0x534, 0x538, .rw, 0xFFFFFFFF, 0, true⟩,
    ⟨0x53C, 0x53C, .rw, 0xFFFFFF, 0, false⟩,
    ⟨0x540, 0x544, .rw, 0xFFFFFFFF, 0, true⟩,
    ⟨0x548, 0x548, .rw, 0x7FF, 0, false⟩,
    ⟨0x560, 0x560, .rw, 0xFF, 0, false⟩,
    ⟨0x564, 0x568, .rw, 0xFFFFFFFF, 0, true⟩,
    ⟨0x56C, 0x56C, .rw, 0xFFFFFFFF, 0, false⟩,
    ⟨0x570, 0x570, .rw, 0x1FF, 0, false⟩,
    ⟨0x574, 0x574, .rw, 0xFFFFFFFF, 0, false⟩]

/-- Rows of SECURITY, part 3. -/
def rowsSecurity2 : List RegRow :=
  [ ⟨0x578, 0x578, .rw, 0xFFFFFFFF, 0, false⟩,
    ⟨0x57C, 0x57C, .wo, 0x1F, 0, false⟩,
    ⟨0x580, 0x584, .rw, 0xFFFFFFFF, 0, true⟩,
    ⟨0x588, 0x588, .ro, 0x7, 0, false⟩,
    ⟨0x5A0, 0x5A0, .rw, 0xF, 0, false⟩,
    ⟨0x5A4, 0x5D0, .ro, 0xFFFFFFFF, 0, false⟩,
    ⟨0x5E0, 0x5E0, .ro, 0x37F, 0, false⟩,
    ⟨0x5E4, 0x5E4, .rw, 0x7, 0, false⟩,
    ⟨0x5E8, 0x5E8, .ro, 0x7F7F, 0, false⟩,
    ⟨0x5EC, 0x5EC, .rw, 0x7, 0, false⟩,
    ⟨0x5F0, 0x5F0, .ro, 0x17F, 0, false⟩]

/-- Rows of LOG, part 1. -/
def rowsLog0 : List RegRow :=
  [ ⟨0x100, 0x100, .rc, 0xFFFFFFFF, 0, false⟩,
    ⟨0x104, 0x104, .rc, 0xFFFFFFFF, 0, false⟩,
    ⟨0x108, 0x108, .rc, 0xFFFFFFFF, 0, false⟩,
    ⟨0x10C, 0x10C, .rc, 0xFFFFFFFF, 0, false⟩,
    ⟨0x400, 0x400, .ro, 0x3FFFF, 16384, false⟩,
    ⟨0x404, 0x404, .ro, 0xFFFF, 0, false⟩,
    ⟨0x408, 0x408, .ro, 0xFFFF, 0, false⟩,
    ⟨0x40C, 0x40C, .rw, 0xFFFF, 0, false⟩,
    ⟨0x410, 0x410, .ro, 0x1FF, 0, false⟩,
    ⟨0x414, 0x414, .wo, 0x1, 0, false⟩,
    ⟨0x43C, 0x43C, .ro, 0x1, 0, false⟩,
    ⟨0x440, 0x47C, .ro, 0xFFFFFFFF, 0, false⟩]

/-- Rows of MODE, part 1. -/
def rowsMode0 : List RegRow :=
  [ ⟨0x400, 0x400, .ro, 0xF1D, 0, false⟩,
    ⟨0x404, 0x404, .rw, 0xFF, 0, false⟩,
    ⟨0x408, 0x408, .ro, 0x1FFFF, 0, false⟩,
    ⟨0x40C, 0x40C, .ro, 0x7, 0, false⟩,
    ⟨0x440, 0x45C, .ro, 0xFFFFFFFF, 0, false⟩,
    ⟨0x460, 0x47C, .ro, 0xFFFFFFFF, 0, false⟩]

/-- Rows of PAVILION, part 1. -/
def rowsPavilion0 : List RegRow :=
  [ ⟨0x100, 0x10C, .rc, 0xFFFFFFFF, 0, false⟩,
    ⟨0x110, 0x110, .rc, 0xFFFFFFFF, 0, false⟩,
    ⟨0x114, 0x114, .rc, 0xFFFFFFFF, 0, false⟩,
    ⟨0x118, 0x118, .rc, 0xFFFFFFFF, 0, false⟩,
    ⟨0x11C, 0x11C, .rc, 0xFFFFFFFF, 0, false⟩,
    ⟨0x120, 0x120, .rc, 0xFFFFFFFF, 0, false⟩,
    ⟨0x124, 0x124, .rc, 0xFFFFFFFF, 0, false⟩,
    ⟨0x128, 0x128, .rc, 0xFFFFFFFF, 0, false⟩,
    ⟨0x12C, 0x12C, .rc, 0xFFFFFFFF, 0, false⟩,
    ⟨0x130, 0x130, .rc, 0xFFFFFFFF, 0, false⟩,
    ⟨0x134, 0x134, .rc, 0xFFFFFFFF, 0, false⟩,
    ⟨0x138, 0x138, .rc, 0xFFFFFFFF, 0, false⟩,
    ⟨0x13C, 0x13C, .rc, 0xFFFFFFFF, 0, false⟩,
    ⟨0x140, 0x140, .rc, 0xFFFFFFFF, 0, false⟩,
    ⟨0x144, 0x144, .rc, 0xFFFFFFFF, 0, false⟩,
    ⟨0x148, 0x148, .rc, 0xFFFFFFFF, 0, false⟩,
    ⟨0x400, 0x400, .ro, 0xFFFFFFFF, 0, false⟩,
    ⟨0x404, 0x404, .ro, 0xFFFFFFFF, 0, false⟩,
    ⟨0x408, 0x408, .ro, 0xFFFFFFFF, 0, false⟩,
    ⟨0x40C, 0x410, .ro, 0xFFFFFFFF, 0, true⟩,
    ⟨0x414, 0x414, .ro, 0xFF, 0, false⟩,
    ⟨0x418, 0x418, .ro, 0xFFFFFFFF, 0, false⟩,
    ⟨0x41C, 0x41C, .ro, 0xFFFFFFFF, 0, false⟩,
    ⟨0x420, 0x420, .ro, 0x1FFFFFF, 0, false⟩,
    ⟨0x424, 0x424, .ro, 0x1F1F1F1F, 0, false⟩,
    ⟨0x428, 0x428, .ro, 0xFFFFFFFF, 0, false⟩,
    ⟨0x600, 0x600, .ro, 0xFFFF003C, 0, false⟩,
    ⟨0x604, 0x604, .ro, 0xFFFFF, 0, false⟩,
    ⟨0x608, 0x608, .ro, 0xFFFF, 0, false⟩,
    ⟨0x60C, 0x60C, .rw, 0x3F, 6, false⟩]

/-- Rows of PAVILION, part 2. -/
def rowsPavilion1 : List RegRow :=
  [ ⟨0x620, 0x63C, .ro, 0x7F3F, 0, false⟩,
    ⟨0x640, 0x640, .ro, 0xFFFF, 0, false⟩,
    ⟨0x644, 0x644, .ro, 0xFFFFFF, 0, false⟩]

/-- Rows of FPORT, part 1. -/
def rowsFport0 : List RegRow :=
  [ ⟨0x100, 0x100, .rc, 0xFFFFFFFF, 0, false⟩,
    ⟨0x104, 0x104, .rc, 0xFFFFFFFF, 0, false⟩,
    ⟨0x108, 0x108, .rc, 0xFFFFFFFF, 0, false⟩,
    ⟨0x10C, 0x10C, .rc, 0xFFFFFFFF, 0, false⟩,
    ⟨0x110, 0x110, .rc, 0xFFFFFFFF, 0, false⟩,
    ⟨0x114, 0x114, .rc, 0xFFFFFFFF, 0, false⟩,
    ⟨0x118, 0x118, .rc, 0xFFFFFFFF, 0, false⟩,
    ⟨0x11C, 0x11C, .rc, 0xFFFFFFFF, 0, false⟩,
    ⟨0x120, 0x120, .rc, 0xFFFFFFFF, 0, false⟩,
    ⟨0x124, 0x124, .rc, 0xFFFFFFFF, 0, false⟩,
    ⟨0x128, 0x128, .rc, 0xFFFFFFFF, 0, false⟩,
    ⟨0x12C, 0x12C, .rc, 0xFFFFFFFF, 0, false⟩,
    ⟨0x130, 0x130, .rc, 0xFFFFFFFF, 0, false⟩,
    ⟨0x134, 0x134, .rc, 0xFFFFFFFF, 0, false⟩,
    ⟨0x138, 0x138, .rc, 0xFFFFFFFF, 0, false⟩,
    ⟨0x13C, 0x13C, .rc, 0xFFFFFFFF, 0, false⟩,
    ⟨0x140, 0x140, .rc, 0xFFFFFFFF, 0, false⟩,
    ⟨0x144, 0x144, .rc, 0xFFFFFFFF, 0, false⟩,
    ⟨0x148, 0x148, .rc, 0xFFFFFFFF, 0, false⟩,
    ⟨0x14C, 0x14C, .rc, 0xFFFFFFFF, 0, false⟩,
    ⟨0x150, 0x150, .rc, 0xFFFFFFFF, 0, false⟩,
    ⟨0x400, 0x400, .ro, 0xFFFFFF, 0, false⟩,
    ⟨0x404, 0x404, .wo, 0x7, 0, false⟩,
    ⟨0x408, 0x408, .ro, 0x1FFFF, 0, false⟩,
    ⟨0x40C, 0x40C, .rw, 0x7F, 5, false⟩,
    ⟨0x410, 0x410, .rw, 0xFF, 20, false⟩,
    ⟨0x414, 0x414, .rw, 0x1FFF, 256, false⟩,
    ⟨0x418, 0x418, .rw, 0x7F, 8, false⟩,
    ⟨0x41C, 0x41C, .ro, 0x10FFF, 0, false⟩,
    ⟨0x420, 0x420, .ro, 0xFFFFFFFF, 0, false⟩]

/-- Rows of FPORT, part 2. -/
def rowsFport1 : List RegRow :=
  [ ⟨0x424, 0x424, .ro, 0xFFFFFFFF, 0, false⟩,
    ⟨0x428, 0x428, .ro, 0xFFFFFFFF, 0, false⟩,
    ⟨0x42C, 0x438, .ro, 0xFFFFFFFF, 0, false⟩,
    ⟨0x43C, 0x448, .ro, 0xFFFFFFFF, 0, false⟩,
    ⟨0x44C, 0x450, .ro, 0xFFFFFFFF, 0, true⟩,
    ⟨0x454, 0x454, .rw, 0xFFFF, 2048, false⟩,
    ⟨0x600, 0x600, .ro, 0x1FF, 0, false⟩,
    ⟨0x604, 0x604, .ro, 0xFFFFFFFF, 0, false⟩,
    ⟨0x608, 0x608, .ro, 0x1FFFF, 0, false⟩,
    ⟨0x610, 0x62C, .ro, 0xFFFF, 0, false⟩,
    ⟨0x630, 0x64C, .ro, 0xFFFF, 0, false⟩,
    ⟨0x650, 0x66C, .ro, 0xFFFF, 0, false⟩,
    ⟨0x670, 0x670, .ro, 0xFFFFFFFF, 0, false⟩]

/-- Rows of ROUTER, part 1. -/
def rowsRouter0 : List RegRow :=
  [ ⟨0x100, 0x100, .rc, 0xFFFFFFFF, 0, false⟩,
    ⟨0x104, 0x104, .rc, 0xFFFFFFFF, 0, false⟩,
    ⟨0x108, 0x108, .rc, 0xFFFFFFFF, 0, false⟩,
    ⟨0x10C, 0x10C, .rc, 0xFFFFFFFF, 0, false⟩,
    ⟨0x110, 0x110, .rc, 0xFFFFFFFF, 0, false⟩,
    ⟨0x114, 0x114, .rc, 0xFFFFFFFF, 0, false⟩,
    ⟨0x118, 0x118, .rc, 0xFFFFFFFF, 0, false⟩,
    ⟨0x11C, 0x11C, .rc, 0xFFFFFFFF, 0, false⟩,
    ⟨0x120, 0x120, .rc, 0xFFFFFFFF, 0, false⟩,
    ⟨0x124, 0x124, .rc, 0xFFFFFFFF, 0, false⟩,
    ⟨0x400, 0x400, .ro, 0xFFFF03, 0, false⟩,
    ⟨0x404, 0x404, .rw, 0x1FFF, 0, false⟩,
    ⟨0x408, 0x408, .rw, 0x3FFFF, 0, false⟩,
    ⟨0x40C, 0x410, .rw, 0xFFFFFFFF, 0, true⟩,
    ⟨0x414, 0x414, .wo, 0x1FF, 0, false⟩,
    ⟨0x418, 0x418, .ro, 0xFFF0FFF, 0, false⟩,
    ⟨0x41C, 0x41C, .ro, 0x7FFFF, 0, false⟩,
    ⟨0x420, 0x420, .ro, 0x1FFFFFFF, 0, false⟩]

/-- Rows of PARTERRE, part 1. -/
def rowsParterre0 : List RegRow :=
  [ ⟨0x100, 0x100, .rc, 0xFFFFFFFF, 0, false⟩,
    ⟨0x104, 0x104, .rc, 0xFFFFFFFF, 0, false⟩,
    ⟨0x108, 0x108, .rc, 0xFFFFFFFF, 0, false⟩,
    ⟨0x10C, 0x10C, .rc, 0xFFFFFFFF, 0, false⟩,
    ⟨0x110, 0x110, .rc, 0xFFFFFFFF, 0, false⟩,
    ⟨0x114, 0x114, .rc, 0xFFFFFFFF, 0, false⟩,
    ⟨0x118, 0x118, .rc, 0xFFFFFFFF, 0, false⟩,
    ⟨0x11C, 0x11C, .rc, 0xFFFFFFFF, 0, false⟩,
    ⟨0x120, 0x120, .rc, 0xFFFFFFFF, 0, false⟩,
    ⟨0x400, 0x400, .rw, 0x1FFF, 0, false⟩,
    ⟨0x404, 0x404, .rw, 0x1FFF, 1, false⟩,
    ⟨0x408, 0x408, .rw, 0x3FF, 50, false⟩,
    ⟨0x40C, 0x40C, .ro, 0xFFFFFFFF, 20100032, false⟩,
    ⟨0x410, 0x414, .rw, 0xFFFFFFFF, 0, true⟩,
    ⟨0x418, 0x41C, .rw, 0xFFFFFFFF, 0, true⟩,
    ⟨0x420, 0x420, .wo, 0x1, 0, false⟩,
    ⟨0x424, 0x428, .ro, 0xFFFFFFFF, 0, true⟩,
    ⟨0x42C, 0x42C, .ro, 0xF3, 0, false⟩,
    ⟨0x430, 0x430, .rw, 0xFFFF, 0, false⟩,
    ⟨0x434, 0x434, .ro, 0xFFFFFFFF, 0, false⟩,
    ⟨0x438, 0x438, .ro, 0xFFFFFFFF, 0, false⟩,
    ⟨0x43C, 0x43C, .ro, 0xFF, 0, false⟩,
    ⟨0x440, 0x440, .ro, 0x3FFFFFFF, 0, false⟩,
    ⟨0x800, 0x9FC, .rw, 0xFFFFFFFF, 0, false⟩]

/-- Rows of MEMCTL, part 1. -/
def rowsMemctl0 : List RegRow :=
  [ ⟨0x100, 0x100, .rc, 0xFFFFFFFF, 0, false⟩,
    ⟨0x104, 0x104, .rc, 0xFFFFFFFF, 0, false⟩,
    ⟨0x108, 0x108, .rc, 0xFFFFFFFF, 0, false⟩,
    ⟨0x10C, 0x10C, .rc, 0xFFFFFFFF, 0, false⟩,
    ⟨0x110, 0x110, .rc, 0xFFFFFFFF, 0, false⟩,
    ⟨0x114, 0x114, .rc, 0xFFFFFFFF, 0, false⟩,
    ⟨0x118, 0x118, .rc, 0xFFFFFFFF, 0, false⟩,
    ⟨0x11C, 0x11C, .rc, 0xFFFFFFFF, 0, false⟩,
    ⟨0x400, 0x400, .ro, 0x1F3, 0, false⟩,
    ⟨0x404, 0x404, .ro, 0x1, 0, false⟩,
    ⟨0x408, 0x408, .rw, 0xFF, 24, false⟩,
    ⟨0x40C, 0x40C, .rw, 0x3, 3, false⟩,
    ⟨0x410, 0x414, .ro, 0xFFFFFFFF, 0, true⟩,
    ⟨0x600, 0x600, .ro, 0x37, 0, false⟩,
    ⟨0x604, 0x604, .ro, 0xFF, 0, false⟩,
    ⟨0x608, 0x608, .ro, 0xFFFF, 0, false⟩,
    ⟨0x610, 0x61C, .ro, 0xFFFFFFFF, 0, false⟩,
    ⟨0x620, 0x620, .ro, 0xFFFF, 0, false⟩,
    ⟨0x670, 0x670, .ro, 0xFFFFFFFF, 0, false⟩]

/-- Rows of HPORT, part 1. -/
def rowsHport0 : List RegRow :=
  [ ⟨0x100, 0x100, .rc, 0xFFFFFFFF, 0, false⟩,
    ⟨0x104, 0x104, .rc, 0xFFFFFFFF, 0, false⟩,
    ⟨0x108, 0x108, .rc, 0xFFFFFFFF, 0, false⟩,
    ⟨0x10C, 0x10C, .rc, 0xFFFFFFFF, 0, false⟩,
    ⟨0x110, 0x110, .rc, 0xFFFFFFFF, 0, false⟩,
    ⟨0x114, 0x114, .rc, 0xFFFFFFFF, 0, false⟩,
    ⟨0x118, 0x118, .rc, 0xFFFFFFFF, 0, false⟩,
    ⟨0x400, 0x400, .rw, 0xF, 8, false⟩,
    ⟨0x404, 0x404, .ro, 0xFFF, 0, false⟩,
    ⟨0x408, 0x408, .rw, 0x3, 0, false⟩,
    ⟨0x40C, 0x40C, .rw, 0xFFFF, 3, false⟩,
    ⟨0x410, 0x410, .rw, 0xFFFFFFFF, 0, false⟩,
    ⟨0x414, 0x414, .rw, 0x3F, 0, false⟩,
    ⟨0x418, 0x424, .rw, 0xFFFFFFFF, 0, false⟩,
    ⟨0x428, 0x42C, .ro, 0xFFFFFFFF, 0, true⟩,
    ⟨0x430, 0x430, .rw, 0x777, 1846, false⟩,
    ⟨0x434, 0x434, .rw, 0xFF, 8, false⟩,
    ⟨0x440, 0x440, .rw, 0x7, 0, false⟩,
    ⟨0x444, 0x460, .wo, 0xFFFFFFFF, 0, false⟩,
    ⟨0x464, 0x468, .rw, 0xFFFFFFFF, 0, true⟩,
    ⟨0x46C, 0x46C, .wo, 0x1F, 0, false⟩,
    ⟨0x470, 0x474, .rw, 0xFFFFFFFF, 1, true⟩,
    ⟨0x478, 0x478, .rw, 0xFFFFFFFF, 64, false⟩,
    ⟨0x480, 0x480, .rw, 0xFFF, 0, false⟩,
    ⟨0x484, 0x488, .ro, 0xFFFFFFFF, 0, true⟩,
    ⟨0x48C, 0x490, .ro, 0xFFFFFFFF, 0, true⟩,
    ⟨0x494, 0x494, .ro, 0xFFFFFFFF, 0, false⟩,
    ⟨0x498, 0x498, .ro, 0x3, 0, false⟩]

/-- Rows of GCT, part 1. -/
def rowsGct0 : List RegRow :=
  [ ⟨0x100, 0x100, .rc, 0xFFFFFFFF, 0, false⟩,
    ⟨0x104, 0x104, .rc, 0xFFFFFFFF, 0, false⟩,
    ⟨0x108, 0x108, .rc, 0xFFFFFFFF, 0, false⟩,
    ⟨0x10C, 0x10C, .rc, 0xFFFFFFFF, 0, false⟩,
    ⟨0x110, 0x110, .rc, 0xFFFFFFFF, 0, false⟩,
    ⟨0x114, 0x114, .rc, 0xFFFFFFFF, 0, false⟩,
    ⟨0x400, 0x400, .rw, 0xFFFF, 47470, false⟩,
    ⟨0x404, 0x404, .rw, 0xFFF, 60, false⟩,
    ⟨0x408, 0x408, .rw, 0xFFFF, 1000, false⟩,
    ⟨0x40C, 0x40C, .rw, 0xFF, 0, false⟩,
    ⟨0x410, 0x410, .ro, 0xF7FFF07, 0, false⟩,
    ⟨0x414, 0x414, .ro, 0xFFFFFFFF, 0, false⟩,
    ⟨0x418, 0x418, .ro, 0xFFFFFFFF, 0, false⟩]

/-- Rows of ROCE, part 1. -/
def rowsRoce0 : List RegRow :=
  [ ⟨0x100, 0x100, .rc, 0xFFFFFFFF, 0, false⟩,
    ⟨0x104, 0x104, .rc, 0xFFFFFFFF, 0, false⟩,
    ⟨0x108, 0x108, .rc, 0xFFFFFFFF, 0, false⟩,
    ⟨0x10C, 0x10C, .rc, 0xFFFFFFFF, 0, false⟩,
    ⟨0x400, 0x400, .rw, 0x7FF, 0, false⟩,
    ⟨0x404, 0x404, .rw, 0x3FFFF, 0, false⟩,
    ⟨0x408, 0x408, .rw, 0xFFFFFF, 0, false⟩,
    ⟨0x40C, 0x418, .rw, 0xFFFFFFFF, 0, false⟩,
    ⟨0x41C, 0x41C, .rw, 0xFFFFFF, 0, false⟩,
    ⟨0x420, 0x420, .wo, 0x3, 0, false⟩,
    ⟨0x424, 0x424, .ro, 0xFFFF0007, 0, false⟩,
    ⟨0x430, 0x430, .rw, 0xFFF, 0, false⟩,
    ⟨0x434, 0x438, .rw, 0xFFFFFFFF, 0, true⟩,
    ⟨0x43C, 0x43C, .rw, 0xFFFFFFFF, 0, false⟩,
    ⟨0x440, 0x440, .rw, 0xFFF003F, 0, false⟩,
    ⟨0x444, 0x444, .ro, 0xFFFFFFFF, 0, false⟩,
    ⟨0x448, 0x448, .wo, 0x3, 0, false⟩,
    ⟨0x460, 0x460, .rw, 0x3FF, 55, false⟩,
    ⟨0x464, 0x464, .rw, 0x7FFFFFFF, 10485760, false⟩,
    ⟨0x468, 0x468, .rw, 0xF, 8, false⟩,
    ⟨0x46C, 0x46C, .rw, 0x3FF, 40, false⟩,
    ⟨0x470, 0x470, .rw, 0x3FF, 100, false⟩,
    ⟨0x474, 0x474, .rw, 0x3FF, 50, false⟩]

/-- Rows of DMA, part 1. -/
def rowsDma0 : List RegRow :=
  [ ⟨0x100, 0x100, .rc, 0xFFFFFFFF, 0, false⟩,
    ⟨0x104, 0x104, .rc, 0xFFFFFFFF, 0, false⟩,
    ⟨0x108, 0x108, .rc, 0xFFFFFFFF, 0, false⟩,
    ⟨0x10C, 0x10C, .rc, 0xFFFFFFFF, 0, false⟩,
    ⟨0x110, 0x110, .rc, 0xFFFFFFFF, 0, false⟩,
    ⟨0x114, 0x114, .rc, 0xFFFFFFFF, 0, false⟩,
    ⟨0x400, 0x400, .ro, 0x3FFF, 0, false⟩,
    ⟨0x404, 0x404, .ro, 0xFFFFF, 0, false⟩,
    ⟨0x408, 0x40C, .ro, 0xFFFFFFFF, 0, true⟩,
    ⟨0x410, 0x410, .rw, 0xFFFFFF, 0, false⟩,
    ⟨0x414, 0x418, .ro, 0xFFFFFFFF, 0, true⟩]

/-- Rows of CRYPTO, part 1. -/
def rowsCrypto0 : List RegRow :=
  [ ⟨0x100, 0x100, .rc, 0xFFFFFFFF, 0, false⟩,
    ⟨0x104, 0x104, .rc, 0xFFFFFFFF, 0, false⟩,
    ⟨0x108, 0x108, .rc, 0xFFFFFFFF, 0, false⟩,
    ⟨0x400, 0x400, .rw, 0xF, 0, false⟩,
    ⟨0x404, 0x404, .ro, 0xFF01, 0, false⟩,
    ⟨0x408, 0x408, .wo, 0x3F, 0, false⟩,
    ⟨0x40C, 0x40C, .ro, 0x3, 0, false⟩,
    ⟨0x500, 0x500, .rw, 0x3FFF, 0, false⟩,
    ⟨0x504, 0x504, .ro, 0xFF0F1F, 0, false⟩,
    ⟨0x508, 0x50C, .ro, 0xFFFFFFFF, 0, true⟩,
    ⟨0x510, 0x514, .rw, 0xFFFFFFFF, 0, true⟩,
    ⟨0x518, 0x518, .wo, 0x1FF, 0, false⟩,
    ⟨0x51C, 0x51C, .ro, 0x3FFF000F, 0, false⟩,
    ⟨0x520, 0x520, .rw, 0x7FF, 0, false⟩,
    ⟨0x524, 0x524, .rw, 0x83FFFFFF, 0, false⟩,
    ⟨0x530, 0x54C, .rw, 0xFFFFFFFF, 0, false⟩,
    ⟨0x550, 0x550, .wo, 0x1, 0, false⟩,
    ⟨0x554, 0x554, .ro, 0xFF, 0, false⟩,
    ⟨0x558, 0x558, .rw, 0x3F, 0, false⟩,
    ⟨0x55C, 0x55C, .ro, 0xFF0F, 0, false⟩,
    ⟨0x560, 0x560, .ro, 0xFFFFFFFF, 0, false⟩,
    ⟨0x564, 0x564, .rw, 0x3F, 0, false⟩,
    ⟨0x568, 0x568, .ro, 0x1, 0, false⟩,
    ⟨0x56C, 0x56C, .ro, 0x1FFF, 0, false⟩,
    ⟨0x5C0, 0x5C0, .rc, 0xFFFFFFFF, 0, false⟩,
    ⟨0x5C4, 0x5C4, .rc, 0xFFFFFFFF, 0, false⟩,
    ⟨0x5C8, 0x5C8, .rc, 0xFFFFFFFF, 0, false⟩,
    ⟨0x5CC, 0x5CC, .rc, 0xFFFFFFFF, 0, false⟩,
    ⟨0x5D0, 0x5D0, .rc, 0xFFFFFFFF, 0, false⟩,
    ⟨0x5D4, 0x5D4, .rc, 0xFFFFFFFF, 0, false⟩]

/-- Rows of CRYPTO, part 2. -/
def rowsCrypto1 : List RegRow :=
  [ ⟨0x5D8, 0x5D8, .rc, 0xFFFFFFFF, 0, false⟩,
    ⟨0x5DC, 0x5DC, .rc, 0xFFFFFFFF, 0, false⟩]

/-- Rows of WTIER, part 1. -/
def rowsWtier0 : List RegRow :=
  [ ⟨0x100, 0x100, .rc, 0xFFFFFFFF, 0, false⟩,
    ⟨0x104, 0x104, .rc, 0xFFFFFFFF, 0, false⟩,
    ⟨0x108, 0x108, .rc, 0xFFFFFFFF, 0, false⟩,
    ⟨0x10C, 0x10C, .rc, 0xFFFFFFFF, 0, false⟩,
    ⟨0x110, 0x110, .rc, 0xFFFFFFFF, 0, false⟩,
    ⟨0x114, 0x114, .rc, 0xFFFFFFFF, 0, false⟩,
    ⟨0x400, 0x400, .rw, 0x3FF, 0, false⟩,
    ⟨0x404, 0x410, .ro, 0xFFFFFFFF, 0, false⟩,
    ⟨0x414, 0x420, .rw, 0xFFFFFFFF, 0, false⟩,
    ⟨0x424, 0x424, .wo, 0xFFF, 0, false⟩,
    ⟨0x428, 0x428, .ro, 0x7, 0, false⟩,
    ⟨0x42C, 0x42C, .ro, 0x1FFFFFFF, 0, false⟩,
    ⟨0x430, 0x430, .ro, 0x7F, 0, false⟩,
    ⟨0x434, 0x434, .rw, 0x1, 1, false⟩,
    ⟨0x438, 0x438, .rw, 0xFFFF, 600, false⟩]

/-- Rows of COMMON, part 1. -/
def rowsCommon0 : List RegRow :=
  [ ⟨0x000, 0x000, .ro, 0xFFFF0FFF, 0, false⟩,
    ⟨0x004, 0x004, .ro, 0xFFFFFFFF, 0, false⟩,
    ⟨0x008, 0x008, .ro, 0xFFFFFFFF, 0, false⟩,
    ⟨0x010, 0x010, .rw, 0x1, 0, false⟩,
    ⟨0x014, 0x014, .ro, 0xF, 0, false⟩,
    ⟨0x018, 0x018, .w1c, 0xFFFFFFFF, 0, false⟩,
    ⟨0x01C, 0x01C, .rw, 0xFFFFFFFF, 0, false⟩,
    ⟨0x020, 0x020, .ro, 0x8000011F, 0, false⟩,
    ⟨0x024, 0x024, .wo, 0x11F, 0, false⟩,
    ⟨0x028, 0x028, .w1c, 0xFFFFFFFF, 0, false⟩,
    ⟨0x02C, 0x02C, .rw, 0xFFFFFFFF, 0, false⟩,
    ⟨0x030, 0x030, .rw, 0x101, 0, false⟩,
    ⟨0x034, 0x034, .w1s, 0x3, 0, false⟩,
    ⟨0x038, 0x03C, .ro, 0xFFFFFFFF, 0, true⟩]

/-- The rows of a block, named by its first page; the common rows under 0xFFF. -/
def regRows (block : Nat) : List RegRow :=
  match block with
  | 0x000 => rowsDevice0 ++ rowsDevice1
  | 0x001 => rowsBelvedere0
  | 0x002 => rowsGatehouse0
  | 0x003 => rowsKiosk0 ++ rowsKiosk1 ++ rowsKiosk2
  | 0x004 => rowsTime0
  | 0x005 => rowsStep0
  | 0x006 => rowsPower0
  | 0x007 => rowsThermal0
  | 0x008 => rowsSecurity0 ++ rowsSecurity1 ++ rowsSecurity2
  | 0x009 => rowsLog0
  | 0x00A => rowsMode0
  | 0x010 => rowsPavilion0 ++ rowsPavilion1
  | 0x040 => rowsFport0 ++ rowsFport1
  | 0x050 => rowsRouter0
  | 0x051 => rowsParterre0
  | 0x060 => rowsMemctl0
  | 0x070 => rowsHport0
  | 0x072 => rowsGct0
  | 0x073 => rowsRoce0
  | 0x080 => rowsDma0
  | 0x090 => rowsCrypto0 ++ rowsCrypto1
  | 0x0A0 => rowsWtier0
  | 0xFFF => rowsCommon0
  | _ => []

end Sys2Proof.Machine
end

