-- ==== Sys2Proof/Machine/State.lean ====
section
/-! DEFINITION. The state of the block: everything the spec gives a Grenys G2 module, as plain data; the reasons a step can stop; the state right after reset. -/
namespace Sys2Proof.Machine

/-- Why the machine stops with a fault. -/
inductive Fault
  /-- Raised where the user breaks a limit the module assumes of its environment, and no detecting rule prescribes
  an action (R3, R611, R617): the spec says the behaviour is not defined. Safe: the model stops. -/
  | outsideLimits
  deriving DecidableEq, Repr

/-- Why a command has no meaning in the model. -/
inductive Refusal
  /-- The command's arm of the dispatcher has no meaning yet. Safe: the model stops. -/
  | notModelled (mnemonic : String)
  deriving DecidableEq, Repr

/-- Everything of the device that power keeps alive, and the module's identity. -/
structure Dev where
  modl : Module
  power : Power
  belv : Belv
  time : Time
  regs : SMap W32
  sels : SMap W32
  latch : SMap W32
  snaps : SMap (List Byte)
  alertN : Bool
  pavs : List Pav
  ctxs : SMap Ctx
  plots : SMap Plot
  steps : SMap StepCtl
  lastSteps : SMap StepCtl
  kctx : SMap KCtx
  seqs : SMap SeqEntry
  rings : SMap Ring
  accts : SMap Account
  remote : List RemoteHold
  keys : SMap KeySlot
  lpddr : Mem
  burstKey : SMap Nat
  dramBad : List Nat
  pageBad : List Nat                   -- page map entries held uncorrectable (R274)
  pages : SMap PageEntry
  memctl : List MemCtl
  regions : SMap Region
  backing : SMap (Nat × Mem)           -- by 32 * region + pavilion: serial of the key, plaintext (R259)
  inPlace : List (Nat × Nat)
  fencePrev : SMap Nat                 -- FENCE_MAP words as this tick began, by word, where it has written them (R311)
  tickEnd : List TickAct               -- commands that take effect as their tick ends (R257, R277)
  shards : SMap Shard
  shardKeys : List ShardKey
  pubKeys : List PubKey
  jobs : SMap Job
  xfers : List Xfer
  serial : Nat
  tagGen : SMap Nat
  trackers : SMap Tracker
  arrivals : List Arrival
  unconf : List Unconf
  inject : List Packet
  eject : List Packet
  router : Router
  ports : List Port
  conns : SMap Conn
  sess : SMap Sess
  links : SMap Nat
  qps : SMap Qp
  mrs : SMap Mr
  hports : List HPort
  ptp : Ptp
  rf : SMap RfSess
  rfPush : Nat
  rfSse : Nat
  logins : SMap Nat
  lockedAt : SMap Nat
  clearRun : Option ClearRun
  log : Log
  recov : Recov
  out : List Out
  free : Nat
  deriving DecidableEq, Repr

/-- The whole state: what outlives power, the device, and the commands waiting, first in, first out. -/
structure State where
  nv : NonVol
  dev : Dev
  pending : List Instr
  deriving DecidableEq, Repr

/-- The power state right after a power-up reset: PWR_EN and PWR_GOOD high, domain 23 ON, the device in ROM (R612,
R613, R618). -/
def Power.reset : Power where
  en := true
  good := true
  enAt := 0
  offAt := 0
  everOn := false
  lockout := false
  phase := .rom
  goodAt := 0
  phaseAt := 0
  refOk := true
  refSince := 0
  domains := 2 ^ 23
  tripped := false
  fatal := false
  state := 0
  hp := 0
  ht := 0
  hc := 0
  holds := []
  capRun := 0
  warned := false
  inputBad := false
  win := ⟨false, 450, 100⟩
  temps := []
  invalid := 0
  overMax := false
  inputPower := 0
  inputVolt := 0
  domPower := []
  initLeft := 0
  cleared := 0

/-- Belvedere at power-on: measurement registers zero (R485), nothing measured. -/
def Belv.reset : Belv where
  st := 0
  cause := 0
  restarts := []
  restartTick := 0
  load := 0
  telem := []
  telemAt := 0
  update := 0
  activating := 0
  todo := []
  target := 0
  confirmSince := 0
  slot := 0
  fallback := false
  keyUsed := 0
  bootTried := []
  verified := 0
  running := []
  udsLocked := false
  cdi := false
  alias_ := 0
  devKeyLocked := false
  mrs := List.replicate 16 (List.replicate 48 0)
  mlog := []
  restartSince := 0

/-- The time domain right after power-up: the PLL locked, the counter at 0 (R372), SYNC_STATE FREE (R380). -/
def Time.reset : Time where
  count := 0
  elapsed := 0
  everLocked := true
  locked := true
  holdover := false
  holdSince := 0
  expired := false
  sync := 0
  upstream := none
  good := 0
  offset := 0
  rate := 0
  freq := 0
  launch := 0
  launchLate := false
  launchCtx := 0
  launchAt := 0
  launchTick := 0

/-- The router at reset: bank 0 active, epoch 0, nothing armed (R299, R309, R320). -/
def Router.reset : Router where
  entries := []
  active := 0
  epoch := 0
  oldEpoch := 0
  retained := false
  retainedSince := 0
  armed := none
  combine := []
  sched := []
  demoted := []
  recentLeft := []

/-- A memory controller whose PHY is OFF. -/
def MemCtl.off (populated : Bool) : MemCtl where
  populated := populated
  phy := 0
  attempts := 0
  chanOk := 0
  chanBad := 0
  lastMs := 0
  margins := [0, 0, 0, 0]
  temp := 0
  doubled := false
  quick := false
  planRun := 0
  eccAddr := 0

/-- The empty log. -/
def Log.empty : Log := ⟨0, 0, false, [], [], 0, [], [], 0, (0, 0), []⟩

/-- Bells, canary and shadow at reset. -/
def Recov.reset : Recov where
  bellId := 0
  seen := []
  fate := []
  canaryAt := 0
  canaryDue := false
  canaryStat := 0
  following := false
  promoteAt := none
  digestPos := 0

/-- Does a module populate package `n` (R4, R6)? -/
def Module.populated (m : Module) (n : Nat) : Bool := if m.code = 2 then decide (n < 8) else decide (n < 16)

/-- Is a pavilion fused (R7)? -/
def Module.fused (m : Module) (pav : Nat) : Bool :=
  match m.fusedPair with
  | some k => decide (pav / 2 = k)
  | none => false

/-- A device of a module right after a power-up, in ROM. -/
def Dev.powerUp (m : Module) : Dev where
  modl := m
  power := Power.reset
  belv := Belv.reset
  time := Time.reset
  regs := []
  sels := []
  latch := []
  snaps := []
  alertN := false
  pavs := (List.range 32).map (fun n => Pav.off (m.fused n))
  ctxs := []
  plots := []
  steps := []
  lastSteps := []
  kctx := []
  seqs := []
  rings := []
  accts := []
  remote := []
  keys := []
  lpddr := []
  burstKey := []
  dramBad := []
  pageBad := []
  fencePrev := []
  tickEnd := []
  pages := []
  memctl := (List.range 16).map (fun n => MemCtl.off (m.populated n))
  regions := []
  backing := []
  inPlace := []
  shards := []
  shardKeys := []
  pubKeys := []
  jobs := []
  xfers := []
  serial := 0
  tagGen := []
  trackers := []
  arrivals := []
  unconf := []
  inject := []
  eject := []
  router := Router.reset
  ports := List.replicate 12 Port.off
  conns := []
  sess := []
  links := []
  qps := []
  mrs := []
  hports := List.replicate 2 HPort.down
  ptp := ⟨0, false, 0, 0, 0⟩
  rf := []
  rfPush := 0
  rfSse := 0
  logins := []
  lockedAt := []
  clearRun := none
  log := Log.empty
  recov := Recov.reset
  out := []
  free := 0

/-- A component as shipped: security version 0, signed with key 0. Digests are a choice of the model (log entry 3). -/
def Comp.shipped (k : Nat) : Comp := ⟨List.replicate 48 (BitVec.ofNat 8 k), 0, 1, true⟩

/-- What a module as shipped keeps without power: no key revoked, every counter 0, DEBUG_LOCK blown, slot A active and
confirmed, one account (R480, R481, R493). -/
def NonVol.shipped : NonVol where
  uds := 0
  keyHash := [1, 2, 3, 4]
  keyRevoked := 0
  svn := List.replicate 8 0
  debugLock := true
  slots := [⟨true, (List.range 8).map Comp.shipped⟩, ⟨false, []⟩]
  desc := [⟨true, 1, 0, false⟩, ⟨true, 0, 0, false⟩]
  devCert := List.replicate 48 0
  serverCert := false
  accounts := [(0, ⟨true, .admin, true⟩)]
  anchors := []
  delegation := 0

/-- The module of the reset state: ZG2-A512, stepping A1 (log entry 3). -/
def Module.a512 : Module where
  code := 1
  stepB := false
  revision := 0
  serial := 0
  macBase := 0
  fusedPair := none
  slotId := 127

/-- The machine right after a power-up reset. -/
def State.reset : State where
  nv := NonVol.shipped
  dev := Dev.powerUp Module.a512
  pending := []

end Sys2Proof.Machine
end

