-- ==== Sys2Proof/Machine/Ops.lean ====
section
/-! DEFINITION. The named operations over the state: registers of the window and their counters, identities, plots and contexts, free values, and the recording of a fault (R502, R503, R595, R596). -/
namespace Sys2Proof.Machine

/-- The number of a register in the register store: page, offset, and the item a selector names (its bank). -/
def rk (page off bank : Nat) : Nat := (bank * 4096 + page) * 4096 + off

/-- The first page of the block a page belongs to (R593, R594); none for a page absent from the page index. -/
def blockOf (page : Nat) : Option Nat :=
  if page ≤ 0x00A then some page
  else if 0x010 ≤ page ∧ page ≤ 0x02F then some 0x010
  else if 0x040 ≤ page ∧ page ≤ 0x04B then some 0x040
  else if page = 0x050 ∨ page = 0x051 then some page
  else if 0x060 ≤ page ∧ page ≤ 0x06F then some 0x060
  else if page = 0x070 ∨ page = 0x071 then some 0x070
  else if page = 0x072 ∨ page = 0x073 ∨ page = 0x080 ∨ page = 0x090 ∨ page = 0x0A0 then some page
  else none

/-- The row of a register table at an offset. -/
def rowAt (rows : List RegRow) (off : Nat) : Option RegRow := rows.find? (fun r => decide (r.lo ≤ off) && decide (off ≤ r.hi))

/-- The row of the register at a page and offset: the common layout below 0x040, the block's own rows above. -/
def regRow (page off : Nat) : Option RegRow :=
  match blockOf page with
  | none => none
  | some b => if off < 0x040 then rowAt (regRows 0xFFF) off else rowAt (regRows b) off

/-- Fault classes (R498). -/
inductive FaultClass
  | none | c | d | f | x
  deriving DecidableEq, Repr

/-- The code of a class in a log entry (R503). -/
def FaultClass.code : FaultClass → Nat
  | .none => 0 | .c => 1 | .d => 2 | .f => 3 | .x => 4

/-- The class each defined ERR_STATUS bit raises (R37, R93, R248, R282, R321, R354, R387, R437, R496, R527, R552, R580,
R603, R610); none where the bit is reserved. -/
def errClass (block bit : Nat) : Option FaultClass :=
  let row : List (Option FaultClass) :=
    match block with
    | 0x000 => [some .none, some .none]
    | 0x001 => [some .none, some .none, some .none, some .none]
    | 0x002 => [some .none, some .none, some .f, some .d, some .none, some .none]
    | 0x003 => [some .none, some .none, some .none, some .none, some .none, some .none, some .c, some .d, some .none]
    | 0x004 => [some .c, some .c, some .x, some .c, some .none, some .none, some .f, some .d]
    | 0x005 => [some .d, some .d, some .none]
    | 0x006 => [some .c, some .f, some .x, some .c, some .c, some .none]
    | 0x007 => [some .none, some .c, some .c]
    | 0x008 => [some .none, some .none, some .none, some .d, some .none, some .none, some .none, some .none]
    | 0x009 => [some .none, some .none]
    | 0x010 => [some .d, some .d, some .c, some .d, some .d, some .d, some .c, some .d, some .c]
    | 0x040 => [some .c, some .c, some .none, some .f, some .c, some .f, some .none]
    | 0x050 => [some .none, some .none, some .c, some .none, some .none]
    | 0x051 => [some .none, some .none, some .none, some .none, some .none, some .none]
    | 0x060 => [some .c, some .d, some .none]
    | 0x070 => [some .none, some .none, some .none, some .none]
    | 0x072 => [some .none, some .none]
    | 0x073 => [some .none, some .none]
    | 0x080 => [some .d, some .c, some .d]
    | 0x090 => [some .none, some .none]
    | 0x0A0 => [some .c, some .d, some .none, some .none]
    | _ => []
  if block = 0 then
    match bit with
    | 16 => some .none | 17 => some .f | 18 => some .d | 19 => some .d | 20 => some .x | 21 => some .none | 22 => some .none
    | _ => nthD row bit none
  else nthD row bit none

/-- The defined ERR_STATUS bits of a block; ERR_MASK and INT_ENABLE have the same (R10, R496). -/
def errBits (block : Nat) : Nat := ((List.range 32).filter (fun b => (errClass block b).isSome)).foldl (fun s b => s + 2 ^ b) 0

/-- INT_ENABLE at reset: the bits that raise class D, F or X (R594). -/
def intEnableReset (block : Nat) : Nat :=
  ((List.range 32).filter (fun b => match errClass block b with
    | some .d | some .f | some .x => true
    | _ => false)).foldl (fun s b => s + 2 ^ b) 0

/-- QRULE_CFG at reset, by rule (R524): rules 0 to 4 enabled, 5 to 15 disabled. -/
def qruleReset (rule : Nat) : Nat :=
  let f (src act unit cnt win : Nat) : Nat := src + 16 + 32 * act + 128 * unit + 256 * cnt + 2 ^ 20 * win
  match rule with
  | 0 => f 1 2 1 3 1440
  | 1 => f 2 2 1 2 1440
  | 2 => f 3 2 1 2 1440
  | 3 => f 4 2 1 1 1
  | 4 => f 5 1 0 1000 1
  | _ => 0

/-- The value a register holds before anything has written it. -/
def regReset (page off bank : Nat) : Nat :=
  match blockOf page with
  | none => 0
  | some b =>
    if off = 0x02C then intEnableReset b
    else if b = 0 ∧ off = 0x864 then qruleReset bank
    else match regRow page off with
      | some r => if r.pair && off != r.lo then 0 else r.reset
      | none => 0

/-- A stored register. -/
def Dev.rg (d : Dev) (page off bank : Nat) : W32 := d.regs.get (rk page off bank) (BitVec.ofNat 32 (regReset page off bank))

/-- A stored register as a number. -/
def Dev.rgN (d : Dev) (page off bank : Nat) : Nat := (d.rg page off bank).toNat

/-- A stored 64-bit register, low word at `off`. -/
def Dev.rg64 (d : Dev) (page off bank : Nat) : Nat := d.rgN page off bank + 2 ^ 32 * d.rgN page (off + 4) bank

/-- The device with a stored register set. -/
def Dev.setRg (d : Dev) (page off bank : Nat) (v : W32) : Dev := { d with regs := d.regs.put (rk page off bank) v }

/-- The device with a stored register set to a number. -/
def Dev.setN (d : Dev) (page off bank v : Nat) : Dev := d.setRg page off bank (BitVec.ofNat 32 v)

/-- The device with both words of a stored 64-bit register set. -/
def Dev.set64 (d : Dev) (page off bank v : Nat) : Dev :=
  (d.setN page off bank (v % 2 ^ 32)).setN page (off + 4) bank (v / 2 ^ 32)

/-- The bank of a page's common registers: the STEP page has one instance for each plot (R35). -/
def Dev.countB (d : Dev) (page off bank n : Nat) : Dev :=
  if n = 0 ∨ bitN (d.rgN page 0x010 bank) 0 then d
  else d.setN page off bank (satAdd 32 (d.rgN page off bank) n)

/-- A page counter advanced; it saturates, and stands still while CTRL.FREEZE is 1 (R9, R594, R600). -/
def Dev.count (d : Dev) (page off n : Nat) : Dev := d.countB page off 0 n

/-- The PAVILION page of a pavilion (R90), the FPORT page of a port (R353), the MEMCTL page of a controller. -/
def pavPage (n : Nat) : Nat := 0x010 + n
def portPage (n : Nat) : Nat := 0x040 + n
def mcPage (n : Nat) : Nat := 0x060 + n

/-- A draw of a free value: the counter's value, and the device with the counter advanced. -/
def Dev.draw (d : Dev) : Nat × Dev := (d.free, { d with free := d.free + 1 })

/-- The device with a message sent. -/
def Dev.emit (d : Dev) (o : Out) : Dev := { d with out := d.out ++ [o] }

/-- A pavilion, its plain update, and its update by a function. -/
def Dev.pav (d : Dev) (n : Nat) : Pav := nthD d.pavs n (Pav.off true)
def Dev.setPav (d : Dev) (n : Nat) (p : Pav) : Dev := { d with pavs := setAt d.pavs n p }
def Dev.onPav (d : Dev) (n : Nat) (f : Pav → Pav) : Dev := d.setPav n (f (d.pav n))

/-- A context, a plot, a step controller, and their updates. -/
def Dev.ctx (d : Dev) (c : Nat) : Ctx := d.ctxs.get c Ctx.free
def Dev.setCtx (d : Dev) (c : Nat) (x : Ctx) : Dev := { d with ctxs := d.ctxs.put c x }
def Dev.onCtx (d : Dev) (c : Nat) (f : Ctx → Ctx) : Dev := d.setCtx c (f (d.ctx c))
def Dev.plot (d : Dev) (p : Nat) : Plot := d.plots.get p Plot.free
def Dev.setPlot (d : Dev) (p : Nat) (x : Plot) : Dev := { d with plots := d.plots.put p x }
def Dev.onPlot (d : Dev) (p : Nat) (f : Plot → Plot) : Dev := d.setPlot p (f (d.plot p))
def Dev.step (d : Dev) (p : Nat) : StepCtl := d.steps.get p StepCtl.idle
def Dev.setStep (d : Dev) (p : Nat) (x : StepCtl) : Dev := { d with steps := d.steps.put p x }
def Dev.onStep (d : Dev) (p : Nat) (f : StepCtl → StepCtl) : Dev := d.setStep p (f (d.step p))
def Dev.key (d : Dev) (p : Nat) : KeySlot := d.keys.get p ⟨false, 0, 0, []⟩
def Dev.port (d : Dev) (n : Nat) : Port := nthD d.ports n Port.off
def Dev.setPort (d : Dev) (n : Nat) (p : Port) : Dev := { d with ports := setAt d.ports n p }
def Dev.onPort (d : Dev) (n : Nat) (f : Port → Port) : Dev := d.setPort n (f (d.port n))
def Dev.mc (d : Dev) (n : Nat) : MemCtl := nthD d.memctl n (MemCtl.off false)
def Dev.onMc (d : Dev) (n : Nat) (f : MemCtl → MemCtl) : Dev := { d with memctl := setAt d.memctl n (f (d.mc n)) }
def Dev.hport (d : Dev) (n : Nat) : HPort := nthD d.hports n HPort.down
def Dev.onHport (d : Dev) (n : Nat) (f : HPort → HPort) : Dev := { d with hports := setAt d.hports n (f (d.hport n)) }
def Dev.conn (d : Dev) (n : Nat) : Conn := d.conns.get n Conn.free
def Dev.setConn (d : Dev) (n : Nat) (c : Conn) : Dev := { d with conns := d.conns.put n c }
def Dev.onConn (d : Dev) (n : Nat) (f : Conn → Conn) : Dev := d.setConn n (f (d.conn n))
def Dev.qp (d : Dev) (n : Nat) : Qp := d.qps.get n Qp.reset
def Dev.onQp (d : Dev) (n : Nat) (f : Qp → Qp) : Dev := { d with qps := d.qps.put n (f (d.qp n)) }
def Dev.region (d : Dev) (n : Nat) : Region := d.regions.get n Region.free
def Dev.setRegion (d : Dev) (n : Nat) (r : Region) : Dev := { d with regions := d.regions.put n r }
def Dev.ring (d : Dev) (n : Nat) : Ring := d.rings.get n ⟨false, 0, 0, 0⟩
def Dev.setRing (d : Dev) (n : Nat) (r : Ring) : Dev := { d with rings := d.rings.put n r }
def Dev.kc (d : Dev) (c : Nat) : KCtx := d.kctx.get c KCtx.init
def Dev.setKc (d : Dev) (c : Nat) (k : KCtx) : Dev := { d with kctx := d.kctx.put c k }
def Dev.onKc (d : Dev) (c : Nat) (f : KCtx → KCtx) : Dev := d.setKc c (f (d.kc c))

/-- A context without a set that can run: every request it has is aborted at the next commit point, also where a set can run
again by then (R238, R413). -/
def Dev.abortAll (d : Dev) (c : Nat) : Dev :=
  let is := (d.seqs.filter (fun e => e.2.ctx = c && e.2.st ≠ .free)).map (·.1)
  if is.isEmpty then d else d.onKc c (fun k => { k with aborts := k.aborts ++ is.filter (fun i => !k.aborts.contains i) })
def Dev.seq (d : Dev) (n : Nat) : SeqEntry := d.seqs.get n SeqEntry.free
def Dev.setSeq (d : Dev) (n : Nat) (e : SeqEntry) : Dev := { d with seqs := d.seqs.put n e }
def Dev.job (d : Dev) (n : Nat) : Job := d.jobs.get n Job.free
def Dev.setJob (d : Dev) (n : Nat) (j : Job) : Dev := { d with jobs := d.jobs.put n j }

/-- The device's number (R284), and whether it is valid. -/
def Dev.number (d : Dev) : Nat := bitsN (d.rgN 0x051 0x400 0) 0 12
def Dev.numberValid (d : Dev) : Bool := bitN (d.rgN 0x051 0x400 0) 12

/-- SHADOW_CFG (R516, R526): partner, validity, and whether this device is the shadow. -/
def Dev.shadowValid (d : Dev) : Bool := bitN (d.rgN 0x000 0x820 0) 12
def Dev.shadowPartner (d : Dev) : Nat := bitsN (d.rgN 0x000 0x820 0) 0 12
def Dev.isShadow (d : Dev) : Bool := d.shadowValid && bitN (d.rgN 0x000 0x820 0) 13

/-- The role as DEVICE.ROLE reads (R602). -/
def Dev.role (d : Dev) : Nat := if d.isShadow then 3 else bitsN (d.rgN 0x000 0x410 0) 0 2

/-- Is this device the manager (R378)? -/
def Dev.isManager (d : Dev) : Bool := d.role = 0

/-- Ticks of a microsecond, a millisecond and a second (R372). -/
def ticksUs : Nat := 1000
def ticksMs : Nat := 1000000
def ticksS : Nat := 1000000000

/-- The stall timeout in ticks (R368). -/
def Dev.stallTicks (d : Dev) : Nat := ticksUs * d.rgN 0x004 0x414 0

/-- Tenancy (R466): is the mode PLOTS? -/
def Dev.plotsMode (d : Dev) : Bool := bitN (d.rgN 0x008 0x400 0) 0

/-- A word of a plot's descriptor (R465). -/
def Plot.word (p : Plot) (k : Nat) : Nat := (nthD p.desc k 0).toNat

/-- The pairs and packages a plot owns (R463). -/
def Plot.pairs (p : Plot) : Nat := bitsN (p.word 0) 0 16
def Plot.packages (p : Plot) : Nat := bitsN (p.word 0) 16 16

/-- The ranges of a plot: first item and count (R463, R465). -/
def Plot.ctxRange (p : Plot) : Nat × Nat := (bitsN (p.word 1) 0 8, bitsN (p.word 1) 8 9)
def Plot.ringRange (p : Plot) : Nat × Nat := (bitsN (p.word 2) 0 15, bitsN (p.word 2) 15 16)
def Plot.acctRange (p : Plot) : Nat × Nat := (bitsN (p.word 3) 0 16, bitsN (p.word 4) 0 17)
def Plot.trkRange (p : Plot) : Nat × Nat := (bitsN (p.word 5) 0 16, bitsN (p.word 6) 0 17)
def Plot.seqRange (p : Plot) : Nat × Nat := (bitsN (p.word 7) 0 18, bitsN (p.word 8) 0 18 + 1 - bitsN (p.word 7) 0 18)
def Plot.descRange (p : Plot) : Nat × Nat := (bitsN (p.word 9) 0 10, bitsN (p.word 9) 10 11)
def Plot.qpRange (p : Plot) : Nat × Nat := (bitsN (p.word 10) 0 11, bitsN (p.word 10) 11 12)
def Plot.sysPages (p : Plot) : Nat := bitsN (p.word 11) 0 21
def Plot.operatorKeys (p : Plot) : Bool := bitN (p.word 12) 0

/-- Does a range hold an item? -/
def inRange (r : Nat × Nat) (k : Nat) : Bool := decide (r.1 ≤ k) && decide (k < r.1 + r.2)

/-- The pairs a mask of pavilions touches, and the pavilions of a pair mask. -/
def pavsOfPairs (mask : Nat) : List Nat := (bitList mask 16).flatMap (fun k => [2 * k, 2 * k + 1])

/-- The plots that are not FREE. -/
def Dev.livePlots (d : Dev) : List Nat := (List.range 16).filter (fun p => (d.plot p).st ≠ 0)

/-- The plot that owns an item, by a predicate on the plot. -/
def Dev.ownerOf (d : Dev) (f : Plot → Bool) : Option Nat := d.livePlots.find? (fun p => f (d.plot p))

/-- The plot that owns a pavilion, a package, a context, a ring, a tracker. -/
def Dev.pavPlot (d : Dev) (n : Nat) : Option Nat := d.ownerOf (fun p => bitN p.pairs (n / 2))
def Dev.pkgPlot (d : Dev) (n : Nat) : Option Nat := d.ownerOf (fun p => bitN p.packages n)
def Dev.ctxPlot (d : Dev) (c : Nat) : Option Nat := d.ownerOf (fun p => inRange p.ctxRange c)
def Dev.ringPlot (d : Dev) (n : Nat) : Option Nat := d.ownerOf (fun p => inRange p.ringRange n)
def Dev.trkPlot (d : Dev) (n : Nat) : Option Nat := d.ownerOf (fun p => inRange p.trkRange n)

/-- The lowest-numbered package of a plot, which holds its system pages (R463). -/
def Plot.sysPackage (p : Plot) : Nat := ((bitList p.packages 16).head?).getD 0

/-- Does a range of LPDDR5X offsets lie in a plot's system pages (R469)? A range of length 0 always does. -/
def Plot.inSystem (p : Plot) (off len : Nat) : Bool :=
  len = 0 ||
    (let base := p.sysPackage * 2 ^ 35
     decide (base ≤ off) && decide (off + len ≤ base + p.sysPages * 32768))

/-- The fields of a global address (R285): device, space, offset. -/
def gaDev (a : Nat) : Nat := bitsN a 52 12
def gaSpace (a : Nat) : Nat := bitsN a 48 4
def gaOff (a : Nat) : Nat := bitsN a 0 48

/-- A global address of this device's LPDDR5X as an offset of space 2. -/
def Dev.localMem (d : Dev) (a : Nat) : Option Nat :=
  if gaDev a = d.number ∧ gaSpace a = 2 ∧ gaOff a < 2 ^ 39 then some (gaOff a) else none

/-- Does any context hold a bundle (R218)? -/
def Ctx.holdsBundle (c : Ctx) : Bool := c.active.isSome || c.staged.st ≠ 0
def Dev.anyBundle (d : Dev) : Bool := d.ctxs.any (fun e => e.2.holdsBundle)

/-- Is a bundle's MULTI_DEVICE, its USES_V, set (R213)? -/
def Bundle.multi (b : Bundle) : Bool := bitN b.hdr.flags 0
def Bundle.usesV (b : Bundle) : Bool := bitN b.hdr.flags 1
def Ctx.multi (c : Ctx) : Bool := match c.active with
  | some b => b.multi
  | none => false

/-- DEVICE.DEV_STATE (R601, R613). -/
def Dev.devState (d : Dev) : Nat :=
  if d.power.fatal then 6
  else match d.power.phase with
    | .calibrate => 3
    | .live => if d.ctxs.any (fun e => e.2.active.isSome) then 5 else 4
    | .rest => 7
    | _ => 2

/-- Is power good and the device past its ROM, so that its blocks work? -/
def Dev.powered (d : Dev) : Bool := d.power.good && d.power.phase ≠ .off && d.power.phase ≠ .waiting

/-- What almost every command is: a function of the device, which does nothing while the device has no power
(log entry 2). -/
def onDev (f : Dev → Dev) (s : State) : Host.Outcome State Fault Refusal :=
  .next (if s.dev.powered then { s with dev := f s.dev } else s)

/-- The commands that say that a timer has run out. -/
def Instr.isTimer : Instr → Bool
  | .stallTimeout _ | .completionTimer _ _ | .xferTimeout _ | .arrivalReap _ _ | .ackTimer _ | .replayTimer _
  | .graceExpiry _ | .bringupPhaseTimeout _ | .initRepeat _ | .exchangeLost _ | .handshakeTimeout _ _
  | .holdoverExpiry | .heartbeatTimeout _ | .verdictTimeout _ | .confirmWindowExpiry | .gctIdleTimeout _
  | .gctAlertRetx _ _ | .rdmaAckTimeout _ | .redfishSessionTimeout _ | .remoteParkExpiry _ _ | .pwrGoodTimeout => true
  | _ => false

/-- What a timer adds to its limit (R26): in the tick of its limit an awaited event wins, so a timer whose command comes while
other events of that tick still wait in the queue runs out in the next tick (log entry 166). -/
def State.tie (s : State) : Nat := if s.pending.all Instr.isTimer then 0 else 1

/-- A function of a timer applied to the device. -/
def onTimer (f : Nat → Dev → Dev) (s : State) : Host.Outcome State Fault Refusal := onDev (f s.tie) s

/-- A function of the device applied where a condition holds; where it does not hold the event has not happened and
nothing changes (log entry 2). -/
def Dev.when (d : Dev) (c : Bool) (f : Dev → Dev) : Dev := if c then f d else d

/-- A place where a fault was found, for its log entry (R503, R504). -/
structure Where where
  pav : Option Nat
  plot : Option Nat
  locus : Nat
  locus2 : Nat
  flags : Nat
  deriving DecidableEq, Repr

/-- No particular place. -/
def Where.none : Where := ⟨.none, .none, 0, 0, 0⟩

/-- The pavilion a log entry describes: the source, else the hottest of the plot's running group, else the hottest
pavilion whose pair is ON (R503). -/
def Dev.entryPav (d : Dev) (w : Where) : Option (Nat × Bool) :=
  let hottest (l : List Nat) : Option Nat := l.foldl (fun (b : Option Nat) n => match b with
    | .none => some n
    | some m => if d.power.temps.get m 0 < d.power.temps.get n 0 then some n else some m) .none
  match w.pav with
  | some n => some (n, true)
  | .none =>
    let grp := match w.plot with
      | some p => if (d.step p).running then bitList (d.step p).group 32 else []
      | .none => []
    match hottest grp with
    | some n => some (n, true)
    | .none => (hottest ((List.range 32).filter (fun n => bitN d.power.domains (n / 2)))).map (fun n => (n, false))

/-- The lowest current margin of a pavilion's monitors (R389, R503). -/
def Dev.marginNow (d : Dev) (n : Nat) : Nat :=
  (List.range 8).foldl (fun m k => min m (bitsN (d.rgN (pavPage n) (0x620 + 4 * k) 0) 0 6)) 63

/-- The running context of a plot (R15, R35, R477): that of its step, else that of the current slice, and with no calendar its
lowest-numbered CREATED context. -/
def Dev.runningCtx (d : Dev) (p : Nat) : Option Nat :=
  let sc := d.step p
  if sc.running then some sc.ctx
  else match (d.plot p).running, (d.plot p).slice with
    | none, _ => ((d.ctxs.filter (fun e => e.2.plot = p && e.2.st = 1)).map (·.1)).head?
    | some _, some (c, _) => some c
    | some _, none => (d.plot p).resident

/-- STEP_NUMBER (R35): the steps that the running context of a plot has completed. -/
def Dev.stepsDone (d : Dev) (p : Nat) : W64 :=
  match d.runningCtx p with
  | some c => (d.ctx c).steps
  | none => 0

/-- The step controller of a plot as its registers show it: of the running context, which may not be the one that ran last (R35). -/
def Dev.stepShown (d : Dev) (p : Nat) : StepCtl :=
  match d.runningCtx p with
  | some c => if (d.step p).ctx = c then d.step p else d.lastSteps.get c StepCtl.idle
  | none => d.step p

/-- The pages whose FAULT entries carry a LOCUS (R504): DEVICE, STEP, the pavilions, the ports, the memory controllers, DMA, WTIER. -/
def locusPage (page : Nat) : Bool :=
  let within (lo hi : Nat) : Bool := decide (lo ≤ page) && decide (page ≤ hi)
  page = 0x000 || page = 0x005 || within 0x010 0x02F || within 0x040 0x04B || within 0x060 0x06F || page = 0x080 || page = 0x0A0

/-- The log entry of a fault (R503). -/
def Dev.faultEntry (d : Dev) (page bit : Nat) (cls : FaultClass) (alert : Bool) (w : Where) : LogEntry :=
  let p := match w.plot with
    | some q => some q
    | .none => match w.pav with
      | some n => d.pavPlot n
      | .none => .none
  let sc := match p with
    | some q => d.step q
    | .none => StepCtl.idle
  let ep := d.entryPav { w with plot := p }
  { tick := d.time.count, seq := 0, typ := 1, cls := cls.code, bit := bit, page := page, aux := 0, plot := p.getD 0,
    ctx := if sc.running then sc.ctx else 0, device := d.number, role := d.role,
    step := match p with
      | some q => d.stepsDone q
      | .none => 0,
    beat := match w.pav with
      | some n => (d.pav n).cycle / 256
      | .none => sc.beat,
    locus := if locusPage page then w.locus else 0,
    temp := match ep with
      | some e => d.power.temps.get e.1 0
      | .none => 0,
    volt := match ep with
      | some e => (d.power.domPower.get (e.1 / 2) (0, 0)).2
      | .none => 0,
    stretch := match ep with
      | some (n, true) => (d.pav n).stretched
      | _ => 0,
    margin := match ep with
      | some (n, true) => (d.pav n).minMargin
      | some (n, false) => d.marginNow n
      | .none => 0,
    flags := (if alert then 1 else 0) + w.flags + (if sc.canary then 4 else 0) + (if d.isShadow then 8 else 0)
      + (if sc.varExec then 16 else 0) + (if d.numberValid then 32 else 0),
    locus2 := if locusPage page then w.locus2 else 0, members := [] }

/-- An entry put into the hardware log queue of 256; a full queue drops it (R548, R610). -/
def Dev.logPush (d : Dev) (e : LogEntry) : Dev :=
  if d.log.queue.length < 256 then { d with log := { d.log with queue := d.log.queue ++ [e] } }
  else
    let d1 := { d with log := { d.log with lost := d.log.lost + 1 } }
    (d1.setN 0x009 0x018 0 (d1.rgN 0x009 0x018 0 ||| 1)).count 0x009 0x104 1

/-- A NOTICE entry (R503, R520, R523). -/
def Dev.notice (d : Dev) (page bit : Nat) (w : Where) : Dev :=
  d.logPush { d.faultEntry page bit .none false w with typ := 4 }

/-- ALERT_N as the pages' INT_STATUS and INT_ENABLE make it (R596). A stored INT_STATUS is the only one that can hold a
bit. -/
def Dev.alertWanted (d : Dev) : Bool :=
  d.regs.any (fun e =>
    e.1 % 4096 = 0x028 && (e.2.toNat &&& d.rgN (e.1 / 4096 % 4096) 0x02C (e.1 / 4096 / 4096)) ≠ 0)

/-- ALERT_N asserted where a bit wants it; an assertion counts in DEVICE.ALERTS (R596, R604). -/
def Dev.alertUpdate (d : Dev) : Dev :=
  if d.alertWanted && !d.alertN then ({ d with alertN := true }).count 0x000 0x110 1 else d

/-- ALERT_N as the next tick begins (R596): it deasserts where no bit wants it any more. -/
def Dev.alertDrop (d : Dev) : Dev := { d with alertN := d.alertN && d.alertWanted }

/-- Has an ERR_STATUS that was entirely 0 taken its first fault in this tick, with a higher bit than this one (R595)? -/
def Dev.firstNow (d : Dev) (page bank bit : Nat) : Bool :=
  bitN (d.rgN page 0x020 bank) 31 && decide (d.rg64 page 0x038 bank = d.time.count.toNat) && decide (bit < d.rgN page 0x020 bank % 32)

/-- What the detection of a fault records, its class consequence apart (R502, R595, R596): the ERR_STATUS bit, ERR_FIRST
and ERR_TIME in an ERR_STATUS that was 0, the lowest bit of one tick, and, unless ERR_MASK holds the bit, INT_STATUS, a log entry, and the alert, which `send`
sends. For class C the log takes one entry per bit and page in each millisecond. -/
def Dev.recordRaw (d : Dev) (page bank bit : Nat) (cls : FaultClass) (injected : Bool) (w : Where) (send : Dev → Dev) : Dev :=
  let st := d.rgN page 0x018 bank
  let d1 := if st = 0 then
      (d.setN page 0x020 bank (bit + (if injected then 256 else 0) + 2 ^ 31)).set64 page 0x038 bank d.time.count.toNat
    else if d.firstNow page bank bit then d.setN page 0x020 bank (bit + (if injected then 256 else 0) + 2 ^ 31)
    else d
  let d2 := d1.setN page 0x018 bank (st ||| 2 ^ bit)
  if bitN (d2.rgN page 0x01C bank) bit then d2
  else
    let int := d2.rgN page 0x028 bank
    let newly := !bitN int bit && bitN (d2.rgN page 0x02C bank) bit
    let d3 := (d2.setN page 0x028 bank (int ||| 2 ^ bit)).alertUpdate
    let d4 := if newly then send d3 else d3
    let key := (page * 16 + bank) * 32 + bit
    let ms := d4.time.elapsed / ticksMs + 1
    if cls = .c ∧ d4.log.lastC.get key 0 = ms then d4.count 0x009 0x108 1
    else
      let d5 := if cls = .c then { d4 with log := { d4.log with lastC := d4.log.lastC.put key ms } } else d4
      d5.logPush (d5.faultEntry page bit cls newly w)

/-- Frames sent on a logical interface (R557, R581): counted; under MACsec by the association in use, whose packet number advances and
which stops at 0xFFFF_FFFF where it is not extended (PN_EXHAUSTED, which no alert of this port can report). The management port,
interface 8, has neither. -/
def Dev.hostSend (d : Dev) (iface frames : Nat) (o : Out) : Dev :=
  let pg := 0x070 + iface / 4
  let i := iface % 4
  let h := d.hport (iface / 4)
  let cfg := d.rgN pg 0x40C i
  if 8 ≤ iface then d.emit o
  else if !bitN h.up i then d
  else if !bitN cfg 2 then (d.emit o).count pg 0x104 frames
  else match h.txAn.find i with
    | none => d
    | some an => match h.sas.find (8 * i + an) with
      | none => d
      | some sa =>
        if !bitN cfg 3 && decide (2 ^ 32 - 1 < sa.pn + frames) then d.recordRaw pg 0 1 .none false Where.none id
        else ((d.onHport (iface / 4) (fun p => { p with sas := p.sas.put (8 * i + an) { sa with pn := sa.pn + frames } })).emit o).count pg 0x104 frames

/-- A GCT alert sent to every open connection that has subscribed, and a Redfish event to its subscribers (R561, R577, R596). -/
def Dev.alertSend (d : Dev) (page bit : Nat) : Dev :=
  let send (s : Dev) (k : Nat) : Dev :=
    let c := s.conn k
    if c.open_ && c.sub then
      let n := c.alertSeq + 1
      let a : AlertOut := ⟨n, page, bit, s.time.count, s.time.elapsed, 0⟩
      (s.setConn k { c with alertSeq := n, alerts := c.alerts ++ [a] }).hostSend c.iface 1 (.gctAlert k n page bit s.time.count)
    else s
  let d1 := forEach (d.conns.map (·.1)) d send
  if 0 < d1.rfPush + d1.rfSse then d1.emit (.redfishEvent page bit) else d1

/-- The record of a fault with its alert (R502, R595, R596). -/
def Dev.recordB (d : Dev) (page bank bit : Nat) (cls : FaultClass) (injected : Bool) (w : Where) : Dev :=
  d.recordRaw page bank bit cls injected w (·.alertSend page bit)

/-- `recordB` on a page with one instance, its class from the tables. -/
def Dev.record (d : Dev) (page bit : Nat) (w : Where) : Dev :=
  d.recordB page 0 bit ((errClass ((blockOf page).getD 0xFFF) bit).getD .none) false w

end Sys2Proof.Machine
end

