-- ==== Sys2Proof/Machine/FabricOps.lean ====
section
/-! DEFINITION. Ports and packets: credits, sending on a port, notices, fences, the routing banks (R289 to R312, R334, R340 to R347). -/
namespace Sys2Proof.Machine

/-- PORT_MAP (R217). -/
def Dev.portMap (d : Dev) : Nat := bitsN (d.rgN 0x000 0x414 0) 0 12

/-- Is a port up for the router (R304, R320, R327)? -/
def Dev.portUp (d : Dev) (n : Nat) : Bool := (d.port n).st = .up && bitN d.portMap n

/-- The header and data credits a port has for a class (R342). -/
def Port.credH (p : Port) (tc : Nat) : Nat :=
  nthD p.advH tc 0 - (nthD p.chargedH tc 0 + 65536 - nthD p.returnedH tc 0) % 65536
def Port.credD (p : Port) (tc : Nat) : Nat :=
  nthD p.advD tc 0 - (nthD p.chargedD tc 0 + 65536 - nthD p.returnedD tc 0) % 65536

/-- Is a port busy for a packet: its replay buffer full (R340), or its class short of credits (R344)? -/
def Port.busyFor (p : Port) (tc len : Nat) : Bool :=
  decide (2048 ≤ p.replay.length) || decide (p.credH tc < 1) || decide (p.credD tc < len / 64)

/-- A list of 16-bit counts with one advanced. -/
def addAt (l : List Nat) (i n : Nat) : List Nat := setAt l i ((nthD l i 0 + n) % 65536)

/-! ### The bytes on the line -/

/-- The four words of a packet's header (R292). -/
def Packet.words4 (p : Packet) : List Nat :=
  [ p.dest + 2 ^ 12 * p.src + 2 ^ 24 * p.mid + 2 ^ 36 * p.phase.toNat + 2 ^ 37 * p.tc + 2 ^ 39 * p.typ + 2 ^ 44 * p.hops +
      2 ^ 51 * p.epoch + 2 ^ 59 * p.plan.toNat + 2 ^ 60 * p.deflected.toNat + 2 ^ 61 * p.rsv.toNat,
    p.tag + 2 ^ 16 * p.tagGen + 2 ^ 20 * p.pseq + 2 ^ 36 * p.tracker + 2 ^ 52 * p.stepGen + 2 ^ 56 * p.plot + 2 ^ 60 * p.plotGen,
    p.addr,
    p.len + 2 ^ 9 * p.pcount + 2 ^ 25 * p.contrib + 2 ^ 38 * p.xwn + 2 ^ 40 * patternN 10 p.win + 2 ^ 50 * p.aux + 2 ^ 54 * p.tree +
      2 ^ 60 * p.trkValid.toNat ]

/-- The 32 bytes of a packet's header (R292): four little-endian 64-bit words. -/
def Packet.header (p : Packet) : List Byte := p.words4.flatMap (toBytes 8)

/-- The packet that 32 header bytes and a payload spell (R292). -/
def packetOfBytes (h payload : List Byte) : Packet :=
  let w (k lo n : Nat) : Nat := bitsN (leNat ((h.drop (8 * k)).take 8)) lo n
  let b (k lo : Nat) : Bool := w k lo 1 = 1
  { dest := w 0 0 12, src := w 0 12 12, mid := w 0 24 12, phase := b 0 36, tc := w 0 37 2, typ := w 0 39 5, hops := w 0 44 7,
    epoch := w 0 51 8, plan := b 0 59, deflected := b 0 60, rsv := w 0 61 3 ≠ 0 || w 3 61 3 ≠ 0,
    tag := w 1 0 16, tagGen := w 1 16 4, pseq := w 1 20 16, tracker := w 1 36 16, stepGen := w 1 52 4, plot := w 1 56 4,
    plotGen := w 1 60 4, addr := w 2 0 64,
    len := w 3 0 9, pcount := w 3 9 16, contrib := w 3 25 13, xwn := w 3 38 2, win := signedN 10 (w 3 40 10), aux := w 3 50 4,
    tree := w 3 54 6, trkValid := b 3 60, payload := payload }

/-- One bit of the CRC-32 of IEEE 802.3 (R331), the register held with its lowest power in bit 31. -/
def crcBit (c : Nat) : Nat := if c % 2 = 1 then (c / 2) ^^^ 0xEDB88320 else c / 2

/-- The CRC-32 of IEEE 802.3 (R331): polynomial 0x04C11DB7, initial value all ones, result complemented. -/
def crc32 (bs : List Byte) : Nat :=
  (bs.foldl (fun c b => forEach (List.range 8) (c ^^^ b.toNat) (fun x _ => crcBit x)) 0xFFFFFFFF) ^^^ 0xFFFFFFFF

/-- A frame type's code (R332). -/
def FrameBody.code : FrameBody → Nat
  | .idle => 0 | .packet _ => 1 | .init _ => 2 | .initAck _ => 3

/-- Bytes 28 to 59 of an INIT or INIT_ACK frame (R333). -/
def InitBody.bytes (b : InitBody) : List Byte :=
  toBytes 2 (b.dev + 2 ^ 12 * b.port) ++ toBytes 1 b.resume.toNat ++ toBytes 1 0 ++
    (List.range 4).flatMap (fun tc => toBytes 4 (nthD b.advH tc 0 + 2 ^ 16 * nthD b.advD tc 0)) ++ toBytes 2 b.expect ++
    List.replicate 10 0

/-- What a frame carries from byte 28 on (R331, R333). -/
def FrameBody.bytes : FrameBody → List Byte
  | .idle => []
  | .packet p => p.header ++ p.payload
  | .init b => b.bytes
  | .initAck b => b.bytes

/-- The 512 bytes of a frame (R331): the link header, the packet or the INIT body, zeros to byte 507, the CRC over bytes 0 to 507. -/
def FrameOut.bytes (f : FrameOut) : List Byte :=
  let l := toBytes 4 (f.seq + 2 ^ 16 * f.ack) ++ toBytes 4 (f.body.code + 16 * f.ackValid.toNat + 32 * f.nak.toNat + 256 * f.gen) ++
    (List.range 4).flatMap (fun tc => toBytes 4 (nthD f.credH tc 0 + 2 ^ 16 * nthD f.credD tc 0)) ++ toBytes 4 0 ++ f.body.bytes
  let m := l ++ List.replicate (508 - l.length) 0
  m ++ toBytes 4 (crc32 m)

/-- Does a frame of 512 bytes pass its CRC check (R331, R335)? -/
def frameCrcOk (bs : List Byte) : Bool := leNat (bs.drop 508) = crc32 (bs.take 508)

/-- The link part of a received frame of 512 bytes (R331, R332): a reserved frame type counts as a reserved bit set. -/
def frameHdrOf (bs : List Byte) : FrameHdr :=
  let w (k : Nat) : Nat := leNat ((bs.drop (4 * k)).take 4)
  { crcOk := frameCrcOk bs
    rsv := bitsN (w 1) 6 2 ≠ 0 || bitsN (w 1) 16 16 ≠ 0 || w 6 ≠ 0 || decide (3 < bitsN (w 1) 0 4)
    seq := bitsN (w 0) 0 16, ack := bitsN (w 0) 16 16, ackValid := bitN (w 1) 4, nak := bitN (w 1) 5, gen := bitsN (w 1) 8 8
    credH := (List.range 4).map (fun tc => bitsN (w (2 + tc)) 0 16), credD := (List.range 4).map (fun tc => bitsN (w (2 + tc)) 16 16) }

/-! ### Sending -/

/-- A frame that a port sends now (R331, R336, R342): its current ACK, E - 1, its transmit generation, and the credits that its
router has freed. Between the frames that carry packets the port's line carries IDLE frames of this form, without a pause (R326). -/
def Port.frame (p : Port) (body : FrameBody) (seq : Nat) (nak : Bool) : FrameOut :=
  { seq := seq, ack := (p.rxE + 65535) % 65536, ackValid := p.ackValid, nak := nak, gen := p.txGen, credH := p.takenH
    credD := p.takenD, body := body }

/-- A frame put on a port's line: whatever it carries, it acknowledges what has been accepted (R336). -/
def Dev.sendFrame (d : Dev) (n : Nat) (body : FrameBody) (seq : Nat) (nak : Bool) : Dev :=
  let p := d.port n
  (d.setPort n { p with lastAckSent := (p.rxE + 65535) % 65536, unacked := 0 }).emit (.frame n (p.frame body seq nak))

/-- A stamp in eighths of a tick: the counter, and a fraction that nothing fixes. -/
def Dev.stamp (d : Dev) : Nat × Dev :=
  let k := d.draw
  (8 * d.time.count.toNat + (Config.freeWord k.1).toNat % 8, k.2)

/-- A packet as it enters the serialiser, for the first time or in a replay: a TIME packet takes the stamp of its own departure
(R376), and that of a REQ is the t1 of its exchange (R377). -/
def Dev.departing (d : Dev) (n : Nat) (pk : Packet) : Packet × Dev :=
  if pk.typ ≠ 0x0F then (pk, d)
  else
    let st := d.stamp
    ({ pk with payload := toBytes 8 st.1 ++ pk.payload.drop 8 },
      st.2.when (leNat ((pk.payload.drop 18).take 1) = 1) (·.onPort n (fun p => { p with exchStamp := st.1 })))

/-- A packet sent on a port for the first time: next SEQ, kept for replay, credits charged (R334, R342). -/
def Dev.portSend (d : Dev) (n : Nat) (pk : Packet) : Dev :=
  let r := d.departing n pk
  let d1 := r.2.onPort n (fun p => { p with
    txSeq := (p.txSeq + 1) % 65536
    replay := p.replay ++ [(p.txSeq, d.time.elapsed, r.1)]
    chargedH := addAt p.chargedH pk.tc 1
    chargedD := addAt p.chargedD pk.tc (pk.len / 64) })
  (d1.sendFrame n (.packet r.1) (d.port n).txSeq false).count (portPage n) 0x100 1

/-- A packet of the port's own shell, or of the bell: it waits while the replay buffer is full or its class lacks credits (R340,
R344). -/
def Dev.portOffer (d : Dev) (n : Nat) (pk : Packet) : Dev :=
  if (d.port n).waiting.isEmpty && !(d.port n).busyFor pk.tc pk.len then d.portSend n pk
  else d.onPort n (fun p => { p with waiting := p.waiting ++ [pk] })

/-- The packets that wait at a port sent while it takes them. -/
def Dev.sendWaiting (d : Dev) (n : Nat) : Dev :=
  forEach (d.port n).waiting d (fun s pk =>
    if (s.port n).waiting.head? = some pk && !(s.port n).busyFor pk.tc pk.len then
      (s.onPort n (fun p => { p with waiting := p.waiting.drop 1 })).portSend n pk
    else s)

/-- A packet handed to the router from inside the device, or, for the device's own number, delivered at once over the
transfer plane (R284). A copy of a scheduled multicast follows its tree (R313). -/
def Dev.post (d : Dev) (pk : Packet) : Dev :=
  if pk.dest = d.number && !(pk.tc = 0 && pk.typ = 0x07) then { d with eject := d.eject ++ [pk] }
  else { d with inject := d.inject ++ [pk] }

/-- The origin of a packet's transfer (R292). -/
def Packet.origin (p : Packet) : Nat :=
  if p.typ = 0x02 ∨ p.typ = 0x03 ∨ p.typ = 0x0A ∨ p.typ = 0x0B ∨ p.typ = 0x0C then p.dest else p.src

/-- Is a packet a notice, which is not replaced where it is dropped (R306)? -/
def Packet.isNotice (p : Packet) : Bool := p.typ = 0x0B || p.typ = 0x0C

/-- Is a packet one that a flush never answers: a COMPLETION, an ERROR_RESP, a notice, or of TC3 (R347)? -/
def Packet.unanswered (p : Packet) : Bool := p.typ = 0x03 || p.typ = 0x0A || p.isNotice || p.tc = 3

/-- A control packet about a packet, back to its origin (R289, R292, R303): type and status. -/
def Dev.about (d : Dev) (p : Packet) (typ status : Nat) : Packet :=
  { Packet.blank with
    dest := p.origin, src := d.number, mid := p.origin, phase := true, tc := 2, typ := typ, epoch := d.router.epoch,
    plan := p.plan, tag := p.tag, tagGen := p.tagGen, pseq := p.pseq, plot := p.plot, plotGen := p.plotGen,
    addr := p.addr, aux := status }

/-- A FLUSH_NOTICE, a FENCE_NOTICE, an ERROR_RESP to the origin of a packet. -/
def Dev.flushNotice (d : Dev) (p : Packet) (status : Nat) : Dev := if p.isNotice then d else d.post (d.about p 0x0C status)
def Dev.fenceNotice (d : Dev) (p : Packet) : Dev := if p.isNotice then d else d.post (d.about p 0x0B 0)
def Dev.errorResp (d : Dev) (p : Packet) (status : Nat) : Dev := d.post (d.about p 0x0A status)

/-- The fence bit of a device (R311). -/
def Dev.fenced (d : Dev) (n : Nat) : Bool := bitN (d.rgN 0x051 (0x800 + 4 * (n / 32)) 0) (n % 32)

/-- The fence bit of a device as this tick's packets at their first router meet it: a bit written in a tick applies from the next
tick (R311). -/
def Dev.fencedAtSource (d : Dev) (n : Nat) : Bool :=
  bitN (d.fencePrev.get (n / 32) (d.rgN 0x051 (0x800 + 4 * (n / 32)) 0)) (n % 32)

/-- Word `k` of FENCE_MAP is about to be written: what this tick began with is kept until the tick ends (R311). -/
def Dev.noteFence (d : Dev) (k : Nat) : Dev :=
  if (d.fencePrev.find k).isSome then d
  else { d with fencePrev := d.fencePrev.put k (d.rgN 0x051 (0x800 + 4 * k) 0) }

/-- A fence bit set or cleared. -/
def Dev.setFence (d : Dev) (n : Nat) (b : Bool) : Dev :=
  let off := 0x800 + 4 * (n / 32)
  let v := d.rgN 0x051 off 0
  (d.noteFence (n / 32)).setN 0x051 off 0 (if b = bitN v (n % 32) then v else if b then v + 2 ^ (n % 32) else v - 2 ^ (n % 32))

/-- Does this device answer as a fenced one (R312, R500)? -/
def Dev.selfFenced (d : Dev) : Bool := d.power.fatal || d.fenced d.number

/-- PARTERRE.SYSTEM_SIZE (R296, R320). -/
def Dev.systemSize (d : Dev) : Nat := bitsN (d.rgN 0x051 0x404 0) 0 13

/-- The transfer timeout in ticks (R289). -/
def Dev.xferTicks (d : Dev) : Nat := ticksMs * d.rgN 0x051 0x408 0

/-- The drain horizon in ticks (R310, R350). -/
def Dev.horizon (d : Dev) : Nat :=
  (List.range 12).foldl (fun m n => max m (d.rgN (portPage n) 0x410 0)) 0 * ticksMs + 64 * 1563

/-- The bank a packet's epoch names (R309, R310). -/
def Router.bankOf (r : Router) (epoch : Nat) : Option Nat :=
  if epoch = r.epoch then some r.active
  else if r.retained && epoch = r.oldEpoch then some (1 - r.active)
  else none

/-- A routing entry and its fields (R308). -/
def Router.entry (r : Router) (bank dev : Nat) : Nat := r.entries.get (4096 * bank + dev) 0
def entryPorts (e : Nat) : Nat := bitsN e 0 12
def entryDist (e : Nat) : Nat := bitsN e 12 5
def entryValid (e : Nat) : Bool := bitN e 17

/-- The drop of a packet recorded in ROUTER.LAST_DROP (R306, R320). -/
def Dev.lastDrop (d : Dev) (p : Packet) (status : Nat) : Dev :=
  d.setN 0x050 0x420 0 (status + 16 * p.dest + 2 ^ 16 * p.src + 2 ^ 28)

/-- The packets of a port's replay buffer flushed, each answered by a FLUSH_NOTICE (R347). -/
def Dev.flushPort (d : Dev) (n : Nat) : Dev :=
  let p := d.port n
  let d1 := forEach p.replay d (fun s e => if e.2.2.unanswered then s else s.flushNotice e.2.2 7)
  (d1.setPort n { p with replay := [], waiting := [], graceOpen := false, drainAfter := false }).count (portPage n) 0x14C p.replay.length

/-- The TC n header of an INIT frame: what a port advertises (R341). -/
def advHeaders : List Nat := [1024, 1024, 256, 64]
def advData : List Nat := [7168, 7168, 512, 64]

/-- Is a packet type allowed on a traffic class (R293)? -/
def typeOnTc (typ tc : Nat) : Bool :=
  match typ with
  | 0x00 | 0x01 | 0x02 | 0x05 | 0x06 | 0x07 | 0x08 => tc = 0 || tc = 1
  | 0x04 | 0x09 => tc = 1
  | 0x03 | 0x0A | 0x0B | 0x0C | 0x0D | 0x0E | 0x0F => tc = 2
  | 0x10 | 0x11 | 0x12 => tc = 3
  | _ => false

/-- Is a packet an ABORT that routers flood (R296, R508)? -/
def Packet.bell (p : Packet) : Bool := p.typ = 0x10 && p.dest = 0xFFF && p.mid = 0xFFF

/-- Does a packet break a rule of its header's fields (R292): HOPS at most 64, CONTRIB and XWN as its type has them, AUX 0 but for a
status and a region's generation? -/
def Packet.fieldsBad (p : Packet) : Bool :=
  decide (64 < p.hops) ||
    (if p.typ = 0x05 then decide (p.contrib < 1) || decide (4096 < p.contrib) || (p.xwn = 0) else p.contrib ≠ 0 || p.xwn ≠ 0) ||
    (p.aux ≠ 0 && p.typ ≠ 0x0A && p.typ ≠ 0x0C && p.typ ≠ 0x09)

/-- Is a packet malformed (R296)? An ABORT carries DEST and MID of 0xFFF in every system. -/
def Dev.malformed (d : Dev) (p : Packet) : Bool :=
  p.rsv || decide (448 < p.len) || decide (p.len % 64 ≠ 0) || !typeOnTc p.typ p.tc || p.fieldsBad ||
    (if p.bell then false else decide (d.systemSize ≤ p.dest) || decide (d.systemSize ≤ p.mid))

end Sys2Proof.Machine
end

