-- ==== Sys2Proof/Machine/Sets.lean ====
section
/-! DEFINITION. Which set of a bundle runs (R213, R236 to R238), and the draining of a port (R351). -/
namespace Sys2Proof.Machine

/-- The variants of a set of a bundle. -/
def Bundle.set (b : Bundle) (k : Nat) : Option (List VariantBody) := b.body.sets.find? (fun e => e.1 = k) |>.map (·.2)

/-- Does a variant use a unit: pavilion u below 32 by a stream or a through route, port u − 32 by a slot or an output of
its scheduled routes (R236, R237)? -/
def VariantBody.uses (v : VariantBody) (u : Nat) : Bool :=
  if u < 32 then v.streams.any (fun e => e.1 = u) || v.through.any (fun t => t.pav = u)
  else v.routes.any (fun r => r.outs.contains (u - 32) || r.slots.any (fun s => s.1 = u - 32))

/-- Do the declared tables of a bundle name a place in a pavilion (R213)? -/
def BundleBody.placesIn (b : BundleBody) (n : Nat) : Bool :=
  b.staging.any (fun x => x.pav = n) || b.redBufs.any (fun x => x.pav = n) || b.live.any (fun x => x.pav = n) ||
    b.xwTensors.any (fun x => x.pav = n) || (match b.commit with | some r => r.pav = n | none => false)

/-- Does a set of a bundle use a unit (R213, R237)? -/
def Bundle.setUses (b : Bundle) (k u : Nat) : Bool :=
  match b.set k with
  | some vs => vs.any (fun v => v.uses u) || (decide (u < 32) && b.body.placesIn u)
  | none => false

/-- Is a port lost to the scheduled routes: drained or on its way there, flushed, or failed (R237, R347, R351)? -/
def Port.lost (p : Port) : Bool :=
  match p.st with
  | .draining | .drained | .down | .failed => true
  | _ => p.drainAfter

/-- The lost units of a plot: its fenced pavilions, and the lost ports. -/
def Dev.lostUnits (d : Dev) (p : Nat) : List Nat :=
  (List.range 32).filter (fun n => bitN (d.plot p).pairs (n / 2) && (d.pav n).run = .fenced) ++
    ((List.range 12).filter (fun n => (d.port n).lost)).map (fun n => 32 + n)

/-- The set the Gatehouse chooses for a bundle in a plot (R237): 0x7F is the base set; none under R238. -/
def Dev.chooseSet (d : Dev) (p : Nat) (b : Bundle) : Option Nat :=
  let lost := d.lostUnits p
  match lost.filter (b.setUses 0x7F ·) with
  | [] => some 0x7F
  | [u] => if (b.set u).isSome && (lost.filter (b.setUses u ·)).isEmpty then some u else none
  | _ => none

/-- The choice made for a context at an activation, or at a loss or return of a unit (R237, R238). The set that is wanted
next runs from the next release on; NO_VARIANT is recorded where no set can run. -/
def Dev.reselect (d : Dev) (c : Nat) : Dev :=
  let x := d.ctx c
  match x.active with
  | none => d
  | some b =>
    match d.chooseSet x.plot b with
    | some k =>
      let keep := !x.noVariant && (d.lostUnits x.plot).all (fun u => !b.setUses x.set u) && x.set ≠ 0x7F && k ≠ 0x7F
      d.setCtx c { x with want := if keep then x.set else k, noVariant := false,
                          lossAt := if k = x.set then x.lossAt else d.time.elapsed }
    | none =>
      ((d.setCtx c { x with noVariant := true }).abortAll c).recordB 0x002 0 2 .f false ⟨none, some x.plot, 0, 0, 0⟩

/-- The choice made for every context of a plot that holds an active bundle. -/
def Dev.reselectPlot (d : Dev) (p : Nat) : Dev :=
  forEach (d.ctxs.filter (fun e => e.2.plot = p && e.2.st = 1)) d (fun s e => s.reselect e.1)

/-- The choice made for every context of the device. -/
def Dev.reselectAll (d : Dev) : Dev := forEach d.livePlots d (fun s p => s.reselectPlot p)

/-- Does a context run under PIN (R457)? -/
def Ctx.pin (x : Ctx) : Bool := !bitN x.modes.toNat 8

/-- Does the staged bundle name another epoch of a region that the active bundle names (R457)? -/
def Ctx.otherEpoch (x : Ctx) : Bool :=
  match x.active, x.staged.bundle with
  | some a, some b => a.body.regions.any (fun r => b.body.regions.any (fun q => q.1 = r.1 && q.2 ≠ r.2))
  | _, _ => false

/-- Does a requested activation wait for the context's requests to drain (R457)? -/
def Ctx.pinWaits (x : Ctx) : Bool := x.staged.st = 5 && x.pin && x.otherEpoch

/-- Does a requested activation wait: under PIN for the requests to drain, on a device of a shadow pair for SHADOW_CFG.VALID to
end (R457, R532)? -/
def Dev.epochWaits (d : Dev) (c : Nat) : Bool := (d.ctx c).pinWaits || (d.shadowValid && (d.ctx c).otherEpoch)

/-- The bundle whose declarations the context's next step reads: a requested activation's, unless that waits. -/
def Dev.paramBundle (d : Dev) (c : Nat) : Option Bundle :=
  if (d.ctx c).staged.st = 5 && !d.epochWaits c then (d.ctx c).staged.bundle else (d.ctx c).active

/-- Does a release now activate the staged bundle (R225)? One requested in this tick, or that waits, does not. -/
def Dev.taking (d : Dev) (c : Nat) : Bool :=
  (d.ctx c).staged.st = 5 && !d.epochWaits c && decide ((d.ctx c).staged.since < d.time.elapsed)

/-- The pending copy with every patch in it (R227). -/
def Ctx.settled (x : Ctx) : Ctx := { x with pend := forEach x.late x.pend (fun m e => m.put e.1 e.2), late := [] }

/-- The pending copy as a release in tick `now` takes it: patches of that tick wait for the next step (R228). -/
def Ctx.landed (x : Ctx) (now : Nat) : Ctx := if x.lateAt < now then x.settled else x

/-- DRAIN of a port (R351): from UP to DRAINING; in HELD it takes effect when the grace period ends. -/
def Dev.drainPort (d : Dev) (n : Nat) : Dev :=
  match (d.port n).st with
  | .up => d.onPort n (fun p => { p with st := .draining })
  | .held => d.onPort n (fun p => { p with drainAfter := true })
  | _ => d

/-- The drain of a port that a class F fault asks for (R512): from UP or HELD as DRAIN; otherwise the port comes back
DRAINED (DEDUCED, log entry 19). -/
def Dev.faultDrain (d : Dev) (n : Nat) : Dev :=
  match (d.port n).st with
  | .up | .held => d.drainPort n
  | .draining | .drained | .off => d
  | _ => d.onPort n (fun p => { p with drainAfter := true })

end Sys2Proof.Machine
end

