-- ==== Sys2Proof/Machine/Flags.lean ====
section
/-! DEFINITION. What a fault does beyond its record: the class consequence on steps, units and the device (R25, R29, R30, R359, R498 to R500, R508, R512), which the error flags of every page share. -/
namespace Sys2Proof.Machine

/-- The reasons of R504. -/
inductive Reason
  | stallTimeout | localFault | remoteAbort | verdictTimeout | deadline
  deriving DecidableEq, Repr

/-- The code of a reason. -/
def Reason.code : Reason → Nat
  | .stallTimeout => 1 | .localFault => 2 | .remoteAbort => 3 | .verdictTimeout => 4 | .deadline => 5

/-- The number of the step a plot runs, or ran last: the count of the context's releases (log entry 20). -/
def Dev.stepNo (d : Dev) (p : Nat) : W64 :=
  let sc := d.step p
  let n := (d.ctx sc.ctx).steps
  if sc.running then n + 1 else n

/-- The outputs of the step a plot runs withheld, or of its last step while its commit point is still to come (R30). -/
def Dev.withhold (d : Dev) (p : Nat) : Dev :=
  let sc := d.step p
  if sc.running then d.setStep p { sc with withheld := true }
  else d.onCtx sc.ctx (fun x => match x.ended with
    | some e => { x with ended := some { e with withheld := true } }
    | none => x)

/-- The payload of an ABORT_BELL packet (R507). -/
def bellBytes (launch step : W64) (kind cause origin bell : Nat) : List Byte :=
  toBytes 8 launch.toNat ++ toBytes 8 step.toNat ++ toBytes 1 kind ++ toBytes 1 cause ++ toBytes 2 origin ++
    toBytes 2 bell ++ List.replicate 42 0

/-- A bell packet of this device. -/
def Dev.bellPacket (d : Dev) (dest : Nat) (bs : List Byte) : Packet :=
  { Packet.blank with dest := dest, src := d.number, mid := dest, phase := true, tc := 3, typ := 0x10,
                      epoch := d.router.epoch, len := 64, pcount := 1, payload := bs }

/-- A packet sent on every UP port except one (R508). -/
def Dev.flood (d : Dev) (skip : Option Nat) (pk : Packet) : Dev :=
  forEach ((List.range 12).filter (fun n => d.portUp n && some n != skip)) d (fun s n => s.portOffer n pk)

/-- The ABORT of a step of a context, for a member of its collective that is not a shadow (R506, R508, R517). -/
def Dev.ring_ (d : Dev) (c : Nat) (step : W64) (r : Reason) : Dev :=
  let x := d.ctx c
  match x.launch with
  | none => d
  | some l =>
    if !x.multi || d.isShadow then d
    else
      let id := d.recov.bellId
      let pk := d.bellPacket 0xFFF (bellBytes l step 1 r.code d.number id)
      let d1 := { d with recov := { d.recov with bellId := (id + 1) % 65536,
                                                 seen := ((d.number, id) :: d.recov.seen).take 64 } }
      (d1.flood none pk).count 0x000 0x180 1

/-- The VERDICT a follower of a collective sends to its lead at the end of a step (R510); the lead is the device whose
composition record the step ran. -/
def Dev.verdictSend (d : Dev) (c : Nat) (step : W64) (clean : Bool) : Dev :=
  let x := d.ctx c
  match x.launch, (d.kc c).follow.find? (fun f => f.step = step.toNat) with
  | some l, some f =>
    if !x.multi || d.isShadow || !bitN (d.rgN 0x003 0x404 c) 6 then d
    else (d.post (d.bellPacket f.lead (bellBytes l step 2 (if clean then 0 else 1) d.number 0))).count 0x000 0x18C 1
  | _, _ => d

/-- The ABORT of the step a plot runs. -/
def Dev.ringPlotStep (d : Dev) (p : Nat) (r : Reason) : Dev :=
  let sc := d.step p
  if sc.running then d.ring_ sc.ctx (d.stepNo p) r else d

/-- The free-entry counts as a step or a flush starts them (R84, R370): 16, and 0 toward a side that is in reset. -/
def Pav.cutFree (p : Pav) : SMap Nat := p.cut.foldl (fun m x => m.put x 0) []

/-- A pavilion stopped at its cycle, its crossings and staging fills flushed (R25). -/
def Pav.stop (p : Pav) (st : RunState) : Pav :=
  { p with run := st, gated := false, ended := false, stall := none, held := [], pend := [], checks := [], active := [], loops := [],
           fifos := [], wires := [], freeCnt := p.cutFree, freed := [], fills := [], slowPeriod := false }

/-- A pavilion of a group stopped: it goes IDLE, unless it is fenced or off. -/
def Pav.stopIdle (p : Pav) : Pav := p.stop (if p.run = .running then .idle else p.run)

/-- The ticks that stretched cycles add, to the nearest: each lasts one more unstretched period of its oscillator (R32, R361). -/
def stretchTicks (fs : Nat) : Nat := (fs + 500000) / 1000000

/-- The largest value over the pavilions of a group (R32). -/
def Dev.groupMax (d : Dev) (group : Nat) (f : Lost → Nat) : Nat :=
  (bitList group 32).foldl (fun m n => max m (f (d.pav n).lost)) 0

/-- The open stalls of a group charged up to now (R32), and counted in PAVILION.STALL_TICKS (R94). -/
def Dev.closeStall (d : Dev) (n : Nat) : Dev :=
  let p := d.pav n
  match p.stall with
  | none => d
  | some s =>
    let t := d.time.elapsed - s.sinceEl
    let l := match s.cat with
      | .crossing => { p.lost with crossing := p.lost.crossing + t }
      | .staging => { p.lost with staging := p.lost.staging + t }
      | .fabric => { p.lost with fabric := p.lost.fabric + t }
    (d.setPav n { p with lost := l, stall := none }).count (pavPage n) 0x118 t

/-- Gated ticks counted up to now: GATED_TICKS of a pavilion (R94). -/
def Dev.closeGate (d : Dev) (n : Nat) : Dev :=
  let p := d.pav n
  if p.gated then (d.setPav n { p with gated := false }).count (pavPage n) 0x11C (d.time.elapsed - p.gateCounted) else d

/-- The ticks by which a step has run past the end of its slice, counted (R34, R37, R38). -/
def Dev.sliceLate (d : Dev) (p : Nat) : Dev :=
  match (d.step p).sliceFin with
  | some fin =>
    if fin.toNat < d.time.count.toNat then
      (d.countB 0x005 0x128 p (d.time.count.toNat - fin.toNat)).recordB 0x005 p 2 .none false ⟨none, some p, 0, 0, 0⟩
    else d
  | none => d

/-- A gate that no release ends: its ticks are hold ticks (R38), as no throttle has delayed a release. -/
def Dev.dropGate (d : Dev) (n : Nat) : Dev :=
  if (d.pav n).gated then
    (d.onPav n (fun q => { q with lost := { q.lost with hold := q.lost.hold + (d.time.elapsed - q.gatedSince) } })).closeGate n
  else d

/-- The whole milliseconds of a verification under way counted (R249). -/
def Dev.chargeVerify (d : Dev) (c : Nat) : Dev :=
  let sg := (d.ctx c).staged
  if sg.st ≠ 2 then d
  else
    let n := (d.time.elapsed - sg.since) / ticksMs
    (d.onCtx c (fun x => { x with staged := { sg with since := sg.since + n * ticksMs } })).count 0x002 0x11C n

/-- The ticks of a page's conditions under way counted up to now: the stall and the gate of a pavilion (R94), the releases that
the Kiosk holds for room (R438), the verifications of the Gatehouse (R249). -/
def Dev.settleCounts (d : Dev) (page : Nat) : Dev :=
  let now := d.time.elapsed
  if 0x010 ≤ page ∧ page ≤ 0x02F then
    let n := page - 0x010
    let d1 := match (d.pav n).stall with
      | some s => (d.closeStall n).onPav n (fun p => { p with stall := some { s with sinceEl := now } })
      | none => d
    let p := d1.pav n
    if p.gated then (d1.setPav n { p with gateCounted := now }).count page 0x11C (now - p.gateCounted) else d1
  else if page = 0x003 then
    forEach d.kctx d (fun s e => match e.2.outFull with
      | some t => (s.onKc e.1 (fun k => { k with outFull := some now })).count 0x003 0x14C (now - t)
      | none => s)
  else if page = 0x002 then forEach (d.ctxs.map (·.1)) d (fun s c => s.chargeVerify c)
  else d

/-- The per-step category values added to the STEP counters (R32, R38). -/
def Dev.chargeStep (d : Dev) (p : Nat) : Dev :=
  let sc := d.step p
  let d1 := d.countB 0x005 0x108 p (d.groupMax sc.group (·.stretch))
  let d2 := d1.countB 0x005 0x10C p (d.groupMax sc.group (·.crossing))
  let d3 := d2.countB 0x005 0x110 p (d.groupMax sc.group (·.staging))
  let d4 := d3.countB 0x005 0x114 p (d.groupMax sc.group (·.fabric))
  let hold := (bitList sc.group 32).foldl (fun m n => max m ((d.pav n).lost.hold)) 0
  (d4.countB 0x005 0x118 p hold).countB 0x005 0x11C p sc.throttle

/-- Is a transfer one that the running step of a plot issued? -/
def Xfer.ofStep (x : Xfer) (group : Nat) : Bool :=
  match x.owner with
  | .plan n => bitN group n
  | _ => false

/-- The transfers of the step of a group closed, their tags released, no completion recorded (R290). -/
def Dev.closeXfers (d : Dev) (group : Nat) : Dev := { d with xfers := d.xfers.filter (fun x => !x.ofStep group) }

/-- The step of a plot abandoned (R25): its group stopped, crossings and staging flushed, its transfers closed, its
outputs withheld, STEP_ABANDONED recorded with the reason and the origin device. -/
def Dev.abandon (d : Dev) (p : Nat) (r : Reason) (origin : Nat) (launch : Nat) : Dev :=
  let sc := d.step p
  if !sc.running then d
  else
    let no := d.stepNo p
    let grp := bitList sc.group 32
    let d1 := forEach grp d (fun s n => (s.closeStall n).dropGate n)
    let d2 := (d1.chargeStep p).sliceLate p
    let d3 := forEach grp d2 (fun s n => s.onPav n Pav.stopIdle)
    let d4 := d3.closeXfers sc.group
    let now := d4.time.count
    let dur := (now - sc.start).toNat
    let d5 := d4.recordB 0x005 p 1 .d false ⟨none, some p, r.code + 2 ^ 16 * origin, launch, 0⟩
    let d6 := d5.countB 0x005 0x104 p 1
    let d7 := d6.setStep p { sc with
                running := false, abandoned := true, withheld := true, endTick := now,
                lastDur := min dur (2 ^ 32 - 1),
                lastRes := BitVec.ofNat 32 (32 + (if sc.varExec then 64 else 0) + 256 * sc.ctx) }
    let d8 := if sc.canary then { d7 with recov := { d7.recov with canaryDue := true } } else d7
    (d8.onCtx sc.ctx (fun x => { x with
      steps := no, ended := some ⟨no, sc.variant, now, d7.time.elapsed, true, sc.varExec, sc.canary⟩ })).verdictSend sc.ctx no false

/-- The plot a place lies in. -/
def Dev.plotOf (d : Dev) (w : Where) : Option Nat :=
  match w.plot with
  | some p => some p
  | none => match w.pav with
    | some n => d.pavPlot n
    | none => none

/-- The plots whose step a fault withholds: the plot it names, else every plot that runs a step (log entry 21). -/
def Dev.faultPlots (d : Dev) (w : Where) : List Nat :=
  match d.plotOf w with
  | some p => [p]
  | none => if w.pav.isSome then [] else (List.range 16).filter (fun p => (d.step p).running)

/-- The consequence of a class D fault (R498, R499): the step withheld, and the bell of its collective. -/
def Dev.consD (d : Dev) (w : Where) (r : Reason) : Dev :=
  forEach (d.faultPlots w) d (fun s p => (s.ringPlotStep p r).withhold p)

/-- A pavilion fenced (R512): RUN_STATE FENCED, out of its group; the sets of its plot chosen anew (R237). -/
def Dev.fencePav (d : Dev) (n : Nat) : Dev :=
  let d1 := d.onPav n (fun p => if p.run = .off then p else { p.stop .fenced with lockedOnce := false })
  match d1.pavPlot n with
  | some p => (d1.onStep p (fun sc => { sc with group := sc.group - (if bitN sc.group n then 2 ^ n else 0) })).reselectPlot p
  | none => d1

/-- The consequence of a class F fault on a pavilion: the step abandoned where the pavilion cannot run on, else
withheld; the pavilion fenced. -/
def Dev.consFPav (d : Dev) (n : Nat) (abandon : Bool) (w : Where) : Dev :=
  let d1 := d.consD w .localFault
  let d2 := match d1.plotOf w with
    | some p => if abandon then d1.abandon p .localFault d1.number 0 else d1
    | none => d1
  d2.fencePav n

/-- The running set of a plot's context uses a port. -/
def Dev.stepUsesPort (d : Dev) (p n : Nat) : Bool :=
  let sc := d.step p
  let x := d.ctx sc.ctx
  sc.running && (match x.active with
    | some b => b.setUses x.set (32 + n)
    | none => false)

/-- The consequence of a class F fault on a port: the steps that use it withheld, the port drained, the sets chosen
anew (R237, R512). -/
def Dev.consFPort (d : Dev) (n : Nat) : Dev :=
  let ps := (List.range 16).filter (d.stepUsesPort · n)
  let d1 := forEach ps d (fun s p => (s.ringPlotStep p .localFault).withhold p)
  (d1.faultDrain n).reselectAll

/-- What a class X fault does (R500), its record apart: every pavilion stopped, every step abandoned, the bell of every
collective rung, the device fenced. -/
def Dev.fatalStop (d : Dev) : Dev :=
  let ps := (List.range 16).filter (fun p => (d.step p).running)
  let d1 := forEach ps d (fun s p => (s.ringPlotStep p .localFault).abandon p .localFault s.number 0)
  let d2 := { d1 with pavs := d1.pavs.map Pav.stopIdle }
  { d2 with power := { d2.power with fatal := true } }

/-- The class consequence of a fault. -/
def Dev.consequence (d : Dev) (page : Nat) (cls : FaultClass) (abandon : Bool) (w : Where) (r : Reason) : Dev :=
  match cls with
  | .none | .c => d
  | .d => d.consD w r
  | .f =>
    if 0x040 ≤ page ∧ page ≤ 0x04B then d.consFPort (page - 0x040)
    else match w.pav with
      | some n => d.consFPav n abandon w
      | none => d.consD w r
  | .x =>
    let d1 := d.fatalStop
    if page = 0 then d1 else d1.recordB 0x000 0 20 .x false Where.none

/-- A fault: its record (R502), then its class consequence. -/
def Dev.raiseB (d : Dev) (page bank bit : Nat) (abandon : Bool) (w : Where) (r : Reason) : Dev :=
  let cls := (errClass ((blockOf page).getD 0xFFF) bit).getD .none
  (d.recordB page bank bit cls false w).consequence page cls abandon w r

/-- A fault of a page with one instance, found in a place. -/
def Dev.raise (d : Dev) (page bit : Nat) (w : Where) : Dev := d.raiseB page 0 bit false w .localFault

/-- A fault of a page with one instance whose class the place of its detection fixes. -/
def Dev.raiseAs (d : Dev) (page bit : Nat) (cls : FaultClass) (w : Where) : Dev :=
  (d.recordB page 0 bit cls false w).consequence page cls false w .localFault

/-- The place of a pavilion's fault: LOCUS with bits of CHK_FAULT or STALL_CAUSE, LOCUS2 (R504). -/
def pavWhere (n detail locus2 : Nat) : Where := ⟨some n, none, n + 256 * (detail % 4096), locus2, 0⟩

/-- The place of a fault of a plot. -/
def plotWhere (p : Nat) : Where := ⟨none, some p, 0, 0, 0⟩

end Sys2Proof.Machine
end

