-- ==== Sys2Proof/Machine/Operands.lean ====
section
/-! DEFINITION. The operands of a register command: its route and what the route may use, the item a selector names, and the check every access passes before anything is written (R583 to R592, R599, R634). -/
namespace Sys2Proof.Machine

/-- What a route may use (R583, R590). `readAll` is the reading of the MANAGE pages without writing them. -/
structure Rights where
  tenant : Option Nat
  readAll : Bool
  manage : Bool
  manager : Bool
  plotAdmin : Bool
  update : Bool
  security : Bool
  deriving DecidableEq, Repr

/-- A route with no session: class OPEN only. -/
def Rights.open_ : Rights := ⟨none, false, false, false, false, false, false⟩

/-- The classes a management role grants (R493; ReadOnly reads and writes nothing: DEDUCED, log entry 26). -/
def Role.rights (r : Role) (manager : Bool) : Rights :=
  match r with
  | .admin => ⟨none, true, true, manager, true, true, true⟩
  | .operator => ⟨none, true, true, manager, true, true, false⟩
  | .readOnly => ⟨none, true, false, false, false, false, false⟩

/-- The rights of a GCT connection (R494, R576, R583): its session, and the port it runs on. -/
def State.connRights (s : State) (c : Conn) : Rights :=
  match (s.dev.sess.find c.session).bind (·.cls) with
  | none => Rights.open_
  | some (.tenant p) => { Rights.open_ with tenant := some p }
  | some (.operator a) =>
    if c.iface = 8 then ((s.nv.anchors.find a).map (·.role)).elim Rights.open_ (·.rights true)
    else
      let g := s.nv.delegation.toNat
      ⟨none, bitN g 0 || bitN g 1 || bitN g 2, bitN g 0 || bitN g 1 || bitN g 2, false, bitN g 2, bitN g 1, false⟩

/-- The rights of a route. -/
def State.rights (s : State) : Route → Rights
  | .gct c => if (s.dev.conn c).open_ then s.connRights (s.dev.conn c) else Rights.open_
  | .space3 _ => ⟨none, true, true, true, true, false, false⟩
  | .belvedere role => role.rights false

/-- The number under which a route keeps its selectors, latches and staged words (R586, R587). -/
def Route.code : Route → Nat
  | .gct c => c
  | .space3 src => 1000 + src
  | .belvedere _ => 9999

/-- The key of a register as one route sees it. -/
def selKey (r : Route) (page off : Nat) : Nat := r.code * 2 ^ 24 + page * 4096 + off

/-- A route's copy of a selector register. -/
def Dev.sel (d : Dev) (r : Route) (page off : Nat) : Nat := (d.sels.get (selKey r page off) 0).toNat

/-- Is a register a selector (R586)? -/
def isSel (page off : Nat) : Bool :=
  [(0x000, 0x41C), (0x000, 0x860), (0x002, 0x40C), (0x003, 0x400), (0x003, 0x470), (0x003, 0x4C0), (0x003, 0x500),
   (0x008, 0x404), (0x008, 0x520), (0x008, 0x560), (0x008, 0x5A0), (0x008, 0x5E4), (0x009, 0x40C), (0x00A, 0x404),
   (0x050, 0x404), (0x051, 0x430), (0x070, 0x408), (0x071, 0x408), (0x070, 0x440), (0x071, 0x440), (0x072, 0x40C),
   (0x073, 0x400), (0x073, 0x430), (0x090, 0x400), (0x090, 0x500), (0x090, 0x520), (0x090, 0x558),
   (0x090, 0x564), (0x0A0, 0x400)].contains (page, off)

/-- Is an offset in a range? -/
def inOff (off lo hi : Nat) : Bool := decide (lo ≤ off) && decide (off ≤ hi)

/-- A GCT connection closes: the copies its route held of selectors, latches and staged words go with it (R586, R587); a close other
than by CLOSE sets CONN_CLOSED (R580). -/
def Dev.closeConn (d : Dev) (c : Nat) (byClose : Bool) : Dev :=
  let d1 := d.onConn c (fun x => { x with open_ := false, sub := false, alerts := [] })
  let d2 := { d1 with
    sels := d1.sels.filter (fun (e : Nat × W32) => e.1 / 2 ^ 24 ≠ c)
    latch := d1.latch.filter (fun (e : Nat × W32) => e.1 / 2 ^ 25 ≠ c)
    snaps := d1.snaps.del c }
  if byClose then d2 else d2.record 0x072 1 Where.none

/-- An SPDM session ends: the connections bound to it close with it (R492, R559). -/
def Dev.endSession (d : Dev) (n : Nat) : Dev :=
  let d1 := { d with sess := d.sess.del n }
  forEach ((d1.conns.filter (fun e => e.2.open_ && n ≠ 0 && e.2.session = n)).map (·.1)) d1 (fun s c => s.closeConn c false)

/-- The plot a route sees on the STEP page (R591, R601). -/
def Dev.plotView (d : Dev) (r : Route) (g : Rights) : Nat := g.tenant.getD (d.sel r 0x000 0x41C % 16)

/-- The item a register's selector names: the bank of the register store it lies in. -/
def Dev.bank (d : Dev) (r : Route) (g : Rights) (page off : Nat) : Nat :=
  match page with
  | 0x000 => if off = 0x864 ∨ off = 0x868 then d.sel r 0x000 0x860 % 16 else 0
  | 0x003 =>
    if off = 0x404 ∨ inOff off 0x40C 0x460 then d.sel r 0x003 0x400 % 256
    else if inOff off 0x4C4 0x4E0 then d.sel r 0x003 0x4C0 % 65536
    else if inOff off 0x504 0x524 then d.sel r 0x003 0x500 % 32768
    else 0
  | 0x005 => d.plotView r g
  | 0x008 =>
    if off = 0x524 ∨ inOff off 0x534 0x548 then d.sel r 0x008 0x520 % 256
    else if inOff off 0x564 0x56C then d.sel r 0x008 0x560 % 16
    else if inOff off 0x570 0x578 then d.sel r 0x008 0x560 % 256
    else 0
  | 0x070 | 0x071 =>
    if inOff off 0x40C 0x424 ∨ off = 0x464 ∨ off = 0x468 then d.sel r page 0x408 % 4
    else if off = 0x470 ∨ off = 0x474 then 8 * (d.sel r page 0x408 % 4) + d.sel r page 0x440 % 8
    else 0
  | 0x073 =>
    if inOff off 0x404 0x41C then d.sel r 0x073 0x400 % 2048
    else if inOff off 0x434 0x440 then d.sel r 0x073 0x430 % 4096
    else 0
  | 0x090 => if off = 0x524 then d.sel r 0x090 0x520 % 2048 else 0
  | _ => 0

/-- Registers a TENANT session may write (R593). -/
def tenantWrites (page off : Nat) : Bool :=
  match page with
  | 0x000 => off = 0x41C
  | 0x002 => off = 0x40C || off = 0x410 || off = 0x428
  | 0x003 => decide (0x400 ≤ off) && !(inOff off 0x410 0x41C || inOff off 0x444 0x44C)
  | 0x008 => off = 0x404 || off = 0x520 || off = 0x5A0 || off = 0x5E4
  | 0x00A => off = 0x404
  | 0x073 => inOff off 0x400 0x424 || inOff off 0x430 0x448
  | 0x080 => off = 0x410
  | 0x090 => off = 0x500 || inOff off 0x510 0x51C || inOff off 0x520 0x524 || inOff off 0x530 0x558 || off = 0x564
  | 0x0A0 => off = 0x400 || inOff off 0x414 0x420 || off = 0x424
  | _ => false

/-- Registers a TENANT session may read (R593). -/
def tenantReads (page off : Nat) : Bool :=
  match page with
  | 0x000 | 0x001 | 0x006 | 0x007 | 0x002 | 0x003 | 0x005 | 0x00A | 0x073 | 0x090 | 0x0A0 => true
  | 0x004 => inOff off 0x400 0x408
  | 0x008 => off = 0x408 || off = 0x52C || inOff off 0x5A4 0x5D0 || off = 0x5E0 || off = 0x5F0 ||
      off = 0x404 || off = 0x520 || off = 0x5A0 || off = 0x5E4
  | 0x051 => inOff off 0x430 0x43C
  | 0x080 => inOff off 0x410 0x418
  | _ => inOff page 0x010 0x02F || inOff page 0x060 0x06F

/-- May a route write a register (R590, R592, R593)? `v` is the value: UPDATE_CMD's class depends on it. -/
def Rights.mayWrite (g : Rights) (page off v : Nat) : Bool :=
  if (g.tenant.isSome && tenantWrites page off) || (page = 0 && off = 0x41C) then true
  else if off < 0x040 then g.manage
  else match page with
    | 0x000 => if [0x410, 0x414, 0x418, 0x808, 0x82C, 0x830].contains off then g.manager else g.manage
    | 0x001 =>
      if off = 0x420 then (if bitN v 0 then g.update else if bitN v 1 then g.security else if bitN v 2 then g.update else g.manage)
      else g.manage
    | 0x002 => if inOff off 0x440 0x46C then g.manager else g.manage
    | 0x004 => if inOff off 0x420 0x428 || inOff off 0x470 0x478 then g.manager else g.manage
    | 0x00A => off = 0x404 && g.manage
    | 0x008 =>
      if off = 0x400 ∨ off = 0x5EC then g.security
      else if tenantWrites page off then g.manage
      else g.plotAdmin
    | 0x050 => if inOff off 0x408 0x414 then g.manager else g.manage
    | 0x051 => if off = 0x400 ∨ off = 0x404 ∨ inOff off 0x800 0x9FC then g.manager else g.manage
    | 0x090 => if off = 0x408 then g.plotAdmin else g.manage
    | _ => g.manage

/-- May a route read a register? -/
def Rights.mayRead (g : Rights) (page off : Nat) : Bool :=
  page = 0x000 || page = 0x001 || page = 0x006 || page = 0x007 || g.readAll || (g.tenant.isSome && tenantReads page off)

/-- The low word a route has staged for a pair (R587). -/
def Dev.staged (d : Dev) (r : Route) (page lo : Nat) : Nat := (d.latch.get (2 * selKey r page lo + 1) 0).toNat

/-- Does an access of a TENANT(p) session stay with the items of plot p (R591)? -/
def Dev.tenantItem (d : Dev) (r : Route) (p page off v : Nat) (write : Bool) : Bool :=
  let x := d.plot p
  let ctx (c : Nat) : Bool := inRange x.ctxRange c
  match page with
  | 0x002 =>
    if write then ctx (v % 256)
    else if inOff off 0x414 0x42C then ctx (d.sel r 0x002 0x40C % 256) else true
  | 0x003 =>
    if write ∧ off = 0x400 then ctx (v % 256)
    else if write ∧ off = 0x470 then inRange x.seqRange v
    else if write ∧ off = 0x4C0 then inRange x.acctRange v
    else if write ∧ (off = 0x500 ∨ off = 0x528 ∨ off = 0x530) then inRange x.ringRange (v % 32768)
    else if off = 0x534 then inRange x.ringRange (d.staged r 0x003 0x530 % 32768)
    else if inOff off 0x404 0x460 then ctx (d.sel r 0x003 0x400 % 256)
    else if inOff off 0x474 0x4B0 then inRange x.seqRange (d.sel r 0x003 0x470)
    else if inOff off 0x4C4 0x4E0 then inRange x.acctRange (d.sel r 0x003 0x4C0)
    else if inOff off 0x504 0x524 then inRange x.ringRange (d.sel r 0x003 0x500)
    else true
  | 0x008 =>
    if write ∧ off = 0x404 then v % 16 = p
    else if write ∧ off = 0x520 then ctx (v % 256)
    else if off = 0x52C then ctx (d.sel r 0x008 0x520 % 256)
    else true
  | 0x00A =>
    if write then ctx (v % 256)
    else if off = 0x408 ∨ off = 0x40C then ctx (d.sel r 0x00A 0x404 % 256) else true
  | 0x051 => inRange x.trkRange (d.sel r 0x051 0x430)
  | 0x073 =>
    if write ∧ off = 0x400 then inRange x.qpRange v
    else if write ∧ off = 0x430 then let m := d.mrs.get v Mr.free; !m.valid || m.plot = p
    else if inOff off 0x404 0x424 then inRange x.qpRange (d.sel r 0x073 0x400)
    else if write ∧ off = 0x448 ∧ v % 4 = 1 then d.rgN 0x073 0x440 (d.sel r 0x073 0x430) % 16 = p
    else if inOff off 0x434 0x448 then let m := d.mrs.get (d.sel r 0x073 0x430) Mr.free; !m.valid || m.plot = p
    else true
  | 0x080 =>
    if write then bitN x.packages (v / 2 ^ 20)
    else if off = 0x410 then true
    else bitN x.packages (d.rgN 0x080 0x410 0 / 2 ^ 20)
  | 0x090 =>
    if write ∧ off = 0x564 then v % 16 = p
    else if write ∧ off = 0x518 then ctx (v % 256)
    else if write ∧ off = 0x550 then ctx (bitsN (d.rgN 0x090 0x530 0) 16 8) && inRange x.qpRange (bitsN (d.rgN 0x090 0x534 0) 16 11)
    else if off = 0x404 then d.sel r 0x090 0x400 % 16 = p
    else if off = 0x568 then d.sel r 0x090 0x564 % 16 = p
    else true
  | 0x0A0 =>
    if write ∧ (off = 0x400 ∨ off = 0x424) then inRange x.descRange (v % 1024)
    else if inOff off 0x404 0x410 then inRange x.descRange (d.sel r 0x0A0 0x400)
    else true
  | _ =>
    if inOff page 0x010 0x02F then d.pavPlot (page - 0x010) = some p
    else if inOff page 0x060 0x06F then bitN x.packages (page - 0x060)
    else true

/-- Does a global address range lie in the system pages of a context's plot (R469)? -/
def Dev.ctxArea (d : Dev) (c addr len : Nat) : Bool :=
  len = 0 ||
    (match d.ctxPlot c, d.localMem addr with
     | some p, some off => (d.plot p).inSystem off len
     | _, _ => false)

/-- Does a field of a register have a stated range that a value leaves (R634)? -/
def Dev.outOfRange (d : Dev) (page off v : Nat) : Bool :=
  let o (lo hi x : Nat) : Bool := decide (x < lo) || decide (hi < x)
  match page with
  | 0x000 =>
    if off = 0x830 then o 1 16777215 (bitsN v 0 24)
    else if off = 0x840 then o 1 65535 (bitsN v 16 16)
    else if off = 0x864 then o 1 4095 (bitsN v 8 12) || o 1 4095 (bitsN v 20 12)
    else if off = 0x410 then v % 4 = 3
    else false
  | 0x001 =>
    if off = 0x404 then o 100 60000 (bitsN v 0 16)
    else if off = 0x418 then o 10 60000 (bitsN v 0 16)
    else if off = 0x424 then o 60 65535 (bitsN v 0 16)
    else false
  | 0x003 =>
    if off = 0x404 then o 1 15 (bitsN v 8 4)
    else if off = 0x428 then o 0 262144 (bitsN v 0 19)
    else if off = 0x440 then o 1 1000 (bitsN v 0 10)
    else if off = 0x460 then o 1 256 (bitsN v 0 9)
    else false
  | 0x004 =>
    if off = 0x414 ∨ off = 0x418 then o 1 1000 (bitsN v 0 10)
    else if off = 0x41C then o 4 255 (bitsN v 0 8)
    else false
  | 0x006 =>
    if off = 0x400 then o 0 8 (bitsN v 0 4)
    else if off = 0x408 then o 250 (d.rgN 0x006 0x400 0 % 16 * 25 + 250) (bitsN v 0 10)
    else false
  | 0x007 => if off = 0x404 then o 80 100 (bitsN v 0 8) else false
  | 0x008 =>
    if off = 0x548 then o 0 1024 (bitsN v 0 11) else false
  | 0x051 =>
    if off = 0x404 then o 1 4096 (bitsN v 0 13)
    else if off = 0x408 then o 1 1000 (bitsN v 0 10)
    else false
  | 0x072 =>
    if off = 0x404 then o 1 3600 (bitsN v 0 12)
    else if off = 0x408 then o 100 64000 (bitsN v 0 16)
    else false
  | 0x073 =>
    if off = 0x460 then o 1 1000 v
    else if off = 0x464 then o 65536 (2 ^ 30) v
    else if off = 0x468 then o 1 10 v
    else if off = 0x46C then o 1 1000 v
    else if off = 0x470 then o 10 1000 v
    else if off = 0x474 then o 0 1000 v
    else false
  | 0x0A0 => if off = 0x438 then o 60 65535 (bitsN v 0 16) else false
  | _ =>
    if inOff page 0x010 0x02F then off = 0x60C && o 1 63 (bitsN v 0 6)
    else if inOff page 0x040 0x04B then
      if off = 0x40C then o 1 100 (bitsN v 0 7)
      else if off = 0x410 then o 1 200 (bitsN v 0 8)
      else if off = 0x414 then o 64 4096 (bitsN v 0 13)
      else if off = 0x418 then o 2 64 (bitsN v 0 7)
      else false
    else if inOff page 0x060 0x06F then off = 0x408 && o 0 168 (bitsN v 0 8)
    else false

/-- A request counts as admitted once it runs, is parked or resumes. -/
def SeqEntry.admitted (e : SeqEntry) : Bool := e.st = .running || e.st = .parked || e.st = .resuming

/-- Has a context admitted requests, requests at all, a step under way? -/
def Dev.ctxAdmitted (d : Dev) (c : Nat) : Bool := d.seqs.any (fun e => e.2.ctx = c && e.2.admitted)
def Dev.ctxRequests (d : Dev) (c : Nat) : Bool := d.seqs.any (fun e => e.2.ctx = c && e.2.st ≠ .free)
def Dev.ctxRuns (d : Dev) (c : Nat) : Bool := d.steps.any (fun e => e.2.running && e.2.ctx = c)

/-- Does the Gatehouse take a LOAD_CMD (R225, R470)? -/
def Dev.loadTakes (d : Dev) (c cmd : Nat) : Bool :=
  let x := d.ctx c
  if cmd = 1 then x.staged.st = 3 && (d.plot x.plot).st = 1
  else if cmd = 3 then !d.ctxAdmitted c && !d.ctxRuns c
  else true

/-- The status that the value or the device's state gives a write (R564, R634): 0 where it is taken. -/
def Dev.valueStatus (d : Dev) (r : Route) (g : Rights) (page off v : Nat) : Nat :=
  let b := d.bank r g page off
  let addr := d.staged r page (off - 4) + 2 ^ 32 * v
  let held (lo : Nat) : Nat := d.rg64 page lo b
  let x := d.ctx b
  if d.outOfRange page off v then 4
  else if page = 0x000 ∧ off = 0x414 then (if d.anyBundle && bitsN v 0 12 ≠ d.portMap then 3 else 0)
  else if page = 0x006 ∧ off = 0x400 then (if d.anyBundle && bitsN v 0 4 ≠ d.rgN 0x006 0x400 0 then 3 else 0)
  else if page = 0x000 ∧ off = 0x410 then (if d.ctxs.any (fun e => e.2.multi) then 3 else 0)
  else if page = 0x002 ∧ off = 0x410 then (if d.loadTakes (v % 256) (bitsN v 8 3) then 0 else 6)
  else if page = 0x050 ∧ off = 0x408 then
    (if d.router.retained || d.router.active = bitsN (d.sel r 0x050 0x404) 12 1 then 3 else 0)
  else if page = 0x050 ∧ off = 0x414 then (if bitN v 8 && d.router.retained then 3 else 0)
  else if page = 0x008 ∧ off = 0x400 then
    (if (List.range 16).all (fun p => p = 0 || (d.plot p).st = 0) && d.ctxs.all (fun e => e.2.st = 0) then 0 else 3)
  else if page = 0x008 ∧ off = 0x524 then (if x.st = 0 then 0 else 1)
  else if page = 0x008 ∧ inOff off 0x534 0x548 then
    let sizeK (n : Nat) : Nat := 1024 * bitsN n 0 24
    let sizeM (n : Nat) : Nat := 2 ^ 20 * bitsN n 0 11
    let ok :=
      if off = 0x538 then d.ctxArea b addr (sizeK (d.rgN 0x008 0x53C b))
      else if off = 0x53C then d.ctxArea b (held 0x534) (sizeK v)
      else if off = 0x544 then d.ctxArea b addr (sizeM (d.rgN 0x008 0x548 b))
      else if off = 0x548 then d.ctxArea b (held 0x540) (sizeM v)
      else true
    if !ok then 4 else if x.holdsBundle then 3 else 0
  else if page = 0x003 ∧ off = 0x404 ∧ (v % 2 ^ 12) / 2 ≠ d.rgN 0x003 0x404 b / 2 ∧
      d.seqs.any (fun e => e.2.ctx = b && (e.2.st = .queued || e.2.st = .running || e.2.st = .parked)) then 3
  else if page = 0x003 then
    let seqs := d.rgN 0x003 0x414 b + 1 - d.rgN 0x003 0x410 b
    let ok :=
      if off = 0x41C then d.ctxArea b addr (1024 * seqs)
      else if off = 0x424 then d.ctxArea b addr (8 * d.rgN 0x003 0x428 b)
      else if off = 0x428 then d.ctxArea b (held 0x420) (8 * v)
      else if off = 0x430 then d.ctxArea b addr 512
      else if off = 0x508 then
        (match d.ringPlot b, d.localMem addr with
         | some p, some o => (d.plot p).inSystem o 4096
         | _, _ => false)
      else true
    if ok then 0 else 4
  else if page = 0x073 ∧ off = 0x448 ∧ v % 4 = 1 then
    let k := d.sel r 0x073 0x430 % 4096
    (match d.localMem (d.rg64 0x073 0x434 k) with
     | some o => if (d.plot (d.rgN 0x073 0x440 k % 16)).inSystem o (4096 * d.rgN 0x073 0x43C k) then 0 else 4
     | none => 4)
  else if page = 0x090 ∧ off = 0x514 then
    (match d.localMem addr with
     | some o => if d.livePlots.any (fun p => (g.tenant.isNone || g.tenant = some p) && (d.plot p).inSystem o 64) then 0 else 4
     | none => 4)
  else 0

/-- Is a register made read-only by CFG_LOCK (R599)? -/
def Dev.cfgLocked (d : Dev) (r : Route) (g : Rights) (page off : Nat) : Bool :=
  let common := off = 0x01C || off = 0x02C || off = 0x010
  let rw := match regRow page off with
    | some row => row.acc = .rw
    | none => false
  bitN (d.rgN page 0x034 (d.bank r g page 0x034)) 0 && rw && (common || decide (0x400 ≤ off)) && !isSel page off

/-- Does the device stand before its CALIBRATE state, where no page but DEVICE answers (R570, R593)? -/
def Dev.bootOnly (d : Dev) : Bool := !d.power.fatal && (match d.power.phase with
  | .calibrate | .live | .rest => false
  | _ => true)

/-- Is a page closed to writes in CALIBRATE (R615)? -/
def Dev.calOnly (d : Dev) (page : Nat) : Bool :=
  !d.power.fatal && d.power.phase = .calibrate &&
    !([0x000, 0x001, 0x004, 0x006, 0x007, 0x050, 0x051, 0x070, 0x071, 0x072].contains page || inOff page 0x040 0x04B)

/-- Is a page one of a fused pavilion (R56, R95)? -/
def Dev.fusedPage (d : Dev) (page : Nat) : Bool := inOff page 0x010 0x02F && (d.pav (page - 0x010)).fused

/-- The status that a route's rights and the page give a write, before the register's own rule is asked: 0 where they let it pass. -/
def State.accessStatus (s : State) (r : Route) (page off v : Nat) : Nat :=
  let g := s.rights r
  let d := s.dev
  if (blockOf page).isNone then 4
  else if (d.bootOnly && page ≠ 0) || d.calOnly page then 3
  else if !g.mayWrite page off v then 1
  else if (match g.tenant with | some p => !g.manage && !d.tenantItem r p page off v true | none => false) then 1
  else if !d.fusedPage page && d.cfgLocked r g page off then 1
  else 0

/-- The status of a write before anything is written (R564, R592, R634): 0 OK, 1 ACCESS, 3 BUSY, 4 RANGE, 6 NOT_READY. A fused
pavilion's page ignores any value (R95). -/
def State.writeStatus (s : State) (r : Route) (page off v : Nat) : Nat :=
  let a := s.accessStatus r page off v
  if a ≠ 0 then a
  else if s.dev.fusedPage page then 0
  else s.dev.valueStatus r (s.rights r) page off v

/-- The status of a read. -/
def State.readStatus (s : State) (r : Route) (page off : Nat) : Nat :=
  let g := s.rights r
  let d := s.dev
  if (blockOf page).isNone then 4
  else if d.bootOnly && page ≠ 0 then 3
  else if !g.mayRead page off then 1
  else if (match g.tenant with | some p => !g.readAll && !d.tenantItem r p page off 0 false | none => false) then 1
  else 0

/-- A refused access (R592); where the register's own rule refuses it (`own`), with what that rule records (R218, R225, R310, R473,
R602). -/
def Dev.refuse (d : Dev) (page off status : Nat) (own : Bool) : Dev :=
  let d1 := (d.count 0x000 0x108 1).record 0x000 0 Where.none
  if !own then d1
  else if (page = 0x000 ∧ off = 0x414 ∨ page = 0x006 ∧ off = 0x400) ∧ status = 3 then d1.record 0x002 4 Where.none
  else if page = 0x000 ∧ off = 0x410 then d1.record 0x000 1 Where.none
  else if page = 0x002 ∧ off = 0x410 ∧ status = 6 then d1.record 0x002 5 Where.none
  else if page = 0x050 ∧ (off = 0x408 ∨ off = 0x414) then d1.record 0x050 4 Where.none
  else if page = 0x008 ∧ off = 0x524 then (d1.setN 0x008 0x530 0 1).record 0x008 1 Where.none
  else d1

/-- Does the window answer: with power, from BOOT on (R601, R613)? -/
def Dev.answers (d : Dev) : Bool := d.powered && d.power.phase ≠ .rom

/-- A register write that a command row of its own stands for: the check of every write, then the row's effect. -/
def State.regCmd (s : State) (r : Route) (page off v : Nat) (op : State → State) : State :=
  if !s.dev.answers then s
  else
    let st := s.writeStatus r page off v
    if st ≠ 0 then { s with dev := s.dev.refuse page off st (s.accessStatus r page off v = 0) }
    else if s.dev.fusedPage page then { s with dev := s.dev.count 0x000 0x104 1 }
    else op { s with dev := s.dev.count 0x000 0x104 1 }

/-- `regCmd` whose effect touches the device only. -/
def onReg (r : Route) (page off v : Nat) (f : Dev → Dev) (s : State) : Host.Outcome State Fault Refusal :=
  .next (s.regCmd r page off v (fun t => { t with dev := f t.dev }))

end Sys2Proof.Machine
end

