-- ==== Sys2Proof/Machine/Aes.lean ====
section
/-! DEFINITION. AES-256-XTS over one 64-byte burst (R275), as FIPS 197 and IEEE 1619 fix it (PRESUMED, log entry 188). -/
namespace Sys2Proof.Machine

/-- Product by x in GF(2^8), and of two elements. -/
def gfX (a : Byte) : Byte := (a <<< 1) ^^^ (if a.getLsbD 7 then 0x1B else 0)
def gfMulN : Nat → Byte → Byte → Byte
  | 0, _, _ => 0
  | n + 1, a, b => (if b.getLsbD 0 then a else 0) ^^^ gfMulN n (gfX a) (b >>> 1)
def gfMul (a b : Byte) : Byte := gfMulN 8 a b

/-- The inverse of an element, 0 for 0: its 254th power. -/
def gfInv (a : Byte) : Byte :=
  let r := (List.range 7).foldl (fun (s : Byte × Byte) _ => let q := gfMul s.1 s.1; (q, gfMul s.2 q)) (a, 1)
  r.2

/-- The S-box and its inverse. -/
def aesS (a : Byte) : Byte :=
  let b := gfInv a
  b ^^^ b.rotateLeft 1 ^^^ b.rotateLeft 2 ^^^ b.rotateLeft 3 ^^^ b.rotateLeft 4 ^^^ 0x63
def aesSInv (a : Byte) : Byte := gfInv (a.rotateLeft 1 ^^^ a.rotateLeft 3 ^^^ a.rotateLeft 6 ^^^ 0x05)

/-- Bytes added. -/
def xorBytes (a b : List Byte) : List Byte := (a.zip b).map (fun e => e.1 ^^^ e.2)

/-- The rows of a state shifted left, and right; bytes lie by columns. -/
def aesShift (s : List Byte) : List Byte := (List.range 16).map (fun k => nthD s ((k % 4) + 4 * ((k / 4 + k % 4) % 4)) 0)
def aesShiftInv (s : List Byte) : List Byte := (List.range 16).map (fun k => nthD s ((k % 4) + 4 * ((k / 4 + 4 - k % 4) % 4)) 0)

/-- The columns of a state multiplied by a polynomial, given by its coefficients for row 0. -/
def aesMix (m : List Byte) (s : List Byte) : List Byte :=
  (List.range 16).map (fun k => (List.range 4).foldl (fun x j =>
    x ^^^ gfMul (nthD m ((j + 4 - k % 4) % 4) 0) (nthD s (4 * (k / 4) + j) 0)) 0)

/-- The words of the key schedule of a 256-bit key, the first eight its own. -/
def aesWords : Nat → List (List Byte) → Byte → List (List Byte)
  | 0, ws, _ => ws
  | n + 1, ws, rcon =>
    let i := ws.length
    let t := nthD ws (i - 1) []
    let u := if i % 8 = 0 then xorBytes ((t.drop 1 ++ t.take 1).map aesS) [rcon, 0, 0, 0]
      else if i % 8 = 4 then t.map aesS
      else t
    aesWords n (ws ++ [xorBytes (nthD ws (i - 8) []) u]) (if i % 8 = 0 then gfX rcon else rcon)

/-- The round keys of a key of 32 bytes. -/
def aesKeys (key : List Byte) : List (List Byte) :=
  let ws := aesWords 52 (pieces 4 key) 1
  (List.range 15).map (fun r => (List.range 4).flatMap (fun j => nthD ws (4 * r + j) []))

/-- One block encrypted, and decrypted. -/
def aesEnc (key s : List Byte) : List Byte :=
  let ks := aesKeys key
  let s1 := (List.range 13).foldl (fun s r => xorBytes (aesMix [2, 3, 1, 1] (aesShift (s.map aesS))) (nthD ks (r + 1) [])) (xorBytes s (nthD ks 0 []))
  xorBytes (aesShift (s1.map aesS)) (nthD ks 14 [])
def aesDec (key s : List Byte) : List Byte :=
  let ks := aesKeys key
  let s1 := (List.range 13).foldl (fun s r => aesMix [14, 11, 13, 9] (xorBytes ((aesShiftInv s).map aesSInv) (nthD ks (13 - r) [])))
    (xorBytes s (nthD ks 14 []))
  xorBytes ((aesShiftInv s1).map aesSInv) (nthD ks 0 [])

/-- The tweaks of the blocks of a data unit: the first the encrypted unit number, each next the one before times x in
GF(2^128). -/
def xtsNext (t : List Byte) : List Byte :=
  let v := 2 * leNat t
  toBytes 16 (if v < 2 ^ 128 then v else (v - 2 ^ 128) ^^^ 0x87)
def xtsTweaks : Nat → List Byte → List (List Byte)
  | 0, _ => []
  | n + 1, t => t :: xtsTweaks n (xtsNext t)

/-- A burst under a pair of keys, the data key first, as a block function acts on its blocks. -/
def xtsWith (f : List Byte → List Byte → List Byte) (pair : List Byte) (unit : Nat) (bs : List Byte) : List Byte :=
  let ts := xtsTweaks 4 (aesEnc (pair.drop 32) (toBytes 16 unit))
  ((pieces 16 bs).zip ts).flatMap (fun e => xorBytes (f (pair.take 32) (xorBytes e.1 e.2)) e.2)

/-- A burst encrypted, and decrypted; the tweak is the burst index (R275). -/
def xtsEnc (pair : List Byte) (burst : Nat) (bs : List Byte) : List Byte := xtsWith aesEnc pair burst bs
def xtsDec (pair : List Byte) (burst : Nat) (bs : List Byte) : List Byte := xtsWith aesDec pair burst bs

end Sys2Proof.Machine
end

