-- ==== Sys2Proof/Machine/Convert.lean ====
section
/-! DEFINITION. Drain and conversion (R114 to R121): one source value to one output format, MX blocks, and the layout of output rows (R154). -/
namespace Sys2Proof.Machine

/-- A source element of a conversion: its result (R112) and whether it has overflowed (R106, R110). -/
structure Src where
  val : Val
  overflowed : Bool
  deriving DecidableEq, Repr

/-- The layout of an element type that is a floating-point format. -/
def Elem.float : Elem → FloatFmt
  | .e4m3 => fE4M3 | .e5m2 => fE5M2 | .e3m2 => fE3M2 | .e2m3 => fE2M3 | .e2m1 => fE2M1
  | .bf16 => fBF16 | .fp16 => fFP16 | .int8 => fE4M3

/-- The value of an element pattern, before any block scale (R97, R100). -/
def Elem.value (e : Elem) (bits : Nat) : Val :=
  match e with
  | .int8 => Val.ofInt (signedN 8 bits) (-6)
  | .e3m2 | .e2m3 => e.float.decode (bits % 64)
  | .e2m1 => e.float.decode (bits % 16)
  | _ => e.float.decode bits

/-- The element integer of R101 and its quantum: the value is `integer * 2 ^ quantum`; 0 for NaN and infinity. -/
def Elem.quantum : Elem → Int
  | .e4m3 => -9 | .e5m2 => -16 | .e3m2 => -4 | .e2m3 => -3 | .e2m1 => -1 | .int8 => -6
  | .bf16 => -133 | .fp16 => -24

/-- The integer of an element at its quantum (R101). -/
def Elem.int (e : Elem) (bits : Nat) : Int :=
  match e.value bits with
  | .fin n m x => (if n then -1 else 1) * (m * 2 ^ (x - e.quantum).toNat : Int)
  | _ => 0

/-- Scaled by an E8M0 scale byte; 0xFF makes it NaN (R99). -/
def scaled (scale : Nat) : Val → Val
  | .fin n m x => if scale = 255 then .nan else .fin n m (x + scale - 127)
  | v => if scale = 255 then .nan else v

/-- The element type of an MX output format. -/
def Fmt.mx : Fmt → Option Elem
  | .mxfp8e4m3 => some .e4m3 | .mxfp8e5m2 => some .e5m2
  | .mxfp6e3m2 => some .e3m2 | .mxfp6e2m3 => some .e2m3
  | .mxfp4 => some .e2m1 | .mxint8 => some .int8
  | _ => none

/-- The width of an XW output format. -/
def Fmt.xw : Fmt → Option XwN
  | .xw32 => some .n32 | .xw64 => some .n64 | .xw128 => some .n128
  | _ => none

/-- Bytes of one element of a format that is no MX format. -/
def Fmt.bytes : Fmt → Nat
  | .fp32 | .int32 | .xw32 => 4
  | .fp16 | .bf16 => 2
  | .xw64 => 8 | .xw128 => 16
  | _ => 1

/-- The floating-point layout of an output format. -/
def Fmt.float : Fmt → Option FloatFmt
  | .fp32 => some fFP32 | .fp16 => some fFP16 | .bf16 => some fBF16
  | .e4m3 => some fE4M3 | .e5m2 => some fE5M2
  | _ => none

/-- The SATURATE result of an overflowed source (R119). -/
def saturated (f : Fmt) (neg : Bool) : Nat :=
  match f.float with
  | some ff => ff.signed neg ff.maxCode
  | none =>
    let n := if f = .int8 then 8 else 32
    patternN n (if neg then -(2 ^ (n - 1)) else 2 ^ (n - 1) - 1)

/-- One element converted to a format that is neither MX nor XW (R116 to R119). An overflowed source whose exact sum is 0 has no sign; it
takes the positive limit (R119; DESIGN CHOICE, log entry 183). -/
def encodeScalar (f : Fmt) (m : RMode) (s : Src) : Nat :=
  if s.overflowed && s.val.isFin then saturated f s.val.neg
  else match f.float with
    | some ff => ff.encode m s.val
    | none => encodeInt (if f = .int8 then 8 else 32) m s.val

/-- The largest exponent of an element type (step 2 of R120). -/
def Elem.emax : Elem → Int
  | .e4m3 => 8 | .e5m2 => 15 | .e3m2 => 4 | .e2m3 => 2 | .e2m1 => 2 | _ => 0

/-- The floor of the base-2 logarithm of a positive magnitude. -/
def floorLog (mag : Nat) (exp : Int) : Int := (Nat.log2 mag : Int) + exp

/-- The shared exponent X of a block (step 2 of R120). -/
def blockExp (el : Elem) (srcs : List Src) : Int :=
  let logs := srcs.filterMap (fun s => match s.val with
    | .fin _ m x => if s.overflowed || m = 0 then none else some (floorLog m x)
    | _ => none)
  match logs with
  | [] => -127
  | l :: ls => max (-127) (min 127 (ls.foldl max l - el.emax))

/-- One element of a block at shared exponent X (steps 3 and 4 of R120). -/
def mxElem (el : Elem) (m : RMode) (x : Int) (s : Src) : Nat :=
  match s.val with
  | .nan => 0
  | .inf neg =>
    match el, m with
    | .e5m2, _ => fE5M2.encode m (.inf neg)
    | .e4m3, .rnesat => fE4M3.signed neg fE4M3.maxCode
    | .e4m3, _ => 0x7F
    | _, _ => 0
  | .fin neg mag e =>
    match el with
    | .int8 =>
      let k : Int := if s.overflowed then 128 else roundTo m mag (e - x + 6) 0
      patternN 8 (max (-128) (min 127 (if neg then -k else k)))
    | _ =>
      let f := el.float
      let code := if s.overflowed then f.maxCode else min f.maxCode (f.gridCode m mag (e - x))
      f.signed neg code

/-- Does a block become all NaN (step 1 of R120)? -/
def blockNan (el : Elem) (srcs : List Src) : Bool :=
  srcs.any (fun s => match s.val with
    | .nan => true
    | .inf _ => !(el = .e5m2 || el = .e4m3)
    | _ => false)

/-- A block converted to an MX format: scale byte and elements (R120); one rounding mode for each element. -/
def mxBlock (el : Elem) (modes : List RMode) (srcs : List Src) : Nat × List Nat :=
  if blockNan el srcs then (255, srcs.map (fun _ => 0))
  else
    let x := blockExp el srcs
    ((x + 127).toNat, (modes.zip srcs).map (fun p => mxElem el p.1 x p.2))

/-- Nibbles packed two a byte, the even-numbered one in bits 3..0 (R100). -/
def packNibbles : List Nat → List Byte
  | a :: b :: rest => BitVec.ofNat 8 (a % 16 + 16 * (b % 16)) :: packNibbles rest
  | [a] => [BitVec.ofNat 8 (a % 16)]
  | [] => []

/-- Zero bytes. -/
def zeros (n : Nat) : List Byte := List.replicate n 0

/-- One output row of up to 64 elements in an MX format, padded as R154 fixes. -/
def mxRow (el : Elem) (modes : List RMode) (srcs : List Src) : List Byte :=
  let b0 := mxBlock el (modes.take 32) (srcs.take 32)
  let tail := srcs.drop 32
  let b1 := if tail.isEmpty then (0, List.replicate 32 0) else mxBlock el (modes.drop 32) tail
  let els := b0.2 ++ b1.2
  let scales := [BitVec.ofNat 8 b0.1, BitVec.ofNat 8 b1.1]
  match el with
  | .e2m1 => packNibbles els ++ scales ++ zeros 30
  | _ => els.map (BitVec.ofNat 8 ·) ++ scales ++ zeros 62

/-- A value converted to XWn at output window `wout` (R118, R121), OVF carried from the source. -/
def toXw (wout : Int) (v : Val) (carry : Bool) : Xw :=
  match v with
  | .nan => ⟨0, true, false, false, false⟩
  | .inf true => ⟨0, false, false, true, false⟩
  | .inf false => ⟨0, false, true, false, false⟩
  | .fin n m e => ⟨floorAt n m e wout, false, false, false, carry⟩

/-- Does an XW conversion report an overflow (R121)? -/
def xwOver (n : XwN) (x : Xw) : Bool := xwExcess n.bits x.sum != 0

/-- The rows of a plain output: bytes of each element in order (R154). -/
def plainRow (f : Fmt) (modes : List RMode) (srcs : List Src) : List Byte :=
  (modes.zip srcs).flatMap (fun p => toBytes f.bytes (encodeScalar f p.1 p.2))

/-- The value plane and the companion plane of an XW output row (R154). -/
def xwRow (n : XwN) (wout : Int) (srcs : List (Val × Bool)) : List Byte × List Byte :=
  let ps := srcs.map (fun s => (toXw wout s.1 s.2).pack n.bits)
  (ps.flatMap (fun p => toBytes (n.bits / 8) p.1), ps.flatMap (fun p => toBytes 2 p.2))

/-- Bytes of one output row of 64 elements (R154). -/
def Fmt.rowBytes : Fmt → Nat
  | .fp32 | .int32 | .xw32 => 256
  | .fp16 | .bf16 => 128
  | .e4m3 | .e5m2 | .int8 | .mxfp4 => 64
  | .mxfp8e4m3 | .mxfp8e5m2 | .mxfp6e3m2 | .mxfp6e2m3 | .mxint8 | .mxfp8 | .mxfp6 => 128
  | .xw64 => 512 | .xw128 => 1024

end Sys2Proof.Machine
end

