-- ==== Sys2Proof/Machine/Philox.lean ====
section
/-! DEFINITION. Random streams (R123 to R127): Philox-4x32-10 with the constants the spec gives, keys and counters of R123 and R124. -/
namespace Sys2Proof.Machine

/-- One round of Philox-4x32: the two multiplications, the exchange of halves, the key mixed in. The round's shape is
that of the published generator the spec names (log entry 12, PRESUMED). -/
def philoxRound (k0 k1 : W32) (c : W32 × W32 × W32 × W32) : W32 × W32 × W32 × W32 :=
  let p0 := 0xD2511F53 * c.1.toNat
  let p1 := 0xCD9E8D57 * c.2.2.1.toNat
  let hi0 : W32 := BitVec.ofNat 32 (p0 / 2 ^ 32)
  let lo0 : W32 := BitVec.ofNat 32 p0
  let hi1 : W32 := BitVec.ofNat 32 (p1 / 2 ^ 32)
  let lo1 : W32 := BitVec.ofNat 32 p1
  (hi1 ^^^ c.2.1 ^^^ k0, lo1, hi0 ^^^ c.2.2.2 ^^^ k1, lo0)

/-- `n` rounds, the key advanced between rounds (R123). -/
def philoxRounds : Nat → W32 → W32 → W32 × W32 × W32 × W32 → W32 × W32 × W32 × W32
  | 0, _, _, c => c
  | n + 1, k0, k1, c => philoxRounds n (k0 + 0x9E3779B9) (k1 + 0xBB67AE85) (philoxRound k0 k1 c)

/-- The four words of one call. -/
def philox (k0 k1 c0 c1 c2 c3 : W32) : W32 × W32 × W32 × W32 := philoxRounds 10 k0 k1 (c0, c1, c2, c3)

/-- Draw `d` of a stream: kind, tensor id, tree node, seed, position (R123, R124). -/
def draw (kind tid node seed pos d : Nat) : Nat :=
  let w := philox (BitVec.ofNat 32 seed) (BitVec.ofNat 32 (seed / 2 ^ 32)) (BitVec.ofNat 32 (d / 4))
    (BitVec.ofNat 32 (tid % 65536 + node % 64 * 65536 + kind % 16 * 2 ^ 28)) (BitVec.ofNat 32 pos)
    (BitVec.ofNat 32 (pos / 2 ^ 32))
  match d % 4 with
  | 0 => w.1.toNat
  | 1 => w.2.1.toNat
  | 2 => w.2.2.1.toNat
  | _ => w.2.2.2.toNat

/-- A draw as a uniform FP32 number in [0, 1) (R127). -/
def uniform (word : Nat) : Nat := toFp32 (.fin false (word / 256) (-24))

end Sys2Proof.Machine
end

