-- ==== Sys2Proof/Machine/PavOps.lean ====
section
/-! DEFINITION. Reading and writing inside one pavilion: stream registers, index registers, rendezvous counters, results on their way, latencies (R65, R66, R144). -/
namespace Sys2Proof.Machine

/-- What a plan sees of the device around its pavilion while it runs one step. -/
structure Env where
  lc : LatClass
  param : Nat → Nat
  node : Nat → Nat                     -- tree node of the draws whose position a parameter register holds (R44, R123)
  faultMode : Bool

/-- The byte address of a line operand in the stream registers. -/
def LineRef.byte (l : LineRef) : Nat := 2048 * l.reg + 64 * l.line

/-- The byte address of a half register. -/
def HalfRef.byte (h : HalfRef) : Nat := 2048 * h.reg + (if h.high then 1024 else 0)

/-- Bytes of the stream registers. -/
def Pav.sbytes (p : Pav) (a n : Nat) : List Byte := p.sregs.bytes a n

/-- An index register (R69); reset 0. -/
def Pav.ireg (p : Pav) (k : Nat) : W64 := p.idx.get k 0

/-- A predicate flag (R141). -/
def Pav.flag (p : Pav) (q : Nat) : Bool := p.preds.get q false

/-- A rendezvous counter (R77). -/
def Pav.ctr (p : Pav) (k : Nat) : W32 := p.ctrs.get k 0

/-- The free-entry count of an outbound crossing, 16 unless it has been used (R84, R143). -/
def Pav.free (p : Pav) (x : Nat) : Nat := p.freeCnt.get x 16

/-- The value of an index register or an immediate. -/
def Pav.idxImm (p : Pav) : IdxImm → Int
  | .reg k => (p.ireg k).toInt
  | .imm v => v

/-- The value an optional index register adds. -/
def Pav.idxOpt (p : Pav) : Option Nat → Nat
  | none => 0
  | some k => (p.ireg k).toNat

/-- A working-store address: the static offset plus the index value times 2,048 (R72). -/
def Pav.wsAddr (p : Pav) (a : Addr) : Nat := (a.off + p.idxOpt a.idx * 2048) % 2 ^ 25

/-- A level, formed in the issue cycle (R159). -/
def Pav.level (p : Pav) : Level → W32
  | .imm n => n
  | .idx k plus => (p.ireg k).setWidth 32 + plus

/-- Is a level reached (R159): the difference is 0 or at least 2^31? -/
def levelMet (level k : W32) : Bool :=
  let d := (level - k).toNat
  d = 0 || 2 ^ 31 ≤ d

/-- A result put among those on their way, in the order of their cycles; of equal cycles the later comes after. -/
def putPend : List Pend → Pend → List Pend
  | [], x => [x]
  | y :: rest, x => if x.ready < y.ready then x :: y :: rest else y :: putPend rest x

/-- The pavilion with a result on its way. -/
def Pav.later (p : Pav) (ready : Nat) (e : Effect) : Pav := { p with pend := putPend p.pend ⟨ready, e⟩ }

/-- The pavilion with a failed comparison to come in a cycle, among those in the order of their cycles (R151). -/
def putCheck : List (Nat × PavEv) → Nat × PavEv → List (Nat × PavEv)
  | [], x => [x]
  | y :: rest, x => if x.1 < y.1 then x :: y :: rest else y :: putCheck rest x
def Pav.checkAt (p : Pav) (c : Nat) (es : List PavEv) : Pav := { p with checks := es.foldl (fun l e => putCheck l (c, e)) p.checks }

/-- The failed comparisons of a cycle and before, and the pavilion without them. -/
def Pav.takeChecks (p : Pav) (c : Nat) : Pav × List PavEv :=
  ({ p with checks := p.checks.filter (fun e => decide (c < e.1)) }, (p.checks.filter (fun e => decide (e.1 ≤ c))).map (·.2))

/-- Results put on their way one after another. -/
def Pav.laterAll (p : Pav) (l : List (Nat × Effect)) : Pav := l.foldl (fun q x => q.later x.1 x.2) p

/-- The exact sum an accumulator element holds (R105). -/
def AccEl.sum (a : AccEl) : Int := a.v.toInt + signedN 24 (bitsN a.comp.toNat 4 24) * 2 ^ 112

/-- The residue an accumulator element holds (R104). -/
def AccEl.res (a : AccEl) : Nat := bitsN a.comp.toNat 28 3

/-- An accumulator element as an XW value. -/
def AccEl.xw (a : AccEl) : Xw :=
  let c := a.comp.toNat
  ⟨a.sum, bitN c 0, bitN c 1, bitN c 2, bitN c 3⟩

/-- An accumulator element from its exact sum, flags and residue (R104, R105). -/
def AccEl.of (x : Xw) (res : Nat) : AccEl :=
  ⟨BitVec.ofInt 112 x.sum,
    BitVec.ofNat 32 (x.nan.toNat + 2 * x.posInf.toNat + 4 * x.negInf.toNat + 8 * x.ovf.toNat
      + 16 * patternN 24 (xwExcess 112 x.sum) + 2 ^ 28 * (res % 7))⟩

/-- A contribution taken into an element (R108, R112, R137). -/
def AccEl.take (a : AccEl) (c : Contrib) : AccEl :=
  AccEl.of (a.xw.combine ⟨c.sum, c.nan, c.posInf, c.negInf, c.ovf⟩) (a.res + c.res)

/-- Does the residue kept agree with the value (R137)? -/
def AccEl.resOk (a : AccEl) : Bool := (a.sum % 7).toNat = a.res

/-- Contributions taken into a row, with its checksum product (R135). -/
def AccRow.take (r : AccRow) (cs : List Contrib) (chk : Int) : AccRow :=
  ⟨r.els.zipWith AccEl.take cs, r.chk + BitVec.ofInt 128 chk⟩

/-- An accumulator row (R62). -/
def Pav.accRow (p : Pav) (bed row : Nat) : AccRow := p.acc.get (256 * bed + row) AccRow.zero

/-- Word marks without the 16-byte words that a write of `[a, a + n)` brings fresh check bits to (R261). -/
def freshWords (l : List Nat) (a n : Nat) : List Nat := l.filter (fun w => !(decide (a < 16 * w + 16) && decide (16 * w < a + n)))

/-- Bytes written into the working store, with fresh check bits. -/
def Pav.putStore (p : Pav) (a : Nat) (bs : List Byte) : Pav :=
  { p with store := p.store.store a bs, storeBad := freshWords p.storeBad a bs.length,
           storeSoft := freshWords p.storeSoft a bs.length }

/-- Bytes written into the weight tier, with fresh check bits. -/
def Pav.putTier (p : Pav) (a : Nat) (bs : List Byte) : Pav :=
  { p with tier := p.tier.store a bs, tierBad := freshWords p.tierBad a bs.length,
           tierSoft := freshWords p.tierSoft a bs.length }

/-- A result that has become readable. -/
def Pav.land (p : Pav) : Effect → Pav
  | .bytes a bs => { p with sregs := p.sregs.store a bs }
  | .idx k v => { p with idx := p.idx.put k v }
  | .pred q b => { p with preds := p.preds.put q b }
  | .store a bs => p.putStore a bs
  | .acc bed row cs chk =>
    { p with acc := p.acc.put (256 * bed + row) ((p.accRow bed row).take cs chk) }
  | .accZero bed row => { p with acc := p.acc.put (256 * bed + row) AccRow.zero }

/-- Every result that can be read in a cycle, landed in order (R66). -/
def landUpTo (c : Nat) : List Pend → Pav → Pav
  | [], p => { p with pend := [] }
  | x :: rest, p => if x.ready ≤ c then landUpTo c rest (p.land x.eff) else { p with pend := x :: rest }

/-- The pavilion as an instruction of cycle `c` reads it. -/
def Pav.settle (p : Pav) (c : Nat) : Pav := landUpTo c p.pend p

/-- The latency L of each instruction (R144). -/
def latency (lc : LatClass) : PlanOp → Nat
  | .mm o => match o.wfmt with
    | .bf16 | .fp16 => 7
    | _ => 6
  | .zero _ => 1
  | .drain _ => match lc with
    | .lc1 => 9
    | .lc2 => 8
  | .chkRd _ _ => 4
  | .ld _ _ _ => 4
  | .st _ _ => 3
  | .gather _ _ _ _ _ => 5
  | .scatter _ _ _ _ => 3
  | .perm _ _ _ _ => 3
  | .xpose _ _ e => if e = 8 then 8 else 10
  | .iMov _ (.param _) => 2
  | .iMov _ _ => 1
  | .iAdd _ _ _ => 1
  | .iMul _ _ _ => 3
  | .xrecv _ _ _ => 2
  | .lane .fma _ => 4
  | .lane (.rot _) _ => 2
  | .lane _ _ => 3
  | .cvt _ => 4
  | .rng _ => 12
  | .red .argmax _ => 9
  | .red _ _ => 8
  | .topk _ => match lc with
    | .lc1 => 40
    | .lc2 => 36
  | .treemask _ => 6
  | .sample _ => 20
  | .sf .exp _ => match lc with
    | .lc1 => 14
    | .lc2 => 12
  | .sf .log _ => 14
  | .sf .rsqrt _ => 10
  | .sf _ _ => 16
  | .pred _ _ => 1
  | .pld _ _ _ => 2
  | .timeRd _ => 3
  | .statRd _ _ _ => 3
  | _ => 0

/-- Bytes of a source row of a reduction (R177). -/
def RedArgs.rowBytes (o : RedArgs) : Nat := o.n * o.ty.bytes

/-- Output row bytes of v.treemask (R180). -/
def TreeArgs.rowBytes (o : TreeArgs) : Nat :=
  match o.fmt with
  | .fp32 => 256 | .bf16 => 128 | .bit => 8

/-- The number of row or chunk events of an instruction, and the cycles from one to the next (R144, R173). An
instruction that works in one piece has one event. -/
def rowsOf : PlanOp → Nat × Nat
  | .mm o => (o.acc.j1 - o.acc.j0 + 1, match o.wfmt with | .bf16 | .fp16 => 2 | _ => 1)
  | .drain o => (o.acc.j1 - o.acc.j0 + 1, 1)
  | .lane _ o => (ceilDiv o.len 1024, 1)
  | .cvt o => (ceilDiv o.len 1024, 1)
  | .rng o => (ceilDiv o.len 1024, 1)
  | .red _ o => (o.rows, ceilDiv o.rowBytes 1024)
  | .topk o => (o.rows, ceilDiv o.rowBytes 1024)
  | .sample o => (o.rows, 1)
  | .sf _ o => (ceilDiv o.len 256, 1)
  | _ => (1, 1)

/-- The cycles from issue during which an instruction holds its unit (R144, R173, R200). -/
def occupancy : PlanOp → Nat
  | .xpose _ _ e => if e = 8 then 2 else 4
  | .treemask o => ceilDiv (o.rows * o.rowBytes) 1024
  | op => (rowsOf op).1 * (rowsOf op).2

end Sys2Proof.Machine
end

