-- ==== Sys2Proof/Machine/Bed.lean ====
section
/-! DEFINITION. What one row of a bed instruction does: tile records (R58, R59, R633), activation rows (R150), terms and contributions (R107 to R112), checksums and residues (R133 to R137), drain (R153 to R155) and chk.rd (R156). -/
namespace Sys2Proof.Machine

/-- Is the weight format one of BF16 and FP16? -/
def Elem.is16 : Elem → Bool
  | .bf16 | .fp16 => true
  | _ => false

/-- Tile depth and K of one activation row (R58, R150). -/
def tileDepth (w : Elem) (sp24 : Bool) : Nat :=
  match w, sp24 with
  | .bf16, _ | .fp16, _ => 48
  | .e2m1, false => 192
  | .e2m1, true => 384
  | _, false => 96
  | _, true => 192

/-- Bytes of a tile record, and the cycles the read channel takes, in KiB (R58). -/
def recordKib (w : Elem) (sp24 : Bool) : Nat :=
  match w, sp24 with
  | .bf16, _ | .fp16, _ => 6
  | .e2m1, true => 9
  | _, true => 8
  | _, false => 7

/-- Bytes of one activation slot (R150). -/
def slotBytes (w : Elem) (sp24 : Bool) (a : Elem) : Nat :=
  let d := tileDepth w sp24
  if a.is16 then 128
  else match a with
    | .e2m1 => if d = 96 then 64 else if d = 192 then 128 else 256
    | _ => if d = 96 then 128 else if d = 192 then 256 else 512

/-- An element as the multiplier sees it: the integer of R101, or a special value, with its own value for 16-bit
formats. -/
structure MulEl where
  int : Int
  val : Val
  deriving DecidableEq, Repr

/-- An element, 0 as an integer when it is special or its block scale is 0xFF (R134). -/
def MulEl.of (e : Elem) (nanBlock : Bool) (bits : Nat) : MulEl :=
  if nanBlock then ⟨0, .nan⟩ else ⟨e.int bits, e.value bits⟩

/-- The bits of element `i` of a packed element array at a byte offset (R100). -/
def elemBits (m : Mem) (e : Elem) (base i : Nat) : Nat :=
  match e with
  | .e2m1 => let b := (m.read (base + i / 2)).toNat; if i % 2 = 0 then b % 16 else b / 16
  | .e3m2 | .e2m3 => (m.read (base + i)).toNat % 64
  | .bf16 | .fp16 => leNat (m.bytes (base + 2 * i) 2)
  | _ => (m.read (base + i)).toNat

/-- The activation row in a slot: elements first, then one scale for each block of 32 (R150). -/
def actScale (m : Mem) (a : Elem) (base depth b : Nat) : Nat :=
  let elemBytes := match a with | .e2m1 => depth / 2 | _ => depth
  (m.read (base + elemBytes + b)).toNat

/-- The positions kept by a 2:4 code (R633); none under codes 6 and 7. -/
def keptPos : Nat → Option (Nat × Nat)
  | 0 => some (0, 1) | 1 => some (0, 2) | 2 => some (0, 3) | 3 => some (1, 2) | 4 => some (1, 3) | 5 => some (2, 3)
  | _ => none

/-- The code of group `g` and column `j` (R633). -/
def spCode (rec : Mem) (g j : Nat) : Nat :=
  let k := 3 * (64 * g + j)
  bitsN (leNat (rec.bytes (6144 + k / 8) 2)) (k % 8) 3

/-- The scale byte of block `b` and column `j` (R633). -/
def tileScale (rec : Mem) (sp24 : Bool) (depth b j : Nat) : Nat :=
  let area := 6144 + (if sp24 then depth / 4 * 64 * 3 / 8 else 0)
  (rec.read (area + 64 * b + j)).toNat

/-- The weights column `j` keeps in block `b`: K position and element bits (R633). -/
def tileBlock (rec : Mem) (w : Elem) (sp24 : Bool) (b j : Nat) : List (Nat × Nat) :=
  if sp24 then
    (List.range 8).flatMap (fun i =>
      let g := 8 * b + i
      match keptPos (spCode rec g j) with
      | none => []
      | some (x, y) =>
        [(4 * g + x, elemBits rec w 0 (64 * (2 * g) + j)), (4 * g + y, elemBits rec w 0 (64 * (2 * g + 1) + j))])
  else (List.range 32).map (fun i => (32 * b + i, elemBits rec w 0 (64 * (32 * b + i) + j)))

/-- A term placed at window `w`: floor, clipped to XW112, with OVF and residue (R108, R137). -/
def placeTerm (t e w : Int) : Contrib :=
  let f := floorAt (decide (t < 0)) t.natAbs e w
  let c := max (-(2 ^ 111)) (min (2 ^ 111 - 1) f)
  ⟨c, false, false, false, f != c, (c % 7).toNat⟩

/-- Contributions of one element taken together. -/
def Contrib.plus (a b : Contrib) : Contrib :=
  ⟨a.sum + b.sum, a.nan || b.nan, a.posInf || b.posInf, a.negInf || b.negInf, a.ovf || b.ovf, (a.res + b.res) % 7⟩

/-- The empty contribution. -/
def Contrib.none : Contrib := ⟨0, false, false, false, false, 0⟩

/-- The special-value bits a product sets (R111, R112). -/
def specialOf (v : Val) : Contrib :=
  match v with
  | .nan => { Contrib.none with nan := true }
  | .inf true => { Contrib.none with negInf := true }
  | .inf false => { Contrib.none with posInf := true }
  | _ => Contrib.none

/-- One block of one column: the block integer, and the special values of its products. -/
def blockSum (acts : Nat → MulEl) (ws : List (Nat × MulEl)) : Int × Contrib :=
  ws.foldl (fun s p =>
    let a := acts p.1
    let v := if a.val.isFin && p.2.val.isFin then s.2 else s.2.plus (specialOf (a.val.mul p.2.val))
    (s.1 + a.int * p.2.int, v)) (0, Contrib.none)

/-- What an activation row adds to the 64 elements of an accumulator row, its checksum product, and whether the
multiplier agreed with the checksum (R107, R108, R133, R134) or the residues (R136). -/
structure RowResult where
  cs : List Contrib
  chk : Int
  ok : Bool

/-- An MX row (R107): `rec` is the tile record, `src` the stream registers, `base` the slot's byte address. -/
def mxMulRow (o : MmArgs) (rec src : Mem) (base : Nat) (ups : List Upset) : RowResult :=
  let depth := tileDepth o.wfmt o.sp24
  let nb := depth / 32
  let acts (b : Nat) : List MulEl :=
    let s := actScale src o.afmt base depth b
    (List.range 32).map (fun i => MulEl.of o.afmt (s = 255) (elemBits src o.afmt base (32 * b + i)))
  let step (st : List Contrib × Int × Bool) (b : Nat) : List Contrib × Int × Bool :=
    let al := acts b
    let act (k : Nat) : MulEl := nthD al (k - 32 * b) ⟨0, .fin false 0 0⟩
    let sa := actScale src o.afmt base depth b
    let cols := (List.range 64).map (fun j =>
      let sw := tileScale rec o.sp24 depth b j
      let ws := (tileBlock rec o.wfmt o.sp24 b j).map (fun p => (p.1, MulEl.of o.wfmt (sw = 255) p.2))
      (blockSum act ws, sw, ws))
    -- checksum product: the weights of each K position summed over the columns, times the activation (R133)
    let chkProd := cols.foldl (fun (s : Int) c => c.2.2.foldl (fun s2 p => s2 + (act p.1).int * p.2.int) s) 0
    let sums := (List.range 64).zip cols |>.map (fun p =>
      p.2.1.1 + (ups.filter (fun u => u.blk = b && u.col = p.1)).foldl (fun s u => s + u.delta) 0)
    let total := sums.foldl (· + ·) 0
    let e (sw : Nat) : Int := o.afmt.quantum + o.wfmt.quantum + sa + sw - 254
    let cs := (sums.zip cols).map (fun p => (placeTerm p.1 (e p.2.2.1) o.win).plus p.2.1.2)
    (st.1.zipWith Contrib.plus cs, st.2.1 + chkProd, st.2.2 && total == chkProd)
  let r := (List.range nb).foldl step (List.replicate 64 Contrib.none, 0, true)
  ⟨r.1, r.2.1, r.2.2⟩

/-- A BF16 or FP16 row: each product is one term (R107), each product's significands are checked modulo 7 (R136). -/
def halfMulRow (o : MmArgs) (rec src : Mem) (base : Nat) (ups : List Upset) : RowResult :=
  let acts := (List.range 48).map (fun k => o.afmt.value (elemBits src o.afmt base k))
  let prod (k j : Nat) (a : Val) : Contrib × Bool :=
    let w := o.wfmt.value (elemBits rec o.wfmt 0 (64 * k + j))
    match a, w with
    | .fin n1 m1 e1, .fin n2 m2 e2 =>
      let d := (ups.filter (fun u => u.blk = k && u.col = j)).foldl (fun s u => s + u.delta) 0
      let p : Int := (m1 * m2 : Nat) + d
      (placeTerm (if n1 != n2 then -p else p) (e1 + e2) o.win, (p % 7).toNat == (m1 % 7) * (m2 % 7) % 7)
    | _, _ => (specialOf (a.mul w), true)
  let col (j : Nat) : Contrib × Bool :=
    ((List.range 48).zip acts).foldl (fun s p => let r := prod p.1 j p.2; (s.1.plus r.1, s.2 && r.2)) (Contrib.none, true)
  let cols := (List.range 64).map col
  ⟨cols.map (·.1), 0, cols.all (·.2)⟩

/-- Row `i` of an mm in cycle `t`: reads its slot and sends its contributions on their way; it is compared in the cycle in which they
reach the accumulator (R149 to R151). The mismatches of a row are one fault (log entry 172). -/
def mmRow (lc : LatClass) (a : Active) (o : MmArgs) (i t : Nat) (p : Pav) : Pav × List PavEv :=
  let base := o.act.byte + i * slotBytes o.wfmt o.sp24 o.afmt
  let ups := a.upsets.filter (fun u => u.row = i)
  let row := 64 * o.acc.grp + o.acc.j0 + i
  let is16 := o.wfmt.is16
  let r := if is16 then halfMulRow o a.tile p.sregs base ups else mxMulRow o a.tile p.sregs base ups
  let busy : PavEv := .count (0x100 + 4 * a.bed) (if is16 then 2 else 1)
  let bad : List PavEv := if r.ok then [] else [if is16 then .residue a.bed row else .checksum a.bed row]
  if a.killed then (p, [busy])
  else ((p.later (t + latency lc (.mm o)) (.acc a.bed row r.cs r.chk)).checkAt (t + latency lc (.mm o)) bad, [busy])

/-- The rounding of element `j` of row `i` of a drain or conversion (R115, R123, R155). -/
def rmodeOf (env : Env) (rnd : Option Rnd) (tid : Option Nat) (sr : Option SrArgs) (idx row el : Nat) : RMode :=
  match rnd with
  | some .rz => .rz
  | some .rnesat => .rnesat
  | some .sr =>
    match sr with
    | some s => .sr (draw 1 (tid.getD 0) (env.node (s.p + 2 * row + 1)) (env.param (s.p + 2 * row)) (env.param (s.p + 2 * row + 1)) (s.e0 + idx + el))
    | none => .rne
  | _ => .rne

/-- The bytes an output row of 64 sources takes, values and companions (R154). -/
def outRow (env : Env) (fmt : Fmt) (rnd : Option Rnd) (wout : Int) (tid : Option Nat) (sr : Option SrArgs)
    (idx row : Nat) (srcs : List Src) (carry : List Bool) : List Byte × List Byte × List Bool :=
  let modes := (List.range srcs.length).map (rmodeOf env rnd tid sr idx row ·)
  match fmt.mx, fmt.xw with
  | some el, _ => (mxRow el modes srcs, [], srcs.map (fun s => s.overflowed && s.val.isFin))
  | none, some n =>
    let ps := srcs.zip carry
    let r := xwRow n wout (ps.map (fun s => (s.1.val, s.2)))
    (r.1, r.2, ps.map (fun s => (s.1.overflowed && s.1.val.isFin) || xwOver n (toXw wout s.1.val s.2)))
  | none, none => (plainRow fmt modes srcs, [], srcs.map (fun s => s.overflowed && s.val.isFin))

/-- An accumulator element as the source of a conversion (R110, R112). -/
def AccEl.src (a : AccEl) (win : Int) : Src := ⟨a.xw.val win, a.xw.overflowed 112⟩

/-- What row `i` of a drain writes, and how many of its elements overflow (R119, R153 to R155); `idx` is the value of the column operand's index register. -/
def drainEffects (env : Env) (p : Pav) (bed idx : Nat) (o : DrainArgs) (i : Nat) : List Effect × Nat :=
  let r := p.accRow bed (64 * o.acc.grp + o.acc.j0 + i)
  let srcs := r.els.map (·.src o.win)
  let out := outRow env o.fmt o.rnd (o.wout.getD 0) o.tid o.sr idx i srcs (r.els.map (·.xw.ovf))
  let cmp := match o.cmp with
    | some c => if out.2.1.isEmpty then [] else [Effect.bytes (c.byte + i * 128) out.2.1]
    | none => []
  (.bytes (o.dst.byte + i * o.fmt.rowBytes) out.1 :: cmp, out.2.2.countP (· = true))

/-- Row `i` of a drain in cycle `t` (R119, R137, R153 to R155). The residue mismatches of a row are one fault, as in chk.rd (log entry
172). -/
def drainRow (env : Env) (a : Active) (o : DrainArgs) (i t : Nat) (p : Pav) : Pav × List PavEv :=
  let row := 64 * o.acc.grp + o.acc.j0 + i
  let out := drainEffects env p a.bed (nthD a.lat 0 0) o i
  let evs : List PavEv :=
    (if (p.accRow a.bed row).els.all AccEl.resOk then [] else [.residue a.bed row]) ++
    (if out.2 = 0 then [] else [.accOverflow (a.bed + 4 * row + 2 ^ 11) out.2 env.faultMode])
  if a.killed then (p, []) else (p.laterAll (out.1.map (fun e => (t + latency env.lc (.drain o), e))), evs)

/-- chk.rd in cycle `t`: the checksum columns of its rows, all together (R137, R156). -/
def chkRdAll (lc : LatClass) (a : Active) (acc : AccRef) (dst : LineRef) (t : Nat) (p : Pav) : Pav × List PavEv :=
  let rows := (List.range (acc.j1 - acc.j0 + 1)).map (fun i => 64 * acc.grp + acc.j0 + i)
  let bs := rows.flatMap (fun r => toBytes 16 (p.accRow a.bed r).chk.toNat)
  let bad := rows.filterMap (fun r => if (p.accRow a.bed r).els.all AccEl.resOk then none else some (PavEv.residue a.bed r))
  if a.killed then (p, []) else (p.later (t + latency lc (.chkRd acc dst)) (.bytes dst.byte bs), bad)

/-- zero in cycle `t`: terms that would arrive by cycle t + 1 are lost with the row (R113, R152). -/
def zeroRows (a : Active) (acc : AccRef) (t : Nat) (p : Pav) : Pav × List PavEv :=
  if a.killed then (p, [])
  else
    let rows := (List.range (acc.j1 - acc.j0 + 1)).map (fun i => 64 * acc.grp + acc.j0 + i)
    let keep (x : Pend) : Bool := match x.eff with
      | .acc b r _ _ => !(b = a.bed && rows.contains r && x.ready ≤ t + 1)
      | _ => true
    let p1 := { p with pend := p.pend.filter keep }
    (p1.laterAll (rows.map (fun r => (t + 1, Effect.accZero a.bed r))), [])

end Sys2Proof.Machine
end

