-- ==== Sys2Proof/Machine/Sf.lean ====
section
/-! DEFINITION. The special-function unit (R130, R184). The spec fixes each result within 2 units in the last place of the exact one and leaves which: the exact function is computed to far more bits than FP32 holds, and a free offset of Config picks the result inside the bound (log entry 11). -/
namespace Sys2Proof.Machine

/-- Fraction bits of the working precision. -/
def sfBits : Nat := 160
def sfOne : Nat := 2 ^ sfBits
/-- The natural logarithm of 2 at the working precision. -/
def ln2Fixed : Nat := 1013035739299659071135698605846798551586536899366

/-- The Taylor sum of e^r for a fixed-point r in [0, ln 2): remaining terms, term number, term. -/
def expTaylor (r : Nat) : Nat → Nat → Nat → Nat
  | 0, _, t => t
  | n + 1, k, t => t + expTaylor r n (k + 1) (t * r / sfOne / (k + 1))

/-- e^x for a fixed-point integer x of `sfBits` fraction bits: mantissa and exponent. -/
def expFixed (x : Int) : Nat × Int :=
  let n := x / (ln2Fixed : Int)
  let r := (x % (ln2Fixed : Int)).toNat
  (expTaylor r 45 0 sfOne, n - sfBits)

/-- A finite value in fixed point of `sfBits` fraction bits. -/
def toFixed (neg : Bool) (mag : Nat) (exp : Int) : Int := floorAt neg mag exp (-(sfBits : Int))

/-- The odd series z + z^3/3 + ... : remaining terms, odd number, power, square. -/
def atanhSum : Nat → Nat → Nat → Nat → Nat
  | 0, _, _, _ => 0
  | n + 1, k, p, z2 => p / k + atanhSum n (k + 2) (p * z2 / sfOne) z2

/-- The natural logarithm of `mag * 2 ^ exp`, mag positive, in fixed point. -/
def logFixed (mag : Nat) (exp : Int) : Int :=
  let l := Nat.log2 mag
  let f := mag * sfOne / 2 ^ l          -- in [1, 2)
  let z := (f - sfOne) * sfOne / (f + sfOne)
  let lf := 2 * atanhSum 60 1 z (z * z / sfOne)
  ((l : Int) + exp) * ln2Fixed + lf

/-- The integer square root by Newton's steps from above. -/
def isqrtStep (n : Nat) : Nat → Nat → Nat
  | 0, x => x
  | k + 1, x => if x = 0 then 0 else
      let y := (x + n / x) / 2
      if y < x then isqrtStep n k y else x

def isqrt (n : Nat) : Nat := isqrtStep n 600 (2 ^ (Nat.log2 n / 2 + 1))

/-- The exact result of an operation on a finite operand, to the working precision, and `none` where R184's table
names the result. -/
def sfExact (op : SfOp) (neg : Bool) (mag : Nat) (exp : Int) : Val :=
  match op with
  | .exp =>
    if mag = 0 then .fin false 1 0
    else if floorLog' mag exp ≥ 8 then (if neg then .fin false 1 (-400) else .fin false 1 400)
    else let r := expFixed (toFixed neg mag exp); .fin false r.1 r.2
  | .log => let l := logFixed mag exp; Val.ofInt l (-(sfBits : Int))
  | .rsqrt =>
    let m := if exp % 2 = 0 then mag else mag * 2
    let e := if exp % 2 = 0 then exp else exp - 1
    .fin false (isqrt (2 ^ 400 / m)) (-200 - e / 2)
  | .tanh =>
    if mag = 0 then .fin neg 0 0
    else if floorLog' mag exp ≥ 6 then .fin neg 1 0
    else if floorLog' mag exp < -12 then
      let x2 := (mag * mag * sfOne : Nat)
      let s := floorAt false x2 (2 * exp) 0
      let f := (sfOne : Int) - s / 3 + 2 * (s * s / sfOne) / 15
      .fin neg (mag * f.toNat) (exp - sfBits)
    else
      let x := toFixed false mag exp
      let r := expFixed (2 * x)
      let t := floorAt false r.1 r.2 (-(sfBits : Int))
      .fin neg (((t - sfOne) * sfOne / (t + sfOne)).toNat) (-(sfBits : Int))
  | .sigm =>
    if floorLog' mag exp ≥ 8 ∧ mag ≠ 0 then (if neg then .fin false 1 (-400) else .fin false 1 0)
    else
      let r := expFixed (toFixed true mag exp)
      let num := if neg then r.1 else 2 ^ (-r.2).toNat
      .fin false (num * 2 ^ 200 / (2 ^ (-r.2).toNat + r.1)) (-200)
where
  floorLog' (m : Nat) (e : Int) : Int := (Nat.log2 m : Int) + e

/-- FP32 patterns in the order of their values, as integers. -/
def fp32Rank (b : Nat) : Int := if b < 2 ^ 31 then (b : Int) else -((b : Int) - 2 ^ 31)
def fp32OfRank (r : Int) : Nat := if r < 0 then 2 ^ 31 + r.natAbs else r.toNat

/-- Is an FP32 pattern within 2 units in the last place of an exact finite value (R130)? -/
def within2ulp (bits : Nat) (neg : Bool) (mag : Nat) (exp : Int) : Bool :=
  match fp32 bits with
  | .fin n2 m2 e2 =>
    let q : Int := (if mag = 0 then -149 else max ((Nat.log2 mag : Int) + exp) (-126) - 23)
    let (a, b, e) := alignFin neg mag exp n2 m2 e2
    let e' := min e q
    let d := (a - b).natAbs * 2 ^ (e - e').toNat
    d ≤ 2 * 2 ^ (q - e').toNat
  | _ => false

/-- The number of an operation, for its free offset. -/
def SfOp.num : SfOp → Nat
  | .exp => 0 | .log => 1 | .rsqrt => 2 | .tanh => 3 | .sigm => 4

/-- A finite operand's result: the correctly rounded one moved by the free offset where that stays inside the bound
of R130; above the largest finite result +infinity. -/
def sfFinite (op : SfOp) (bits : Nat) (v : Val) : Nat :=
  match v with
  | .fin neg mag exp =>
    let c := toFp32 v
    let off := max (-4) (min 4 (Config.sfOffset op.num (BitVec.ofNat 32 bits)))
    let moved := fp32OfRank (fp32Rank c + off)
    if off ≠ 0 ∧ within2ulp moved neg mag exp then moved else c
  | v => toFp32 v

/-- The FP32 result of a special-function operation on an FP32 pattern (R184). -/
def sfResult (op : SfOp) (bits : Nat) : Nat :=
  match fp32 bits with
  | .nan => 0x7FC00000
  | .inf neg =>
    match op with
    | .exp => if neg then 0 else 0x7F800000
    | .log => if neg then 0x7FC00000 else 0x7F800000
    | .rsqrt => if neg then 0x7FC00000 else 0
    | .tanh => if neg then 0xBF800000 else 0x3F800000
    | .sigm => if neg then 0 else 0x3F800000
  | .fin neg mag exp =>
    match op with
    | .log => if mag = 0 then 0xFF800000 else if neg then 0x7FC00000 else sfFinite op bits (sfExact op neg mag exp)
    | .rsqrt =>
      if mag = 0 then (if neg then 0xFF800000 else 0x7F800000)
      else if neg then 0x7FC00000 else sfFinite op bits (sfExact op neg mag exp)
    | _ => sfFinite op bits (sfExact op neg mag exp)

end Sys2Proof.Machine
end

