-- ==== Sys2Proof/Machine/Vector.lean ====
section
/-! DEFINITION. What one chunk or row of a vector-walk or special-function instruction does (R128, R129, R172 to R184). -/
namespace Sys2Proof.Machine

/-- `n` elements of a vector operand from element `i` on, as bit patterns (R172). -/
def vecEls (p : Pav) (l : LineRef) (ty : VTy) (i n : Nat) : List Nat :=
  (List.range n).map (fun k => leNat (p.sbytes (l.byte + (i + k) * ty.bytes) ty.bytes))

/-- A pattern as an FP32 pattern, BF16 widened exactly (R177). -/
def widen (ty : VTy) (b : Nat) : Nat :=
  match ty with
  | .fp32 => b | .bf16 => widenBf16 b

/-- An FP32 result written in an element type: BF16 rounds once more (R128). -/
def narrow (ty : VTy) (b : Nat) : Nat :=
  match ty with
  | .fp32 => b | .bf16 => narrowBf16 b

/-- The smaller and the larger of two FP32 patterns (R128, R174). -/
def fp32Min (a b : Nat) : Nat :=
  match fp32 a, fp32 b with
  | .nan, _ => 0x7FC00000
  | _, .nan => 0x7FC00000
  | x, y => let o := x.order y
    if o < 0 then a else if 0 < o then b else if x.neg then a else b
def fp32Max (a b : Nat) : Nat :=
  match fp32 a, fp32 b with
  | .nan, _ => 0x7FC00000
  | _, .nan => 0x7FC00000
  | x, y => let o := x.order y
    if 0 < o then a else if o < 0 then b else if x.neg then b else a

/-- A comparison of two FP32 patterns; false with a NaN (R128, R174). -/
def fp32Cmp (c : Cmp) (a b : Nat) : Bool :=
  match fp32 a, fp32 b with
  | .nan, _ => false
  | _, .nan => false
  | x, y =>
    let o := x.order y
    match c with
    | .eq => o = 0 | .ne => o ≠ 0 | .lt => o < 0 | .le => o ≤ 0 | .gt => 0 < o | .ge => 0 ≤ o
    | _ => false

/-- An exact result rounded once to the type (R128); a NaN is the canonical one (R98). -/
def VTy.round (ty : VTy) (v : Val) : Nat :=
  match ty with
  | .fp32 => toFp32 v
  | .bf16 => fBF16.encode .rne v

/-- One lane: the result pattern of element patterns a, b, c (R174). v.sel tests the bits of c, and v.sel and v.rot write a NaN as the
canonical one (log entries 170 and 171). -/
def lane (op : LaneOp) (ty : VTy) (a b c : Nat) : Nat :=
  let x := widen ty a
  let y := widen ty b
  match op with
  | .add => ty.round ((fp32 x).add (fp32 y))
  | .sub => ty.round ((fp32 x).add (fp32 y).negate)
  | .mul => ty.round ((fp32 x).mul (fp32 y))
  | .fma => ty.round (((fp32 x).mul (fp32 y)).add (fp32 (widen ty c)))
  | .min => narrow ty (fp32Min x y)
  | .max => narrow ty (fp32Max x y)
  | .cmp o => if fp32Cmp o x y then 2 ^ (8 * ty.bytes) - 1 else 0
  | .sel => ty.round (fp32 (if c = 0 then y else x))
  | .rot _ => ty.round (fp32 x)

/-- Chunk `q` of a lane-array instruction in cycle `t` (R172 to R175). -/
def laneChunk (lc : LatClass) (a : Active) (op : LaneOp) (o : LaneArgs) (q t : Nat) (p : Pav) : Pav × List PavEv :=
  let es := o.ty.bytes
  let i0 := q * (1024 / es)
  let n := (min 1024 (o.len - q * 1024)) / es
  let av := vecEls p o.a o.ty i0 n
  let operand (l : Option LineRef) (k : Nat) : Nat :=
    match l with
    | some r => leNat (p.sbytes (r.byte + k * es) es)
    | none => 0
  let out : List Nat :=
    match op with
    | .rot _ =>
      let amt := signedN 64 (nthD a.lat 0 0)
      (List.range n).map (fun (i : Nat) => lane op o.ty (nthD av (((i : Int) - amt) % (n : Int)).toNat 0) 0 0)
    | _ => (List.range n).zip av |>.map (fun e =>
        let i := i0 + e.1
        let bi := match o.rowlen with | some r => i / r | none => i
        lane op o.ty e.2 (operand o.b bi) (operand o.c i))
  let bs := out.flatMap (toBytes es ·)
  if a.killed then (p, [])
  else (p.later (t + latency lc (.lane op o)) (.bytes (o.dst.byte + q * 1024) bs), [])

/-- The sources of v.cvt in chunk `q`: values, overflow, and OVF carried by an XW source (R104, R176). -/
def cvtSources (p : Pav) (o : CvtArgs) (q : Nat) : List (Src × Bool) :=
  let n := min 1024 (o.len - q * 1024)
  let base := o.src.byte + q * 1024
  match o.ffrom.mx, o.ffrom.xw with
  | some el, _ =>
    let rb := o.ffrom.rowBytes
    (List.range (n / rb)).flatMap (fun r =>
      let sOff := if el = .e2m1 then 32 else 64
      (List.range 64).map (fun j =>
        let sc := (p.sregs.read (base + r * rb + sOff + j / 32)).toNat
        (⟨scaled sc (el.value (elemBits p.sregs el (base + r * rb) j)), false⟩, false)))
  | none, some w =>
    let eb := w.bits / 8
    let i0 := q * 1024 / eb
    (List.range (n / eb)).map (fun i =>
      let v := leNat (p.sbytes (base + i * eb) eb)
      let c := match o.scmp with | some s => leNat (p.sbytes (s.byte + 2 * (i0 + i)) 2) | none => 0
      let x := Xw.unpack w.bits v c
      (⟨x.val (o.win.getD 0), x.overflowed w.bits⟩, x.ovf))
  | none, none =>
    let eb := o.ffrom.bytes
    (List.range (n / eb)).map (fun i =>
      let b := leNat (p.sbytes (base + i * eb) eb)
      match o.ffrom.float with
      | some f => (⟨f.decode b, false⟩, false)
      | none => (⟨Val.ofInt (signedN (8 * eb) b) 0, false⟩, false))

/-- What chunk `q` of v.cvt writes, and how many of its elements overflow (R119, R176); `idx` is the value of the column operand's index register. -/
def cvtEffects (env : Env) (p : Pav) (idx : Nat) (o : CvtArgs) (q : Nat) : List Effect × Nat :=
  let srcs := cvtSources p o q
  let perChunk := match o.ffrom.mx with
    | some _ => 1024 / o.ffrom.rowBytes * 64
    | none => 1024 / o.ffrom.bytes
  let e0 := q * perChunk
  let modeOf (i : Nat) : RMode :=
    match o.rowlen with
    | some r => rmodeOf env o.rnd o.tid o.sr idx ((e0 + i) / r) ((e0 + i) % r)
    | none => rmodeOf env o.rnd o.tid o.sr idx 0 (e0 + i)
  let modes := (List.range srcs.length).map modeOf
  let ss := srcs.map (·.1)
  let res : List Effect × List Bool :=
    match o.fto.mx, o.fto.xw with
    | some el, _ =>
      let rows := (pieces 64 (modes.zip ss)).map (fun g => mxRow el (g.map (·.1)) (g.map (·.2)))
      ([.bytes (o.dst.byte + e0 / 64 * o.fto.rowBytes) rows.flatten], ss.map (fun s => s.overflowed && s.val.isFin))
    | none, some n =>
      let r := xwRow n (o.wout.getD 0) (srcs.map (fun s => (s.1.val, s.2)))
      let comp := match o.dcmp with | some d => [Effect.bytes (d.byte + 2 * e0) r.2] | none => []
      (Effect.bytes (o.dst.byte + e0 * (n.bits / 8)) r.1 :: comp,
        srcs.map (fun s => (s.1.overflowed && s.1.val.isFin) || xwOver n (toXw (o.wout.getD 0) s.1.val s.2)))
    | none, none =>
      ([.bytes (o.dst.byte + e0 * o.fto.bytes) (plainRow o.fto modes ss)], ss.map (fun s => s.overflowed && s.val.isFin))
  (res.1, res.2.countP (· = true))

/-- Chunk `q` of v.cvt in cycle `t` (R119, R176). -/
def cvtChunk (env : Env) (a : Active) (o : CvtArgs) (q t : Nat) (p : Pav) : Pav × List PavEv :=
  let r := cvtEffects env p (nthD a.lat 0 0) o q
  if a.killed then (p, [])
  else (p.laterAll (r.1.map (fun e => (t + latency env.lc (.cvt o), e))),
    if r.2 = 0 then [] else [.accOverflow 0 r.2 env.faultMode])

/-- Chunk `q` of v.rng in cycle `t` (R181): `lat` holds seed, position and first draw. -/
def rngChunk (lc : LatClass) (a : Active) (o : RngArgs) (q t : Nat) (p : Pav) : Pav × List PavEv :=
  let n := (min 1024 (o.len - q * 1024)) / 4
  let words := (List.range n).map (fun i =>
    let w := draw 4 0 0 (nthD a.lat 0 0) (nthD a.lat 1 0) ((nthD a.lat 2 0 + q * 256 + i) % 2 ^ 34)
    if o.f32 then uniform w else w)
  if a.killed then (p, [])
  else (p.later (t + latency lc (.rng o)) (.bytes (o.dst.byte + q * 1024) (words.flatMap (toBytes 4 ·))), [])

/-- One level of the pairwise tree (R129). -/
def pairLevel : List Nat → List Nat
  | a :: b :: rest => fp32Add a b :: pairLevel rest
  | [a] => [a]
  | [] => []

/-- The balanced pairwise sum of a row (R129). -/
def pairSum : Nat → List Nat → Nat
  | 0, l => l.headD 0
  | k + 1, l => match l with
    | [] => 0
    | [x] => x
    | l => pairSum k (pairLevel l)

/-- The order of v.topk and v.argmax on FP32 patterns: NaN above everything, zeros equal (R178). -/
def rankGt (a b : Nat) : Bool :=
  match fp32 a, fp32 b with
  | .nan, .nan => false
  | .nan, _ => true
  | _, .nan => false
  | x, y => 0 < x.order y

/-- An element put into a descending list; of equal values the earlier stays first. -/
def insertTop (x : Nat × Nat) : List (Nat × Nat) → List (Nat × Nat)
  | [] => [x]
  | y :: rest => if rankGt x.1 y.1 then x :: y :: rest else y :: insertTop x rest

/-- The elements of a row in descending order with their indexes (R178). -/
def rankRow (els : List Nat) : List (Nat × Nat) :=
  ((els.zip (List.range els.length)).foldl (fun acc x => insertTop x acc) [])

/-- Row `i` of a reduction as FP32 patterns (R177). -/
def redEls (p : Pav) (o : RedArgs) (i : Nat) : List Nat :=
  let l : LineRef := ⟨o.src.reg, o.src.line + ceilDiv o.rowBytes 64 * i⟩
  (vecEls p l o.ty 0 o.n).map (widen o.ty)

/-- The cycle from which the result of a row read in cycle `t` is readable (R173). -/
def redReady (lc : LatClass) (op : PlanOp) (o : RedArgs) (t : Nat) : Nat :=
  t + ceilDiv o.rowBytes 1024 - 1 + latency lc op

/-- Row `i` of v.sum, v.rmax or v.argmax, read in cycle `t`; `lat` holds base (R177). A NaN that v.sum passes up unchanged (R129) is
written as the canonical one (R98). -/
def redRow (lc : LatClass) (a : Active) (op : RedOp) (o : RedArgs) (i t : Nat) (p : Pav) : Pav × List PavEv :=
  let els := redEls p o i
  let r : Nat := match op with
    | .sum => VTy.fp32.round (fp32 (pairSum els.length els))
    | .rmax => match els with
      | [] => 0
      | x :: rest => rest.foldl fp32Max (fp32Max x x)
    | .argmax => match rankRow els with
      | [] => 0
      | top :: _ => (top.2 + nthD a.lat 0 0) % 2 ^ 32
  if a.killed then (p, [])
  else (p.later (redReady lc (.red op o) o t) (.bytes (o.dst.byte + 4 * i) (toBytes 4 r)), [])

/-- Row `i` of v.topk, read in cycle `t` (R177, R178). -/
def topkRow (lc : LatClass) (a : Active) (o : RedArgs) (i t : Nat) (p : Pav) : Pav × List PavEv :=
  let top := (rankRow (redEls p o i)).take o.k
  let bs := top.flatMap (fun x => toBytes 4 (VTy.fp32.round (fp32 x.1))) ++ top.flatMap (fun x => toBytes 4 (x.2 + nthD a.lat 0 0))
  let block := 64 * ceilDiv (8 * o.k) 64
  if a.killed then (p, [])
  else (p.later (redReady lc (.topk o) o t) (.bytes (o.dst.byte + block * i) bs), [])

/-- The depth of each tree node, 0 when it is not valid (R179). -/
def treeDepths (par : List Nat) (n : Nat) : List Nat :=
  (List.range 64).foldl (fun (ds : List Nat) i =>
    let pa := nthD par i 0
    let d :=
      if n ≤ i then 0
      else if i = 0 then (if pa = 255 then 1 else 0)
      else if pa = 255 then 0
      else if i ≤ pa then 0
      else let dp := nthD ds pa 0
        if dp = 0 ∨ 16 ≤ dp then 0 else dp + 1
    ds ++ [d]) []

/-- Is node `j` node `i` or one of its ancestors? -/
def isAncestor (par : List Nat) (j : Nat) : Nat → Nat → Bool
  | 0, _ => false
  | fuel + 1, i => if i = j then true
      else let pa := nthD par i 255
        if i ≤ pa then false else isAncestor par j fuel pa

/-- May row `i` see column `j` (R180)? -/
def treeAllowed (par : List Nat) (ds : List Nat) (n i j : Nat) : Bool :=
  i = j || (i < n && nthD ds i 0 != 0 && isAncestor par j 65 i)

/-- v.treemask, the parents read in cycle `t`; `lat` holds n (R179, R180). -/
def treemaskAll (lc : LatClass) (a : Active) (o : TreeArgs) (t : Nat) (p : Pav) : Pav × List PavEv :=
  let n := nthD a.lat 0 0
  let par := (p.sbytes o.par.byte 64).map (·.toNat)
  let ds := treeDepths par n
  let row (i : Nat) : List Byte :=
    match o.fmt with
    | .fp32 => (List.range 64).flatMap (fun j => toBytes 4 (if treeAllowed par ds n i j then 0 else 0xFF800000))
    | .bf16 => (List.range 64).flatMap (fun j => toBytes 2 (if treeAllowed par ds n i j then 0 else 0xFF80))
    | .bit => toBytes 8 ((List.range 64).foldl (fun s j => if treeAllowed par ds n i j then s + 2 ^ j else s) 0)
  let all := (List.range o.rows).flatMap row
  let L := latency lc (.treemask o)
  let chunks := pieces 1024 all
  let outs := ((List.range chunks.length).zip chunks).map (fun c =>
    (t + c.1 + L, Effect.bytes (o.dst.byte + 1024 * c.1) c.2))
  let vld := match o.vld with
    | some l =>
      let w := (List.range 64).foldl (fun s i => if nthD ds i 0 != 0 then s + 2 ^ i else s) 0
      [(t + ceilDiv (o.rows * o.rowBytes) 1024 - 1 + L, Effect.bytes l.byte (toBytes 8 w))]
    | none => []
  if a.killed then (p, []) else (p.laterAll (outs ++ vld), [])

/-- The prefix sums of v.sample, each addition rounded (R182). -/
def prefixSums : Nat → List Nat → List Nat
  | _, [] => []
  | s, w :: rest => let s' := fp32Add s w; s' :: prefixSums s' rest

/-- A weight of v.sample: a negative one counts as 0 (R182). -/
def sampleWeight (w : Nat) : Nat :=
  match fp32 w with
  | .nan => w
  | v => if v.neg then 0 else w

/-- The first index whose value passes a test. -/
def firstIdx (l : List Nat) (f : Nat → Bool) : Option Nat := l.findIdx? f

/-- The prefix sums S_0, S_1, … of a row's weights (R182). -/
def sampleSums : List Nat → List Nat
  | [] => []
  | w :: rest => w :: prefixSums w rest

/-- The cut m of a row of `k` candidates (R182): the first whose prefix sum reaches the top-p share of the whole, the last where top-p is
not below 1. Where top-p is no number, or no sum reaches the share, the spec states none. -/
def sampleCut (k topp : Nat) (ss : List Nat) : Nat :=
  let thr := fp32Mul topp (nthD ss (k - 1) 0)
  match fp32 topp with
  | .nan => (Config.unstated32 1 topp).toNat % k
  | _ =>
    if fp32Cmp .lt topp 0x3F800000 then (firstIdx ss (fun s => fp32Cmp .ge s thr)).getD ((Config.unstated32 2 thr).toNat % k)
    else k - 1

/-- The candidate drawn, its probability, and 1 where the row is degenerate (R182, R183): `u` is the uniform draw. -/
def samplePick (k topp u : Nat) (ws : List Nat) : Nat × Nat × Nat :=
  let ss := sampleSums ws
  let m := sampleCut k topp ss
  let sm := nthD ss m 0
  let degenerate : Bool := match fp32 sm with
    | .fin _ mag _ => decide (mag = 0)
    | _ => true
  if degenerate then (0, 0, 1)
  else
    let pick := (firstIdx (ss.take (m + 1)) (fun s => fp32Cmp .gt s (fp32Mul u sm))).getD m
    (pick, fp32Div (nthD ws pick 0) sm, 0)

/-- The uniform draw of row `i` (R123, R182): kind 2, tensor 0, under the row's seed, position and tree node. -/
def sampleDraw (env : Env) (o : SampleArgs) (i : Nat) : Nat :=
  uniform (draw 2 0 (env.node (o.key + 3 * i + 1)) (env.param (o.key + 3 * i)) (env.param (o.key + 3 * i + 1)) 0)

/-- The 16 bytes of row `i` of v.sample (R183): the token drawn, its probability, the degenerate mark, zeros. -/
def sampleBytes (env : Env) (o : SampleArgs) (i : Nat) (p : Pav) : List Byte :=
  let wl := ceilDiv (4 * o.k) 64
  let cl := ceilDiv (8 * o.k) 64
  let ws := (vecEls p ⟨o.w.reg, o.w.line + wl * i⟩ .fp32 0 o.k).map sampleWeight
  let r := samplePick o.k (env.param (o.key + 3 * i + 2) % 2 ^ 32) (sampleDraw env o i) ws
  p.sbytes (o.cand.byte + 64 * cl * i + 4 * o.k + 4 * r.1) 4 ++ toBytes 4 r.2.1 ++ toBytes 4 r.2.2 ++ zeros 4

/-- Row `i` of v.sample in cycle `t` (R182, R183). -/
def sampleRow (env : Env) (a : Active) (o : SampleArgs) (i t : Nat) (p : Pav) : Pav × List PavEv :=
  if a.killed then (p, [])
  else (p.later (t + latency env.lc (.sample o)) (.bytes (o.dst.byte + 16 * i) (sampleBytes env o i p)), [])

/-- Source bytes 256m to 256m + 255 of a special-function instruction in cycle `t` (R173, R184). -/
def sfPart (lc : LatClass) (a : Active) (op : SfOp) (o : SfArgs) (m t : Nat) (p : Pav) : Pav × List PavEv :=
  let es := o.ty.bytes
  let n := (min 256 (o.len - 256 * m)) / es
  let tgt := o.tto.getD o.ty
  let i0 := m * (256 / es)
  let out := (vecEls p o.src o.ty i0 n).flatMap (fun b => toBytes tgt.bytes (narrow tgt (sfResult op (widen o.ty b))))
  if a.killed then (p, [])
  else (p.later (t + latency lc (.sf op o)) (.bytes (o.dst.byte + i0 * tgt.bytes) out), [])

end Sys2Proof.Machine
end

