-- ==== Sys2Proof/Machine/Move.lean ====
section
/-! DEFINITION. Stores, shuffles, index registers, parameters and predicates inside a pavilion (R157 to R162, R201, R202, R204), and the engine that runs an issued instruction's rows in the cycles they fall in (R66, R144). -/
namespace Sys2Proof.Machine

/-- The errors a read of `[off, off + n)` of the working store meets (R76): an uncorrectable word, corrected words. -/
def storeEvents (p : Pav) (off n : Nat) : List PavEv :=
  let inR (w : Nat) : Bool := decide (off ≤ 16 * w) && decide (16 * w < off + n)
  (p.storeBad.filter inR).map (fun w => PavEv.storeUncorr (16 * w)) ++
    (let c := (p.storeSoft.filter inR).length; if c = 0 then [] else [.storeCorr c])

/-- ld in cycle `t` (R157). -/
def ldAll (lc : LatClass) (killed : Bool) (dst : HalfRef) (src : Addr) (wait : Option Wait) (t : Nat) (p : Pav) :
    Pav × List PavEv :=
  let off := p.wsAddr src
  if killed then (p, [])
  else (p.later (t + latency lc (.ld dst src wait)) (.bytes dst.byte (p.store.bytes off 1024)), storeEvents p off 1024)

/-- st in cycle `t` (R157). -/
def stAll (lc : LatClass) (killed : Bool) (dst : Addr) (src : HalfRef) (t : Nat) (p : Pav) : Pav × List PavEv :=
  if killed then (p, [])
  else (p.later (t + latency lc (.st dst src)) (.store (p.wsAddr dst) (p.sbytes src.byte 1024)), [])

/-- The offset of line `k` of a gather or scatter (R158). -/
def spanOff (p : Pav) (base span : Nat) (idx : LineRef) (k : Nat) : Nat :=
  let x := leNat (p.sbytes (idx.byte + 2 * k) 2)
  let q := bitsN base 10 2
  let row := bitsN base 12 13 + x % (max span 1)
  4096 * row + 64 * (16 * q + k)

/-- gather in cycle `t` (R158). -/
def gatherAll (lc : LatClass) (killed : Bool) (dst : HalfRef) (base span : Nat) (idx : LineRef) (w : Option Wait)
    (t : Nat) (p : Pav) : Pav × List PavEv :=
  let offs := (List.range 16).map (spanOff p base span idx ·)
  if killed then (p, [])
  else (p.later (t + latency lc (.gather dst base span idx w))
      (.bytes dst.byte (offs.flatMap (fun o => p.store.bytes o 64))), offs.flatMap (fun o => storeEvents p o 64))

/-- scatter in cycle `t` (R158). -/
def scatterAll (lc : LatClass) (killed : Bool) (base span : Nat) (idx : LineRef) (src : HalfRef) (t : Nat) (p : Pav) :
    Pav × List PavEv :=
  if killed then (p, [])
  else (p.laterAll ((List.range 16).map (fun k => (t + latency lc (.scatter base span idx src),
      Effect.store (spanOff p base span idx k) (p.sbytes (src.byte + 64 * k) 64)))), [])

/-- perm in cycle `t` (R160). -/
def permAll (lc : LatClass) (killed : Bool) (dst src map elt t : Nat) (p : Pav) : Pav × List PavEv :=
  let n := 2048 / elt
  let bs := (List.range n).flatMap (fun i =>
    let x := leNat (p.sbytes (2048 * map + 2 * i) 2) % n
    p.sbytes (2048 * src + elt * x) elt)
  if killed then (p, [])
  else (p.later (t + latency lc (.perm dst src map elt)) (.bytes (2048 * dst) bs), [])

/-- xpose in cycle `t` (R161). -/
def xposeAll (lc : LatClass) (killed : Bool) (dst src elt t : Nat) (p : Pav) : Pav × List PavEv :=
  let eb := elt / 8
  let bs := (List.range 64).flatMap (fun j => (List.range 64).flatMap (fun r =>
    p.sbytes (2048 * src + 64 * r * eb + j * eb) eb))
  if killed then (p, [])
  else (p.later (t + latency lc (.xpose dst src elt)) (.bytes (2048 * dst) bs), [])

/-- An index instruction's value (R162): 64-bit, wrapping. -/
def movValue (env : Env) (p : Pav) : MovSrc → W64
  | .idx a => p.ireg a
  | .param q => BitVec.ofNat 64 (env.param q)
  | .imm v => v.signExtend 64

/-- The second operand of i.add and i.mul: an index register, or 32 bits sign-extended (R162). -/
def idxOperand (p : Pav) : IdxImm → W64
  | .reg k => p.ireg k
  | .imm v => (BitVec.ofInt 32 v).signExtend 64

/-- A result into an index register, on its way. -/
def idxLater (killed : Bool) (ready d : Nat) (v : W64) (p : Pav) : Pav × List PavEv :=
  if killed then (p, []) else (p.later ready (.idx d v), [])

/-- pld in cycle `t` (R201): n parameter registers, the rest of the line 0. -/
def pldAll (env : Env) (killed : Bool) (dst : LineRef) (src : ParamRef) (n t : Nat) (p : Pav) : Pav × List PavEv :=
  let b := src.p + p.idxOpt src.idx
  let bs := (List.range n).flatMap (fun i => toBytes 8 (env.param (b + i)))
  if killed then (p, [])
  else (p.later (t + latency env.lc (.pld dst src n)) (.bytes dst.byte ((bs ++ zeros 64).take 64)), [])

/-- A comparison of 64-bit values (R202). -/
def cmp64 (c : Cmp) (a b : W64) : Bool :=
  match c with
  | .eq => a = b | .ne => a ≠ b
  | .lt => a.toInt < b.toInt | .le => a.toInt ≤ b.toInt | .gt => b.toInt < a.toInt | .ge => b.toInt ≤ a.toInt
  | .ltu => a.toNat < b.toNat | .leu => a.toNat ≤ b.toNat | .gtu => b.toNat < a.toNat | .geu => b.toNat ≤ a.toNat

/-- The truth of pred (R202). -/
def predValue (env : Env) (p : Pav) : PredArgs → Bool
  | .cmp a op b => cmp64 op (p.ireg a) (match b with | .reg k => p.ireg k | .imm v => BitVec.ofInt 64 v)
  | .bit q b => bitN (env.param q) b
  | .nz l => leNat (p.sbytes l.byte 4) ≠ 0

/-- Does the guard of an instruction hold (R141)? -/
def guardHolds (p : Pav) : Option Guard → Bool
  | none => true
  | some g => p.flag g.q != g.neg

/-- Is the current pass of a running loop at or past its activity bound (R199)? -/
def loopOff (p : Pav) : Bool :=
  p.loops.any (fun f => match f.act with | some a => decide (a ≤ f.pass) | none => false)

/-- The values an instruction latches in its issue cycle (R155, R173, R177, R180, R181, R204). `x` are the two words
the device gives: the time counter or statistics value, or an entropy draw. -/
def latched (env : Env) (p : Pav) (x : Nat) : PlanOp → List Nat
  | .drain o => [match o.sr with | some s => p.idxOpt s.idx | none => 0]
  | .cvt o => [match o.sr with | some s => p.idxOpt s.idx | none => 0]
  | .lane (.rot amt) _ => [(p.idxImm amt % 2 ^ 64).toNat]
  | .red _ o => [(p.idxImm o.base % 2 ^ 32).toNat]
  | .topk o => [(p.idxImm o.base % 2 ^ 32).toNat]
  | .treemask o => [(p.idxImm o.n).toNat]
  | .rng o =>
    [match o.seed with | .param q => env.param q | .entropy => x,
     match o.pos with | .param q => env.param q | .idx k => (p.ireg k).toNat,
     (p.idxImm o.d0 % 2 ^ 64).toNat]
  | .timeRd _ => [x]
  | .statRd _ _ _ => [x]
  | _ => []

/-- Row or chunk `i` of an instruction in cycle `t`. -/
def runRow (env : Env) (a : Active) (i t : Nat) (p : Pav) : Pav × List PavEv :=
  match a.op with
  | .mm o => mmRow env.lc a o i t p
  | .zero acc => zeroRows a acc t p
  | .drain o => drainRow env a o i t p
  | .chkRd acc dst => chkRdAll env.lc a acc dst t p
  | .ld dst src w => ldAll env.lc a.killed dst src w t p
  | .st dst src => stAll env.lc a.killed dst src t p
  | .gather dst base span idx w => gatherAll env.lc a.killed dst base span idx w t p
  | .scatter base span idx src => scatterAll env.lc a.killed base span idx src t p
  | .perm dst src map elt => permAll env.lc a.killed dst src map elt t p
  | .xpose dst src elt => xposeAll env.lc a.killed dst src elt t p
  | .iMov d src => idxLater a.killed (t + latency env.lc a.op) d (movValue env p src) p
  | .iAdd d x b => idxLater a.killed (t + latency env.lc a.op) d (p.ireg x + idxOperand p b) p
  | .iMul d x b => idxLater a.killed (t + latency env.lc a.op) d (p.ireg x * idxOperand p b) p
  | .lane op o => laneChunk env.lc a op o i t p
  | .cvt o => cvtChunk env a o i t p
  | .rng o => rngChunk env.lc a o i t p
  | .red op o => redRow env.lc a op o i t p
  | .topk o => topkRow env.lc a o i t p
  | .treemask o => treemaskAll env.lc a o t p
  | .sample o => sampleRow env a o i t p
  | .sf op o => sfPart env.lc a op o i t p
  | .pld dst src n => pldAll env a.killed dst src n t p
  | .pred q o => if a.killed then (p, []) else (p.later (t + latency env.lc a.op) (.pred q (predValue env p o)), [])
  | .timeRd dst | .statRd dst _ _ =>
    let n := match a.op with | .timeRd _ => 8 | _ => 4
    if a.killed then (p, [])
    else (p.later (t + latency env.lc a.op) (.bytes dst.byte ((toBytes n (nthD a.lat 0 0) ++ zeros 64).take 64)), [])
  | _ => (p, [])

/-- The cycle of the next row of an instruction under way. -/
def Active.due (a : Active) : Nat := a.start + a.next * (rowsOf a.op).2

/-- The rows an instruction still has to run. -/
def Active.left (a : Active) : Nat := (rowsOf a.op).1 - a.next

/-- The instruction whose next row falls earliest; of equal cycles the one that issued first. -/
def firstDue : List Active → Option Active
  | [] => none
  | a :: rest =>
    match firstDue rest with
    | none => some a
    | some b => if b.due < a.due then some b else some a

/-- One row run: the instruction moves on, and leaves when it has no row left. -/
def stepRow (env : Env) (a : Active) (p : Pav) : Pav × List PavEv :=
  let t := a.due
  let k := p.takeChecks t
  let r := runRow env a a.next t (k.1.settle t)
  let act := r.1.active.filterMap (fun b => if b = a then (if 1 < b.left then some { b with next := b.next + 1 } else none) else some b)
  ({ r.1 with active := act }, k.2 ++ r.2)

/-- Every row that falls in cycle `t` or earlier, in the order of the cycles. -/
def runDue (env : Env) (t : Nat) : Nat → Pav × List PavEv → Pav × List PavEv
  | 0, s => s
  | fuel + 1, s =>
    match firstDue s.1.active with
    | none => s
    | some a =>
      if t < a.due then s
      else
        let r := stepRow env a s.1
        runDue env t fuel (r.1, s.2 ++ r.2)

/-- The pavilion brought to cycle `t`: rows run, results landed. -/
def Pav.advance (env : Env) (t : Nat) (p : Pav) : Pav × List PavEv :=
  let r := runDue env t ((p.active.map Active.left).sum) (p, [])
  let k := r.1.takeChecks t
  ((k.1.settle t), r.2 ++ k.2)

/-- An instruction enters in cycle `t` and runs its first row. -/
def Pav.enter (env : Env) (a : Active) (p : Pav) : Pav × List PavEv :=
  let p1 := { p with active := p.active ++ [a] }
  if 0 < (rowsOf a.op).1 then stepRow env a p1 else (p, [])

end Sys2Proof.Machine
end

