-- ==== Sys2Proof/Machine/Streams.lean ====
section
/-! DEFINITION. An issue stream and the cycles in which its lines issue, the passes of its loops laid out (R142, R199, R211). -/
namespace Sys2Proof.Machine

/-- A list put in the order of a number, equal ones in their first order. -/
def insertOn {α : Type} (f : α → Nat) (x : α) : List α → List α
  | [] => [x]
  | y :: rest => if f x < f y then x :: y :: rest else y :: insertOn f x rest
def sortOn {α : Type} (f : α → Nat) (l : List α) : List α := l.foldl (fun s x => insertOn f x s) []

/-- A loop of a listing (R199): cycles of loop and endloop in the first pass, passes, whether act is named. -/
structure LoopSpan where
  c : Nat
  e : Nat
  n : Nat
  act : Bool
  ctr : Option Nat
  depth : Nat
  deriving DecidableEq, Repr

/-- The loops of the control slot's lines in cycle order; the cycles of a loop or endloop that has no partner. -/
def loopParse : List PlanLine → List (Nat × Nat × Bool × Option Nat) → List LoopSpan × List Nat
  | [], st => ([], st.map (·.1))
  | l :: rest, st =>
    match l.op with
    | .loop n a k => loopParse rest ((l.cycle, n, a.isSome, k) :: st)
    | .endloop =>
      match st with
      | [] => let r := loopParse rest []
        (r.1, l.cycle :: r.2)
      | (c, n, a, k) :: st' =>
        let r := loopParse rest st'
        (⟨c, l.cycle, n, a, k, st.length⟩ :: r.1, r.2)
    | _ => loopParse rest st

/-- The loops of a stream. -/
def loopsOf (ls : List PlanLine) : List LoopSpan × List Nat :=
  loopParse (sortOn (·.cycle) (ls.filter (fun l => l.slot = .ctl))) []

/-- Does a loop's body hold a written cycle? -/
def LoopSpan.has (l : LoopSpan) (t : Nat) : Bool := decide (l.c < t) && decide (t ≤ l.e)
def LoopSpan.body (l : LoopSpan) : Nat := l.e - l.c

/-- How many issues of a line lie less than `rem` cycles after its written one: of each loop around it, outermost first, the
body and the passes (R142). -/
def issuesWithin : List (Nat × Nat) → Nat → Nat
  | [], rem => if 0 < rem then 1 else 0
  | (b, n) :: rest, rem =>
    if rem = 0 then 0
    else
      let q := min (n - 1) ((rem - 1) / max 1 b)
      q * (rest.map (·.2)).foldl (· * ·) 1 + issuesWithin rest (rem - q * b)

/-- The loops around a written cycle as bodies and passes, the outermost first. -/
def nestOf (sp : List LoopSpan) (c : Nat) : List (Nat × Nat) :=
  (sortOn (·.c) (sp.filter (·.has c))).map (fun l => (l.body, l.n))

/-- Does a line of a stream with these loops issue in a cycle from `a` up to but not including `b`? -/
def PlanLine.issuesIn (sp : List LoopSpan) (a b : Nat) (l : PlanLine) : Bool :=
  let nest := nestOf sp l.cycle
  decide (issuesWithin nest (a - l.cycle) < issuesWithin nest (b - l.cycle))

/-- The lines of a stream that issue in a cycle from `a` up to but not including `b`. -/
def linesIn (ls : List PlanLine) (a b : Nat) : List PlanLine :=
  let sp := (loopsOf ls).1
  ls.filter (·.issuesIn sp a b)

end Sys2Proof.Machine
end

