-- ==== Sys2Proof/Machine/Issue.lean ====
section
/-! DEFINITION. How an instruction of the plan issues: its pavilion comes to the issue cycle, waits are judged, a stall stops the clock, and what the instruction does follows (R13, R19, R23 to R27, R84, R141, R142, R145, R146, R159, R163, R165, R168, R207). -/
namespace Sys2Proof.Machine

/-- The bits of a bundle slot's running variant of a plot. -/
def Dev.variantOf (d : Dev) (p : Nat) : Option VariantBody :=
  let sc := d.step p
  let x := d.ctx sc.ctx
  match x.active with
  | some b => match b.set x.set with
    | some vs => vs[sc.variant]?
    | none => none
  | none => none

/-- The bundle body a plot runs. -/
def Dev.bodyOf (d : Dev) (p : Nat) : Option BundleBody := (d.ctx (d.step p).ctx).active.map (·.body)

/-- What a plan sees of the device (R5, R44, R119, R227): latency class, live parameters, tree nodes, overflow mode. In a context whose
speculation mode is TREE no operand carries the tree node of a row: it is a free value of the register that holds the row's position
(log entry 169). -/
def Dev.env (d : Dev) (n : Nat) : Env :=
  let x := d.ctx (d.pav n).ctx
  { lc := if d.modl.stepB then .lc2 else .lc1, param := fun q => (x.live.get q 0).toNat,
    node := fun q => if bitN (d.rgN 0x003 0x404 (d.pav n).ctx) 2 then (Config.unstated32 5 q).toNat % 64 else 0
    faultMode := !bitN x.modes.toNat 5 }

/-- What the device records of an event in a pavilion (R93, R94, R169, R253, R282). -/
def Dev.pavEvent (d : Dev) (n : Nat) (e : PavEv) : Dev :=
  let pg := pavPage n
  match e with
  | .checksum bed row =>
    let d1 := (d.setN pg 0x41C 0 (bed + 4 * row + 2 ^ 11)).count pg 0x12C 1
    d1.raise pg 0 (pavWhere n (d1.rgN pg 0x41C 0) (d1.rgN pg 0x420 0))
  | .residue bed row =>
    let d1 := (d.setN pg 0x41C 0 (bed + 4 * row + 2 ^ 10 + 2 ^ 11)).count pg 0x130 1
    d1.raise pg 1 (pavWhere n (d1.rgN pg 0x41C 0) (d1.rgN pg 0x420 0))
  | .accOverflow detail k fault =>
    let d1 := d.count pg 0x13C k
    if fault then d1.raise pg 5 (pavWhere n detail (d1.rgN pg 0x420 0)) else d1
  | .storeUncorr off =>
    let d1 := (d.setN pg 0x420 0 off).count pg 0x138 1
    d1.raise pg 3 (pavWhere n (d1.rgN pg 0x41C 0) off)
  | .storeCorr k => (d.count pg 0x134 k).raise pg 2 (pavWhere n (d.rgN pg 0x41C 0) (d.rgN pg 0x420 0))
  | .tierUncorr off =>
    let d1 := ((d.setN 0x0A0 0x42C 0 off).setN 0x0A0 0x430 0 n).count 0x0A0 0x104 1
    d1.raiseAs 0x0A0 1 .d ⟨some n, none, n, off, 0⟩
  | .tierCorr k => (d.count 0x0A0 0x100 k).raise 0x0A0 0 ⟨some n, none, n, d.rgN 0x0A0 0x42C 0, 0⟩
  | .count off k => d.count pg off k

/-- Events recorded in order. -/
def Dev.pavEvents (d : Dev) (n : Nat) (es : List PavEv) : Dev := forEach es d (fun s e => s.pavEvent n e)

/-- A running pavilion's new beat: the stretch count and the lowest margin start again (R362, R389, R503). -/
def Pav.rollBeat (p : Pav) (c : Nat) : Pav :=
  let iss := if p.cycle = c then p.issued else []
  if p.cycle / 256 < c / 256 then { p with lastStretched := p.stretched, stretched := p.carryStretch, carryStretch := 0, minMargin := 63, cycle := c, issued := iss }
  else { p with cycle := c, issued := iss }

/-- The issue stream that a pavilion runs: the one its plot's running variant holds for it. -/
def Dev.streamOf (d : Dev) (n : Nat) : List PlanLine :=
  match d.variantOf (d.pav n).plot with
  | some v => (v.streams.filter (fun e => e.1 = n)).flatMap (·.2)
  | none => []

/-- Does a line stand between a pavilion and a cycle (R211): one of a later cycle before it, or one of the cycle reached whose slot
has not issued? A pavilion that does not move has none. -/
def Dev.skips (d : Dev) (n c : Nat) : Bool :=
  let p := d.pav n
  let ls := d.streamOf n
  decide (p.cycle < c) && (!(linesIn ls (p.cycle + 1) c).isEmpty || (linesIn ls p.cycle (p.cycle + 1)).any (fun l => !p.issued.contains l.slot))

/-- Does the running plan hold an instruction for its cycle, slot and guard (R211)? An empty word issues where the control slot has no
line. -/
def Dev.planned (d : Dev) (i : Issue) (op : PlanOp) : Bool :=
  let at_ := linesIn (d.streamOf i.pav) i.cycle (i.cycle + 1)
  match op with
  | .nop => at_.all (fun l => l.slot ≠ i.slot || l.op = .nop)
  | _ => at_.any (fun l => l.slot = i.slot && l.guard = i.guard && l.op = op) && !(d.pav i.pav).issued.contains i.slot

/-- The slot of an issue has issued in the cycle its pavilion has reached. -/
def Dev.markIssued (d : Dev) (i : Issue) : Dev := d.onPav i.pav (fun p => { p with issued := i.slot :: p.issued })

/-- A pavilion brought to a cycle, its rows run and its results landed on the way. -/
def Dev.moveTo (d : Dev) (n c : Nat) : Dev :=
  let r := (d.pav n).advance (d.env n) c
  (d.setPav n (r.1.rollBeat c)).pavEvents n r.2

/-- A pavilion brought to a cycle of its plan, as far as the beat barrier has released (R19, R21): past the released beat
it gates its clock at cycle 255. The second part says whether it stands at the cycle. A pavilion that is not running, is
stopped, has passed the cycle, or has lines of its stream still to issue before it does not come to it (R211). -/
def Dev.reach (d : Dev) (n c : Nat) : Dev × Bool :=
  let p := d.pav n
  let sc := d.step p.plot
  if p.run ≠ .running || p.stall.isSome || decide (c < p.cycle) || !sc.running || d.skips n c then (d, false)
  else
    let last := 256 * (sc.beat + 1) - 1
    if last < c then
      let d1 := d.moveTo n last
      (if p.gated then d1 else d1.onPav n (fun q => { q with gated := true, gatedSince := d1.time.elapsed, gateCounted := d1.time.elapsed }), false)
    else (d.moveTo n c, true)

/-- Why an instruction cannot complete in its cycle: STALL_CAUSE kind and index (R92), the charge (R32). -/
structure Blocked where
  kind : Nat
  index : Nat
  cat : StallCat
  deriving DecidableEq, Repr

/-- Is the next transfer of the plan that fills a staging buffer, none that has issued being short, one from LPDDR5X (R168)? It is
the first line for the buffer from the cycle reached on, or the first of the stream; a buffer that no line fills is the Kiosk's. -/
def Dev.nextFillLocal (d : Dev) (n i : Nat) : Bool :=
  match (d.bodyOf (d.pav n).plot).bind (fun b => b.staging[i]?) with
  | none => true
  | some st =>
    let inBuf (a : Nat) : Bool := st.pav = n && decide (st.off ≤ a) && decide (a < st.off + 1024 * st.kib)
    let fills := (d.streamOf n).filterMap (fun l => match l.op with
      | .pageIn dst _ _ => if inBuf dst then some (l.cycle, true) else none
      | .fget _ dst _ _ => if inBuf dst then some (l.cycle, false) else none
      | _ => none)
    match fills.find? (fun e => decide ((d.pav n).cycle ≤ e.1)) with
    | some e => e.2
    | none => (fills.head?.map (·.2)).getD true

/-- The category a wait on a rendezvous counter is charged to (R32, R168). -/
def Dev.waitCat (d : Dev) (n k : Nat) : StallCat :=
  let p := d.pav n
  match (d.variantOf p.plot).bind (fun v => v.binds.find? (fun b => b.pav = n && b.ctr = k)) with
  | none => .crossing
  | some b => match b.kind with
    | .crossing _ => .crossing
    | .transfers => .fabric
    | .staging i =>
      match p.fills.find? (fun f => f.buf = i) with
      | none => if d.nextFillLocal n i then .staging else .fabric
      | some f =>
        let owner := f.order.foldl (fun (acc : Nat × Option Bool) e =>
          (acc.1 + e.2.1, if acc.2.isNone && decide (f.counted < acc.1 + e.2.1) then some e.2.2 else acc.2)) (0, none)
        if owner.2.getD (d.nextFillLocal n i) then .staging else .fabric

/-- A wait operand's block (R159). -/
def Dev.waitBlock (d : Dev) (n : Nat) (w : Option Wait) : Option Blocked :=
  match w with
  | none => none
  | some w => let p := d.pav n
    if levelMet (p.level w.level) (p.ctr w.ctr) then none else some ⟨3, w.ctr, d.waitCat n w.ctr⟩

/-- Is a transfer of a pavilion's plan open? -/
def Dev.openPlan (d : Dev) (n : Nat) : Bool := d.xfers.any (fun x => x.owner = .plan n)

/-- A completion tracker (R315). -/
def Dev.tracker (d : Dev) (t : Nat) : Tracker := d.trackers.get t ⟨0, 0⟩

/-- What blocks an instruction in its pavilion's cycle (R165, R168, R207). The wait is judged first; an xsend or xrecv whose
guard is false honours its wait and nothing else (R165); await and fence wait whichever way their guard falls (R141, R171). -/
def Dev.blocked (d : Dev) (n : Nat) (killed : Bool) (op : PlanOp) : Option Blocked :=
  let p := d.pav n
  match op with
  | .ld _ _ w | .gather _ _ _ _ w => d.waitBlock n w
  | .xrecv x _ w =>
    match d.waitBlock n w with
    | some b => some b
    | none => if !killed && (p.fifos.get x []).isEmpty then some ⟨1, x, .crossing⟩ else none
  | .xsend x _ w =>
    match d.waitBlock n w with
    | some b => some b
    | none => if !killed && p.free x = 0 then some ⟨2, x, .crossing⟩ else none
  | .await k l => if levelMet (p.level l) (p.ctr k) then none else some ⟨4, 0, .fabric⟩
  | .fence t c => if (d.tracker t).cur < c then some ⟨4, 0, .fabric⟩ else none
  | .stepEnd => if d.openPlan n then some ⟨4, 0, .fabric⟩ else none
  | _ => none

/-- A V-marked instruction (R52, R205)? -/
def PlanOp.vMarked : PlanOp → Bool
  | .fredF _ _ _ _ _ | .timeRd _ | .statRd _ _ _ => true
  | .rng o => match o.seed with
    | .entropy => true
    | _ => false
  | _ => false

/-- The step's VAR_EXEC set by a V-marked instruction, whichever way its guard falls (R53, R205). -/
def Dev.markVar (d : Dev) (n : Nat) (op : PlanOp) : Dev :=
  if op.vMarked then d.onStep (d.pav n).plot (fun sc => { sc with varExec := true }) else d

/-- The word the device gives an instruction in its issue cycle: the time counter, a statistics counter, an entropy
draw (R125, R204). -/
def Dev.given (d : Dev) (n : Nat) (op : PlanOp) : Nat × Dev :=
  match op with
  | .timeRd _ => (d.time.count.toNat, d)
  | .statRd _ .pavilion off => (d.rgN (pavPage n) off 0, d)
  | .statRd _ .step off => (d.rgN 0x005 off (d.pav n).plot, d)
  | .rng o => match o.seed with
    | .entropy => let r := d.draw
      ((Config.entropy r.1).toNat, r.2)
    | _ => (0, d)
  | _ => (0, d)

/-- The unit counters of an instruction's occupancy (R94): the vector walk's busy cycles, counted once where two
instructions overlap, and the special-function unit's. -/
def Dev.countUnits (d : Dev) (n c : Nat) (op : PlanOp) : Dev :=
  let vec := match op with
    | .lane _ _ | .cvt _ | .rng _ | .red _ _ | .topk _ | .treemask _ | .sample _ => true
    | _ => false
  let fin := c + occupancy op
  if vec then
    let p := d.pav n
    let fresh := fin - max c p.vecTo
    (d.setPav n { p with vecTo := max fin p.vecTo }).count (pavPage n) 0x110 fresh
  else match op with
    | .sf _ _ => d.count (pavPage n) 0x114 (occupancy op)
    | _ => d

/-- The tile loader at an mm of a bed (R146): the formed address and the register values of the load's start cycle; the
same address loads nothing. Gives the record, the pavilion and the events of the record's words (R253). -/
def Pav.loadTile (p : Pav) (bed c : Nat) (o : MmArgs) : Mem × Pav × List PavEv :=
  let t := p.tiles.get bed ⟨none, 0, [], [], []⟩
  let a := (BitVec.ofNat 64 o.w.off + 1024#64 * (match o.w.idx with
    | some k => t.snap.get k 0
    | none => 0)).toNat
  if t.prev = some a then
    (t.buf, { p with tiles := p.tiles.put bed { t with loadStart := c, snap := p.idx } }, [])
  else
    let len := 1024 * recordKib o.wfmt o.sp24
    let rec_ := p.tier.window a len
    let inR (w : Nat) : Bool := decide (a ≤ 16 * w) && decide (16 * w < a + len)
    let bad := (p.tierBad.filter inR).map (fun w => PavEv.tierUncorr (16 * w))
    let soft := (p.tierSoft.filter inR).length
    (rec_, { p with tiles := p.tiles.put bed ⟨some a, c, p.idx, rec_, t.buf⟩ },
      (.count 0x140 1) :: bad ++ (if soft = 0 then [] else [.tierCorr soft]))

/-- The tile an instruction computes with, its pavilion and the events of the load: an mm loads its bed's tile. -/
def Pav.tileOf (p : Pav) (bed c : Nat) : PlanOp → Mem × Pav × List PavEv
  | .mm o => p.loadTile bed c o
  | _ => ([], p, [])

/-- The bed of an issue slot. -/
def Slot.bedNo : Slot → Nat
  | .bed b => b
  | _ => 0

/-- An instruction that works inside its pavilion enters in its cycle (R144). -/
def Dev.enterOp (d : Dev) (i : Issue) (op : PlanOp) (killed : Bool) (ups : List Upset) : Dev :=
  let g := d.given i.pav op
  let d1 := g.2.countUnits i.pav i.cycle op
  let p := (d1.pav i.pav).settle i.cycle
  let env := d1.env i.pav
  let tl := p.tileOf i.slot.bedNo i.cycle op
  let r := tl.2.1.enter env ⟨op, i.cycle, i.slot.bedNo, 0, killed, latched env p g.1 op, tl.1, ups⟩
  (d1.setPav i.pav r.1).pavEvents i.pav (tl.2.2 ++ r.2)

/-- The four lines of a crossing operand (R163). -/
def Pav.flitOf (p : Pav) (src : LineRef) : Flit := BitVec.ofNat 2048 (leNat (p.sbytes src.byte 256))

/-- xsend in its cycle (R84, R163, R369): one flit on the wire, stamped; one free entry fewer. -/
def Pav.xsend (p : Pav) (x : Nat) (src : LineRef) : Pav :=
  { p with wires := p.wires.put x (p.wires.get x [] ++ [⟨p.flitOf src, p.outGen.get x 0⟩]),
           freeCnt := p.freeCnt.put x (p.free x - 1) }

/-- xrecv in its cycle (R84, R144, R163): the head flit, readable two cycles later; the entry goes back to the sender. -/
def Pav.xrecv (p : Pav) (x : Nat) (dst : LineRef) (c : Nat) : Pav :=
  match p.fifos.get x [] with
  | [] => p
  | f :: rest =>
    ({ p with fifos := p.fifos.put x rest, freed := p.freed.put x (p.freed.get x 0 + 1) }).later (c + 2)
      (.bytes dst.byte (toBytes 256 f.toNat))

/-- loop in its cycle (R199): a frame; the pass number 0 in its counter register from the next cycle on. -/
def Pav.loopStart (p : Pav) (c n : Nat) (act : Option IdxImm) (ctr : Option Nat) (killed : Bool) : Pav :=
  let a := act.map (fun x => (p.idxImm x).toNat)
  let p1 := { p with loops := ⟨c, n, a, if killed then none else ctr, 0⟩ :: p.loops }
  match killed, ctr with
  | false, some j => p1.later (c + 1) (.idx j 0)
  | _, _ => p1

/-- endloop in its cycle (R199): the innermost loop's next pass begins, or the loop ends after its last. -/
def Pav.loopEnd (p : Pav) (c : Nat) : Pav :=
  match p.loops with
  | [] => p
  | f :: rest =>
    if f.n ≤ f.pass + 1 then { p with loops := rest }
    else
      let p1 := { p with loops := { f with pass := f.pass + 1 } :: rest }
      match f.ctr with
      | some j => p1.later (c + 1) (.idx j (BitVec.ofNat 64 (f.pass + 1)))
      | none => p1

/-- Does the instruction behave as one whose condition is false (R141, R199)? step.end takes no guard (R203); the endloop of a pass
belongs to its own loop, whose bound it is not under. -/
def Dev.killed (d : Dev) (i : Issue) (op : PlanOp) : Bool :=
  let p := d.pav i.pav
  match op with
  | .stepEnd | .endloop => !guardHolds p i.guard
  | _ => loopOff p || !guardHolds p i.guard

/-- The xrecv and xsend of a stopped word that crossings block and that have not been counted, counted: each read or send that stalls
counts once (R27, R94, R168). -/
def Dev.countHeld (d : Dev) (n : Nat) : Dev :=
  let hit (h : Held) : Bool := !h.counted && (match h.op with | .xrecv _ _ _ | .xsend _ _ _ => true | _ => false) &&
    (match d.blocked n (d.killed h.iss h.op) h.op with
      | some b => b.cat = .crossing
      | none => false)
  let fresh := (d.pav n).held.filter hit
  let reads := fresh.countP (fun h => match h.op with | .xrecv _ _ _ => true | _ => false)
  let d1 := d.onPav n (fun p => { p with held := p.held.map (fun h => if hit h then { h with counted := true } else h) })
  ((d1.count (pavPage n) 0x124 reads).countB 0x005 0x120 (d.pav n).plot reads).count (pavPage n) 0x128 (fresh.length - reads)

/-- A stall begins (R23): the clock stops in this cycle with the instruction held. -/
def Dev.stall (d : Dev) (i : Issue) (op : PlanOp) (ups : List Upset) (b : Blocked) : Dev :=
  let d1 := d.onPav i.pav (fun p => { p with
    stall := some ⟨b.kind, b.index, b.cat, d.time.count, d.time.elapsed, d.time.elapsed + d.stallTicks⟩, held := [⟨i, op, ups, false⟩] })
  (d1.set64 (pavPage i.pav) 0x40C 0 d.time.count.toNat).countHeld i.pav

/-- Memory words found upset in a store or tier, taken in before a read (R76, R253). -/
def mergeBad (l : List Nat) (hits : Hits) : List Nat :=
  forEach ((hits.filter (·.2)).map (·.1)) l (fun s w => if s.contains w then s else s ++ [w])
def mergeSoft (l : List Nat) (hits : Hits) : List Nat :=
  forEach ((hits.filter (fun h => !h.2)).map (·.1)) l (fun s w => if s.contains w then s else s ++ [w])
def Pav.storeHits (p : Pav) (hits : Hits) : Pav :=
  { p with storeBad := mergeBad p.storeBad hits, storeSoft := mergeSoft p.storeSoft hits }
def Pav.tierHits (p : Pav) (hits : Hits) : Pav :=
  { p with tierBad := mergeBad p.tierBad hits, tierSoft := mergeSoft p.tierSoft hits }

end Sys2Proof.Machine
end

