-- ==== Sys2Proof/Machine/Lpddr.lean ====
section
/-! DEFINITION. LPDDR5X through the crypto block, the page map, and rendezvous counters (R74, R77, R190, R263 to R277). -/
namespace Sys2Proof.Machine

/-- The plot whose key covers an LPDDR5X offset (R275): the owner of its package; in SINGLE tenancy plot 0. -/
def Dev.keyPlot (d : Dev) (off : Nat) : Nat := if d.plotsMode then (d.pkgPlot (off / 2 ^ 35)).getD 0 else 0

/-- Does a package exist on the module (R4)? -/
def Dev.packageOk (d : Dev) (n : Nat) : Bool := decide (n < 16) && d.modl.populated n

/-- The key pair of a serial number: eight words of the entropy source from the draw that the number, less 1, counts (R276). -/
def keyPair (serial : Nat) : List Byte := (List.range 8).flatMap (fun i => toBytes 8 (Config.entropy (serial - 1 + i)).toNat)

/-- The byte at an LPDDR5X offset, decrypted under the key pair of a serial number (R275, log entry 8): the plaintext where the
burst was encrypted under that pair; where it was under another, that burst's ciphertext decrypted under this one; a free
value where no key or no write gives it. -/
def Dev.lpByte (d : Dev) (serial off : Nat) : Byte :=
  let old := d.burstKey.get (off / 64) 0
  if serial = 0 ∨ old = 0 then Config.foreignByte serial off
  else if old = serial then d.lpddr.read off
  else nthD (xtsDec (keyPair serial) (off / 64) (xtsEnc (keyPair old) (off / 64) (d.lpddr.bytes (off / 64 * 64) 64))) (off % 64) 0

/-- Bytes from an LPDDR5X offset on, decrypted. -/
def Dev.lpBytesUnder (d : Dev) (serial off : Nat) : Nat → List Byte
  | 0 => []
  | n + 1 => d.lpByte serial off :: Dev.lpBytesUnder d serial (off + 1) n

/-- Bytes from an LPDDR5X offset on, under the key of the plot that owns them. -/
def Dev.lpRead (d : Dev) (off n : Nat) : List Byte := d.lpBytesUnder (d.key (d.keyPlot off)).serial off n

/-- A little-endian value read from LPDDR5X. -/
def Dev.lpNat (d : Dev) (off n : Nat) : Nat := leNat (d.lpRead off n)

/-- A piece of one burst written under a key: a burst that another key had encrypted is taken over whole. -/
def Dev.lpPiece (d : Dev) (serial off : Nat) (bs : List Byte) : Dev :=
  let b := off / 64
  if d.burstKey.get b 0 = serial then { d with lpddr := d.lpddr.store off bs }
  else
    let old := d.lpBytesUnder serial (64 * b) 64
    { d with lpddr := (d.lpddr.store (64 * b) old).store off bs, burstKey := d.burstKey.put b serial }

/-- The pieces of a write by bursts. -/
def burstPieces : Nat → Nat → List Byte → List (Nat × List Byte)
  | 0, _, _ => []
  | fuel + 1, off, bs =>
    if bs.isEmpty then []
    else
      let n := 64 - off % 64
      (off, bs.take n) :: burstPieces fuel (off + n) (bs.drop n)

/-- Bytes written into LPDDR5X, encrypted under the key of the plot that owns them; blocks of a slot that holds no key
are dropped and counted (R275, R277); the bursts written are counted (R283). -/
def Dev.lpWrite (d : Dev) (off : Nat) (bs : List Byte) : Dev :=
  let k := d.key (d.keyPlot off)
  if !k.loaded then (d.count 0x090 0x108 ((bs.length + 63) / 64)).recordB 0x090 0 0 .none false Where.none
  else
    let ps := burstPieces (bs.length + 1) off bs
    let d0 := (d.count (mcPage (off / 2 ^ 35)) 0x104 ps.length).count 0x090 0x100 ps.length
    let d1 := forEach ps d0 (fun s e => s.lpPiece k.serial e.1 e.2)
    { d1 with dramBad := d1.dramBad.filter (fun b => decide (64 * b + 64 ≤ off) || decide (off + bs.length ≤ 64 * b)) }

/-- The page map entry of a page (R270, R271): pages of unpopulated packages are PINNED to handle 0. An entry that nothing
has written is FREE with its owner's plot, or, among the system pages of a plot, PINNED to handle 0 (R468). -/
def Dev.page (d : Dev) (p : Nat) : PageEntry :=
  if !d.packageOk (p / 2 ^ 20) then { PageEntry.free with st := 4 }
  else match d.pages.find p with
    | some e => e
    | none => match d.pkgPlot (p / 2 ^ 20) with
      | some q =>
        if (d.plot q).sysPackage = p / 2 ^ 20 ∧ p % 2 ^ 20 < (d.plot q).sysPages then { PageEntry.free with st := 4, plot := q }
        else { PageEntry.free with plot := q }
      | none => PageEntry.free

/-- A page map entry written; the entries of unpopulated packages change under no edit (R271). -/
def Dev.setPage (d : Dev) (p : Nat) (e : PageEntry) : Dev :=
  if d.packageOk (p / 2 ^ 20) then { d with pages := d.pages.put p e, pageBad := d.pageBad.filter (· ≠ p) } else d

/-- The checks of one page taken by a page list (R190, R265, R271), in the order of R281's codes after PAGE_RANGE, an entry that
cannot be read first (R274): a cause, or 0. No list reaches a page of handle 0. -/
def Dev.pageCheck (d : Dev) (p seq plot : Nat) (gen : Option Nat) (taken : Bool) : Nat :=
  let e := d.page p
  let genBad : Bool := match gen with
    | some g => decide (e.gen ≠ g)
    | none => false
  if !d.packageOk (p / 2 ^ 20) then 0x07
  else if d.pageBad.contains p then 0x0B
  else if taken && e.st ≠ 1 && e.st ≠ 4 then 0x01
  else if genBad then 0x02
  else if !taken then 0
  else if e.seq ≠ seq ∨ seq = 0 then 0x03
  else if e.plot ≠ plot then 0x04
  else if e.poison then 0x06
  else 0

/-- The handle of a sequence, index and generation (R416), as the field SEQ of the page map and of a page entry holds it: the
generation in the low 6 bits, the index above (R189, R270; log entry 163). -/
def seqField (h : Nat) : Nat := h / 2 ^ 18 % 2 ^ 6 + 2 ^ 6 * (h % 2 ^ 18)
def seqOfField (v : Nat) : Nat := v / 2 ^ 6 % 2 ^ 18 + 2 ^ 18 * (v % 2 ^ 6)

/-- The fields of a page-entry value (R189). -/
def peIndex (v : Nat) : Nat := bitsN v 0 24
def peGen (v : Nat) : Nat := bitsN v 24 6
def peSeq (v : Nat) : Nat := seqOfField (bitsN v 32 24)
def pePlot (v : Nat) : Nat := bitsN v 56 4

/-- The pages of a list walk: pages taken, the first failing cause, the page it concerns. -/
def Dev.listWalk (d : Dev) : List Nat → List Nat × Nat × Nat
  | [] => ([], 0, 0)
  | v :: rest =>
    let c := d.pageCheck (peIndex v) (peSeq v) (pePlot v) (some (peGen v)) true
    if c ≠ 0 then ([], c, peIndex v)
    else
      let r := d.listWalk rest
      (peIndex v :: r.1, r.2)

/-- The pages of a chain walk (R190): `left` pages still to visit of which the last `n` are taken. -/
def Dev.chainWalk (d : Dev) (seq plot n : Nat) : Nat → Nat → Option Nat → List Nat × Nat × Nat
  | 0, _, _ => ([], 0, 0)
  | left + 1, p, gen =>
    let taken := decide (left + 1 ≤ n)
    let c := d.pageCheck p seq plot gen taken
    if c ≠ 0 then ([], c, p)
    else
      let e := d.page p
      let here := if taken then [p] else []
      if left = 0 then (here, 0, 0)
      else if e.tail then (here, 0x05, p)
      else
        let r := d.chainWalk seq plot n left e.next none
        (here ++ r.1, r.2)

/-- The pages a transfer names in its issue cycle (R190): pages, cause, page concerned. No chain is longer than the map. -/
def Dev.pageWalk (d : Dev) (n : Nat) (a : PageArgs) : List Nat × Nat × Nat :=
  let p := d.pav n
  let env := d.env n
  let b := a.pg.p + p.idxOpt a.pg.idx
  if a.chain then
    let v := env.param b
    let skip := (p.idxImm a.skip).toNat
    if 2 ^ 24 ≤ skip then ([], 0x05, peIndex v)
    else d.chainWalk (peSeq v) (pePlot v) a.n (skip + a.n) (peIndex v) (some (peGen v))
  else d.listWalk ((List.range a.n).map (fun i => env.param (b + i)))

/-- A rendezvous counter advanced (R77). -/
def Dev.advanceCtr (d : Dev) (n k by_ : Nat) : Dev :=
  d.onPav n (fun p => { p with ctrs := p.ctrs.put k (p.ctr k + BitVec.ofNat 32 by_) })

/-- The staging buffer of a pavilion that holds an offset: index and declaration (R74). -/
def Dev.stagingAt (d : Dev) (n off : Nat) : Option (Nat × Staging) :=
  match d.bodyOf (d.pav n).plot with
  | none => none
  | some b => ((List.range b.staging.length).zip b.staging).find? (fun e =>
      e.2.pav = n && decide (e.2.off ≤ off) && decide (off < e.2.off + 1024 * e.2.kib))

/-- The fill sequence of a buffer. -/
def Pav.fillSeq (p : Pav) (buf : Nat) : FillSeq := (p.fills.find? (fun f => f.buf = buf)).getD ⟨buf, [], [], 0, []⟩
def Pav.setFill (p : Pav) (f : FillSeq) : Pav := { p with fills := p.fills.filter (fun g => g.buf != f.buf) ++ [f] }

/-- The first position a transfer fills in a sequence. -/
def FillSeq.base (f : FillSeq) (serial : Nat) : Option Nat :=
  (f.order.foldl (fun (acc : Nat × Option Nat) e =>
    (acc.1 + e.2.1, if acc.2.isNone && e.1 = serial then some acc.1 else acc.2)) (0, none)).2

/-- How far the counter may advance: the length of the run of placed positions from `c` on. -/
def runFrom (placed : List Nat) : Nat → Nat → Nat
  | 0, c => c
  | fuel + 1, c => if placed.contains c then runFrom placed fuel (c + 1) else c

/-- Positions of a buffer's fill sequence placed, and its counter advanced as far as the sequence goes without a gap
(R74, R269). -/
def Dev.placeKib (d : Dev) (n buf ctr : Nat) (ps : List Nat) : Dev :=
  let f := (d.pav n).fillSeq buf
  let placed := f.placed ++ ps
  let c := runFrom placed (placed.length + 1) f.counted
  let d1 := d.onPav n (fun p => p.setFill { f with placed := placed.filter (fun x => decide (c ≤ x)), counted := c })
  if c = f.counted then d1 else d1.advanceCtr n ctr (c - f.counted)

/-- A transfer entered into a buffer's fill sequence (R269). -/
def Dev.reserveFill (d : Dev) (n buf serial kib : Nat) (lp : Bool) : Dev :=
  d.onPav n (fun p =>
    let f := p.fillSeq buf
    p.setFill { f with order := f.order ++ [(serial, kib, lp)] })

end Sys2Proof.Machine
end

