-- ==== Sys2Proof/Machine/Transfers.lean ====
section
/-! DEFINITION. Opening, serving and closing transfers: descriptors, tags, packets, completion (R185 to R198, R287 to R291, R314, R517). -/
namespace Sys2Proof.Machine

/-- A transfer with nothing moved yet. -/
def Xfer.new (serial : Nat) (owner : XferOwner) (kind : XferKind) (plot keyGen issued : Nat) : Xfer where
  serial := serial
  owner := owner
  kind := kind
  fabric := false
  tag := 0
  gen := 0
  plan := false
  plot := plot
  keyGen := keyGen
  done := none
  loc := 0
  len := 0
  addr := 0
  pages := []
  members := []
  pcount := 0
  confirmed := []
  memberConf := []
  got := []
  gotBursts := []
  placed := []
  issued := issued
  err := none

/-- A transfer of the device, by its serial number. -/
def Dev.xfer (d : Dev) (serial : Nat) : Option Xfer := d.xfers.find? (fun x => x.serial = serial)

/-- A transfer replaced. -/
def Dev.setXfer (d : Dev) (x : Xfer) : Dev := { d with xfers := d.xfers.map (fun y => if y.serial = x.serial then x else y) }

/-- The lowest tag no open fabric transfer holds (R287; which free tag is taken is a DESIGN CHOICE, log entry 22). -/
def Dev.freeTag (d : Dev) : Nat :=
  let used := (d.xfers.filter (·.fabric)).map (·.tag)
  ((List.range (used.length + 1)).find? (fun t => !used.contains t)).getD 0

/-- A local transfer opened: the device with it, and its record. -/
def Dev.openLocal (d : Dev) (owner : XferOwner) (kind : XferKind) (plot : Nat) (f : Xfer → Xfer) : Dev × Xfer :=
  let x := f (Xfer.new d.serial owner kind plot (d.key (if d.plotsMode then plot else 0)).gen d.time.elapsed)
  ({ d with serial := d.serial + 1, xfers := d.xfers ++ [x] }, x)

/-- A fabric transfer opened with a tag and its next generation (R287). -/
def Dev.openFabric (d : Dev) (owner : XferOwner) (kind : XferKind) (plot : Nat) (f : Xfer → Xfer) : Dev × Xfer :=
  let t := d.freeTag
  let g := (d.tagGen.get t 0 + 1) % 16
  let r := d.openLocal owner kind plot (fun x => f { x with fabric := true, tag := t, gen := g })
  (({ r.1 with tagGen := r.1.tagGen.put t g }).count 0x051 0x100 1, r.2)

/-- The header fields every packet of a fabric transfer shares (R292; PLOT and PLOT_GEN are the sender's own plot and
generation, log entry 23). -/
def Dev.packetOf (d : Dev) (x : Xfer) (typ tc dest : Nat) : Packet :=
  { Packet.blank with
    dest := dest, src := d.number, mid := dest, phase := true, tc := tc, typ := typ, epoch := d.router.epoch,
    plan := x.plan, tag := x.tag, tagGen := x.gen, stepGen := if x.plan then (d.stepNo x.plot).toNat % 16 else 0,
    plot := x.plot, plotGen := (d.plot x.plot).gen, pcount := x.pcount }

/-- The packets of a run of bytes to a global address: 448 bytes each, the last the remainder (R288). -/
def Dev.dataPackets (d : Dev) (x : Xfer) (typ tc addr : Nat) (trk : Option Nat) (bs : List Byte) : List Packet :=
  let ps := pieces 448 bs
  (List.range ps.length).map (fun k =>
    let b := nthD ps k []
    { d.packetOf x typ tc (gaDev addr) with
      pseq := k, addr := addr + 448 * k, len := (b.length + 63) / 64 * 64, payload := b,
      tracker := trk.getD 0, trkValid := trk.isSome })

/-- Packets handed to the router one after another (R284). On a shadow that follows, data packets are dropped at the
source and count as confirmed (R517). -/
def shadowDropped (typ : Nat) : Bool := typ = 0 || typ = 4 || typ = 5 || typ = 6 || typ = 7 || typ = 8

def Dev.postAll (d : Dev) (x : Xfer) (ps : List Packet) : Dev :=
  let drop := d.isShadow && d.recov.following
  let d1 := forEach (ps.filter (fun p => !(drop && shadowDropped p.typ))) d (fun s p => s.post p)
  if drop && ps.any (fun p => shadowDropped p.typ) then
    d1.setXfer { x with confirmed := List.range x.pcount, memberConf := x.members.map (fun m => (m, x.pcount)) }
  else d1

/-- The KiB and pavilion of a transfer's place in a working store. -/
def Xfer.pav (x : Xfer) : Nat := x.loc / 2 ^ 25
def Xfer.off (x : Xfer) : Nat := x.loc % 2 ^ 25

/-- Is a multicast member's copy confirmed whole (R314)? -/
def Xfer.memberDone (x : Xfer) (m : Nat) : Bool := x.memberConf.any (fun e => e.1 = m && decide (x.pcount ≤ e.2))

/-- Has a transfer moved and confirmed everything (R186, R288)? -/
def Xfer.complete (x : Xfer) : Bool :=
  match x.kind with
  | .pageIn | .inputFill => decide (x.len ≤ 1024 * x.placed.length)
  | .pageOut => decide (x.len ≤ 64 * x.placed.length)
  | .get => match x.owner with
    | .plan _ => decide (x.len ≤ 1024 * x.placed.length) && decide (x.pcount ≤ x.confirmed.length)
    | _ => decide (x.pcount ≤ x.confirmed.length)
  | .mcast => x.members.all x.memberDone
  | _ => decide (x.pcount ≤ x.confirmed.length)

/-- The MCAST_MISSING entries of a multicast: up to 32 members each (R314, R505). -/
def Dev.logMissing (d : Dev) (x : Xfer) (ms : List Nat) : Dev :=
  forEach (pieces 32 ms) d (fun s l =>
    let e := s.faultEntry 0x080 l.length .none false ⟨none, some x.plot, 0, 0, 0⟩
    s.logPush { e with typ := 2, aux := x.tag, members := l })

/-- DMA.LAST_ERROR and its companions (R280). -/
def Dev.lastError (d : Dev) (x : Xfer) (cause addr : Nat) : Dev :=
  (((d.setN 0x080 0x400 0 (cause + 256 * (x.pav % 32) + 2 ^ 13)).setN 0x080 0x404 0 (x.tag + 2 ^ 16 * x.gen)).set64
    0x080 0x408 0 addr).count 0x080 0x104 1

/-- Who raises a fault for a failed transfer (R188): plans, and the Kiosk's fill of a staging buffer. -/
def XferOwner.faults : XferOwner → Bool
  | .plan _ => true
  | .kioskInput _ => true
  | _ => false

/-- The pages a finished transfer counts (R283). -/
def Dev.countPages (d : Dev) (x : Xfer) : Dev :=
  match x.kind with
  | .pageIn => d.count 0x080 0x108 x.pages.length
  | .pageOut => d.count 0x080 0x10C x.pages.length
  | _ => d

/-- The sequence whose page a failed transfer met, to be aborted at its context's next commit point (R413). -/
def Dev.markAbort (d : Dev) (x : Xfer) (cause : Nat) : Dev :=
  let p := if cause = 6 then gaOff x.addr / 32768 else (x.pages.find? d.pageBad.contains).getD (gaOff x.addr / 32768)
  let i := (d.page p).seq % 2 ^ 18
  if (cause = 6 || cause = 0x0B) && i ≠ 0 then
    d.onKc (d.seq i).ctx (fun k => { k with aborts := if k.aborts.contains i then k.aborts else k.aborts ++ [i] })
  else d

/-- A copy of a remote park, or of the fetch back from one, that has ended (R430, R432). -/
def Dev.noteCopy (d : Dev) (x : Xfer) (cause : Nat) : Dev :=
  let note (c : Nat) : Dev := d.onKc c (fun k => { k with parks := k.parks.map (fun p =>
    if p.pend.contains x.serial then { p with pend := p.pend.filter (fun n => n != x.serial), failed := p.failed || cause != 0 }
    else p) })
  match x.owner with
  | .kioskPark c _ => note c
  | .kioskFetch c _ => note c
  | _ => d

/-- The global address a failed transfer concerns (R280): of the first byte a page.out did not write, of the first member a
multicast did not reach, else its own. -/
def Dev.errAddr (d : Dev) (x : Xfer) : Nat :=
  match x.kind with
  | .pageOut => if x.pages.isEmpty then x.addr
      else d.number * 2 ^ 52 + 2 ^ 49 + (let k := 64 * x.placed.length + x.addr % 32768; 32768 * nthD x.pages (k / 32768) 0 + k % 32768)
  | .mcast => ((x.members.find? (fun m => !x.memberDone m)).getD 0) * 2 ^ 52 + x.addr
  | _ => x.addr

/-- A transfer closed with a cause (R186, R188, R281): its done counter advances, a failure is recorded and faults the
step that issued it. Transfers of the Kiosk, the loader and management are left to their owners. -/
def Dev.closeXfer (d : Dev) (x : Xfer) (cause : Nat) : Dev :=
  let d1 := { d with xfers := d.xfers.filter (fun y => y.serial != x.serial) }
  let d2 := d1.count 0x080 0x100 1
  let d3 := if cause = 0 then d2.countPages x else d2
  let d4 := (match x.done with
    | some k => d3.advanceCtr x.pav k 1
    | none => d3).noteCopy x cause
  if cause = 0 || !x.owner.faults then d4
  else
    let a := d.errAddr x
    let d5 := (d4.markAbort x cause).lastError x cause a
    let w : Where := ⟨some x.pav, some x.plot, d5.rgN 0x080 0x400 0, a, 0⟩
    let d6 := if cause = 0x0A then d5.raise (pavPage x.pav) 7 (pavWhere x.pav (d5.rgN (pavPage x.pav) 0x41C 0) (d5.rgN (pavPage x.pav) 0x420 0)) else d5
    let d7 := if cause = 0x0B then d6.raise 0x080 2 w else d6
    d7.raise 0x080 0 w

/-- A multicast that no member can confirm any more closes PARTIAL when each missing member is fenced at the origin,
else FENCED (R314). -/
def Dev.closeMcast (d : Dev) (x : Xfer) : Dev :=
  let missing := x.members.filter (fun m => !x.memberDone m)
  if missing.all d.fenced then
    let d1 := if missing.isEmpty then d
      else ((d.logMissing x missing).setN 0x051 0x440 0 (x.tag + 2 ^ 16 * missing.length + 2 ^ 29))
    d1.closeXfer x 0
  else d.closeXfer x 0x13

/-- Are all members of a multicast confirmed or given up? Members given up are listed in `pages`. -/
def Xfer.mcastOver (x : Xfer) : Bool := x.members.all (fun m => x.memberDone m || x.pages.contains m)

/-- The live parameter P(p), plus an index register times 2,048: a Parterre address (R195). -/
def Dev.gaOf (d : Dev) (n : Nat) (r : ParamRef) : Nat :=
  (((d.env n).param r.p) + (d.pav n).idxOpt r.idx * 2048) % 2 ^ 64

/-- KiB a transfer takes from or to the DMA port: a part of a KiB counts whole (R94 names no rule; DESIGN CHOICE, log entry 178). -/
def kibOf (len : Nat) : Nat := (len + 1023) / 1024

/-- A transfer of a plan whose guard is false (R171): its done counter and the staging buffer it names advance. -/
def Dev.killedXfer (d : Dev) (n : Nat) (done : Nat) (fill : Option (Nat × Nat)) (lp : Bool) : Dev :=
  let d1 := match fill with
    | some (dst, kib) => match d.stagingAt n dst with
      | some (b, st) =>
        let d2 := d.reserveFill n b d.serial kib lp
        let base := (((d2.pav n).fillSeq b).base d.serial).getD 0
        ({ d2 with serial := d2.serial + 1 }).placeKib n b st.ctr ((List.range kib).map (fun k => base + k))
      | none => d
    | none => d
  d1.advanceCtr n done 1

/-- page.in at its issue (R185, R190, R191). A failed page check fails the transfer, which keeps its place in the fill sequence
(R269); so does a destination that is not the start of a large enough staging buffer (R75). -/
def Dev.pageIn (d : Dev) (n dst : Nat) (a : PageArgs) (done : Nat) : Dev :=
  let p := (d.pav n).plot
  let w := d.pageWalk n a
  let st := (d.stagingAt n dst).filter (fun e => e.2.off = dst && decide (32 * a.n ≤ e.2.kib))
  let cause := if w.2.1 ≠ 0 then some w.2.1 else if st.isNone then some 0x0A else none
  let r := d.openLocal (.plan n) .pageIn p (fun x => { x with
    plan := true, done := some done, loc := n * 2 ^ 25 + dst, len := 32768 * a.n, pages := w.1,
    addr := if w.2.1 ≠ 0 then d.number * 2 ^ 52 + 2 ^ 49 + 32768 * w.2.2 else d.number * 2 ^ 52 + n * 2 ^ 25 + dst,
    err := cause })
  match st with
  | some (b, _) => r.1.reserveFill n b r.2.serial (32 * a.n) true
  | none => r.1

/-- page.out at its issue (R192): whole pages, or `len` bytes at byte `off` of one page. -/
def Dev.pageOut (d : Dev) (n src : Nat) (a : PageArgs) (part : Option (IdxImm × Nat)) (done : Nat) : Dev :=
  let p := (d.pav n).plot
  let w := d.pageWalk n a
  let off := match part with
    | some (o, _) => ((d.pav n).idxImm o).toNat
    | none => 0
  let len := match part with
    | some (_, l) => l
    | none => 32768 * a.n
  let bad := w.2.1 ≠ 0
  (d.openLocal (.plan n) .pageOut p (fun x => { x with
    plan := true, done := some done, loc := n * 2 ^ 25 + src, len := len, pages := w.1,
    addr := if bad then d.number * 2 ^ 52 + 2 ^ 49 + 32768 * w.2.2 else off,
    err := if bad then some w.2.1 else none })).1

/-- The LPDDR5X offset of byte `k` of a page transfer. -/
def Xfer.pageOff (x : Xfer) (k : Nat) : Nat :=
  match x.kind with
  | .pageOut => 32768 * nthD x.pages ((x.addr % 32768 + k) / 32768) 0 + (x.addr % 32768 + k) % 32768
  | _ => 32768 * nthD x.pages (k / 32768) 0 + k % 32768

/-- A transfer of a plan opened with its packets sent. -/
def Dev.planSend (d : Dev) (n : Nat) (kind : XferKind) (loc len addr pcount done : Nat) (members : List Nat)
    (mk : Dev → Xfer → List Packet) : Dev :=
  let r := d.openFabric (.plan n) kind (d.pav n).plot (fun x => { x with
    plan := true, done := some done, loc := loc, len := len, addr := addr, pcount := pcount, members := members })
  (r.1.postAll r.2 (mk r.1 r.2)).count (pavPage n) 0x148 (match kind with | .get => 0 | _ => kibOf len)

/-- A null packet to a device (R171): it places nothing and adds 1 to the tracker; a send that would add more sends one for each
packet it stands for, since CONTRIB is for XW_ADD alone (R292). It carries a tag
with its next generation (R287), whose transfer is over at once. -/
def Dev.nullTo (d : Dev) (n addr : Nat) (trk : Option Nat) (tc tree : Nat) (spread : Bool) : Dev :=
  let x := Xfer.new 0 (.plan n) .put (d.pav n).plot 0 0
  let t := d.freeTag
  let g := (d.tagGen.get t 0 + 1) % 16
  let d1 := { d with tagGen := d.tagGen.put t g }
  let pk := { d1.packetOf { x with plan := true, pcount := 1, tag := t, gen := g } 0x08 tc (gaDev addr) with
    addr := addr, tracker := trk.getD 0, trkValid := trk.isSome, tree := tree }
  if d.isShadow && d.recov.following then d1 else if spread then { d1 with inject := d1.inject ++ [pk] } else d1.post pk

/-- A run of the working store read through the transfer ports: its ECC errors corrected, or class D faults (R76). -/
def Dev.portRead (d : Dev) (n off len : Nat) : Dev := d.pavEvents n (storeEvents (d.pav n) off len)

/-- fput (R195). -/
def Dev.fput (d : Dev) (n : Nat) (killed : Bool) (tgt : ParamRef) (src len : Nat) (trk : Option Nat) (tc0 : Bool)
    (done : Nat) : Dev :=
  let a := d.gaOf n tgt
  let tc := if tc0 then 0 else 1
  if killed then (d.nullTo n a trk tc 0 false).advanceCtr n done 1
  else
    let bs := (d.pav n).store.bytes src len
    (d.portRead n src len).planSend n .put (n * 2 ^ 25 + src) len a (ceilDiv len 448) done []
      (fun s x => s.dataPackets x 0x00 tc a trk bs)

/-- The requests of a read (R288, R293; log entry 24): one for the packets of 448 bytes, one for the remainder, whose PSEQ is the
last of the transfer. -/
def Dev.getRequests (d : Dev) (x : Xfer) (addr len : Nat) : List Packet :=
  let q := len / 448
  let base := { d.packetOf x 0x01 1 (gaDev addr) with addr := addr }
  (if q = 0 then [] else [{ base with len := 448, pcount := q }]) ++
    (if len % 448 = 0 then [] else [{ base with addr := addr + 448 * q, len := len % 448, pcount := 1, pseq := q }])

/-- fget (R195). -/
def Dev.fget (d : Dev) (n : Nat) (killed : Bool) (src : ParamRef) (dst len done : Nat) : Dev :=
  let a := d.gaOf n src
  if killed then d.killedXfer n done (some (dst, kibOf len)) false
  else
    let u := ceilDiv len 448
    match d.stagingAt n dst with
    | none =>
      (d.openFabric (.plan n) .get (d.pav n).plot (fun x => { x with
        plan := true, done := some done, loc := n * 2 ^ 25 + dst, len := len, addr := a, pcount := u, err := some 0x0A })).1
    | some (b, _) =>
      let serial := d.serial
      let d1 := d.planSend n .get (n * 2 ^ 25 + dst) len a u done [] (fun s x => s.getRequests x a len)
      d1.reserveFill n b serial (kibOf len) false

/-- The scheduled route of a tree in the running variant (R298). -/
def Dev.treeRoute (d : Dev) (p tree : Nat) : Option SchedRoute :=
  (d.variantOf p).bind (fun v => v.routes.find? (fun r => r.tree = some tree))

/-- The global address a multicast writes to in a member: offset `off` of the working store space (R196, log entry 25). -/
def mcastAddr (member off : Nat) : Nat := member * 2 ^ 52 + off

/-- fmcast (R196, R313, R314). On TC1 one copy goes to each member whose fence bit is clear; on TC0 one copy follows the
tree. -/
def Dev.fmcast (d : Dev) (n : Nat) (killed : Bool) (grp src len off : Nat) (trk : Option Nat) (done : Nat) : Dev :=
  match (d.bodyOf (d.pav n).plot).bind (fun b => b.groups.find? (fun g => g.id = grp)) with
  | none => d
  | some g =>
    let live := g.members.filter (fun m => !d.fencedAtSource m)
    let pruned := g.members.filter d.fencedAtSource
    let first := (live.find? (· ≠ d.number)).getD (live.headD 0)
    if killed then
      let d1 := if g.tc0 then d.nullTo n (mcastAddr first off) trk 0 g.tree true
        else forEach live d (fun s m => s.nullTo n (mcastAddr m off) trk 1 0 false)
      d1.advanceCtr n done 1
    else
      let bs := (d.pav n).store.bytes src len
      let d1 := (d.portRead n src len).planSend n .mcast (n * 2 ^ 25 + src) len off (ceilDiv len 448) done g.members (fun s x =>
        if g.tc0 then (s.dataPackets x 0x07 0 (mcastAddr first off) trk bs).map (fun p => { p with tree := g.tree })
        else live.flatMap (fun m => s.dataPackets x 0x07 1 (mcastAddr m off) trk bs))
      { d1 with xfers := d1.xfers.map (fun x => if x.serial = d.serial then { x with pages := pruned } else x) }

/-- Values of a full XW_ADD packet, and the code of their width (R292, R295). -/
def XwN.perPacket : XwN → Nat
  | .n32 => 64 | .n64 => 32 | .n128 => 16
def XwN.code : XwN → Nat
  | .n32 => 1 | .n64 => 2 | .n128 => 3
def xwnOf : Nat → Option XwN
  | 1 => some .n32 | 2 => some .n64 | 3 => some .n128 | _ => none

/-- The XW_ADD packets of a run of values and companions (R295): values, then companions. -/
def Dev.xwPackets (d : Dev) (x : Xfer) (n : XwN) (tc addr tree : Nat) (win : Int) (trk : Option Nat) (elems : Nat)
    (vals comps : List Byte) : List Packet :=
  let k := n.perPacket
  let vb := n.bits / 8
  (List.range (ceilDiv elems k)).map (fun i =>
    let c := min k (elems - k * i)
    let pay := (vals.drop (i * k * vb)).take (c * vb) ++ (comps.drop (i * k * 2)).take (c * 2)
    { d.packetOf x 0x05 tc (gaDev addr) with
      pseq := i, addr := addr + i * k * vb, len := (pay.length + 63) / 64 * 64, payload := pay, contrib := 1,
      xwn := n.code, win := win, tree := tree, tracker := trk.getD 0, trkValid := trk.isSome })

/-- The address and class of a reduction's destination (R197): a scheduled tree on TC0, an address on TC1. -/
def Dev.redTarget (d : Dev) (n : Nat) : RedDest → Nat × Nat × Nat
  | .tree id => match d.treeRoute (d.pav n).plot id with
    | some r => (r.addr, 0, id)
    | none => (0, 0, id)
  | .toAddr p => ((d.env n).param p, 1, 0)

/-- fred.xw and fadd.xw (R197, R198). -/
def Dev.xwSend (d : Dev) (nPav : Nat) (killed : Bool) (n : XwN) (tgt : Nat × Nat × Nat) (src cmp elems : Nat) (win : Int)
    (trk : Option Nat) (done : Nat) : Dev :=
  if killed then (forEach (List.range (ceilDiv elems n.perPacket)) d (fun s _ => s.nullTo nPav tgt.1 trk tgt.2.1 tgt.2.2 false)).advanceCtr nPav done 1
  else
    let p := d.pav nPav
    let vals := p.store.bytes src (elems * (n.bits / 8))
    let comps := p.store.bytes cmp (elems * 2)
    ((d.portRead nPav src vals.length).portRead nPav cmp comps.length).planSend nPav .red (nPav * 2 ^ 25 + src) (vals.length + comps.length) tgt.1 (ceilDiv elems n.perPacket) done []
      (fun s x => s.xwPackets x n tgt.2.1 tgt.1 tgt.2.2 win trk elems vals comps)

/-- fred.f (R132, R197): FP32 values, 112 to a packet. -/
def Dev.fredF (d : Dev) (n : Nat) (killed : Bool) (dst : RedDest) (src elems trk done : Nat) : Dev :=
  let tgt := d.redTarget n dst
  if killed then (d.nullTo n tgt.1 (some trk) tgt.2.1 tgt.2.2 false).advanceCtr n done 1
  else
    let bs := (d.pav n).store.bytes src (4 * elems)
    (d.portRead n src (4 * elems)).planSend n .red (n * 2 ^ 25 + src) (4 * elems) tgt.1 (ceilDiv (4 * elems) 448) done []
      (fun s x => (s.dataPackets x 0x06 tgt.2.1 tgt.1 (some trk) bs).map (fun p => { p with tree := tgt.2.2, contrib := 0 }))

/-- fadd.i64 (R198): the value in the first eight payload bytes. -/
def Dev.faddI64 (d : Dev) (n : Nat) (killed : Bool) (tgt : ParamRef) (val : Nat) (trk : Option Nat) (done : Nat) : Dev :=
  let a := d.gaOf n tgt
  if killed then (d.nullTo n a trk 1 0 false).advanceCtr n done 1
  else
    let v := (d.pav n).ireg val
    d.planSend n .fadd (n * 2 ^ 25) 64 a 1 done []
      (fun s x => s.dataPackets x 0x04 1 a trk (toBytes 8 v.toNat ++ List.replicate 56 0))

end Sys2Proof.Machine
end

