-- ==== Sys2Proof/Machine/PlanExec.lean ====
section
/-! DEFINITION. The instructions of the plan, one meaning each, over the shared operations of Issue and Transfers; stalls that end or time out; flits that arrive and entries that come back (02, 04, 05). -/
namespace Sys2Proof.Machine

/-- What an instruction does in its cycle, once nothing blocks it. -/
def Dev.perform (d : Dev) (i : Issue) (op : PlanOp) (killed : Bool) (ups : List Upset) : Dev :=
  let n := i.pav
  match op with
  | .xsend x src _ => if killed then d else d.onPav n (·.xsend x src)
  | .xrecv x dst _ => if killed then d else d.onPav n (·.xrecv x dst i.cycle)
  | .await _ _ | .fence _ _ | .beat _ | .nop => d
  | .stepEnd => if killed then d else d.onPav n (fun p => { p with ended := true })
  | .loop c act ctr => d.onPav n (·.loopStart i.cycle c act ctr killed)
  | .endloop => d.onPav n (·.loopEnd i.cycle)
  | .pageIn dst pg w => if killed then d.killedXfer n w.done (some (dst, 32 * pg.n)) true else d.pageIn n dst pg w.done
  | .pageOut src pg part w => if killed then d.killedXfer n w.done none true else d.pageOut n src pg part w.done
  | .fput tgt src len trk tc0 w => d.fput n killed tgt src len trk tc0 w.done
  | .fget src dst len w => d.fget n killed src dst len w.done
  | .fmcast g src len off trk w => d.fmcast n killed g src len off trk w.done
  | .fredXw x dst src cmp el win trk w => d.xwSend n killed x (d.redTarget n dst) src cmp el win (some trk) w.done
  | .fredF dst src el trk w => d.fredF n killed dst src el trk w.done
  | .faddI64 tgt v trk w => d.faddI64 n killed tgt v trk w.done
  | .faddXw x tgt src cmp el win trk w => d.xwSend n killed x (d.gaOf n tgt, 1, 0) src cmp el win trk w.done
  | _ => d.enterOp i op killed ups

/-- An instruction of the plan issues (R13): its pavilion comes to the cycle; what blocks it stops the clock; else it is
performed. In the cycle at which the clock has stopped, the word's other instructions wait with it (R23), and have issued only
when the clock starts again (log entry 167). An instruction that the running plan does not hold there does not issue (R211). -/
def Dev.issueOp (d : Dev) (i : Issue) (op : PlanOp) (ups : List Upset) : Dev :=
  let p := d.pav i.pav
  if p.run = .running ∧ p.stall.isSome ∧ i.cycle = p.cycle then
    (if d.planned i op then
      ((d.markIssued i).onPav i.pav (fun q => { q with held := q.held ++ [⟨i, op, ups, false⟩] })).countHeld i.pav
     else d)
  else
    let r := d.reach i.pav i.cycle
    if !r.2 || !r.1.planned i op then r.1
    else
      let d1 := (r.1.markIssued i).markVar i.pav op
      let k := d1.killed i op
      match d1.blocked i.pav k op with
      | some b => d1.stall i op ups b
      | none => d1.perform i op k ups

/-- The first block among the instructions of a stopped word. -/
def Dev.heldBlock (d : Dev) (n : Nat) : Option Blocked :=
  (d.pav n).held.findSome? (fun h => d.blocked n (d.killed h.iss h.op) h.op)

/-- A stall judged anew (R23, R365): while something still blocks the word, the charge goes on under its present cause;
else the clock starts and the word's instructions complete in the cycle they had reached. -/
def Dev.resume (d : Dev) (n : Nat) : Dev :=
  match (d.pav n).stall with
  | none => d
  | some s =>
    match d.heldBlock n with
    | some b =>
      let d1 := d.closeStall n
      (d1.onPav n (fun p => { p with stall := some ⟨b.kind, b.index, b.cat, s.since, d1.time.elapsed, s.limit⟩ })).countHeld n
    | none =>
      let hs := (d.pav n).held
      let d1 := (d.closeStall n).onPav n (fun p => { p with held := [] })
      forEach hs d1 (fun t h => (t.markVar n h.op).perform h.iss h.op (t.killed h.iss h.op) h.upsets)

/-- STALL_RESUME. -/
def execStallResume (pav : Nat) (s : State) : Host.Outcome State Fault Refusal := onDev (·.resume pav) s

/-- STALL_CAUSE as it reads (R92): what the stopped clock awaits; after a stall timeout what it awaited (R169). -/
def Pav.stallCause (p : Pav) : Nat :=
  match p.stall with
  | some s => s.kind + 8 * (s.index % 256)
  | none => p.lastCause

/-- STALL_TIMEOUT (R25, R26, R368): a stall that has reached the stall timeout and is still blocked abandons the step,
class D, naming the pavilion and what it awaited. -/
def Dev.stallTimeout (tie : Nat) (d : Dev) (n : Nat) : Dev :=
  let p := d.pav n
  match p.stall with
  | none => d
  | some s =>
    if d.time.elapsed < s.limit + tie ∨ (d.heldBlock n).isNone then d
    else
      let d1 := (d.count 0x004 0x118 1).raiseB (pavPage n) 0 4 false
        (pavWhere n p.stallCause s.since.toNat) .stallTimeout
      let l := match (d.ctx (d.step p.plot).ctx).launch with
        | some l => l.toNat
        | none => 0
      (d1.abandon p.plot .stallTimeout d1.number l).onPav n (fun q => { q with lastCause := p.stallCause })

/-- STALL_TIMEOUT. -/
def execStallTimeout (pav : Nat) (s : State) : Host.Outcome State Fault Refusal := onTimer (fun tie d => d.stallTimeout tie pav) s

/-- The neighbour of a pavilion on the side of a crossing (R83): 0 and 1 north, 2 and 3 east, 4 and 5 south, 6 and 7
west. -/
def neighbour (n x : Nat) : Option Nat :=
  match x / 2 with
  | 0 => if 8 ≤ n then some (n - 8) else none
  | 1 => if n % 8 < 7 then some (n + 1) else none
  | 2 => if n < 24 then some (n + 8) else none
  | 3 => if 0 < n % 8 then some (n - 1) else none
  | _ => none

/-- The crossing of the facing side that a crossing joins (R83). -/
def facing (x : Nat) : Nat := (x + 4) % 8

/-- The through route of a pavilion's inbound crossing (R86). -/
def Dev.throughOf (d : Dev) (n x : Nat) : Option Nat :=
  ((d.variantOf (d.pav n).plot).bind (fun v => v.through.find? (fun t => t.pav = n && t.inX = x))).map (·.outX)

/-- The counters of a pavilion bound to an inbound crossing, advanced by a flit (R77, R164). -/
def Dev.countFlit (d : Dev) (n x : Nat) : Dev :=
  match d.variantOf (d.pav n).plot with
  | none => d
  | some v => forEach (v.binds.filter (fun b => b.pav = n && b.kind = .crossing x)) d (fun s b => s.advanceCtr n b.ctr 1)

/-- A stale flit counted in XING_STATE (R369, R389). -/
def Dev.staleFlit (d : Dev) (n : Nat) : Dev :=
  let v := d.rgN (pavPage n) 0x644 0
  if bitsN v 16 8 < 255 then d.setN (pavPage n) 0x644 0 (v + 2 ^ 16) else d

/-- FLIT_ARRIVAL (R84 to R86, R164, R363, R364, R369): the flit that waits on the neighbour's wire reaches inbound
crossing x: of another generation it is discarded; on a through route it goes on, unless the pavilion's clock stands; else
it enters the FIFO and counts. -/
def Dev.flitArrival (d : Dev) (n x : Nat) : Dev :=
  match neighbour n x with
  | none => d
  | some q =>
    let y := facing x
    match (d.pav q).wires.get y [] with
    | [] => d
    | f :: rest =>
      let p := d.pav n
      let take (s : Dev) : Dev := s.onPav q (fun t => { t with wires := t.wires.put y rest })
      if f.gen ≠ p.inGen.get x 0 then (take d).staleFlit n
      else match d.throughOf n x with
        | some o =>
          if p.stall.isSome then d
          else (take d).onPav n (fun t => { t with wires := t.wires.put o (t.wires.get o [] ++ [⟨f.data, t.outGen.get o 0⟩]) })
        | none =>
          ((take d).onPav n (fun t => { t with fifos := t.fifos.put x (t.fifos.get x [] ++ [f.data]) })).countFlit n x

/-- FLIT_ARRIVAL. -/
def execFlitArrival (pav x : Nat) (s : State) : Host.Outcome State Fault Refusal := onDev (·.flitArrival pav x) s

/-- The pavilion and inbound crossing at the end of a route from an outbound crossing (R86). -/
def Dev.routeEnd (d : Dev) : Nat → Nat → Nat → Option (Nat × Nat)
  | 0, _, _ => none
  | fuel + 1, n, x =>
    match neighbour n x with
    | none => none
    | some q =>
      match d.throughOf q (facing x) with
      | some o => Dev.routeEnd d fuel q o
      | none => some (q, facing x)

/-- FREE_ENTRY_RETURN (R84, R363, R364): an entry that the receiver has read comes back to the sender's count. -/
def Dev.freeReturn (d : Dev) (n x : Nat) : Dev :=
  match d.routeEnd 32 n x with
  | none => d
  | some (q, y) =>
    let r := (d.pav q).freed.get y 0
    if r = 0 then d
    else (d.onPav q (fun t => { t with freed := t.freed.put y (r - 1) })).onPav n (fun t =>
      { t with freeCnt := t.freeCnt.put x (min 16 (t.free x + 1)) })

/-- FREE_ENTRY_RETURN. -/
def execFreeEntryReturn (pav x : Nat) (s : State) : Host.Outcome State Fault Refusal := onDev (·.freeReturn pav x) s

/-- mm (R57 to R64, R107 to R112, R133 to R137, R146 to R151): activation rows times the bed's tile into accumulator rows.
`ups` are disturbances of the array, `hits` upset words of the tile record. -/
def execMm (i : Issue) (o : MmArgs) (ups : List Upset) (hits : Hits) (s : State) : Host.Outcome State Fault Refusal :=
  onDev (fun d => (d.onPav i.pav (·.tierHits hits)).issueOp i (.mm o) ups) s

/-- ld (R157, R159): one KiB of the working store into half a stream register; `hits` are upset words (R76). -/
def execLd (i : Issue) (dst : HalfRef) (src : Addr) (w : Option Wait) (hits : Hits) (s : State) :
    Host.Outcome State Fault Refusal :=
  onDev (fun d => (d.onPav i.pav (·.storeHits hits)).issueOp i (.ld dst src w) []) s

/-- gather (R158, R159): 16 lines from data-dependent rows; `hits` are upset words (R76). -/
def execGather (i : Issue) (dst : HalfRef) (base span : Nat) (idx : LineRef) (w : Option Wait) (hits : Hits) (s : State) :
    Host.Outcome State Fault Refusal :=
  onDev (fun d => (d.onPav i.pav (·.storeHits hits)).issueOp i (.gather dst base span idx w) []) s

/-- zero (R113, R152): the rows named read as zero, with empty flags, companions and checksum, from the next cycle on. -/
def execZero (i : Issue) (acc : AccRef) (s : State) : Host.Outcome State Fault Refusal :=
  onDev (·.issueOp i (.zero acc) []) s

/-- drain (R153 to R155): accumulator rows converted once and written to stream registers; residues checked (R137), overflow as the mode says (R119). -/
def execDrain (i : Issue) (o : DrainArgs) (s : State) : Host.Outcome State Fault Refusal :=
  onDev (·.issueOp i (.drain o) []) s

/-- chk.rd (R156): the checksum columns of the rows named. -/
def execChkRd (i : Issue) (acc : AccRef) (dst : LineRef) (s : State) : Host.Outcome State Fault Refusal :=
  onDev (·.issueOp i (.chkRd acc dst) []) s

/-- st (R157): one KiB from half a stream register into the working store. -/
def execSt (i : Issue) (dst : Addr) (src : HalfRef) (s : State) : Host.Outcome State Fault Refusal :=
  onDev (·.issueOp i (.st dst src) []) s

/-- scatter (R158): 16 lines written to data-dependent rows. -/
def execScatter (i : Issue) (base span : Nat) (idx : LineRef) (src : HalfRef) (s : State) :
    Host.Outcome State Fault Refusal :=
  onDev (·.issueOp i (.scatter base span idx src) []) s

/-- perm (R160): elements of a register permuted by a map. -/
def execPerm (i : Issue) (dst src map elt : Nat) (s : State) : Host.Outcome State Fault Refusal :=
  onDev (·.issueOp i (.perm dst src map elt) []) s

/-- xpose (R161): a 64 by 64 transpose. -/
def execXpose (i : Issue) (dst src elt : Nat) (s : State) : Host.Outcome State Fault Refusal :=
  onDev (·.issueOp i (.xpose dst src elt) []) s

/-- i.mov (R162): an index register, a live parameter register, or a sign-extended immediate. -/
def execIMov (i : Issue) (d : Nat) (src : MovSrc) (s : State) : Host.Outcome State Fault Refusal :=
  onDev (·.issueOp i (.iMov d src) []) s

/-- i.add (R162): 64-bit sum, wrapping. -/
def execIAdd (i : Issue) (d a : Nat) (b : IdxImm) (s : State) : Host.Outcome State Fault Refusal :=
  onDev (·.issueOp i (.iAdd d a b) []) s

/-- i.mul (R162): low 64 bits of the product. -/
def execIMul (i : Issue) (d a : Nat) (b : IdxImm) (s : State) : Host.Outcome State Fault Refusal :=
  onDev (·.issueOp i (.iMul d a b) []) s

/-- xsend (R84, R163, R165): one flit onto an outbound crossing; it stalls on its wait, then on a free-entry count of 0. -/
def execXsend (i : Issue) (x : Nat) (src : LineRef) (w : Option Wait) (s : State) :
    Host.Outcome State Fault Refusal :=
  onDev (·.issueOp i (.xsend x src w) []) s

/-- xrecv (R23, R27, R163, R165): the head flit of an inbound FIFO; it stalls on its wait, then on an empty FIFO. -/
def execXrecv (i : Issue) (x : Nat) (dst : LineRef) (w : Option Wait) (s : State) :
    Host.Outcome State Fault Refusal :=
  onDev (·.issueOp i (.xrecv x dst w) []) s

/-- v.add (R128, R174). -/
def execVAdd (i : Issue) (o : LaneArgs) (s : State) : Host.Outcome State Fault Refusal :=
  onDev (·.issueOp i (.lane .add o) []) s

/-- v.sub (R128, R174). -/
def execVSub (i : Issue) (o : LaneArgs) (s : State) : Host.Outcome State Fault Refusal :=
  onDev (·.issueOp i (.lane .sub o) []) s

/-- v.mul (R128, R174). -/
def execVMul (i : Issue) (o : LaneArgs) (s : State) : Host.Outcome State Fault Refusal :=
  onDev (·.issueOp i (.lane .mul o) []) s

/-- v.fma (R128, R174): rounded once. -/
def execVFma (i : Issue) (o : LaneArgs) (s : State) : Host.Outcome State Fault Refusal :=
  onDev (·.issueOp i (.lane .fma o) []) s

/-- v.min (R128, R174). -/
def execVMin (i : Issue) (o : LaneArgs) (s : State) : Host.Outcome State Fault Refusal :=
  onDev (·.issueOp i (.lane .min o) []) s

/-- v.max (R128, R174). -/
def execVMax (i : Issue) (o : LaneArgs) (s : State) : Host.Outcome State Fault Refusal :=
  onDev (·.issueOp i (.lane .max o) []) s

/-- v.cmp (R128, R174): all ones or 0. -/
def execVCmp (i : Issue) (op : Cmp) (o : LaneArgs) (s : State) : Host.Outcome State Fault Refusal :=
  onDev (·.issueOp i (.lane (.cmp op) o) []) s

/-- v.sel (R174). -/
def execVSel (i : Issue) (o : LaneArgs) (s : State) : Host.Outcome State Fault Refusal :=
  onDev (·.issueOp i (.lane .sel o) []) s

/-- v.rot (R174): rotation within each chunk. -/
def execVRot (i : Issue) (amt : IdxImm) (o : LaneArgs) (s : State) : Host.Outcome State Fault Refusal :=
  onDev (·.issueOp i (.lane (.rot amt) o) []) s

/-- v.cvt (R114 to R121, R176). -/
def execVCvt (i : Issue) (o : CvtArgs) (s : State) : Host.Outcome State Fault Refusal :=
  onDev (·.issueOp i (.cvt o) []) s

/-- v.rng (R123 to R127, R181). -/
def execVRng (i : Issue) (o : RngArgs) (s : State) : Host.Outcome State Fault Refusal :=
  onDev (·.issueOp i (.rng o) []) s

/-- v.sum (R129, R177). -/
def execVSum (i : Issue) (o : RedArgs) (s : State) : Host.Outcome State Fault Refusal :=
  onDev (·.issueOp i (.red .sum o) []) s

/-- v.rmax (R177). -/
def execVRmax (i : Issue) (o : RedArgs) (s : State) : Host.Outcome State Fault Refusal :=
  onDev (·.issueOp i (.red .rmax o) []) s

/-- v.argmax (R177). -/
def execVArgmax (i : Issue) (o : RedArgs) (s : State) : Host.Outcome State Fault Refusal :=
  onDev (·.issueOp i (.red .argmax o) []) s

/-- v.topk (R177, R178). -/
def execVTopk (i : Issue) (o : RedArgs) (s : State) : Host.Outcome State Fault Refusal :=
  onDev (·.issueOp i (.topk o) []) s

/-- v.treemask (R179, R180). -/
def execVTreemask (i : Issue) (o : TreeArgs) (s : State) : Host.Outcome State Fault Refusal :=
  onDev (·.issueOp i (.treemask o) []) s

/-- v.sample (R182, R183). -/
def execVSample (i : Issue) (o : SampleArgs) (s : State) : Host.Outcome State Fault Refusal :=
  onDev (·.issueOp i (.sample o) []) s

/-- sf.exp (R130, R184). -/
def execSfExp (i : Issue) (o : SfArgs) (s : State) : Host.Outcome State Fault Refusal :=
  onDev (·.issueOp i (.sf .exp o) []) s

/-- sf.log (R130, R184). -/
def execSfLog (i : Issue) (o : SfArgs) (s : State) : Host.Outcome State Fault Refusal :=
  onDev (·.issueOp i (.sf .log o) []) s

/-- sf.rsqrt (R130, R184). -/
def execSfRsqrt (i : Issue) (o : SfArgs) (s : State) : Host.Outcome State Fault Refusal :=
  onDev (·.issueOp i (.sf .rsqrt o) []) s

/-- sf.tanh (R130, R184). -/
def execSfTanh (i : Issue) (o : SfArgs) (s : State) : Host.Outcome State Fault Refusal :=
  onDev (·.issueOp i (.sf .tanh o) []) s

/-- sf.sigm (R130, R184). -/
def execSfSigm (i : Issue) (o : SfArgs) (s : State) : Host.Outcome State Fault Refusal :=
  onDev (·.issueOp i (.sf .sigm o) []) s

/-- page.in (R185, R189 to R191): pages into a staging buffer. -/
def execPageIn (i : Issue) (dst : Nat) (pg : PageArgs) (d : DoneBy) (s : State) : Host.Outcome State Fault Refusal :=
  onDev (·.issueOp i (.pageIn dst pg d) []) s

/-- page.out (R185, R189, R190, R192): working store into pages. -/
def execPageOut (i : Issue) (src : Nat) (pg : PageArgs) (part : Option (IdxImm × Nat)) (d : DoneBy) (s : State) :
    Host.Outcome State Fault Refusal :=
  onDev (·.issueOp i (.pageOut src pg part d) []) s

/-- await (R159, R193, R207): waits for a level of a counter. -/
def execAwait (i : Issue) (ctr : Nat) (level : Level) (s : State) : Host.Outcome State Fault Refusal :=
  onDev (·.issueOp i (.await ctr level) []) s

/-- fence (R194, R207, R318): waits for arrivals at a tracker. -/
def execFence (i : Issue) (trk cnt : Nat) (s : State) : Host.Outcome State Fault Refusal :=
  onDev (·.issueOp i (.fence trk cnt) []) s

/-- fput (R195): bytes to a Parterre address. -/
def execFput (i : Issue) (tgt : ParamRef) (src len : Nat) (trk : Option Nat) (tc0 : Bool) (d : DoneBy) (s : State) :
    Host.Outcome State Fault Refusal :=
  onDev (·.issueOp i (.fput tgt src len trk tc0 d) []) s

/-- fget (R195): bytes from a Parterre address into a staging buffer. -/
def execFget (i : Issue) (src : ParamRef) (dst len : Nat) (d : DoneBy) (s : State) :
    Host.Outcome State Fault Refusal :=
  onDev (·.issueOp i (.fget src dst len d) []) s

/-- fmcast (R196, R313): bytes to every member of a group. -/
def execFmcast (i : Issue) (grp src len off : Nat) (trk : Option Nat) (d : DoneBy) (s : State) :
    Host.Outcome State Fault Refusal :=
  onDev (·.issueOp i (.fmcast grp src len off trk d) []) s

/-- fred.xw (R197): XW values to a reduction buffer. -/
def execFredXw (i : Issue) (n : XwN) (dst : RedDest) (src cmp elems : Nat) (win : Int) (trk : Nat) (d : DoneBy) (s : State) :
    Host.Outcome State Fault Refusal :=
  onDev (·.issueOp i (.fredXw n dst src cmp elems win trk d) []) s

/-- fred.f (R132, R197): FP32 values added in arrival order; V-marked (R52). -/
def execFredF (i : Issue) (dst : RedDest) (src elems trk : Nat) (d : DoneBy) (s : State) :
    Host.Outcome State Fault Refusal :=
  onDev (·.issueOp i (.fredF dst src elems trk d) []) s

/-- fadd.i64 (R198): a 64-bit add whose old value never returns. -/
def execFaddI64 (i : Issue) (tgt : ParamRef) (val : Nat) (trk : Option Nat) (d : DoneBy) (s : State) :
    Host.Outcome State Fault Refusal :=
  onDev (·.issueOp i (.faddI64 tgt val trk d) []) s

/-- fadd.xw (R198): XW values to a tensor at an address. -/
def execFaddXw (i : Issue) (n : XwN) (tgt : ParamRef) (src cmp elems : Nat) (win : Int) (trk : Option Nat) (d : DoneBy) (s : State) :
    Host.Outcome State Fault Refusal :=
  onDev (·.issueOp i (.faddXw n tgt src cmp elems win trk d) []) s

/-- loop (R142, R199). -/
def execLoop (i : Issue) (n : Nat) (act : Option IdxImm) (ctr : Option Nat) (s : State) :
    Host.Outcome State Fault Refusal :=
  onDev (·.issueOp i (.loop n act ctr) []) s

/-- endloop (R199): the end of a pass. -/
def execEndloop (i : Issue) (s : State) : Host.Outcome State Fault Refusal :=
  onDev (·.issueOp i .endloop []) s

/-- beat (R200): empty words in the control slot; it changes nothing but the cycle reached. -/
def execBeat (i : Issue) (skip : Nat) (s : State) : Host.Outcome State Fault Refusal :=
  onDev (·.issueOp i (.beat skip) []) s

/-- nop (R14, R18, R19, R200): one empty word; it brings the pavilion to its cycle, past its beat mark or to its gate. -/
def execNop (i : Issue) (s : State) : Host.Outcome State Fault Refusal :=
  onDev (·.issueOp i .nop []) s

/-- pld (R201): live parameter registers into a line. -/
def execPld (i : Issue) (dst : LineRef) (src : ParamRef) (n : Nat) (s : State) : Host.Outcome State Fault Refusal :=
  onDev (·.issueOp i (.pld dst src n) []) s

/-- pred (R202): a predicate flag. -/
def execPred (i : Issue) (q : Nat) (o : PredArgs) (s : State) : Host.Outcome State Fault Refusal :=
  onDev (·.issueOp i (.pred q o) []) s

/-- step.end (R17, R203, R207): waits for every transfer of the pavilion's step. -/
def execStepEnd (i : Issue) (s : State) : Host.Outcome State Fault Refusal :=
  onDev (·.issueOp i .stepEnd []) s

/-- time.rd (R204): the time counter of the issue cycle; V-marked (R52). -/
def execTimeRd (i : Issue) (dst : LineRef) (s : State) : Host.Outcome State Fault Refusal :=
  onDev (·.issueOp i (.timeRd dst) []) s

/-- stat.rd (R204): a counter of the PAVILION or STEP page; V-marked (R52). -/
def execStatRd (i : Issue) (dst : LineRef) (page : StatPage) (off : Nat) (s : State) :
    Host.Outcome State Fault Refusal :=
  onDev (·.issueOp i (.statRd dst page off) []) s

end Sys2Proof.Machine
end

