-- ==== Sys2Proof/Machine/PlanCheck.lean ====
section
/-! DEFINITION. What the Gatehouse proves of one issue stream (R170, R209, R242 codes 0x0301 to 0x0508): the passes of its loops laid out in cycles, the bounds of its index registers, units, tiles, lines, formats, accumulators, transfers and stores. -/
namespace Sys2Proof.Machine

/-- An instruction as one pass issues it: its cycle, what the pass adds to written cycles, whether a loop's activity bound
may hold it back, its listing line. -/
structure Dyn where
  t : Nat
  shift : Nat
  act : Bool
  line : PlanLine
  deriving DecidableEq, Repr

/-- May the instruction behave as one whose condition is false (R141, R199)? -/
def Dyn.cond (x : Dyn) : Bool := x.line.guard.isSome || x.act

/-- What the passes of a nest of loops add to a written cycle (R142). -/
def passShifts : List LoopSpan → List Nat
  | [] => [0]
  | l :: rest => (passShifts rest).flatMap (fun o => (List.range l.n).map (fun p => o + p * l.body))

/-- A stream with every pass laid out, in cycle order (R142). -/
def expand (ls : List PlanLine) : List Dyn :=
  let sp := (loopsOf ls).1
  sortOn (·.t) (ls.flatMap (fun l =>
    let ins := sp.filter (·.has l.cycle)
    (passShifts ins).map (fun o => ⟨l.cycle + o, o, ins.any (·.act), l⟩)))

/-- LOOP (R199): unpaired, deeper than four, or passes that overlap another loop or a later line. -/
def chkLoop (ls : List PlanLine) : List Nat :=
  let r := loopsOf ls
  r.2 ++ (r.1.filter (fun l =>
    let fin := l.c + l.n * l.body
    decide (4 < l.depth) || l.e ≤ l.c || l.n = 0 ||
      r.1.any (fun o => o.has l.c && decide (o.e ≤ fin)) ||
      ls.any (fun x => decide (l.e < x.cycle) && decide (x.cycle ≤ fin)))).map (·.c)

/-- Bounds of a 64-bit register's value, read as signed. -/
abbrev Iv := Int × Int
def Iv.full : Iv := (-(2 ^ 63), 2 ^ 63 - 1)
def Iv.fit (a : Iv) : Iv := if -(2 ^ 63) ≤ a.1 ∧ a.2 < 2 ^ 63 then a else Iv.full
def Iv.join (a b : Iv) : Iv := (min a.1 b.1, max a.2 b.2)
def Iv.add (a b : Iv) : Iv := Iv.fit (a.1 + b.1, a.2 + b.2)
def Iv.mul (a b : Iv) : Iv :=
  let ps := [a.1 * b.1, a.1 * b.2, a.2 * b.1, a.2 * b.2]
  Iv.fit (ps.foldl min (a.1 * b.1), ps.foldl max (a.1 * b.1))

/-- The declared bounds of a parameter register (R229). -/
def declIv (ps : List ParamDecl) (p : Nat) : Iv :=
  match ps.find? (fun d => d.p = p) with
  | some d => match d.ty with
    | .u64 => Iv.fit (d.lo, d.hi)
    | .s64 => (signedN 64 d.lo, signedN 64 d.hi)
    | .mask => Iv.fit (0, d.lo)
    | _ => Iv.full
  | none => Iv.full

/-- A write of an index register with its bounds: the cycle from which it is read, and whether it may not happen. -/
structure IdxW where
  ready : Nat
  k : Nat
  iv : Iv
  cond : Bool
  deriving DecidableEq, Repr

/-- The bounds of an index register as an instruction of a cycle reads it (R66, R143). -/
def idxAt (ws : List IdxW) (t k : Nat) : Iv :=
  (sortOn (·.ready) (ws.filter (fun w => w.k = k && decide (w.ready ≤ t)))).foldl
    (fun v w => if w.cond then v.join w.iv else w.iv) (0, 0)

/-- The bounds of an operand; an immediate is 32 bits, sign-extended (R162). -/
def ivOf (ws : List IdxW) (t : Nat) : IdxImm → Iv
  | .reg k => idxAt ws t k
  | .imm v => let x := (BitVec.ofInt 32 v).toInt
    (x, x)

/-- The index-register writes of a stream, in issue order (R162, R199, R202). -/
def idxWrites (ps : List ParamDecl) (loops : List LoopSpan) (ds : List Dyn) : List IdxW :=
  ds.foldl (fun ws x =>
    let put (lat k : Nat) (v : Iv) : List IdxW := ws ++ [⟨x.t + lat, k, v, x.cond⟩]
    match x.line.op with
    | .iMov d (.idx a) => put 1 d (idxAt ws x.t a)
    | .iMov d (.imm v) => put 1 d (v.toInt, v.toInt)
    | .iMov d (.param p) => put 2 d (declIv ps p)
    | .iAdd d a b => put 1 d ((idxAt ws x.t a).add (ivOf ws x.t b))
    | .iMul d a b => put 3 d ((idxAt ws x.t a).mul (ivOf ws x.t b))
    | .loop n _ (some k) =>
      let body := match loops.find? (fun l => l.c = x.line.cycle) with
        | some l => l.body
        | none => 0
      ws ++ (List.range n).map (fun p => ⟨x.t + 1 + p * body, k, (p, p), x.cond⟩)
    | _ => ws) []

/-- One stream prepared for the checks. -/
structure Stream where
  pav : Nat
  lines : List PlanLine
  ds : List Dyn
  ws : List IdxW
  deriving DecidableEq, Repr

/-- A stream prepared. -/
def Stream.of (ps : List ParamDecl) (e : Nat × List PlanLine) : Stream :=
  let ds := expand e.2
  ⟨e.1, e.2, ds, idxWrites ps (loopsOf e.2).1 ds⟩

/-- The cycles of the instructions of a stream that a test picks out. -/
def Stream.bad (s : Stream) (f : Dyn → Bool) : List Nat := (s.ds.filter f).map (·.t)

/-- Does a slot carry an instruction (R68, R80)? -/
def slotCarries (s : Slot) (op : PlanOp) : Bool :=
  match op with
  | .mm _ | .zero _ | .drain _ | .chkRd _ _ => match s with | .bed n => decide (n < 4) | _ => false
  | .lane _ _ | .cvt _ | .rng _ => s = .vec 0
  | .red _ _ | .topk _ | .treemask _ | .sample _ => s = .vec 1
  | .sf _ _ => s = .sfu
  | .ld _ _ _ | .gather _ _ _ _ _ => match s with | .rd n => decide (n < 2) | _ => false
  | .st _ _ | .scatter _ _ _ _ => match s with | .wr n => decide (n < 2) | _ => false
  | .perm _ _ _ _ | .xpose _ _ _ => s = .shuf
  | .iMov _ _ | .iAdd _ _ _ | .iMul _ _ _ => s = .idx
  | .xsend _ _ _ | .xrecv _ _ _ => match s with | .xing n => decide (n < 2) | _ => false
  | .pageIn _ _ _ | .pageOut _ _ _ _ | .await _ _ | .fence _ _ | .fput _ _ _ _ _ _ | .fget _ _ _ _ | .fmcast _ _ _ _ _ _
  | .fredXw _ _ _ _ _ _ _ _ | .fredF _ _ _ _ _ | .faddI64 _ _ _ _ | .faddXw _ _ _ _ _ _ _ _ => s = .dma
  | .loop _ _ _ | .endloop | .beat _ | .nop | .pld _ _ _ | .pred _ _ | .stepEnd | .timeRd _ | .statRd _ _ _ => s = .ctl

/-- The cycles an instruction holds its unit (R144, R173, R200). -/
def Dyn.occ (x : Dyn) : Nat :=
  match x.line.op with
  | .beat n => 256 * (x.t / 256 + n) - x.t
  | op => max 1 (occupancy op)

/-- Instructions of one slot, in order, that issue while an earlier one holds the unit. -/
def busyFrom : Nat → List Dyn → List Nat
  | _, [] => []
  | free, x :: rest => if x.t < free then x.t :: busyFrom free rest else busyFrom (x.t + x.occ) rest

/-- The slots of a word. -/
def allSlots : List Slot :=
  [.bed 0, .bed 1, .bed 2, .bed 3, .vec 0, .vec 1, .sfu, .rd 0, .rd 1, .wr 0, .wr 1, .shuf, .idx, .xing 0, .xing 1, .dma, .ctl]

/-- UNIT_BUSY (R81). -/
def chkBusy (s : Stream) : List Nat := allSlots.flatMap (fun u => busyFrom 0 (s.ds.filter (fun x => x.line.slot = u)))

/-- The mm instructions of a bed, in order. -/
def Stream.mms (s : Stream) (bed : Nat) : List (Nat × MmArgs × Dyn) :=
  s.ds.filterMap (fun x => match x.line.op with
    | .mm o => if x.line.slot = .bed bed then some (x.t, o, x) else none
    | _ => none)

/-- The tile loads of a bed's mm instructions: start cycle, cycles, mm (R146, R147). -/
def tileLoads : Nat → Option Addr → List (Nat × MmArgs × Dyn) → List (Nat × Nat × Nat × MmArgs)
  | _, _, [] => []
  | start, prev, (t, o, _) :: rest =>
    let same := o.w.idx.isNone && prev = some o.w
    (start, if same then 0 else recordKib o.wfmt o.sp24, t, o) :: tileLoads t (some o.w) rest

/-- TILE_NOT_READY (R147). -/
def chkTile (s : Stream) : List Nat :=
  [0, 1, 2, 3].flatMap (fun b => ((tileLoads 0 none (s.mms b)).filter (fun e => decide (e.2.2.1 < e.1 + e.2.1))).map (fun e => e.2.2.1))

/-- The bytes of the stream registers an instruction writes: cycle, first byte, bytes (R144, R154, R173). -/
def streamWrites (lc : LatClass) (t : Nat) (op : PlanOp) : List (Nat × Nat × Nat) :=
  let l := t + latency lc op
  let rows (n : Nat) (f : Nat → Nat × Nat × Nat) : List (Nat × Nat × Nat) := (List.range n).map f
  let chunks (dst len : Nat) : List (Nat × Nat × Nat) := rows (ceilDiv len 1024) (fun q => (l + q, dst + 1024 * q, min 1024 (len - 1024 * q)))
  match op with
  | .drain o =>
    let n := o.acc.j1 - o.acc.j0 + 1
    rows n (fun i => (l + i, o.dst.byte + i * o.fmt.rowBytes, o.fmt.rowBytes)) ++
      (match o.cmp with
       | some c => rows n (fun i => (l + i, c.byte + 128 * i, 128))
       | none => [])
  | .chkRd a d => [(l, d.byte, 16 * (a.j1 - a.j0 + 1))]
  | .ld d _ _ | .gather d _ _ _ _ => [(l, d.byte, 1024)]
  | .perm d _ _ _ => [(l, 2048 * d, 2048)]
  | .xpose d _ e => [(l, 2048 * d, if e = 8 then 4096 else 8192)]
  | .xrecv _ d _ => [(t + 2, d.byte, 256)]
  | .lane _ o => chunks o.dst.byte o.len
  | .rng o => chunks o.dst.byte o.len
  | .cvt o =>
    let per := match o.ffrom.mx with
      | some _ => 1024 / o.ffrom.rowBytes * 64
      | none => 1024 / o.ffrom.bytes
    let total := match o.ffrom.mx with
      | some _ => o.len / o.ffrom.rowBytes * 64
      | none => o.len / o.ffrom.bytes
    let size (k : Nat) : Nat := match o.fto.mx with
      | some _ => ceilDiv k 64 * o.fto.rowBytes
      | none => k * o.fto.rowBytes / 64
    (List.range (ceilDiv o.len 1024)).flatMap (fun q =>
      let k := min per (total - per * q)
      (l + q, o.dst.byte + size (per * q), size k) ::
        (match o.dcmp with
         | some c => [(l + q, c.byte + 2 * per * q, 2 * k)]
         | none => []))
  | .red _ o => let r := ceilDiv o.rowBytes 1024
    rows o.rows (fun i => (l + r * (i + 1) - 1, o.dst.byte + 4 * i, 4))
  | .topk o => let r := ceilDiv o.rowBytes 1024
    let b := 64 * ceilDiv (8 * o.k) 64
    rows o.rows (fun i => (l + r * (i + 1) - 1, o.dst.byte + b * i, 8 * o.k))
  | .treemask o =>
    chunks o.dst.byte (o.rows * o.rowBytes) ++
      (match o.vld with
       | some v => [(l + ceilDiv (o.rows * o.rowBytes) 1024 - 1, v.byte, 8)]
       | none => [])
  | .sample o => rows o.rows (fun i => (l + i, o.dst.byte + 16 * i, 16))
  | .sf _ o =>
    let out := (o.tto.getD o.ty).bytes
    rows (ceilDiv o.len 256) (fun m => (l + m, o.dst.byte + m * (256 / o.ty.bytes) * out, min 256 (o.len - 256 * m) / o.ty.bytes * out))
  | .pld d _ _ | .timeRd d | .statRd d _ _ => [(l, d.byte, 64)]
  | _ => []

/-- The lines an instruction writes, with the cycle of each. -/
def lineWrites (lc : LatClass) (x : Dyn) : List (Nat × Nat) :=
  (streamWrites lc x.t x.line.op).flatMap (fun w =>
    if w.2.2 = 0 then [] else (List.range ((w.2.1 + w.2.2 - 1) / 64 - w.2.1 / 64 + 1)).map (fun k => (w.1, w.2.1 / 64 + k)))

/-- Instructions that write a line in a cycle in which an earlier one writes it. -/
def collideFrom (lc : LatClass) : List (Nat × Nat) → List Dyn → List Nat
  | _, [] => []
  | seen, x :: rest =>
    let ws := lineWrites lc x
    (if ws.any seen.contains then [x.t] else []) ++ collideFrom lc (ws ++ seen) rest

/-- LINE_COLLISION (R67). -/
def chkLines (lc : LatClass) (s : Stream) : List Nat := collideFrom lc [] s.ds

/-- Is a rounding mode allowed for an output (R115)? None is for XW, and for no other. -/
def rndOk (f : Fmt) (r : Option Rnd) : Bool :=
  match f.xw, r with
  | some _, r => r.isNone
  | none, none => false
  | none, some .rnesat => match f with
    | .e4m3 | .e5m2 | .mxfp8e4m3 | .mxfp8e5m2 => true
    | _ => false
  | none, some _ => true

/-- Does an output format name its elements (R114)? -/
def fmtNamed (f : Fmt) : Bool := f ≠ .mxfp8 && f ≠ .mxfp6

/-- FORMAT of one instruction (R114, R115, R148, R153, R155, R176). -/
def formatOk (op : PlanOp) : Bool :=
  let sr (rnd : Option Rnd) (tid : Option Nat) (s : Option SrArgs) : Bool := if rnd = some .sr then s.isSome && tid.isSome else s.isNone
  match op with
  | .mm o => (if o.wfmt.is16 then o.afmt.is16 && !o.sp24 else !o.afmt.is16 && !(o.sp24 && o.wfmt = .int8))
  | .drain o =>
    fmtNamed o.fmt && rndOk o.fmt o.rnd && o.wout.isSome = o.fmt.xw.isSome && sr o.rnd o.tid o.sr
  | .cvt o =>
    fmtNamed o.fto && fmtNamed o.ffrom && rndOk o.fto o.rnd && o.wout.isSome = o.fto.xw.isSome &&
      o.win.isSome = o.ffrom.xw.isSome && sr o.rnd o.tid o.sr && (o.rnd = some .sr → o.rowlen.isSome)
  | _ => true

/-- FORMAT. -/
def chkFormat (s : Stream) : List Nat := s.bad (fun x => !formatOk x.line.op)

/-- A run of bytes in the stream registers, from a line on, that ends in S63 or below (R150, R172). -/
def spanOk (l : LineRef) (n : Nat) : Bool := decide (l.reg < 64) && decide (l.line < 32) && decide (l.byte + n ≤ 131072)

/-- Ranges of small operands. -/
def accOk (a : AccRef) : Bool := decide (a.grp < 4) && decide (a.j0 ≤ a.j1) && decide (a.j1 < 64)
def winOk (w : Int) : Bool := decide (-512 ≤ w) && decide (w ≤ 511)
def regOk (k : Option Nat) : Bool := match k with
  | some k => decide (k < 32)
  | none => true
def immOk : IdxImm → Bool
  | .reg k => decide (k < 32)
  | .imm v => decide (-(2 ^ 31) ≤ v) && decide (v < 2 ^ 32)
def levelOk : Level → Bool
  | .imm _ => true
  | .idx k _ => decide (k < 32)
def waitOk : Option Wait → Bool
  | some w => decide (w.ctr < 256) && levelOk w.level
  | none => true
def srOk (s : Option SrArgs) (rows : Nat) : Bool := match s with
  | some a => decide (a.p + 2 * rows ≤ 4096) && regOk a.idx
  | none => true
def lenOk (n unit most : Nat) : Bool := decide (0 < n) && decide (n ≤ most) && n % unit = 0
def doneOk (x : Dyn) (d : DoneBy) : Bool := decide (d.done < 256) && decide (x.t ≤ d.by_ + x.shift)
def refOk (r : ParamRef) : Bool := decide (r.p < 4096) && regOk r.idx
def trkOk (t : Option Nat) : Bool := match t with
  | some t => decide (t < 65536)
  | none => true
def pagesOk (a : PageArgs) : Bool := refOk a.pg && decide (1 ≤ a.n) && decide (a.n ≤ 128) && immOk a.skip

/-- OPERAND_RANGE of one instruction (R149, R150, R154, R157, R163, R172, R177, R179, R190, R195, R199, R204). -/
def rangeOk (x : Dyn) : Bool :=
  match x.line.op with
  | .mm o =>
    let sl := slotBytes o.wfmt o.sp24 o.afmt
    accOk o.acc && spanOk o.act (sl * (o.acc.j1 - o.acc.j0 + 1)) && o.act.line % (sl / 64) = 0 && o.w.off % 1024 = 0 &&
      regOk o.w.idx && winOk o.win
  | .zero a => accOk a
  | .drain o =>
    let n := o.acc.j1 - o.acc.j0 + 1
    accOk o.acc && spanOk o.dst (n * o.fmt.rowBytes) && o.dst.line % (max 1 (o.fmt.rowBytes / 64)) = 0 && winOk o.win &&
      (match o.wout with | some w => winOk w | none => true) && srOk o.sr n &&
      (match o.cmp with | some c => spanOk c (128 * n) && c.line % 2 = 0 | none => o.fmt.xw.isNone)
  | .chkRd a d => accOk a && spanOk d (16 * (a.j1 - a.j0 + 1))
  | .ld d a w => decide (d.reg < 64) && a.off % 1024 = 0 && regOk a.idx && waitOk w
  | .st a d => decide (d.reg < 64) && a.off % 1024 = 0 && regOk a.idx
  | .gather d _ _ i w => decide (d.reg < 64) && spanOk i 64 && waitOk w
  | .scatter _ _ i d => decide (d.reg < 64) && spanOk i 64
  | .perm d a m e => decide (d < 64) && decide (a < 64) && decide (m < 64) && (e = 2 || e = 4 || e = 8)
  | .xpose d a e =>
    let n := if e = 8 then 2 else 4
    (e = 8 || e = 16) && decide (d + n ≤ 64) && decide (a + n ≤ 64) && (decide (d + n ≤ a) || decide (a + n ≤ d))
  | .iMov d m => decide (d < 32) && (match m with
    | .idx a => decide (a < 32)
    | .param p => decide (p < 4096)
    | .imm _ => true)
  | .iAdd d a b | .iMul d a b => decide (d < 32) && decide (a < 32) && immOk b
  | .xsend _ l w | .xrecv _ l w => decide (l.reg < 64) && l.line % 4 = 0 && decide (l.line < 32) && waitOk w
  | .lane op o =>
    let e := o.ty.bytes
    let b := match o.b, o.rowlen with
      | some l, some r => decide (0 < r) && spanOk l (e * ceilDiv (o.len / e) r)
      | some l, none => spanOk l o.len
      | none, _ => true
    lenOk o.len e 32768 && spanOk o.dst o.len && spanOk o.a o.len && b &&
      (match o.c with | some l => spanOk l o.len | none => true) && (match op with | .rot a => immOk a | _ => true)
  | .cvt o =>
    let els := match o.ffrom.mx with
      | some _ => o.len / o.ffrom.rowBytes * 64
      | none => o.len / o.ffrom.bytes
    let unit := if o.ffrom.mx.isSome then o.ffrom.rowBytes else o.ffrom.bytes
    let out := match o.fto.mx with
      | some _ => ceilDiv els 64 * o.fto.rowBytes
      | none => els * o.fto.rowBytes / 64
    lenOk o.len unit 32768 && spanOk o.src o.len && spanOk o.dst out && (!o.fto.mx.isSome || els % 32 = 0) &&
      (match o.scmp with | some c => spanOk c (2 * els) | none => o.ffrom.xw.isNone) &&
      (match o.dcmp with | some c => spanOk c (2 * els) | none => o.fto.xw.isNone) &&
      (match o.win with | some w => winOk w | none => true) && (match o.wout with | some w => winOk w | none => true) &&
      (match o.rowlen with | some r => decide (0 < r) && srOk o.sr (ceilDiv els r) | none => true)
  | .rng o => lenOk o.len 4 32768 && spanOk o.dst o.len && immOk o.d0
  | .red _ o => decide (1 ≤ o.rows) && lenOk o.rowBytes 1 32768 && spanOk o.src (64 * ceilDiv o.rowBytes 64 * o.rows) &&
      spanOk o.dst (4 * o.rows) && immOk o.base
  | .topk o => decide (1 ≤ o.rows) && lenOk o.rowBytes 1 32768 && spanOk o.src (64 * ceilDiv o.rowBytes 64 * o.rows) &&
      decide (1 ≤ o.k) && decide (o.k ≤ 64) && decide (o.k ≤ o.n) && spanOk o.dst (64 * ceilDiv (8 * o.k) 64 * o.rows) && immOk o.base
  | .treemask o => decide (1 ≤ o.rows) && decide (o.rows ≤ 64) && spanOk o.dst (o.rows * o.rowBytes) && spanOk o.par 64 &&
      (match o.vld with | some v => spanOk v 8 | none => true) &&
      (match o.n with | .imm v => decide (1 ≤ v) && decide (v ≤ 64) | .reg k => decide (k < 32))
  | .sample o => decide (1 ≤ o.rows) && decide (1 ≤ o.k) && decide (o.k ≤ 64) && spanOk o.dst (16 * o.rows) &&
      spanOk o.w (64 * ceilDiv (4 * o.k) 64 * o.rows) && spanOk o.cand (64 * ceilDiv (8 * o.k) 64 * o.rows) &&
      decide (o.key + 3 * o.rows ≤ 4096)
  | .sf _ o => lenOk o.len o.ty.bytes 32768 && spanOk o.src o.len && spanOk o.dst (o.len / o.ty.bytes * (o.tto.getD o.ty).bytes)
  | .pageIn _ a d => pagesOk a && doneOk x d
  | .pageOut _ a part d => pagesOk a && doneOk x d && (match part with
    | some (o, l) => a.n = 1 && immOk o && lenOk l 64 32768 && (match o with | .imm v => v % 64 = 0 | _ => true)
    | none => true)
  | .await k l => decide (k < 256) && levelOk l
  | .fence t _ => decide (t < 65536)
  | .fput r _ n t _ d => refOk r && lenOk n 64 (2 ^ 22) && trkOk t && doneOk x d
  | .fget r _ n d => refOk r && lenOk n 64 (2 ^ 22) && doneOk x d
  | .fmcast _ _ n _ t d => lenOk n 64 (2 ^ 22) && trkOk t && doneOk x d
  | .fredXw _ _ _ _ n w t d => decide (1 ≤ n) && winOk w && decide (t < 65536) && doneOk x d
  | .fredF _ _ n t d => decide (1 ≤ n) && decide (t < 65536) && doneOk x d
  | .faddI64 r v t d => refOk r && decide (v < 32) && trkOk t && doneOk x d
  | .faddXw _ r _ _ n w t d => refOk r && decide (1 ≤ n) && decide (n ≤ 64) && winOk w && trkOk t && doneOk x d
  | .loop n a k => decide (1 ≤ n) && decide (n ≤ 2 ^ 24) && (match a with | some a => immOk a | none => true) && regOk k
  | .pld d r n => spanOk d 64 && refOk r && decide (1 ≤ n) && decide (n ≤ 8)
  | .pred q a => decide (q < 8) && (match a with
    | .cmp k _ b => decide (k < 32) && immOk b
    | .bit p b => decide (p < 4096) && decide (b < 64)
    | .nz l => spanOk l 4)
  | .timeRd d => spanOk d 64
  | .statRd d pg off => spanOk d 64 && (match regRow (match pg with | .pavilion => 0x010 | .step => 0x005) off with
    | some r => r.acc = .rc
    | none => false)
  | .endloop | .beat _ | .nop | .stepEnd => true

/-- Does a staging declaration keep its limits (R74)? -/
def stagingOk (b : BundleBody) (st : Staging) : Bool :=
  decide (1 ≤ st.kib) && decide (st.kib ≤ 4096) && st.off % 1024 = 0 && decide (st.ctr < 256) &&
    decide ((b.staging.filter (fun o => o.pav = st.pav)).length ≤ 64)

/-- OPERAND_RANGE. -/
def chkRange (s : Stream) : List Nat := s.bad (fun x => !rangeOk x)

/-- An accumulator event: order key, bed, row, and what it is. -/
inductive AccAct
  | zero
  | mm (win : Int) (terms entry arrive : Nat)
  | read (win : Option Int)
  deriving DecidableEq, Repr
structure AccEv where
  t : Nat
  issue : Nat
  row : Nat
  act : AccAct
  deriving DecidableEq, Repr

/-- Terms that one activation row places into an element (R107, R150): one per block of 32, or one per K. -/
def termsPerRow (o : MmArgs) : Nat := if o.wfmt.is16 then 48 else tileDepth o.wfmt o.sp24 / 32

/-- The accumulator events of a stream, in cycle order; a row's number is 256 × bed + 64 × group + row. -/
def accEvents (lc : LatClass) (s : Stream) : List AccEv :=
  sortOn (·.t) (s.ds.flatMap (fun x =>
    let bed := match x.line.slot with
      | .bed n => n
      | _ => 0
    let rows (a : AccRef) : List (Nat × Nat) := (List.range (a.j1 - a.j0 + 1)).map (fun i => (i, 256 * bed + 64 * a.grp + a.j0 + i))
    match x.line.op with
    | .zero a => (rows a).map (fun r => ⟨x.t, x.t, r.2, .zero⟩)
    | .mm o => let st := (rowsOf x.line.op).2
      (rows o.acc).map (fun r =>
        let e := x.t + st * r.1
        ⟨e, x.t, r.2, .mm o.win (termsPerRow o) e (e + latency lc x.line.op)⟩)
    | .drain o => (rows o.acc).map (fun r => ⟨x.t + r.1, x.t, r.2, .read (some o.win)⟩)
    | .chkRd a _ => (rows a).map (fun r => ⟨x.t, x.t, r.2, .read none⟩)
    | _ => []))

/-- ZERO_IN_FLIGHT (R152). -/
def chkZero (lc : LatClass) (s : Stream) : List Nat :=
  let es := accEvents lc s
  (es.filter (fun z => z.act = .zero && es.any (fun m => match m.act with
    | .mm _ _ e a => m.row = z.row && decide (e ≤ z.t) && decide (z.t < a)
    | _ => false))).map (·.issue)

/-- What an accumulator row has met since its last zero: whether it has been zeroed, the windows of every mm since, the
terms between the zero and its next drain, and whether that drain has been read. -/
structure AccSt where
  zeroed : Bool
  wins : List Int
  terms : Nat
  drained : Bool
  deriving DecidableEq, Repr

/-- ACC_DISCIPLINE over one row's events (R109, R153). -/
def accWalk : AccSt → List AccEv → List Nat
  | _, [] => []
  | st, e :: rest =>
    match e.act with
    | .zero => accWalk ⟨true, [], 0, false⟩ rest
    | .mm w n _ _ =>
      let terms := if st.zeroed && !st.drained then st.terms + n else st.terms
      let bad := st.zeroed && !st.drained && (st.wins.any (· ≠ w) || decide (8388607 < terms))
      (if bad then [e.issue] else []) ++ accWalk { st with wins := if st.wins.contains w then st.wins else w :: st.wins, terms } rest
    | .read w =>
      let bad := match w with
        | some v => st.wins.any (· ≠ v)
        | none => false
      (if !st.zeroed || bad then [e.issue] else []) ++ accWalk { st with drained := st.drained || w.isSome } rest

/-- ACC_DISCIPLINE. -/
def chkAcc (lc : LatClass) (s : Stream) : List Nat :=
  let es := accEvents lc s
  (List.range 1024).flatMap (fun r => accWalk ⟨false, [], 0, false⟩ (es.filter (fun e => e.row = r)))

/-- The counter and level an instruction waits on. -/
def waitOf : PlanOp → Option Wait
  | .ld _ _ w | .gather _ _ _ _ w | .xsend _ _ w | .xrecv _ _ w => w
  | .await k l => some ⟨k, l⟩
  | _ => none

/-- The transfer operands of an instruction. -/
def doneOf : PlanOp → Option DoneBy
  | .pageIn _ _ d | .pageOut _ _ _ d | .fput _ _ _ _ _ d | .fget _ _ _ d | .fmcast _ _ _ _ _ d | .fredXw _ _ _ _ _ _ _ d
  | .fredF _ _ _ _ d | .faddI64 _ _ _ d | .faddXw _ _ _ _ _ _ _ d => some d
  | _ => none

/-- The tracker an instruction names at its destination. -/
def trkOf : PlanOp → Option Nat
  | .fput _ _ _ t _ _ | .fmcast _ _ _ _ t _ | .faddI64 _ _ t _ | .faddXw _ _ _ _ _ _ t _ => t
  | .fredXw _ _ _ _ _ _ t _ | .fredF _ _ _ t _ => some t
  | _ => none

/-- STEP_END (R17, R203): exactly one, without guard, the last issue of the last beat, nothing to wait for after it. -/
def chkStepEnd (beats : Nat) (s : Stream) : List Nat :=
  match s.ds.filter (fun x => x.line.op = .stepEnd) with
  | [x] =>
    if x.line.guard.isSome || x.shift ≠ 0 || decide (x.t / 256 + 1 ≠ beats) || s.ds.any (fun y => decide (x.t < y.t)) ||
        s.ds.any (fun y => y.t = x.t && y.line ≠ x.line && ((waitOf y.line.op).isSome || (match y.line.op with
          | .fence _ _ => true
          | _ => false))) ||
        s.ds.any (fun y => match doneOf y.line.op with
          | some d => decide (x.t ≤ d.by_ + y.shift)
          | none => false)
    then [x.t] else []
  | [] => [0]
  | _ :: y :: _ => [y.t]

/-- The transfers of a stream in issue order. -/
def Stream.xfers (s : Stream) : List (Dyn × DoneBy) := s.ds.filterMap (fun x => (doneOf x.line.op).map (fun d => (x, d)))

/-- The smallest value a level may have (R193). -/
def levelLow (s : Stream) (t : Nat) : Level → Nat
  | .imm n => n.toNat
  | .idx k plus => let lo := (idxAt s.ws t k).1 + plus.toNat
    if lo < 0 then 0 else lo.toNat

/-- The transfers outstanding in a cycle, by counter: issued, less what awaits have counted as over (R185, R193). -/
def outstanding (s : Stream) (t : Nat) : Nat :=
  let xs := s.xfers.filter (fun e => decide (e.1.t ≤ t))
  let aws (k : Nat) : List (Nat × Nat) := s.ds.filterMap (fun y => match y.line.op with
    | .await j l => if j = k ∧ y.t ≤ t ∧ !y.cond then some (y.t, levelLow s y.t l) else none
    | _ => none)
  (List.range 256).foldl (fun n k =>
    let mine := xs.filter (fun e => e.2.done = k)
    let most := (aws k).foldl (fun m a => max m (min a.2 (mine.filter (fun e => decide (e.1.t < a.1))).length)) 0
    n + (mine.length - most)) 0

/-- TRANSFER_QUEUE (R185). -/
def chkQueue (s : Stream) : List Nat := (s.xfers.filter (fun e => decide (64 < outstanding s e.1.t))).map (·.1.t)

/-- The staging buffer of a pavilion that holds an offset. -/
def BundleBody.stagingAt (b : BundleBody) (n off : Nat) : Option Staging :=
  b.staging.find? (fun st => st.pav = n && decide (st.off ≤ off) && decide (off < st.off + 1024 * st.kib))

/-- The KiB a transfer puts into a staging buffer, with its place. -/
def fillOf (b : BundleBody) (n : Nat) : PlanOp → Option (Staging × Nat)
  | .pageIn dst a _ => (b.stagingAt n dst).map (fun st => (st, 32 * a.n))
  | .fget _ dst len _ => (b.stagingAt n dst).map (fun st => (st, kibOf len))
  | _ => none

/-- The transfers whose KiB lie among the first `level` of a buffer's fill sequence (R187, R269); the Kiosk's fill of the
input buffer comes first. -/
def fillsBelow (b : BundleBody) (s : Stream) (st : Staging) (level : Nat) : List (Dyn × DoneBy) :=
  let first := match b.inputBuf.bind (b.staging[·]?) with
    | some i => if i = st then st.kib else 0
    | none => 0
  (s.xfers.foldl (fun (acc : Nat × List (Dyn × DoneBy)) e =>
    match fillOf b s.pav e.1.line.op with
    | some (u, k) => if u = st then (acc.1 + k, if acc.1 < level then acc.2 ++ [e] else acc.2) else acc
    | none => acc) (first, [])).2

/-- The transfers a wait depends on (R187): for a level fixed in the binary, the first of the step, whenever they issue. -/
def dependsOn (b : BundleBody) (s : Stream) (x : Dyn) : List (Dyn × DoneBy) :=
  let before := s.xfers.filter (fun e => decide (e.1.t < x.t))
  let byWait (w : Wait) : List (Dyn × DoneBy) :=
    match b.staging.find? (fun st => st.pav = s.pav && st.ctr = w.ctr), w.level with
    | some st, .imm n => fillsBelow b s st n.toNat
    | some st, .idx _ _ => before.filter (fun e => (fillOf b s.pav e.1.line.op).any (fun u => u.1 = st))
    | none, .imm n => (s.xfers.filter (fun e => e.2.done = w.ctr)).take n.toNat
    | none, .idx _ _ => before.filter (fun e => e.2.done = w.ctr)
  match x.line.op with
  | .fence t _ => s.xfers.filter (fun e => trkOf e.1.line.op = some t)
  | .stepEnd => s.xfers
  | op => match waitOf op with
    | some w => byWait w
    | none => []

/-- EARLY_WAIT (R187). -/
def chkEarly (b : BundleBody) (s : Stream) : List Nat :=
  s.bad (fun x => (dependsOn b s x).any (fun e => decide (x.t < e.2.by_ + e.1.shift)))

/-- The bytes an address may reach: bounds of its first byte. -/
def addrIv (s : Stream) (t : Nat) (a : Addr) (gran : Nat) : Iv :=
  match a.idx with
  | none => (a.off, a.off)
  | some k => let v := idxAt s.ws t k
    (a.off + v.1 * gran, a.off + v.2 * gran)

/-- Does a run of `n` bytes that starts within bounds meet a store range? -/
def ivMeets (a : Iv) (n lo len : Nat) : Bool := decide (a.1 < (lo + len : Nat)) && decide ((lo : Int) < a.2 + n)

/-- STORE_QUARTER (R72, R157). -/
def chkQuarter (s : Stream) : List Nat :=
  let q (n : Nat) (a : Addr) : Bool := decide (a.off / 1024 % 2 ≠ n)
  s.bad (fun x => match x.line.op, x.line.slot with
    | .ld _ a _, .rd n => q n a
    | .st a _, .wr n => q n a
    | _, _ => false)

/-- Are the bounds of an index proved inside a range? -/
def ivIn (v : Iv) (lo hi : Int) : Bool := decide (lo ≤ v.1) && decide (v.2 ≤ hi)

/-- INDEX_BOUND (R72, R146, R162): every indexed address inside the pavilion's store or tier, a weight address with the
index as the tile's load takes it in its start cycle, every indexed parameter among the registers of a context. -/
def chkIndex (s : Stream) : List Nat :=
  let par (t : Nat) (r : ParamRef) (n : Nat) : Bool := match r.idx with
    | some k => !ivIn (idxAt s.ws t k) 0 (4096 - r.p - n)
    | none => false
  let ga (t : Nat) (r : ParamRef) : Bool := match r.idx with
    | some k => !ivIn (idxAt s.ws t k) 0 (2 ^ 37)
    | none => false
  [0, 1, 2, 3].flatMap (fun b => ((tileLoads 0 none (s.mms b)).filter (fun e => e.2.2.2.w.idx.isSome &&
    !ivIn (addrIv s e.1 e.2.2.2.w 1024) 0 (384 * 2 ^ 20 - 1024 * (recordKib e.2.2.2.wfmt e.2.2.2.sp24 : Int)))).map (·.2.2.1)) ++
  s.bad (fun x => match x.line.op with
    | .ld _ a _ | .st a _ => a.idx.isSome && !ivIn (addrIv s x.t a 2048) 0 (2 ^ 25 - 1024)
    | .pageIn _ a _ | .pageOut _ a _ _ => par x.t a.pg (if a.chain then 1 else a.n)
    | .pld _ r n => par x.t r n
    | .fput r _ _ _ _ _ | .fget r _ _ _ | .faddI64 r _ _ _ | .faddXw _ r _ _ _ _ _ _ => ga x.t r
    | _ => false)

/-- A span window: quarter's first bank, first row, rows (R158). -/
def spanMeets (base span lo len : Nat) : Bool :=
  let q := base / 1024 % 4
  let r0 := base / 4096
  let k0 := lo / 1024
  let k1 := (lo + len + 1023) / 1024
  (List.range (k1 - k0)).any (fun i => (k0 + i) % 4 = q && decide (r0 ≤ (k0 + i) / 4) && decide ((k0 + i) / 4 < r0 + span))

/-- GATHER_SPAN (R158, R159). -/
def chkSpan (b : BundleBody) (s : Stream) : List Nat :=
  let bad (n base span : Nat) : Bool :=
    base % 1024 ≠ 0 || decide (base / 1024 % 2 ≠ n) || !((List.range 14).any (fun k => span = 2 ^ k)) ||
      decide (8192 < base / 4096 + span) || b.staging.any (fun st => st.pav = s.pav && spanMeets base span st.off (1024 * st.kib))
  s.bad (fun x => match x.line.op, x.line.slot with
    | .gather _ base span _ _, .rd n => bad n base span
    | .scatter base span _ _, .wr n => bad n base span
    | _, _ => false)

/-- STAGING_NO_WAIT (R159). -/
def chkStagingWait (b : BundleBody) (s : Stream) : List Nat :=
  s.bad (fun x => match x.line.op with
    | .ld _ a w => b.staging.any (fun st => st.pav = s.pav && ivMeets (addrIv s x.t a 2048) 1024 st.off (1024 * st.kib) &&
        (match w with | some w => w.ctr ≠ st.ctr | none => true))
    | _ => false)

/-- Is a page.out retired before a cycle by an await that every transfer bound to its counter has reached (R193)? -/
def retiredBy (s : Stream) (k t0 t : Nat) : Bool :=
  s.ds.any (fun y => match y.line.op with
    | .await j l => j = k && !y.cond && decide (t0 < y.t) && decide (y.t < t) &&
        decide ((s.xfers.filter (fun e => e.2.done = k && decide (e.1.t < y.t))).length ≤ levelLow s y.t l)
    | _ => false)

/-- The source of a page.out: first byte, bytes, counter. -/
def outSource : PlanOp → Option (Nat × Nat × Nat)
  | .pageOut src a part d => some (src, (match part with | some (_, l) => l | none => 32768 * a.n), d.done)
  | _ => none

/-- TRANSFER_REGION (R75). -/
def chkRegion (b : BundleBody) (s : Stream) : List Nat :=
  let outs := s.ds.filterMap (fun x => (outSource x.line.op).map (fun o => (x.t, o)))
  let hits (f : Nat → Nat → Bool) (t : Nat) : Bool :=
    b.staging.any (fun st => st.pav = s.pav && f st.off (1024 * st.kib)) ||
      outs.any (fun o => decide (o.1 ≤ t) && f o.2.1 o.2.2.1 && !retiredBy s o.2.2.2 o.1 t)
  s.bad (fun x => match x.line.op with
    | .st a _ => hits (ivMeets (addrIv s x.t a 2048) 1024) x.t
    | .scatter base span _ _ => hits (spanMeets base span) x.t
    | _ => false)

/-- PAGE_OUT_RANGE (R192). -/
def chkPageOut (s : Stream) : List Nat :=
  s.bad (fun x => match x.line.op with
    | .pageOut _ _ (some (o, l)) _ => !ivIn (ivOf s.ws x.t o) 0 (32768 - l)
    | _ => false)

end Sys2Proof.Machine
end

