-- ==== Sys2Proof/Machine/Sha384.lean ====
section
/-! DEFINITION. SHA-384 (FIPS 180-4), which the spec names for bundle digests, measurement registers, weight digests, canaries and shadow digests (R213, R424, R485, R515, R519). -/
namespace Sys2Proof.Machine

/-- Round constants 0 to 19. -/
def shaK0 : List W64 :=
  [0x428A2F98D728AE22, 0x7137449123EF65CD, 0xB5C0FBCFEC4D3B2F, 0xE9B5DBA58189DBBC,
   0x3956C25BF348B538, 0x59F111F1B605D019, 0x923F82A4AF194F9B, 0xAB1C5ED5DA6D8118,
   0xD807AA98A3030242, 0x12835B0145706FBE, 0x243185BE4EE4B28C, 0x550C7DC3D5FFB4E2,
   0x72BE5D74F27B896F, 0x80DEB1FE3B1696B1, 0x9BDC06A725C71235, 0xC19BF174CF692694,
   0xE49B69C19EF14AD2, 0xEFBE4786384F25E3, 0x0FC19DC68B8CD5B5, 0x240CA1CC77AC9C65]

/-- Round constants 20 to 39. -/
def shaK1 : List W64 :=
  [0x2DE92C6F592B0275, 0x4A7484AA6EA6E483, 0x5CB0A9DCBD41FBD4, 0x76F988DA831153B5,
   0x983E5152EE66DFAB, 0xA831C66D2DB43210, 0xB00327C898FB213F, 0xBF597FC7BEEF0EE4,
   0xC6E00BF33DA88FC2, 0xD5A79147930AA725, 0x06CA6351E003826F, 0x142929670A0E6E70,
   0x27B70A8546D22FFC, 0x2E1B21385C26C926, 0x4D2C6DFC5AC42AED, 0x53380D139D95B3DF,
   0x650A73548BAF63DE, 0x766A0ABB3C77B2A8, 0x81C2C92E47EDAEE6, 0x92722C851482353B]

/-- Round constants 40 to 59. -/
def shaK2 : List W64 :=
  [0xA2BFE8A14CF10364, 0xA81A664BBC423001, 0xC24B8B70D0F89791, 0xC76C51A30654BE30,
   0xD192E819D6EF5218, 0xD69906245565A910, 0xF40E35855771202A, 0x106AA07032BBD1B8,
   0x19A4C116B8D2D0C8, 0x1E376C085141AB53, 0x2748774CDF8EEB99, 0x34B0BCB5E19B48A8,
   0x391C0CB3C5C95A63, 0x4ED8AA4AE3418ACB, 0x5B9CCA4F7763E373, 0x682E6FF3D6B2B8A3,
   0x748F82EE5DEFB2FC, 0x78A5636F43172F60, 0x84C87814A1F0AB72, 0x8CC702081A6439EC]

/-- Round constants 60 to 79. -/
def shaK3 : List W64 :=
  [0x90BEFFFA23631E28, 0xA4506CEBDE82BDE9, 0xBEF9A3F7B2C67915, 0xC67178F2E372532B,
   0xCA273ECEEA26619C, 0xD186B8C721C0C207, 0xEADA7DD6CDE0EB1E, 0xF57D4F7FEE6ED178,
   0x06F067AA72176FBA, 0x0A637DC5A2C898A6, 0x113F9804BEF90DAE, 0x1B710B35131C471B,
   0x28DB77F523047D84, 0x32CAAB7B40C72493, 0x3C9EBE0A15C9BEBC, 0x431D67C49C100D4C,
   0x4CC5D4BECB3E42B6, 0x597F299CFC657E2A, 0x5FCB6FAB3AD6FAEC, 0x6C44198C4A475817]

/-- The 80 round constants. -/
def shaK : List W64 := shaK0 ++ shaK1 ++ shaK2 ++ shaK3

/-- The initial hash value of SHA-384. -/
def shaInit : List W64 :=
  [0xCBBB9D5DC1059ED8, 0x629A292A367CD507, 0x9159015A3070DD17, 0x152FECD8F70E5939,
   0x67332667FFC00B31, 0x8EB44A8768581511, 0xDB0C2E0D64F98FA7, 0x47B5481DBEFA4FA4]

/-- A rotation to the right. -/
def rotr (x : W64) (n : Nat) : W64 := x.rotateRight n

/-- The functions of the schedule and the rounds. -/
def shaS0 (x : W64) : W64 := rotr x 28 ^^^ rotr x 34 ^^^ rotr x 39
def shaS1 (x : W64) : W64 := rotr x 14 ^^^ rotr x 18 ^^^ rotr x 41
def shaG0 (x : W64) : W64 := rotr x 1 ^^^ rotr x 8 ^^^ (x >>> 7)
def shaG1 (x : W64) : W64 := rotr x 19 ^^^ rotr x 61 ^^^ (x >>> 6)

/-- The message schedule: `w` holds the words so far, newest first. -/
def shaSched : Nat → List W64 → List W64
  | 0, w => w
  | n + 1, w => shaSched n ((shaG1 (nthD w 1 0) + nthD w 6 0 + shaG0 (nthD w 14 0) + nthD w 15 0) :: w)

/-- The eight working variables. -/
structure ShaVars where
  a : W64
  b : W64
  c : W64
  d : W64
  e : W64
  f : W64
  g : W64
  h : W64
  deriving DecidableEq, Repr

/-- One round. -/
def shaRound (v : ShaVars) (kw : W64 × W64) : ShaVars :=
  let ch := (v.e &&& v.f) ^^^ (~~~v.e &&& v.g)
  let maj := (v.a &&& v.b) ^^^ (v.a &&& v.c) ^^^ (v.b &&& v.c)
  let t1 := v.h + shaS1 v.e + ch + kw.1 + kw.2
  let t2 := shaS0 v.a + maj
  ⟨t1 + t2, v.a, v.b, v.c, v.d + t1, v.e, v.f, v.g⟩

/-- The variables as a list and back. -/
def ShaVars.toList (v : ShaVars) : List W64 := [v.a, v.b, v.c, v.d, v.e, v.f, v.g, v.h]
def ShaVars.ofList (l : List W64) : ShaVars :=
  ⟨nthD l 0 0, nthD l 1 0, nthD l 2 0, nthD l 3 0, nthD l 4 0, nthD l 5 0, nthD l 6 0, nthD l 7 0⟩

/-- A block of 128 bytes taken into a hash value. -/
def shaBlock (h : List W64) (blk : List Byte) : List W64 :=
  let m := (pieces 8 blk).map (fun b => BitVec.ofNat 64 (beNat b))
  let w := (shaSched 64 m.reverse).reverse
  let v := (shaK.zip w).foldl shaRound (ShaVars.ofList h)
  (h.zip v.toList).map (fun e => e.1 + e.2)

/-- The padding of a message (FIPS 180-4, 5.1.2). -/
def shaPad (bs : List Byte) : List Byte :=
  let n := bs.length
  bs ++ [0x80] ++ List.replicate ((239 - n % 128) % 128) 0 ++ (toBytes 16 (8 * n)).reverse

/-- SHA-384 of a message: 48 bytes. -/
def sha384 (bs : List Byte) : List Byte :=
  let h := (pieces 128 (shaPad bs)).foldl shaBlock shaInit
  (h.take 6).flatMap (fun x => (toBytes 8 x.toNat).reverse)

end Sys2Proof.Machine
end

