-- ==== Sys2Proof/Machine/BundleCheck.lean ====
section
/-! DEFINITION. The Gatehouse's verification of a bundle (R213 to R217, R229, R233 to R244, R258, R298, R474, R535 to R537, R635): the checks of R242 in ascending code order, each over the sets and variants in the order of R243, the first failure reported. -/
namespace Sys2Proof.Machine

/-- The header of a bundle as its first 256 bytes spell it (R213). Reserved are bytes 0x09E to 0x0FF and the reserved bits of
FLAGS, FALLBACK_MAP and CONFIG_ID (R214). -/
def parseHdr (bs : List Byte) : BundleHdr :=
  let f (o n : Nat) : Nat := leNat ((bs.drop o).take n)
  { magic := f 0 4, version := f 4 2, size := f 6 2, configId := BitVec.ofNat 64 (f 8 8), flags := f 0x10 4, ogi := f 0x14 4
    stepVariants := f 0x1C 2, fallbacks := f 0x1E 2, sysDigest := (bs.drop 0x20).take 48, digest := (bs.drop 0x50).take 48
    totalLen := f 0x80 8, pavUse := f 0x88 4, pkgUse := f 0x8C 2, paramDecls := f 0x8E 2, fbMap := f 0x90 8
    sliceNeed := f 0x98 4, ledgerPeak := f 0x9C 2
    reservedOk := f 0x9E 98 = 0 && f 0x10 4 < 4 && f 0x90 8 < 2 ^ 44 && f 8 8 % 16 = 0 }

/-- The enabled pavilions of a module, as a map (R7). -/
def Module.pavMap (m : Module) : Nat := match m.fusedPair with
  | some k => 2 ^ 32 - 1 - 3 * 4 ^ k
  | none => 2 ^ 32 - 1

/-- The device's own configuration ID (R216, R217). -/
def Dev.configId (d : Dev) : Nat :=
  (if d.modl.stepB then 2 else 1) * 2 ^ 56 + d.modl.pavMap * 2 ^ 24 + d.portMap * 2 ^ 12 + (if d.modl.code = 2 then 1 else 2) * 2 ^ 8 +
    bitsN (d.rgN 0x006 0x400 0) 0 4 * 16

/-- GATEHOUSE.SYS_DIGEST (R246). -/
def Dev.sysDigest (d : Dev) : List Byte := (List.range 12).flatMap (fun k => toBytes 4 (d.rgN 0x002 (0x440 + 4 * k) 0))

/-- The program image area and the save area of a context (R474): LPDDR5X offset and bytes. -/
def Dev.imageArea (d : Dev) (c : Nat) : Nat × Nat := (gaOff (d.rg64 0x008 0x540 c), 2 ^ 20 * bitsN (d.rgN 0x008 0x548 c) 0 11)
def Dev.saveArea (d : Dev) (c : Nat) : Nat × Nat := (gaOff (d.rg64 0x008 0x534 c), 1024 * bitsN (d.rgN 0x008 0x53C c) 0 24)

/-- The ledger limit of a device and the share of a plot (R536, R537). -/
def Dev.ledgerLimit (d : Dev) : Nat :=
  let k := bitsN (d.rgN 0x006 0x400 0) 0 4
  min (23 * popCount d.modl.pavMap 32) (4 * (250 + 25 * k - 221))
def Dev.ledgerShare (d : Dev) (p : Nat) : Nat :=
  if d.plotsMode then d.ledgerLimit * popCount (d.plot p).pairs 16 / (popCount d.modl.pavMap 32 / 2) else d.ledgerLimit

/-- Where a check failed: set, variant, pavilion, cycle (R243, R246). -/
structure Reject where
  code : Nat
  set : Nat
  variant : Nat
  pav : Option Nat
  cycle : Nat
  deriving DecidableEq, Repr

/-- What a check of the later codes looks at: the device, the context, the bundle, the set and variant. -/
structure Checked where
  d : Dev
  c : Nat
  b : Bundle
  set : Nat
  k : Nat
  v : VariantBody
  streams : List Stream

def Checked.body (x : Checked) : BundleBody := x.b.body
def Checked.plotNo (x : Checked) : Nat := (x.d.ctx x.c).plot
def Checked.plot (x : Checked) : Plot := x.d.plot x.plotNo
def Checked.lc (x : Checked) : LatClass := if x.d.modl.stepB then .lc2 else .lc1
def Checked.owns (x : Checked) (n : Nat) : Bool := decide (n < 32) && bitN x.plot.pairs (n / 2)

/-- A failure in a stream, and one that no pavilion shows. -/
def perStream (x : Checked) (f : Stream → List Nat) : List (Option Nat × Nat) := x.streams.flatMap (fun s => (f s).map (fun t => (some s.pav, t)))
def wide (bad : Bool) : List (Option Nat × Nat) := if bad then [(none, 0)] else []

/-- The first failure of a check: the lowest pavilion, then the lowest cycle. -/
def firstOf (l : List (Option Nat × Nat)) : Option (Option Nat × Nat) :=
  (sortOn (fun e => (e.1.getD 32) * 2 ^ 64 + e.2) l).head?

/-- Does a pavilion have the crossing (R83)? -/
def hasCrossing (n x : Nat) : Bool := decide (x < 8) && (neighbour n x).isSome

/-- The crossings an instruction names, by direction. -/
def crossingOf : PlanOp → Option Nat
  | .xsend x _ _ | .xrecv x _ _ => some x
  | _ => none

/-- CROSSING_EDGE (R83). -/
def chkEdge (x : Checked) : List (Option Nat × Nat) :=
  perStream x (fun s => s.bad (fun y => match crossingOf y.line.op with
    | some k => !hasCrossing s.pav k
    | none => false)) ++
  (x.v.through.filter (fun t => !hasCrossing t.pav t.inX || !hasCrossing t.pav t.outX)).map (fun t => (some t.pav, 0)) ++
  (x.v.binds.filter (fun b => match b.kind with
    | .crossing k => !hasCrossing b.pav k
    | _ => false)).map (fun b => (some b.pav, 0))

/-- CROSSING_SLOT (R163). -/
def chkSlotPair (x : Checked) : List (Option Nat × Nat) :=
  perStream x (fun s => s.bad (fun y => s.ds.any (fun z => z.t = y.t && y.line.slot = .xing 0 && z.line.slot = .xing 1 &&
    (match y.line.op, z.line.op with
     | .xsend a _ _, .xsend b _ _ => a = b
     | .xrecv a _ _, .xrecv b _ _ => a = b
     | _, _ => false))))

/-- The bound of a hop out of a crossing (R85), and where a route from an outbound crossing ends with its bounds added
(R86, R87). -/
def hopBound (x : Nat) : Nat := if x / 2 = 1 ∨ x / 2 = 3 then 4 else 6
def VariantBody.routeTo (v : VariantBody) : Nat → Nat → Nat → Option (Nat × Nat × Nat)
  | 0, _, _ => none
  | fuel + 1, n, x =>
    match neighbour n x with
    | none => none
    | some q =>
      match v.through.find? (fun t => t.pav = q && t.inX = facing x) with
      | some t => (VariantBody.routeTo v fuel q t.outX).map (fun r => (r.1, r.2.1, r.2.2 + hopBound x))
      | none => some (q, facing x, hopBound x)

/-- The planned arrivals of flits in an inbound FIFO, with sender and cycle of each (R87). -/
def Checked.arrivals (x : Checked) (n k : Nat) : List (Nat × Nat × Nat) :=
  sortOn (·.1) (x.streams.flatMap (fun s => s.ds.filterMap (fun y => match y.line.op with
    | .xsend o _ _ => match x.v.routeTo 32 s.pav o with
      | some (q, i, b) => if q = n ∧ i = k then some (y.t + 1 + b, s.pav, y.t) else none
      | none => none
    | _ => none)))

/-- The reads of an inbound FIFO. -/
def Checked.reads (x : Checked) (n k : Nat) : List Nat :=
  x.streams.flatMap (fun s => if s.pav = n then s.bad (fun y => match y.line.op with
    | .xrecv i _ _ => i = k
    | _ => false) else [])

/-- Every inbound FIFO. -/
def allFifos : List (Nat × Nat) := (List.range 32).flatMap (fun n => (List.range 8).map (fun k => (n, k)))

/-- FIFO_OVERFLOW (R84): at nominal timing a flit finds 16 entries still unread. -/
def chkFifo (x : Checked) : List (Option Nat × Nat) :=
  allFifos.flatMap (fun f =>
    let as := x.arrivals f.1 f.2
    let rs := x.reads f.1 f.2
    (((List.range as.length).zip as).filter (fun e => decide (16 < e.1 + 1 - (rs.filter (fun r => decide (r < e.2.1))).length))).map
      (fun e => (some e.2.2.1, e.2.2.2)))

/-- FLIT_UNREAD (R165): a FIFO that receives more flits than are read. -/
def chkUnread (x : Checked) : List (Option Nat × Nat) :=
  allFifos.flatMap (fun f =>
    ((x.arrivals f.1 f.2).drop (x.reads f.1 f.2).length).map (fun e => (some e.2.1, e.2.2)))

/-- CROSSING_PLOT (R88): a crossing or a through route that leaves the plot, or touches the set's lost pavilion. -/
def chkCrossPlot (x : Checked) : List (Option Nat × Nat) :=
  let out (n : Nat) : Bool := !x.owns n || (x.set < 32 && n = x.set)
  let leaves (n k : Nat) : Bool := out n || (match neighbour n k with
    | some q => out q
    | none => false)
  perStream x (fun s => s.bad (fun y => match crossingOf y.line.op with
    | some k => leaves s.pav k
    | none => false)) ++
  (x.v.through.filter (fun t => leaves t.pav t.inX || leaves t.pav t.outX)).map (fun t => (some t.pav, 0))

/-- A declared parameter of a bundle. -/
def Checked.decl (x : Checked) (p : Nat) : Option ParamDecl := x.body.params.find? (fun d => d.p = p)

/-- Does an operation of a plan accept a space (R194 to R197, R285)? -/
def PlanOp.takesSpace (op : PlanOp) (sp : Nat) : Bool :=
  match op with
  | .fput _ _ _ _ _ _ => sp = 0 || sp = 2
  | .fget _ _ _ _ => decide (sp < 3)
  | .faddI64 _ _ _ _ => sp = 2
  | .faddXw _ _ _ _ _ _ _ _ | .fredXw _ _ _ _ _ _ _ _ | .fredF _ _ _ _ _ => sp = 4
  | _ => true

/-- The parameter register an operation takes its global address from. -/
def PlanOp.addrParam : PlanOp → Option Nat
  | .fput r _ _ _ _ _ | .fget r _ _ _ | .faddI64 r _ _ _ | .faddXw _ r _ _ _ _ _ _ => some r.p
  | .fredXw _ (.toAddr p) _ _ _ _ _ _ | .fredF (.toAddr p) _ _ _ _ => some p
  | _ => none

/-- The operations of a bundle that read an address from a parameter register. -/
def BundleBody.opsOn (b : BundleBody) (p : Nat) : List PlanOp :=
  b.sets.flatMap (fun e => e.2.flatMap (fun v => v.streams.flatMap (fun s => s.2.filterMap (fun l =>
    if l.op.addrParam = some p then some l.op else none))))

/-- Bytes of a reduction buffer's value plane (R197). -/
def RedBuf.bytes (r : RedBuf) : Nat := r.elems * (match r.n with
  | some n => n.bits / 8
  | none => 4)

/-- Do declared reduction buffers hold every byte of a run of offsets of space 4 (R285)? -/
def redCovers (bufs : List RedBuf) : Nat → Nat → Nat → Bool
  | 0, _, _ => false
  | fuel + 1, lo, hi =>
    match bufs.find? (fun r => decide (2 ^ 25 * r.pav + r.off ≤ lo) && decide (lo < 2 ^ 25 * r.pav + r.off + r.bytes)) with
    | some r => let next := 2 ^ 25 * r.pav + r.off + r.bytes
      decide (hi < next) || redCovers bufs fuel next hi
    | none => false

/-- Is a GLOBAL_ADDR range one that R635 allows, as register `p` of plot `pl`? The range names the devices of its two ends
and those between, in one space, with the offsets from the lower end's to the upper end's (log entry 175). On this device it
lies in the context's allotments. -/
def Dev.gaRange (d : Dev) (plot : Nat) (b : BundleBody) (q : ParamDecl) : Bool :=
  let pl := d.plot plot
  let sp := gaSpace q.lo
  let lo := gaOff q.lo
  let hi := gaOff q.hi
  let runs (n : Nat) (f : Nat → Bool) : Bool := (List.range (hi / 2 ^ n - lo / 2 ^ n + 1)).all (fun k => f (lo / 2 ^ n + k))
  let lay : Bool := match sp with
    | 0 | 4 => decide (hi < 2 ^ 30)
    | 1 => decide (hi < 2 ^ 34) && decide (lo / 2 ^ 29 = hi / 2 ^ 29) && decide (hi % 2 ^ 29 < 384 * 2 ^ 20)
    | 2 => decide (hi < 2 ^ 39)
    | _ => false
  let own : Bool := match sp with
    | 0 => runs 25 (fun n => bitN pl.pairs (n / 2))
    | 1 => runs 29 (fun n => bitN pl.pairs (n / 2))
    | 2 => runs 35 (bitN pl.packages ·)
    | 4 => runs 25 (fun n => bitN pl.pairs (n / 2)) && redCovers b.redBufs (b.redBufs.length + 1) lo hi
    | _ => false
  decide (gaDev q.lo ≤ gaDev q.hi) && decide (lo ≤ hi) && gaSpace q.lo = gaSpace q.hi && lay &&
    (b.opsOn q.p).all (·.takesSpace sp) && (own || decide (d.number < gaDev q.lo) || decide (gaDev q.hi < d.number))

/-- The LPDDR5X packages of this device that a bundle's declared addresses lie in (R213; log entry 176). -/
def Dev.refPackages (d : Dev) (b : BundleBody) : List Nat :=
  b.params.flatMap (fun q =>
    if q.ty = .globalAddr ∧ gaSpace q.lo = 2 ∧ gaDev q.lo ≤ d.number ∧ d.number ≤ gaDev q.hi then
      (List.range 16).filter (fun n => decide (gaOff q.lo / 2 ^ 35 ≤ n) && decide (n ≤ gaOff q.hi / 2 ^ 35))
    else [])

/-- Does PACKAGE_USE disagree with the content (R213, R214)? Each package a declared address lies in has its bit; a bundle
that names no page sets no other (log entry 176). -/
def Dev.pkgUseWrong (d : Dev) (b : BundleBody) (use : Nat) : Bool :=
  let refs := d.refPackages b
  refs.any (fun n => !bitN use n) ||
    (!b.params.any (·.ty = .pageEntry) && (bitList use 16).any (fun n => !refs.contains n))

/-- The bytes of a bundle's declared live working set (R278). -/
def BundleBody.liveLen (b : BundleBody) : Nat := b.live.foldl (fun n r => n + r.len) 0

/-- PLOT_REFERENCE of the declared tables (R74, R214, R469, R474, R635). -/
def chkTables (x : Checked) : Bool :=
  let b := x.body
  let inStore (n off len : Nat) : Bool := x.owns n && decide (off + len ≤ 2 ^ 25)
  let red (r : RedBuf) : Bool :=
    inStore r.pav r.off r.bytes && (r.n.isNone || inStore r.pav r.cmpOff (2 * r.elems))
  let ga (p : ParamDecl) : Bool := p.ty ≠ .globalAddr ||
    (x.d.gaRange x.plotNo b p && (x.b.multi || (gaDev p.lo = x.d.number && gaDev p.hi = x.d.number)))
  b.staging.all (fun s => inStore s.pav s.off (1024 * s.kib)) && b.redBufs.all red && b.xwTensors.all red &&
    b.live.all (fun r => inStore r.pav r.off r.len) && (match b.commit with
      | some r => inStore r.pav r.off r.len
      | none => true) &&
    b.trackers.all (inRange x.plot.trkRange ·) && b.rings.all (inRange x.plot.ringRange ·) && b.params.all ga &&
    decide (0x11000 + b.liveLen ≤ (x.d.saveArea x.c).2) && decide (x.b.hdr.totalLen ≤ (x.d.imageArea x.c).2)

/-- PLOT_REFERENCE of the streams: static offsets, trackers, sources and destinations of transfers. -/
def chkPlotRef (x : Checked) : List (Option Nat × Nat) :=
  let st (off len : Nat) : Bool := decide (2 ^ 25 < off + len)
  wide (!chkTables x) ++ perStream x (fun s => (if x.owns s.pav then [] else [0]) ++ s.bad (fun y => match y.line.op with
    | .ld _ a _ | .st a _ => st a.off 1024
    | .mm o => decide (384 * 2 ^ 20 < o.w.off + 1024 * recordKib o.wfmt o.sp24)
    | .gather _ b _ _ _ | .scatter b _ _ _ => st b 0
    | .fence t _ => !inRange x.plot.trkRange t
    | .pageIn dst a _ => st dst (32768 * a.n)
    | .pageOut src a p _ => st src (match p with | some (_, l) => l | none => 32768 * a.n)
    | .fput _ src n _ _ _ | .fmcast _ src n _ _ _ => st src n
    | .fget _ dst n _ => st dst n || (x.body.stagingAt s.pav dst).isNone
    | .fredXw n _ src cmp e _ _ _ | .faddXw n _ src cmp e _ _ _ => st src (n.bits / 8 * e) || st cmp (2 * e)
    | .fredF _ src e _ _ => st src (4 * e)
    | _ => false))

/-- WEIGHT_EPOCH (R258): each region exists in READY or IN_USE in the context's plot. -/
def Dev.regionHeld (d : Dev) (p : Nat) (r : Nat × Nat) : Option Nat :=
  (d.regions.find? (fun e => e.2.plot = p && e.2.name = r.1 && e.2.epoch = r.2 && (e.2.st = 2 || e.2.st = 3))).map (·.1)

/-- A contribution to a reduction buffer: its tree or its parameter register with the bounds of the index added, width,
window, place. -/
structure XwSend where
  tree : Option Nat
  par : Option Nat
  off : Iv
  n : Option XwN
  win : Int
  pav : Nat
  t : Nat
  deriving DecidableEq, Repr

/-- The contributions of a variant. -/
def Checked.xwSends (x : Checked) : List XwSend :=
  x.streams.flatMap (fun s => s.ds.filterMap (fun y =>
    let dest (d : RedDest) (n : Option XwN) (w : Int) : XwSend := match d with
      | .tree t => ⟨some t, none, (0, 0), n, w, s.pav, y.t⟩
      | .toAddr p => ⟨none, some p, (0, 0), n, w, s.pav, y.t⟩
    match y.line.op with
    | .fredXw n d _ _ _ w _ _ => some (dest d (some n) w)
    | .faddXw n r _ _ _ w _ _ =>
      some ⟨none, some r.p, (match r.idx with
        | some k => idxAt s.ws y.t k
        | none => (0, 0)), some n, w, s.pav, y.t⟩
    | .fredF d _ _ _ _ => some (dest d none 0)
    | _ => none))

/-- The addresses a contribution may have. -/
def Checked.xwAddr (x : Checked) (e : XwSend) : Option Iv :=
  match e.tree, e.par with
  | some t, _ => (x.v.routes.find? (fun r => r.tree = some t)).map (fun r => ((r.addr : Int), (r.addr : Int)))
  | _, some p => (x.decl p).map (fun d => (d.lo + e.off.1, d.hi + e.off.2))
  | _, _ => none

/-- Do two contributions certainly meet in one buffer: one tree, one register with one index value, or one address? -/
def Checked.xwMeet (x : Checked) (e f : XwSend) : Bool :=
  (e.tree.isSome && e.tree = f.tree) || (e.par.isSome && e.par = f.par && e.off = f.off && e.off.1 = e.off.2) ||
    (match x.xwAddr e, x.xwAddr f with
     | some a, some b => a.1 = a.2 && a = b
     | _, _ => false)

/-- The own reduction buffers that a contribution may reach. -/
def Checked.ownBufs (x : Checked) (e : XwSend) : List RedBuf :=
  match x.xwAddr e with
  | some a => x.body.redBufs.filter (fun r =>
      let lo : Int := (x.d.number * 2 ^ 52 + 4 * 2 ^ 48 + r.pav * 2 ^ 25 + r.off : Nat)
      decide (a.1 < lo + r.bytes) && decide (lo ≤ a.2))
  | none => []

/-- XW_MISMATCH (R105): contributions of different n or W that meet, or one that reaches own buffers of which none has its n
and W. -/
def chkXw (x : Checked) : List (Option Nat × Nat) :=
  let l := x.xwSends
  (l.filter (fun e => l.any (fun f => x.xwMeet e f && (f.n ≠ e.n || f.win ≠ e.win)) ||
    (let bufs := x.ownBufs e
     !bufs.isEmpty && bufs.all (fun r => r.n ≠ e.n || (r.n.isSome && r.win ≠ e.win))))).map (fun e => (some e.pav, e.t))

/-- The tensor declarations of a set. -/
def BundleBody.tensorsOf (b : BundleBody) (set : Nat) : List TensorDecl := ((b.tensors.find? (fun e => e.1 = set)).map (·.2)).getD []

/-- VARIANT_NUMERICS (R46, R126): sets that declare tensors differently, and instructions that differ from their tensor. -/
def chkNumerics (x : Checked) : List (Option Nat × Nat) :=
  let mine := x.body.tensorsOf x.set
  let base := x.body.tensorsOf 0x7F
  let ok (tid : Option Nat) (f : Fmt) (rnd : Option Rnd) (w : Option Int) : Bool := match tid with
    | none => true
    | some t => match mine.find? (fun d => d.tid = t) with
      | none => false
      | some d => d.fmt = f && d.rnd = rnd && (w.isNone || d.win = w)
  wide (!(mine.all base.contains && base.all mine.contains)) ++
  perStream x (fun s => s.bad (fun y => match y.line.op with
    | .drain o => !ok o.tid o.fmt o.rnd (if o.fmt.xw.isSome then o.wout else some o.win)
    | .cvt o => !ok o.tid o.fto o.rnd (if o.fto.xw.isSome then o.wout else o.win)
    | _ => false))

/-- V_IN_STRICT (R47, R205). -/
def chkStrict (x : Checked) : List (Option Nat × Nat) :=
  if bitN (x.d.ctx x.c).modes.toNat 4 then []
  else perStream x (fun s => s.bad (fun y => y.line.op.vMarked)) ++ wide x.b.usesV

/-- The parameter registers an instruction reads, with the type each must have, where one is required (R155, R181, R182,
R189, R195). -/
def paramReads (ws : List IdxW) (y : Dyn) : List (Nat × Option ParamTy) :=
  let at_ (r : ParamRef) (n : Nat) (ty : Option ParamTy) : List (Nat × Option ParamTy) :=
    let v : Iv := match r.idx with
      | some k => idxAt ws y.t k
      | none => (0, 0)
    (List.range (min 4096 (v.2 - v.1 + n).toNat)).map (fun i => (r.p + v.1.toNat + i, ty))
  let one (r : ParamRef) (ty : ParamTy) : List (Nat × Option ParamTy) := [(r.p, some ty)]
  let sr (s : Option SrArgs) (rows : Nat) : List (Nat × Option ParamTy) := match s with
    | some a => (List.range rows).flatMap (fun i => [(a.p + 2 * i, some .seed), (a.p + 2 * i + 1, some .u64)])
    | none => []
  match y.line.op with
  | .drain o => sr o.sr (o.acc.j1 - o.acc.j0 + 1)
  | .cvt o => match o.rowlen with
    | some r => sr o.sr (ceilDiv (o.len / max 1 o.ffrom.bytes) (max 1 r))
    | none => []
  | .rng o => (match o.seed with
      | .param p => [(p, some .seed)]
      | .entropy => []) ++ (match o.pos with
      | .param p => [(p, some .u64)]
      | .idx _ => [])
  | .sample o => (List.range o.rows).flatMap (fun i => [(o.key + 3 * i, some .seed), (o.key + 3 * i + 1, some .u64), (o.key + 3 * i + 2, some .fp32)])
  | .iMov _ (.param p) => [(p, none)]
  | .pred _ (.bit p _) => [(p, none)]
  | .pld _ r n => at_ r n none
  | .pageIn _ a _ | .pageOut _ a _ _ => at_ a.pg (if a.chain then 1 else a.n) (some .pageEntry)
  | .fput r _ _ _ _ _ | .fget r _ _ _ | .faddI64 r _ _ _ | .faddXw _ r _ _ _ _ _ _ => one r .globalAddr
  | .fredXw _ (.toAddr p) _ _ _ _ _ _ | .fredF (.toAddr p) _ _ _ _ => [(p, some .globalAddr)]
  | _ => []

/-- PARAM_UNDECLARED and PARAM_TYPE (R229). -/
def chkUndeclared (x : Checked) : List (Option Nat × Nat) :=
  perStream x (fun s => s.bad (fun y => (paramReads s.ws y).any (fun r => (x.decl r.1).isNone)))
def chkParamType (x : Checked) : List (Option Nat × Nat) :=
  perStream x (fun s => s.bad (fun y => (paramReads s.ws y).any (fun r => match r.2, x.decl r.1 with
    | some t, some d => d.ty ≠ t
    | _, _ => false)))

/-- Order of FP32 patterns as real numbers, for bounds that are no NaN. -/
def fp32Key (v : Nat) : Int := if bitN v 31 then -(v % 2 ^ 31 : Nat) else (v % 2 ^ 31 : Nat)
def fp32Nan (v : Nat) : Bool := decide (0x7F800000 < v % 2 ^ 31)

/-- Is a value within a declaration's bounds (R229)? -/
def ParamDecl.inBounds (q : ParamDecl) (plot v : Nat) : Bool :=
  match q.ty with
  | .u64 => decide (q.lo ≤ v) && decide (v ≤ q.hi)
  | .s64 => decide (signedN 64 q.lo ≤ signedN 64 v) && decide (signedN 64 v ≤ signedN 64 q.hi)
  | .fp32 => decide (v < 2 ^ 32) && !fp32Nan v && decide (fp32Key q.lo ≤ fp32Key v) && decide (fp32Key v ≤ fp32Key q.hi)
  | .mask => (v &&& q.lo) = v
  | .seed => true
  | .pageEntry => bitsN v 30 2 = 0 && bitsN v 60 4 = 0 && pePlot v = plot && decide (peIndex v ≤ q.hi)
  | .globalAddr => decide (gaDev q.lo ≤ gaDev v) && decide (gaDev v ≤ gaDev q.hi) && decide (q.lo % 2 ^ 52 ≤ v % 2 ^ 52) &&
    decide (v % 2 ^ 52 ≤ q.hi % 2 ^ 52)

/-- Does a recipe's source match a register's type (R233)? -/
def RecipeSrc.matches_ : RecipeSrc → ParamTy → Bool
  | .const _, _ => true
  | .slotMask, t => t = .mask
  | .seed, t => t = .seed
  | .sampling _, t => t = .fp32
  | .pageList _ _ _, t => t = .pageEntry
  | _, t => t = .u64 || t = .s64

/-- The registers a recipe writes: for slot i, first + stride × i, and j of them for a page list (R232). -/
def Recipe.regs (r : Recipe) : List Nat :=
  (List.range r.slots).flatMap (fun i => match r.src with
    | .pageList _ _ j => (List.range j).map (fun k => r.first + r.stride * i + k)
    | _ => [r.first + r.stride * i])

/-- Does a list name something twice? -/
def hasDup : List Nat → Bool
  | [] => false
  | a :: rest => rest.contains a || hasDup rest

/-- RECIPE (R233). -/
def chkRecipes (x : Checked) : List (Option Nat × Nat) :=
  let rs := x.body.recipes
  let bad (r : Recipe) : Bool := r.regs.any (fun p => match x.decl p with
    | none => true
    | some d => d.owner ≠ .kiosk || !r.src.matches_ d.ty || !(match r.src with
      | .const v => d.inBounds x.plotNo v
      | .batchCount | .slotMask => true
      | _ => d.inBounds x.plotNo r.idle))
  wide (hasDup (rs.flatMap (·.regs)) || rs.any bad)

/-- The beats in which cycles of a list fall. -/
def beatsOf (l : List Nat) : List Nat := (l.map (· / 256)).foldl (fun s b => if s.contains b then s else s ++ [b]) []

/-- The charges of a stream: a beat, and the power units of a unit active in it (R167, R206). -/
def streamCharges (s : Stream) : List (Nat × Nat) :=
  let span (a n : Nat) : List Nat := (List.range n).map (a + ·)
  let bed (k : Nat) : List (Nat × Nat) :=
    let entries := (s.mms k).flatMap (fun m =>
      let r := rowsOf m.2.2.line.op
      (List.range r.1).map (fun i => m.1 + r.2 * i))
    let loads := (tileLoads 0 none (s.mms k)).flatMap (fun l => span l.1 l.2.1)
    (beatsOf entries).map (fun b => (b, 4)) ++ (beatsOf loads).map (fun b => (b, 1))
  let unit (f : Slot → Bool) : List (Nat × Nat) :=
    (beatsOf ((s.ds.filter (fun y => f y.line.slot)).flatMap (fun y => span y.t y.occ))).map (fun b => (b, 1))
  let dma := (s.xfers.flatMap (fun e =>
      let b0 := e.1.t / 256
      (List.range ((e.2.by_ + e.1.shift) / 256 - b0 + 1)).map (b0 + ·))).foldl (fun l b => if l.contains b then l else l ++ [b]) []
  [0, 1, 2, 3].flatMap bed ++ unit (fun u => u = .vec 0 || u = .vec 1) ++ unit (· = .sfu) ++ dma.map (fun b => (b, 1))

/-- The ledger sum of each beat of a variant (R206, R537). -/
def Checked.ledger (x : Checked) : List Nat :=
  let cs := x.streams.flatMap streamCharges
  (List.range x.v.beats).map (fun b => (cs.filter (fun e => e.1 = b)).foldl (fun n e => n + e.2) 0)

/-- POWER_LEDGER (R537). -/
def chkLedger (x : Checked) : List (Option Nat × Nat) :=
  let lim := x.d.ledgerShare x.plotNo
  ((List.range x.v.beats).zip x.ledger).filterMap (fun e => if lim < e.2 then some (none, 256 * e.1) else none)

/-- The slots granted to a plot on a port: 64 slots as a mask in the low and high words of its table (R298, R465). -/
def Plot.grant (p : Plot) (port : Nat) : Nat := nthD p.slots port 0

/-- SLOT_PLAN (R298). The proof that R301 asks of the combine buffer holds of every plan that passes: a held partial leaves by the end of
its slot window of 64 ticks, and in 64 ticks 13 inputs bring at most 13 packets of 448 bytes each, 75,712 bytes of 262,144. -/
def chkSlots (x : Checked) : List (Option Nat × Nat) :=
  let rs := x.v.routes
  let used := rs.flatMap (·.slots)
  wide (rs.any (fun r => r.outs.any (fun n => !bitN x.d.portMap n)) ||
    used.any (fun s => !bitN x.d.portMap s.1 || decide (64 ≤ s.2) || !bitN (x.plot.grant s.1) s.2) ||
    hasDup (used.map (fun s => 64 * s.1 + s.2)))

/-- MULTICAST_GROUP (R196). -/
def chkGroups (x : Checked) : List (Option Nat × Nat) :=
  let gs := x.body.groups
  let size := x.d.systemSize
  let bad (g : Group) : Bool := decide (64 ≤ g.id) || g.members.isEmpty || decide (4096 < g.members.length) || hasDup g.members ||
    g.members.any (fun m => decide (size ≤ m)) || (g.tc0 && !x.v.routes.any (fun r => r.tree = some g.tree))
  wide (decide (64 < gs.length) || hasDup (gs.map (·.id)) || gs.any bad) ++
  perStream x (fun s => s.bad (fun y => match y.line.op with
    | .fmcast g _ _ _ _ _ => !gs.any (fun k => k.id = g)
    | _ => false))

/-- The shortest entry of a context in a calendar, where the plot has one in effect (R476, R477). -/
def Dev.shortestSlice (d : Dev) (c : Nat) : Option Nat :=
  match (d.plot (d.ctx c).plot).running with
  | none => none
  | some k => (k.entries.filter (fun e => e.1 = c)).foldl (fun (m : Option Nat) e => match m with
    | none => some e.2.2
    | some n => some (min n e.2.2)) none

/-- DEADLINE (R34, R235). -/
def chkDeadline (x : Checked) : List (Option Nat × Nat) :=
  wide (decide (3 * x.v.deadline < 512 * x.v.beats) || (match x.d.shortestSlice x.c with
    | some n => decide (n < x.v.deadline)
    | none => false))

/-- ISSUE_SIZE (R226): the streams of the set's variants together, in each pavilion. -/
def chkIssueSize (x : Checked) : List (Option Nat × Nat) :=
  let vs := (x.b.set x.set).getD []
  ((List.range 32).filter (fun n => decide (2 ^ 20 < (vs.flatMap (·.issueBytes)).foldl (fun s e => if e.1 = n then s + e.2 else s) 0))).map
    (fun n => (some n, 0))

/-- OPERAND_RANGE: the declarations of staging buffers, in every pavilion (R74), and the operands of the streams. -/
def chkRanges (x : Checked) : List (Option Nat × Nat) :=
  (x.body.staging.filter (fun st => !stagingOk x.body st)).map (fun st => (some st.pav, 0)) ++ perStream x chkRange

/-- The checks of each variant in code order (R242). -/
def variantChecks : List (Nat × (Checked → List (Option Nat × Nat))) :=
  [ (0x0301, fun x => perStream x chkBusy),
    (0x0302, fun x => perStream x chkTile),
    (0x0303, fun x => perStream x (chkLines x.lc)),
    (0x0304, fun x => perStream x chkFormat),
    (0x0305, chkRanges),
    (0x0306, fun x => perStream x (chkZero x.lc)),
    (0x0307, fun x => perStream x (chkAcc x.lc)),
    (0x0308, fun x => perStream x (fun s => chkLoop s.lines)),
    (0x0309, fun x => perStream x (chkStepEnd x.v.beats)),
    (0x030A, fun x => perStream x chkQueue),
    (0x030B, fun x => perStream x (chkEarly x.body)),
    (0x030C, chkIssueSize),
    (0x0401, chkEdge),
    (0x0402, chkSlotPair),
    (0x0403, chkFifo),
    (0x0404, chkUnread),
    (0x0405, chkCrossPlot),
    (0x0501, fun x => perStream x chkQuarter),
    (0x0502, fun x => perStream x chkIndex),
    (0x0503, fun x => perStream x (chkSpan x.body)),
    (0x0504, fun x => perStream x (chkStagingWait x.body)),
    (0x0505, fun x => perStream x (chkRegion x.body)),
    (0x0506, chkPlotRef),
    (0x0507, fun x => perStream x chkPageOut),
    (0x0508, fun x => wide (x.body.regions.any (fun r => (x.d.regionHeld x.plotNo r).isNone))),
    (0x0601, chkXw),
    (0x0602, chkNumerics),
    (0x0701, chkStrict),
    (0x0801, chkUndeclared),
    (0x0802, chkParamType),
    (0x0803, chkRecipes),
    (0x0901, chkLedger),
    (0x0A01, chkSlots),
    (0x0A02, chkGroups),
    (0x0B01, chkDeadline) ]

/-- The sets of a bundle in the order of R243: the base set, then the fallback sets by slot. -/
def BundleBody.ordered (b : BundleBody) : List (Nat × List VariantBody) :=
  b.sets.filter (fun e => e.1 = 0x7F) ++ sortOn (·.1) (b.sets.filter (fun e => e.1 ≠ 0x7F))

/-- Every variant of every set, prepared for the checks. -/
def Dev.checked (d : Dev) (c : Nat) (b : Bundle) : List Checked :=
  b.body.ordered.flatMap (fun e => ((List.range e.2.length).zip e.2).map (fun v =>
    ⟨d, c, b, e.1, v.1, v.2, sortOn (·.pav) (v.2.streams.map (Stream.of b.body.params))⟩))

/-- Does the content declare what makes a bundle MULTI_DEVICE (R214)? -/
def BundleBody.isMulti (b : BundleBody) : Bool :=
  !b.groups.isEmpty || b.sets.any (fun e => e.2.any (fun v => !v.routes.isEmpty)) ||
    b.params.any (fun p => p.ty = .globalAddr && gaDev p.lo ≠ gaDev p.hi)

/-- The pavilions that the base set uses (R213). -/
def Bundle.usesMap (b : Bundle) : Nat := ((List.range 32).filter (b.setUses 0x7F ·)).foldl (fun s n => s + 2 ^ n) 0

/-- The kinds of event that a variant's counter plan binds a pavilion's counter to: what its counter plan, the staging
buffers and the transfers of its stream name (R74, R77, R186). -/
def Checked.ctrKinds (x : Checked) (n k : Nat) : List CtrKind :=
  let l := (x.v.binds.filter (fun b => b.pav = n && b.ctr = k)).map (·.kind) ++
    (((List.range x.body.staging.length).zip x.body.staging).filter (fun e => e.2.pav = n && e.2.ctr = k)).map (fun e => .staging e.1) ++
    x.streams.flatMap (fun s => if s.pav = n then (s.xfers.filter (fun e => e.2.done = k)).map (fun _ => .transfers) else [])
  l.foldl (fun s a => if s.contains a then s else s ++ [a]) []

/-- Is a counter bound to two kinds of event (R77; log entry 177)? -/
def Checked.ctrTwice (x : Checked) : Bool :=
  (x.v.binds.map (fun b => (b.pav, b.ctr)) ++ x.body.staging.map (fun s => (s.pav, s.ctr))).any (fun e => decide (1 < (x.ctrKinds e.1 e.2).length))

/-- MALFORMED (R77, R210, R214, R215, R234): the private part is not well formed, or the header disagrees with the content. -/
def bundleMalformed (xs : List Checked) (b : Bundle) : Bool :=
  let h := b.hdr
  let body := b.body
  let vs := body.sets.flatMap (·.2)
  let base := (b.set 0x7F).getD []
  !body.wellFormed || base.isEmpty || decide (h.stepVariants < 1) || decide (256 < h.stepVariants) ||
    body.sets.any (fun e => e.2.length ≠ h.stepVariants) || hasDup (body.sets.map (·.1)) ||
    decide (popCount h.fbMap 64 ≠ h.fallbacks) || decide (44 < h.fallbacks) ||
    (List.range 44).any (fun s => bitN h.fbMap s ≠ body.sets.any (fun e => e.1 = s)) ||
    body.sets.any (fun e => e.1 ≠ 0x7F && decide (44 ≤ e.1)) ||
    body.isMulti ≠ b.multi || xs.any (fun x => x.streams.any (fun s => s.ds.any (fun y => y.line.op.vMarked))) ≠ b.usesV ||
    body.params.length ≠ h.paramDecls || hasDup (body.params.map (·.p)) || body.params.any (fun p => decide (4096 ≤ p.p)) ||
    b.usesMap ≠ h.pavUse || vs.foldl (fun m v => max m v.deadline) 0 ≠ h.sliceNeed ||
    xs.foldl (fun m x => x.ledger.foldl max m) 0 ≠ h.ledgerPeak ||
    (!b.multi && h.sysDigest.any (· ≠ 0)) ||
    body.sets.any (fun e => ((e.2.zip base).any (fun p => p.1.batchMax ≠ p.2.batchMax || p.1.pageMax ≠ p.2.pageMax))) ||
    xs.any (fun x => x.d.pkgUseWrong body h.pkgUse || x.ctrTwice || x.streams.any (fun s => s.lines.any (fun l => !slotCarries l.slot l.op)))

/-- FALLBACK_SET (R236). -/
def fallbackBad (d : Dev) (b : Bundle) : Bool :=
  b.body.sets.any (fun e => e.1 ≠ 0x7F && (b.setUses e.1 e.1 || (e.1 < 32 && !bitN d.modl.pavMap e.1)))

/-- Checks 0x0101 to 0x0208, in code order: the first that fails (R242, R243). `recvd` is the number of bytes received,
`img` the bytes of the image. -/
def Dev.wholeCheck (d : Dev) (c recvd : Nat) (img : List Byte) (xs : List Checked) (b : Bundle) : Option Nat :=
  let h := b.hdr
  let own := d.configId
  let f (lo n : Nat) : Bool := bitsN h.configId.toNat lo n ≠ bitsN own lo n
  let p := d.plot (d.ctx c).plot
  let ogi := d.rgN 0x002 0x400 0
  let table : List (Nat × Bool) :=
    [ (0x0101, h.magic ≠ 0x424E5247),
      (0x0102, h.version ≠ 1 || h.size ≠ 256 || !h.reservedOk),
      (0x0103, h.totalLen ≠ recvd),
      (0x0104, sha384 ((img.take h.totalLen).drop 256) ≠ h.digest),
      (0x0105, decide (h.ogi / 2 ^ 16 < ogi % 2 ^ 16) || decide (ogi / 2 ^ 16 < h.ogi / 2 ^ 16)),
      (0x0106, bundleMalformed xs b),
      (0x0201, f 56 8),
      (0x0202, f 24 32),
      (0x0203, f 12 12),
      (0x0204, f 8 4),
      (0x0205, f 4 4),
      (0x0206, b.multi && h.sysDigest ≠ d.sysDigest),
      (0x0207, (bitList h.pavUse 32).any (fun n => !bitN p.pairs (n / 2)) || (bitList h.pkgUse 16).any (fun n => !bitN p.packages n)),
      (0x0208, fallbackBad d b) ]
  (table.find? (·.2)).map (·.1)

/-- The Gatehouse's verdict on a bundle (R243): none where every check passes. -/
def Dev.verdict (d : Dev) (c recvd : Nat) (img : List Byte) (b : Bundle) : Option Reject :=
  let xs := d.checked c b
  match d.wholeCheck c recvd img xs b with
  | some k => some ⟨k, 0x7E, 0, none, 0⟩
  | none => variantChecks.findSome? (fun e => xs.findSome? (fun x =>
      (firstOf (e.2 x)).map (fun r => ⟨e.1, x.set, x.k, r.1, r.2⟩)))

end Sys2Proof.Machine
end

