-- ==== Sys2Proof/Machine/Gatehouse.lean ====
section
/-! DEFINITION. The Gatehouse: receiving, verifying, activating and discarding bundles, and parameter registers (R223 to R231, R246 to R250, R256 to R258, R456 to R458, R485). -/
namespace Sys2Proof.Machine

/-- A measurement register extended with a digest, and the measurement log's entry (R485). -/
def Dev.mrExtendD (d : Dev) (k typ : Nat) (dg : List Byte) : Dev :=
  let old := nthD d.belv.mrs k (List.replicate 48 0)
  let log := d.belv.mlog ++ [⟨k, dg, d.time.count, typ⟩]
  { d with belv := { d.belv with mrs := setAt d.belv.mrs k (sha384 (old ++ dg)), mlog := log.drop (log.length - 4096) } }

/-- A measurement register extended with the SHA-384 of an event. -/
def Dev.mrExtend (d : Dev) (k typ : Nat) (ev : List Byte) : Dev := d.mrExtendD k typ (sha384 (Config.eventBytes k ev))

/-- A reference taken on each region of a list (R256, R258). -/
def Dev.takeNamed (d : Dev) (p : Nat) (l : List (Nat × Nat)) : Dev :=
  forEach l d (fun s r => match s.regionHeld p r with
    | some i => let g := s.region i
      s.setRegion i { g with refs := g.refs + 1, st := 3 }
    | none => s)

/-- References released; with the last one a region returns to READY (R256). -/
def Dev.dropNamed (d : Dev) (p : Nat) (l : List (Nat × Nat)) : Dev :=
  forEach l d (fun s r => match s.regionHeld p r with
    | some i => let g := s.region i
      s.setRegion i { g with refs := g.refs - 1, st := if g.refs ≤ 1 then 2 else 3 }
    | none => s)

/-- The references of a bundle on the regions it names. -/
def Dev.takeRefs (d : Dev) (p : Nat) (b : Bundle) : Dev := d.takeNamed p b.body.regions
def Dev.dropRefs (d : Dev) (p : Nat) (b : Bundle) : Dev := d.dropNamed p b.body.regions

/-- The issue-memory banks that hold sets of a context freed: those whose number a test picks out (R226). -/
def Dev.dropBanks (d : Dev) (c : Nat) (f : Nat → Bool) : Dev :=
  let drop (p : Pav) : Pav := { p with banks := p.banks.map (fun e => match e with
    | some (k, n) => if k = c && f n then none else e
    | none => none) }
  { d with pavs := d.pavs.map drop }

/-- A context's staged slot emptied: a verification under way is counted (R249), the banks filled from it are free. -/
def Dev.dropStaged (d : Dev) (c : Nat) : Dev :=
  let x := d.ctx c
  let d1 := match x.staged.bundle with
    | some b => d.dropRefs x.plot b
    | none => d
  ((d1.chargeVerify c).dropBanks c (fun n => decide (128 ≤ n))).onCtx c (fun y => { y with staged := Staged.empty })

/-- The issue-memory banks at an activation: those filled for the requested bundle count as the active one's, those of the
bundle before are free (R226). -/
def Pav.promoteBanks (p : Pav) (c : Nat) : Pav :=
  { p with banks := p.banks.map (fun e => match e with
      | some (k, n) => if k = c then (if 128 ≤ n then some (c, n - 128) else none) else e
      | none => none) }

/-- The declared working set of a bundle at 0 (R479). -/
def Dev.zeroLive (d : Dev) (b : BundleBody) : Dev :=
  forEach b.live d (fun s r => s.onPav r.pav (fun p => { p with store := p.store.clear r.off r.len }))

/-- The staged bundle of a context moves to its active slot (R225): the bundle before is discarded, STATIC registers take
their values, the Gatehouse chooses the set that runs (R237). -/
def Dev.activate (d : Dev) (c : Nat) : Dev :=
  let x := d.ctx c
  match x.staged.bundle with
  | none => d
  | some b =>
    let d1 := match x.active with
      | some a => d.dropRefs x.plot a
      | none => d
    let k := d1.chooseSet x.plot b
    let fixed := (b.body.params.filter (fun q => q.owner = .static)).map (fun q => (q.p, BitVec.ofNat 64 q.value))
    let pend := forEach fixed x.pend (fun m q => m.put q.1 q.2)
    let d2 := { d1 with pavs := d1.pavs.map (Pav.promoteBanks · c) }
    let d3 := if x.freshSet then d2.zeroLive b.body else d2
    let d4 := d3.setCtx c { x with
      staged := Staged.empty, active := some b, set := k.getD 0x7F, want := k.getD 0x7F, noVariant := k.isNone
      imageEcc := false, pend := pend, launch := none, freshSet := false
      held := if x.saved then x.held ++ fixed else x.held }
    let d5 := d4.count 0x002 0x108 1
    if k.isSome then d5 else (d5.abortAll c).recordB 0x002 0 2 .f false ⟨none, some x.plot, 0, 0, 0⟩

/-- The switch of a waiting PIN activation, once no request of the context is RUNNING or PARKED and the device is in no shadow pair
(R457, R532). -/
def Dev.pinSwitch (d : Dev) (c : Nat) : Dev :=
  let x := d.ctx c
  if x.pinWaits && !d.shadowValid && !d.ctxRuns c && !d.seqs.any (fun e => e.2.ctx = c && e.2.admitted) then d.activate c else d

/-- ACTIVATE (R225, R485): at once where the active slot is empty, else at the next release of a later tick; under PIN with another epoch
once the context has drained (R457). -/
def Dev.loadActivate (d : Dev) (c : Nat) : Dev :=
  let x := d.ctx c
  let dg := match x.staged.bundle with
    | some b => b.hdr.digest
    | none => []
  let d1 := (d.onCtx c (fun y => { y with staged := { y.staged with st := 5, since := d.time.elapsed } })).mrExtend 12 0 (toBytes 1 c ++ dg)
  if x.active.isNone then d1.activate c else d1.pinSwitch c

/-- LOAD_ACTIVATE. -/
def execLoadActivate (r : Route) (ctx : Nat) (s : State) : Host.Outcome State Fault Refusal :=
  onReg r 0x002 0x410 (ctx % 256 + 256) (·.loadActivate (ctx % 256)) s

/-- LOAD_DISCARD_STAGED. -/
def execLoadDiscardStaged (r : Route) (ctx : Nat) (s : State) : Host.Outcome State Fault Refusal :=
  onReg r 0x002 0x410 (ctx % 256 + 2 * 256) (·.dropStaged (ctx % 256)) s

/-- DISCARD of the active slot (R225, R479): a context that failed a restore may start again with a new bundle. -/
def Dev.dropActive (d : Dev) (c : Nat) : Dev :=
  let x := d.ctx c
  match x.active with
  | none => d
  | some b =>
    let d1 := (d.dropRefs x.plot b).dropBanks c (fun n => decide (n < 128))
    (d1.onCtx c (fun y => { y with
      active := none, set := 0x7F, want := 0x7F, noVariant := false, imageEcc := false, launch := none, ended := none
      st := if y.st = 2 then 1 else y.st, freshSet := y.freshSet || y.st = 2 })).onKc c (fun k => { k with phase := .open_, batch := [] })

/-- LOAD_DISCARD_ACTIVE. -/
def execLoadDiscardActive (r : Route) (ctx : Nat) (s : State) : Host.Outcome State Fault Refusal :=
  onReg r 0x002 0x410 (ctx % 256 + 3 * 256) (·.dropActive (ctx % 256)) s

/-- PARAM_COMMIT (R231). -/
def execParamCommit (r : Route) (ctx : Nat) (s : State) : Host.Outcome State Fault Refusal :=
  onReg r 0x002 0x428 (ctx % 256 + 256) (·.onCtx (ctx % 256) (fun x => { x with paramReady := true })) s

/-- The system digest written (R222, R246): 48 bytes, and MR10 extended (R485). -/
def Dev.writeSysDigest (d : Dev) (dg : List Byte) : Dev :=
  let d1 := forEach (List.range 12) d (fun s k => s.setN 0x002 (0x440 + 4 * k) 0 (leNat ((dg.drop (4 * k)).take 4)))
  d1.mrExtend 10 0 (toBytes 1 d1.role ++ d1.sysDigest)

/-- SYS_DIGEST_WRITE: over the manager's routes only (R247). -/
def execSysDigestWrite (r : Route) (digest : List Byte) (s : State) : Host.Outcome State Fault Refusal :=
  onReg r 0x002 0x440 (leNat (digest.take 4)) (fun d => (d.writeSysDigest digest).count 0x000 0x104 11) s

/-- Is a context's state in its save area, or on the way there or back: saved and not resident, or in a change under way (R278,
R279)? -/
def Dev.awayCtx (d : Dev) (c : Nat) : Bool :=
  let x := d.ctx c
  let pl := d.plot x.plot
  (x.saved && pl.resident ≠ some c) || (match pl.switching with
    | some w => w.into = c || w.from_ = some c
    | none => false)

/-- A write of a parameter register's pending copy (R227 to R230), held while the context is away (R279): refused from the wrong
owner or out of bounds. A host's patch lands in its tick; the Kiosk's are of the step it composes (R398). -/
def Dev.patch (d : Dev) (c : Nat) (owner : ParamOwner) (p : Nat) (v : W64) : Dev × Bool :=
  let x := d.ctx c
  let ok : Bool := match d.paramBundle c with
    | some b => match b.body.params.find? (fun q => q.p = p) with
      | some q => q.owner = owner && q.inBounds x.plot v.toNat
      | none => false
    | none => false
  if ok then
    let now := d.time.elapsed
    let y := x.landed now
    (d.setCtx c (if d.awayCtx c then { x with held := x.held ++ [(p, v)] }
      else if owner = .host then { y with late := y.late ++ [(p, v)], lateAt := now }
      else { x with pend := x.pend.put p v }), true)
  else ((d.count 0x002 0x110 1).record 0x002 1 ⟨none, some x.plot, 0, 0, 0⟩, false)

/-- The number of the step that a context's pending parameters belong to (R228, log entry 20). -/
def Dev.nextStep (d : Dev) (c : Nat) : W64 :=
  let x := d.ctx c
  if d.ctxRuns c then x.steps + 2 else x.steps + 1

/-- PROG_BEGIN (R470, R567): the status, 0 OK, 4 RANGE, 6 NOT_READY (R569), and the slot RECEIVING. -/
def Dev.progBegin (d : Dev) (c total : Nat) : Dev × Nat :=
  if (d.ctx c).st = 0 || (d.plot (d.ctx c).plot).st = 2 then (d, 6)
  else if total < 256 ∨ 2 ^ 30 < total ∨ (d.imageArea c).2 < total then (d, 4)
  else ((d.dropStaged c).onCtx c (fun y => { y with staged := ⟨1, total, 0, d.time.elapsed, none⟩ }), 0)

/-- Bytes of a bundle placed in the image area; with the last byte verification starts (R223, R224). -/
def Dev.imageBytes (d : Dev) (c : Nat) (data : List Byte) : Dev :=
  let sg := (d.ctx c).staged
  let d1 := d.lpWrite ((d.imageArea c).1 + sg.recvd) data
  let n := sg.recvd + data.length
  if n < sg.total then d1.onCtx c (fun y => { y with staged := { sg with recvd := n } })
  else (d1.onCtx c (fun y => { y with staged := { sg with recvd := n, st := 2, since := d1.time.elapsed } })).count 0x002 0x100 1

/-- PROG_DATA (R567): 0 OK, 4 RANGE, 5 ORDER, 6 NOT_READY. -/
def Dev.progData (d : Dev) (c off : Nat) (data : List Byte) : Dev × Nat :=
  let sg := (d.ctx c).staged
  if sg.st ≠ 1 || (d.plot (d.ctx c).plot).st = 2 then (d, 6)
  else if off ≠ sg.recvd then (d, 5)
  else if sg.total < off + data.length then (d, 4)
  else (d.imageBytes c data, 0)

/-- PROGRAM_IMAGE_DMA_LOAD (R223): the bundle read from a Parterre address that the manager names arrives whole. It obeys the
limits of R567. -/
def Dev.dmaLoad (d : Dev) (c : Nat) (data : List Byte) : Dev :=
  let r := d.progBegin c data.length
  if r.2 = 0 then r.1.imageBytes c data else d

/-- The bytes at an address of a bundle: this device's own memory where the address names it, else what the fabric read
brought. -/
def Dev.imageFrom (d : Dev) (a : Nat) (data : List Byte) : List Byte :=
  match d.localMem a with
  | some o => d.lpRead o data.length
  | none => if gaDev a = d.number ∧ gaSpace a = 0 then (d.pav (gaOff a / 2 ^ 25)).store.bytes (gaOff a % 2 ^ 25) data.length else data

/-- PROGRAM_IMAGE_DMA_LOAD. -/
def execProgramImageDmaLoad (ctx addr : Nat) (data : List Byte) (s : State) : Host.Outcome State Fault Refusal :=
  onDev (fun d => d.dmaLoad ctx (d.imageFrom addr data)) s

/-- The walker finishes (R224, R242 to R244): VERIFIED, with references on the bundle's regions (R258), or REJECTED with the
code and place of the first failure. `body` is the decoded private part of the bytes received (log entry 6). -/
def Dev.verifyDone (d : Dev) (c : Nat) (body : BundleBody) : Dev :=
  let x := d.ctx c
  if x.staged.st ≠ 2 || bitN (d.rgN 0x002 0x030 0) 0 then d
  else
    let img := d.lpRead (d.imageArea c).1 x.staged.recvd
    let b : Bundle := ⟨parseHdr img, body⟩
    let d1 := d.chargeVerify c
    match d.verdict c x.staged.recvd img b with
    | none => (d1.setCtx c { x with staged := { x.staged with st := 3, bundle := some b }, rejectCode := 0 }).takeRefs x.plot b
    | some r =>
      let pv := match r.pav with
        | some n => n * 2 ^ 15 + 2 ^ 20
        | none => 0
      ((d1.setCtx c { x with
        staged := { x.staged with st := 4 }, rejectCode := r.code, rejectWhere := r.set + 2 ^ 7 * r.variant + pv, rejectCycle := r.cycle
        }).count 0x002 0x104 1).record 0x002 0 ⟨none, some x.plot, r.code, c, 0⟩

/-- BUNDLE_VERIFY_DONE. -/
def execBundleVerifyDone (ctx : Nat) (body : BundleBody) (s : State) : Host.Outcome State Fault Refusal :=
  onDev (·.verifyDone ctx body) s

end Sys2Proof.Machine
end

