-- ==== Sys2Proof/Machine/Memory.lean ====
section
/-! DEFINITION. The memory commands: staging, transfers that complete, LPDDR5X bursts, scrubs, weight regions and key slots (R74, R186, R252 to R283). -/
namespace Sys2Proof.Machine

/-- A transfer changed by a function. -/
def Dev.onXfer (d : Dev) (serial : Nat) (f : Xfer → Xfer) : Dev :=
  { d with xfers := d.xfers.map (fun x => if x.serial = serial then f x else x) }

/-- A transfer that has met an error: the first cause stands (R188). -/
def Xfer.fail (x : Xfer) (cause : Nat) : Xfer := if x.err.isSome then x else { x with err := some cause }

/-- Does a transfer fill a staging buffer? -/
def Xfer.fills (x : Xfer) : Bool := x.kind = .pageIn || x.kind = .inputFill || (x.kind = .get && x.owner.faults)

/-- A KiB of a transfer placed in its staging buffer (R74, R75, R269): its bytes written, the buffer's counter advanced
as far as the fill sequence goes without a gap. A KiB that would lie outside the buffer is dropped and fails the transfer. -/
def Dev.kibPlaced (d : Dev) (serial kib : Nat) : Dev :=
  match d.xfer serial with
  | none => d
  | some x =>
    let n := min 1024 (x.len - 1024 * kib)
    let units := (List.range (ceilDiv n 64)).map (fun u => 16 * kib + u)
    if !x.fills || x.err.isSome || x.placed.contains kib || n = 0 || !units.all x.gotBursts.contains then d
    else
      match (d.stagingAt x.pav x.off).filter (fun e => decide (x.off + 1024 * kib + n ≤ e.2.off + 1024 * e.2.kib)) with
      | none => d.onXfer serial (·.fail 0x0A)
      | some (b, st) =>
        let d1 := (d.onPav x.pav (·.putStore (x.off + 1024 * kib) (x.got.bytes (1024 * kib) n))).onXfer serial
          (fun y => { y with placed := y.placed ++ [kib] })
        let d2 := d1.count (pavPage x.pav) 0x144 1
        match ((d2.pav x.pav).fillSeq b).base serial with
        | some base => d2.placeKib x.pav b st.ctr [base + kib]
        | none => d2

/-- STAGING_KIB_PLACED. -/
def execStagingKibPlaced (xfer kib : Nat) (s : State) : Host.Outcome State Fault Refusal :=
  onDev (·.kibPlaced xfer kib) s

/-- One of the pages a transfer takes, the device does not say which, has an entry found uncorrectable (R274, log entry 179): it is
held so until it is written again. -/
def Dev.loseEntry (d : Dev) (x : Xfer) : Dev :=
  let k := d.draw
  let p := nthD x.pages ((Config.freeWord k.1).toNat % max 1 x.pages.length) 0
  { k.2 with pageBad := if k.2.pageBad.contains p then k.2.pageBad else k.2.pageBad ++ [p] }

/-- A transfer that has done all it can completes (R186, R188, R274): by its error, by an uncorrectable page map entry
where it takes pages, or by success. -/
def Dev.transferDone (d : Dev) (serial cause : Nat) : Dev :=
  match d.xfer serial with
  | none => d
  | some x =>
    if !x.owner.faults then d
    else match x.err with
      | some c => d.closeXfer x c
      | none =>
        if cause = 0x0B ∧ (x.kind = .pageIn ∨ x.kind = .pageOut) ∧ !x.pages.isEmpty then (d.loseEntry x).closeXfer x 0x0B
        else if x.kind = .mcast then d.when x.mcastOver (·.closeMcast x)
        else d.when x.complete (·.closeXfer x 0)

/-- TRANSFER_COMPLETE. -/
def execTransferComplete (xfer cause : Nat) (s : State) : Host.Outcome State Fault Refusal :=
  onDev (·.transferDone xfer cause) s

/-- The LPDDR5X offset that a transfer reads its byte `k` from. -/
def Xfer.srcOff (x : Xfer) (k : Nat) : Nat :=
  match x.kind with
  | .inputFill => gaOff x.addr + k
  | _ => x.pageOff k

/-- The 64-byte units of a transfer that lie in a burst. -/
def Xfer.unitsIn (x : Xfer) (burst : Nat) : List Nat :=
  (List.range (ceilDiv x.len 64)).filter (fun u => x.srcOff (64 * u) / 64 = burst)

/-- The page of a burst poisoned, when it is a KV page (R265, R271). -/
def Dev.poison (d : Dev) (burst : Nat) : Dev :=
  let p := burst / 512
  let e := d.page p
  if e.seq = 0 then d else d.setPage p { e with poison := true }

/-- A package's controller serves its bursts once its PHY is trained (R621). -/
def Dev.mcServes (d : Dev) (m : Nat) : Bool := d.packageOk m && (d.mc m).phy = 2

/-- What the controller does with a burst it reads (R265, R282, R283): retries up to RETRY_LIMIT, a correction, or an
uncorrectable burst, which it marks and whose page it poisons. The second part says whether the burst was read. `cls` is
the class of an uncorrectable burst: D where a transfer fails, none for a scrub. -/
def Dev.controllerRead (d : Dev) (burst fails : Nat) (corrected : Bool) (cls : FaultClass) (plot : Option Nat) : Dev × Bool :=
  let m := burst / 2 ^ 29
  let pg := mcPage m
  let limit := bitsN (d.rgN pg 0x40C 0) 0 2
  let w : Where := ⟨none, plot, d.rgN 0x080 0x400 0, 64 * burst, 0⟩
  let bad := d.dramBad.contains burst
  let d1 := (d.count pg 0x100 1).count pg 0x110 (if bad then limit else min fails limit)
  if limit < fails ∨ bad then
    let d2 := (d1.count pg 0x10C 1).set64 pg 0x410 0 (64 * burst)
    let d3 := { d2 with dramBad := if d2.dramBad.contains burst then d2.dramBad else d2.dramBad ++ [burst] }
    ((d3.poison burst).raiseAs pg 1 cls w, false)
  else
    let d2 := if corrected then d1.count pg 0x108 1 else d1
    (if corrected ∨ 0 < fails then d2.raise pg 0 w else d2, true)

/-- A block refused by the crypto block: no key, or another generation (R277). -/
def Dev.staleBlock (d : Dev) : Dev := (d.count 0x090 0x108 1).record 0x090 0 Where.none

/-- Are the plot and key generation of a transfer's blocks no longer the slot's (R277)? -/
def Dev.keyStale (d : Dev) (x : Xfer) (off : Nat) : Bool :=
  let k := d.key (d.keyPlot off)
  !k.loaded || k.gen ≠ x.keyGen || (d.plotsMode && x.plot ≠ d.keyPlot off)

/-- Bursts of running steps wait at a controller in its plan queue (R267). -/
def Dev.planWaits (d : Dev) (m : Nat) : Bool :=
  d.xfers.any (fun x => x.err.isNone && (x.kind = .pageIn || x.kind = .pageOut) && (List.range (ceilDiv x.len 64)).any (fun u =>
    !(if x.kind = .pageIn then x.gotBursts else x.placed).contains u && decide (x.srcOff (64 * u) / 2 ^ 35 = m)))

/-- May the controller serve its background queue (R267): the plan queue is empty, or 19 bursts of it have gone before? -/
def Dev.backgroundTurn (d : Dev) (m : Nat) : Bool := decide (19 ≤ (d.mc m).planRun) || !d.planWaits m

/-- A burst of the plan queue served, and one of the background queue. -/
def Dev.planServed (d : Dev) (m : Nat) : Dev := d.onMc m (fun c => { c with planRun := min 19 (c.planRun + 1) })
def Dev.backgroundServed (d : Dev) (m : Nat) : Dev := (d.onMc m (fun c => { c with planRun := 0 })).count (mcPage m) 0x118 1

/-- A burst read for a transfer, or in the background queue (R264, R265, R267, R275, R277). -/
def Dev.burstRead (d : Dev) (burst : Nat) (serial : Option Nat) (fails : Nat) (corrected : Bool) : Dev :=
  let m := burst / 2 ^ 29
  if !d.mcServes m then d
  else match serial with
    | none => if d.backgroundTurn m then ((d.controllerRead burst fails corrected .none none).1).backgroundServed m else d
    | some k => match d.xfer k with
      | none => d
      | some x =>
        let us := x.unitsIn burst
        if us.isEmpty || !(x.kind = .pageIn || x.kind = .inputFill) then d
        else
          let r := (d.planServed m).controllerRead burst fails corrected .d (some x.plot)
          if !r.2 then r.1.onXfer k (·.fail 0x08)
          else if r.1.keyStale x (64 * burst) then (r.1.staleBlock).onXfer k (·.fail 0x09)
          else
            let bs := r.1.lpRead (64 * burst) 64
            (r.1.count 0x090 0x104 1).onXfer k (fun y => forEach us y (fun z u =>
              { z with got := z.got.store (64 * u) bs, gotBursts := if z.gotBursts.contains u then z.gotBursts else z.gotBursts ++ [u] }))

/-- LPDDR_BURST_READ. -/
def execLpddrBurstRead (burst : Nat) (xfer : Option Nat) (fails : Nat) (corrected : Bool) (s : State) :
    Host.Outcome State Fault Refusal :=
  onDev (·.burstRead burst xfer fails corrected) s

/-- A burst written for a page.out (R94, R192, R264, R275, R277): read through the pavilion's DMA port, encrypted under the key of the package's plot, then given its
check symbols. -/
def Dev.burstWrite (d : Dev) (burst serial : Nat) : Dev :=
  let m := burst / 2 ^ 29
  match d.xfer serial with
  | none => d
  | some x =>
    let us := (x.unitsIn burst).filter (fun u => !x.placed.contains u)
    if !d.mcServes m || x.kind ≠ .pageOut || us.isEmpty then d
    else
      if d.keyStale x (64 * burst) then (d.staleBlock).onXfer serial (·.fail 0x09)
      else
        let d1 := forEach us (d.planServed m) (fun t u => (t.portRead x.pav (x.off + 64 * u) 64).lpWrite (x.pageOff (64 * u))
          ((t.pav x.pav).store.bytes (x.off + 64 * u) (min 64 (x.len - 64 * u))))
        let n := x.placed.length
        (d1.count (pavPage x.pav) 0x148 (kibOf (64 * (n + us.length)) - kibOf (64 * n))).onXfer serial (fun y => { y with placed := y.placed ++ us })

/-- LPDDR_BURST_WRITE. -/
def execLpddrBurstWrite (burst xfer : Nat) (s : State) : Host.Outcome State Fault Refusal := onDev (·.burstWrite burst xfer) s

/-- A burst read by the patrol scrub, on ciphertext (R268); an uncorrectable one fails no transfer. -/
def Dev.patrol (d : Dev) (burst fails : Nat) (corrected : Bool) : Dev :=
  let m := burst / 2 ^ 29
  let pg := mcPage m
  if !d.mcServes m || bitsN (d.rgN pg 0x408 0) 0 8 = 0 || !d.backgroundTurn m then d
  else
    let r := d.controllerRead burst fails corrected .none none
    let d1 := r.1.backgroundServed m
    if r.2 && corrected then d1.count pg 0x11C 1 else d1

/-- MEMCTL_PATROL_SCRUB. -/
def execMemctlPatrolScrub (burst fails : Nat) (corrected : Bool) (s : State) : Host.Outcome State Fault Refusal :=
  onDev (·.patrol burst fails corrected) s

/-- PHY_RECALIBRATION (R266): each channel's PHY recalibrates. It delays bursts and changes nothing the spec names. -/
def execPhyRecalibration (_m : Nat) (s : State) : Host.Outcome State Fault Refusal := .next s

/-- 85 degrees C in sixteenths of a degree. -/
def temp85 : Int := 1360

/-- A package's temperature measured (R266, R621): refresh doubles above 85 degrees C and returns to normal at or below. -/
def Dev.refresh (d : Dev) (m : Nat) (temp : Int) : Dev :=
  if !d.packageOk m then d
  else
    let hot := decide (temp85 < temp)
    let was := (d.mc m).doubled
    let d1 := d.onMc m (fun c => { c with temp := temp, doubled := hot })
    if hot && !was then d1.raise (mcPage m) 2 ⟨none, none, d1.rgN 0x080 0x400 0, 0, 0⟩ else d1

/-- REFRESH_DOUBLING. -/
def execRefreshDoubling (m : Nat) (temp : Int) (s : State) : Host.Outcome State Fault Refusal := onDev (·.refresh m temp) s

/-- The 16-byte words of a 64-byte line. -/
def lineWords (line : Nat) : List Nat := [4 * line, 4 * line + 1, 4 * line + 2, 4 * line + 3]

/-- A line read by a working-store scrubber (R76, R261, R262): a corrected line written back with fresh check bits and
counted; an uncorrectable one a class D fault of the step the pavilion's group runs. -/
def Dev.storeScrub (d : Dev) (n line : Nat) (hits : Hits) : Dev :=
  if (d.pav n).run = .off || (d.pav n).fused then d
  else
    let d1 := d.onPav n (·.storeHits (hits.filter (fun h => (lineWords line).contains h.1)))
    let ws := lineWords line
    let bad := ws.filter (fun w => (d1.pav n).storeBad.contains w)
    let soft := ws.filter (fun w => (d1.pav n).storeSoft.contains w && !bad.contains w)
    let d2 := d1.onPav n (fun p => { p with storeSoft := p.storeSoft.filter (fun w => !soft.contains w) })
    d2.pavEvents n ((if soft.isEmpty then [] else [.storeCorr 1]) ++ bad.map (fun w => .storeUncorr (16 * w)))

/-- STORE_SCRUB_READ. -/
def execStoreScrubRead (pav line : Nat) (hits : Hits) (s : State) : Host.Outcome State Fault Refusal :=
  onDev (·.storeScrub pav line hits) s

/-- Lines of a weight tier (R251). -/
def tierLines : Nat := 6291456

/-- A corrected word of a tier written back, where no load write has taken its place (R260). -/
def Dev.writeBack (d : Dev) (n : Nat) : Dev :=
  let q := (d.pav n).scrubQ
  if q.isEmpty then d
  else (d.onPav n (fun p => { p with scrubQ := [], tierSoft := p.tierSoft.filter (fun w => !q.contains w) })).count 0x0A0 0x108 q.length

/-- A line read by the sweep port (R260), which goes through the tier in ascending order, over and over: corrected words queued
for write-back, uncorrectable ones logged without a step fault; the last line ends a pass. -/
def Dev.tierScrub (d : Dev) (n line : Nat) (hits : Hits) : Dev :=
  if (d.pav n).fused || line ≠ (d.pav n).sweepLine || !bitN (d.rgN 0x0A0 0x434 0) 0 || !bitN d.power.domains (n / 2) then d
  else
    let d1 := d.onPav n (·.tierHits (hits.filter (fun h => (lineWords line).contains h.1)))
    let ws := lineWords line
    let bad := ws.filter (fun w => (d1.pav n).tierBad.contains w)
    let soft := ws.filter (fun w => (d1.pav n).tierSoft.contains w && !bad.contains w)
    let d2 := d1.onPav n (fun p => { p with
      scrubQ := p.scrubQ ++ soft.filter (fun w => !p.scrubQ.contains w), sweepLine := if line + 1 = tierLines then 0 else line + 1 })
    let d3 := if soft.isEmpty then d2
      else (d2.count 0x0A0 0x100 soft.length).raise 0x0A0 0 ⟨some n, none, n, d2.rgN 0x0A0 0x42C 0, 0⟩
    let d4 := forEach bad d3 (fun t w =>
      (((t.setN 0x0A0 0x42C 0 (16 * w)).setN 0x0A0 0x430 0 (n + 32)).count 0x0A0 0x104 1).raiseAs 0x0A0 1 .none
        ⟨some n, none, n + 32, 16 * w, 0⟩)
    if line + 1 = tierLines then d4.count 0x0A0 0x114 1 else d4

/-- WTIER_SCRUB. -/
def execWtierScrub (pav line : Nat) (hits : Hits) (s : State) : Host.Outcome State Fault Refusal :=
  onDev (·.tierScrub pav line hits) s

/-- The descriptor in REGION_STAGE (R254), GEN and STATE as they will be, and whether its reserved fields are 0. -/
def Dev.regionStage (d : Dev) : Region × Bool :=
  let w (k : Nat) : Nat := d.rgN 0x0A0 (0x414 + 4 * k) 0
  (⟨w 0, bitsN (w 1) 0 16, 0, 1, bitN (w 1) 23, bitsN (w 1) 24 4, w 2, bitsN (w 3) 0 13, bitsN (w 3) 16 13, 0⟩,
   decide (bitsN (w 1) 28 4 = 0) && decide (bitsN (w 3) 13 3 = 0) && decide (bitsN (w 3) 29 3 = 0))

/-- Do two regions overlap in some pavilion (R255)? -/
def Region.meets (a b : Region) : Bool :=
  (a.pavMask &&& b.pavMask) ≠ 0 && decide (a.base < b.base + b.len) && decide (b.base < a.base + a.len)

/-- A rule of R255 that a new region would break against one in the table. -/
def Region.clashes (a b : Region) : Bool :=
  b.st ≠ 0 && ((a.plot = b.plot && a.name = b.name && a.epoch = b.epoch) || (!(a.swappable && b.swappable) && a.meets b))

/-- The result of a CREATE (R255): 0 OK, 1 OVERLAP, 3 RANGE, 4 PLOT, 5 STATE; checks in the order of the rule. -/
def Dev.regionCheck (d : Dev) (idx : Nat) (r : Region) (rsvOk : Bool) : Nat :=
  let p := d.plot r.plot
  if (d.region idx).st ≠ 0 then 5
  else if r.len = 0 ∨ 6144 < r.len ∨ 6144 < r.base + r.len ∨ r.pavMask = 0 ∨ !rsvOk then 3
  else if p.st ≠ 1 ∨ !inRange p.descRange idx ∨ (bitList r.pavMask 32).any (fun n => !bitN p.pairs (n / 2)) then 4
  else if d.regions.any (fun e => r.clashes e.2) then 1
  else 0

/-- A region command's result shown, and its refusal recorded (R282). -/
def Dev.regionResult (d : Dev) (code : Nat) : Dev :=
  let d1 := d.setN 0x0A0 0x428 0 code
  if code = 0 then d1 else d1.record 0x0A0 3 Where.none

/-- The places (region, pavilion) at which a region in a pavilion meets another region that lies in place there. -/
def Dev.metBy (d : Dev) (idx n : Nat) : List (Nat × Nat) :=
  d.inPlace.filter (fun e => e.2 = n && e.1 ≠ idx && (d.region e.1).meets (d.region idx))

/-- A swappable region in place in a pavilion's tier (R259): those it overwrites no longer are. -/
def Dev.putInPlace (d : Dev) (idx n : Nat) : Dev :=
  let out := d.metBy idx n
  { d with inPlace := d.inPlace.filter (fun e => !out.contains e && e ≠ (idx, n)) ++ [(idx, n)] }

/-- The backing images of a region taken from the tiers it has been loaded into, encrypted under the plot's key, and the region in
place there (R259): where an image lies in LPDDR5X the spec does not say, and it is kept beside it (log entry 46). -/
def Dev.backUp (d : Dev) (idx : Nat) : Dev :=
  let g := d.region idx
  if !g.swappable then d
  else forEach (bitList g.pavMask 32) d (fun s n =>
    let k := s.key (if s.plotsMode then g.plot else 0)
    let img := (s.pav n).tier.window (g.base * 65536) (g.len * 65536)
    (({ s with backing := s.backing.put (32 * idx + n) (k.serial, img) }).count 0x090 0x100 (g.len * 1024)).putInPlace idx n)

/-- The bytes of a region's backing image as the plot's key now decrypts them (R259, R275): a free value once the key is another. -/
def Dev.backed (d : Dev) (idx n : Nat) : Mem :=
  let g := d.region idx
  let e := d.backing.get (32 * idx + n) (0, [])
  let k := d.key (if d.plotsMode then g.plot else 0)
  if k.loaded && e.1 = k.serial then e.2
  else (List.range (g.len * 65536)).map (fun o => (o, Config.foreignByte k.serial (2 ^ 39 + 2 ^ 29 * (32 * idx + n) + o)))

/-- CREATE of a region (R255, R256): FREE becomes LOADING, GEN advances. Swappable regions that the loading will overwrite no
longer are in place (R259). -/
def Dev.regionCreate (d : Dev) (idx : Nat) : Dev :=
  let st := d.regionStage
  let code := d.regionCheck idx st.1 st.2
  let d1 := if code = 0 then d.setRegion idx { st.1 with gen := ((d.region idx).gen + 1) % 16 } else d
  let d2 := if code = 0 then forEach (bitList st.1.pavMask 32) d1 (fun s n =>
      let out := (idx, n) :: s.metBy idx n
      { s with inPlace := s.inPlace.filter (fun e => !out.contains e) })
    else d1
  d2.regionResult code

/-- FREE of a region, as its tick ends (R257): BUSY in LOADING or IN_USE, STATE when FREE already. -/
def Dev.freeNow (d : Dev) (idx : Nat) : Dev :=
  let r := d.region idx
  if r.st = 1 ∨ r.st = 3 then d.regionResult 2
  else if r.st = 0 then d.regionResult 5
  else
    let names (x : Shard) : Bool := x.local_ && x.plot = r.plot && x.name = r.name && x.epoch = r.epoch
    ({ (d.setRegion idx { r with st := 0 }) with shards := d.shards.filter (fun e => !names e.2) }).regionResult 0

/-- FREE of a region (R257): a reference taken in the same tick comes first, so the command is judged as the tick ends. -/
def Dev.regionFree (d : Dev) (idx : Nat) : Dev :=
  if (d.region idx).st = 2 ∨ (d.region idx).st = 4 then { d with tickEnd := d.tickEnd ++ [.freeRegion idx] } else d.freeNow idx

/-- ABANDON of a region (R257): LOADING becomes FAILED at once. -/
def Dev.regionAbandon (d : Dev) (idx : Nat) : Dev :=
  let r := d.region idx
  if r.st = 1 then (d.setRegion idx { r with st := 4 }).regionResult 0 else d.regionResult 5

/-- REGION_CREATE. -/
def execRegionCreate (r : Route) (idx : Nat) (s : State) : Host.Outcome State Fault Refusal :=
  onReg r 0x0A0 0x424 (idx % 1024 + 2 ^ 10) (·.regionCreate (idx % 1024)) s

/-- REGION_FREE. -/
def execRegionFree (r : Route) (idx : Nat) (s : State) : Host.Outcome State Fault Refusal :=
  onReg r 0x0A0 0x424 (idx % 1024 + 2 ^ 11) (·.regionFree (idx % 1024)) s

/-- REGION_ABANDON. -/
def execRegionAbandon (r : Route) (idx : Nat) (s : State) : Host.Outcome State Fault Refusal :=
  onReg r 0x0A0 0x424 (idx % 1024 + 3 * 2 ^ 10) (·.regionAbandon (idx % 1024)) s

/-- A key pair drawn for an EMPTY slot from the entropy source (R276): eight words, known by the count of the first. -/
def Dev.keyNew (d : Dev) (slot : Nat) : Dev :=
  let n := d.free + 1
  { d with free := d.free + 8, keys := d.keys.put slot { d.key slot with loaded := true, serial := n, pair := keyPair n } }

/-- A slot destroyed (R276): keys overwritten, EMPTY, the next generation. -/
def Dev.keyKill (d : Dev) (slot : Nat) : Dev :=
  { d with keys := d.keys.put slot ⟨false, ((d.key slot).gen + 1) % 256, 0, List.replicate 64 0⟩ }

/-- GENERATE: NOT_EMPTY for a slot that is LOADED. -/
def Dev.keyGenerate (d : Dev) (slot : Nat) : Dev :=
  if (d.key slot).loaded then (d.setN 0x090 0x40C 0 1).record 0x090 1 Where.none
  else (d.keyNew slot).setN 0x090 0x40C 0 0

/-- DESTROY: NOT_LOADED for a slot that is EMPTY. It takes effect from the tick after the command (R277). -/
def Dev.keyDestroy (d : Dev) (slot : Nat) : Dev :=
  if (d.key slot).loaded then ({ d with tickEnd := d.tickEnd ++ [TickAct.killKey slot] }).setN 0x090 0x40C 0 0
  else (d.setN 0x090 0x40C 0 2).record 0x090 1 Where.none

/-- What commands have left for the end of the tick, in their order; the fence bits that the tick has written apply from now on
(R311). -/
def Dev.endTick (d : Dev) : Dev :=
  forEach d.tickEnd { d with tickEnd := [], fencePrev := [] } (fun s a => match a with
    | .freeRegion idx => s.freeNow idx
    | .killKey slot => s.keyKill slot)

/-- KEY_GENERATE. -/
def execKeyGenerate (r : Route) (slot : Nat) (s : State) : Host.Outcome State Fault Refusal :=
  onReg r 0x090 0x408 (slot % 16 + 16) (·.keyGenerate (slot % 16)) s

/-- KEY_DESTROY. -/
def execKeyDestroy (r : Route) (slot : Nat) (s : State) : Host.Outcome State Fault Refusal :=
  onReg r 0x090 0x408 (slot % 16 + 32) (·.keyDestroy (slot % 16)) s

end Sys2Proof.Machine
end

