-- ==== Sys2Proof/Machine/Steps.lean ====
section
/-! DEFINITION. The beat barrier, the end of a step, stretched cycles, oscillators, resets of a crossing's side, and issue memory (R14 to R34, R226, R357 to R371, R512, R515). -/
namespace Sys2Proof.Machine

/-- The hold the power controller adds to a barrier release (R539). -/
def Dev.hold (d : Dev) : Nat := max d.power.hp (max d.power.ht d.power.hc)

/-- H as a release of an elapsed tick uses it (R540): a change in that tick applies from the next release. -/
def Dev.holdAt (d : Dev) (t : Nat) : Nat := ((d.power.holds.find? (fun e => decide (t ≤ e.1))).map (·.2)).getD d.hold

/-- The hold of a release that happens now (R540): the H that was in force at the tick it would have happened without it. -/
def Dev.releaseHold (d : Dev) : Nat :=
  ((d.power.holds.map (·.2) ++ [d.hold]).find? (fun h => d.holdAt (d.time.elapsed - h) = h)).getD d.hold

/-- A change of the power unit, with a change of H noted. -/
def Dev.onHold (d : Dev) (f : Dev → Dev) : Dev :=
  let e := f d
  if e.hold = d.hold then e
  else { e with power := { e.power with
    holds := e.power.holds.filter (fun x => decide (d.time.elapsed ≤ x.1 + 1024)) ++ [(d.time.elapsed, d.hold)] } }

/-- Does the running variant of a plot hold an issue stream for a pavilion? -/
def Dev.hasStream (d : Dev) (p n : Nat) : Bool :=
  match d.variantOf p with
  | some v => v.streams.any (fun e => e.1 = n)
  | none => false

/-- Has a pavilion of the group raised its beat mark in the current beat (R18)? One without an issue stream issues empty
words and raises it by itself (R17). -/
def Dev.marked (d : Dev) (p n : Nat) : Bool :=
  let q := d.pav n
  let b := (d.step p).beat
  !d.hasStream p n || decide (256 * b + 240 ≤ q.cycle) || (q.stall.isNone && decide (256 * b + 239 ≤ q.cycle))

/-- A gated pavilion started again by a release: its gated ticks counted, those beyond the throttle as hold (R19, R38). -/
def Dev.ungate (d : Dev) (h n : Nat) : Dev :=
  let q := d.pav n
  if q.gated then
    let t := d.time.elapsed - q.gatedSince
    (d.onPav n (fun x => { x with lost := { x.lost with hold := x.lost.hold + (t - h) } })).closeGate n
  else d

/-- The barrier releases the next beat (R18, R21, R539, R540): every pavilion of the group has raised its mark. A throttled release is
one that begins a next beat, so a step of n beats is held at n - 1 of them (R32; DESIGN CHOICE, log entry 168). -/
def Dev.beatRelease (d : Dev) (p : Nat) : Dev :=
  let sc := d.step p
  if !sc.running || sc.beats ≤ sc.beat + 1 || !(bitList sc.group 32).all (d.marked p ·) then d
  else
    let h := d.releaseHold
    let d1 := forEach (bitList sc.group 32) d (fun s n => s.ungate h n)
    d1.setStep p { sc with beat := sc.beat + 1, throttle := sc.throttle + h }

/-- BEAT_RELEASE. -/
def execBeatRelease (plot : Nat) (s : State) : Host.Outcome State Fault Refusal := onDev (·.beatRelease plot) s

/-- Has a pavilion of the group retired cycle 255 of the last beat (R17, R20)? -/
def Dev.retired (d : Dev) (p n : Nat) : Bool :=
  let q := d.pav n
  !d.hasStream p n || (q.ended && q.stall.isNone)

/-- The cause of a missed deadline (R33): THROTTLE where the throttle ticks cover the overrun, else the category with the
most ticks, the lower code of equal ones. -/
def missCause (overrun throttle : Nat) (cats : List Nat) : Nat :=
  if overrun ≤ throttle then 5
  else
    let l := cats ++ [throttle]
    (((List.range l.length).zip l).foldl (fun (b : Nat × Nat) e => if b.2 < e.2 then (e.1 + 1, e.2) else b) (1, l.headD 0)).1

/-- The bytes of a pavilion's declared live working set (R278, R515). -/
def Dev.liveBytes (d : Dev) (b : BundleBody) (n : Nat) : List Byte :=
  (b.live.filter (fun r => r.pav = n)).flatMap (fun r => (d.pav n).store.bytes r.off r.len)

/-- The end of a canary step that is not withheld (R515): each pavilion's digest compared with its table entry. -/
def Dev.canaryCheck (d : Dev) (p c : Nat) : Dev :=
  match (d.ctx c).active, d.localMem (d.rg64 0x000 0x84C 0) with
  | some b, some base =>
    let grp := bitList (d.step p).group 32
    let bad := grp.filter (fun n => sha384 (d.liveBytes b.body n) ≠ d.lpRead (base + 48 * n) 48)
    let map := bad.foldl (fun m n => m + 2 ^ n) 0
    let d1 := (d.count 0x000 0x190 1).count 0x000 0x194 bad.length
    let d2 := { d1 with recov := { d1.recov with canaryDue := false, canaryAt := d1.time.elapsed, canaryStat := if map = 0 then 1 else 2 } }
    if map = 0 then d2
    else (d2.setN 0x000 0x848 0 (d2.rgN 0x000 0x848 0 ||| map)).raise 0x000 16
      ⟨none, some p, map, (d2.ctx c).steps.toNat + 1, 0⟩
  | _, _ => d

/-- A pavilion at the end of a step: what is still on its way lands, and it goes IDLE. -/
def Dev.finishPav (d : Dev) (p n : Nat) : Dev :=
  let d1 := d.moveTo n (256 * (d.step p).beats + 63)
  (d1.closeGate n).onPav n (fun q => { q with run := .idle, stall := none, held := [] })

/-- The end of a step (R16, R20, R28, R29, R32 to R34): its duration judged against the deadline, its lost ticks charged,
the slice's overrun counted. -/
def Dev.stepEnd (d : Dev) (p : Nat) : Dev :=
  let sc := d.step p
  let grp := bitList sc.group 32
  if !sc.running || sc.beat + 1 ≠ sc.beats || !grp.all (d.retired p ·) then d
  else
    let now := d.time.count
    let no := d.stepNo p
    let dur := (now - sc.start).toNat
    let missed := decide (sc.deadline < dur)
    let d1 := forEach grp d (fun s n => s.finishPav p n)
    let d2 := d1.chargeStep p
    let cats := [stretchTicks (d2.groupMax sc.group (·.stretchFs)), d2.groupMax sc.group (·.crossing),
      d2.groupMax sc.group (·.staging), d2.groupMax sc.group (·.fabric)]
    let cause := if missed then missCause (dur - sc.deadline) sc.throttle cats else 0
    let d3 := if missed then
        (d2.countB 0x005 0x100 p 1).raiseB 0x005 p 0 false ⟨none, some p, 5 + 2 ^ 16 * d2.number, (((d2.ctx sc.ctx).launch).getD 0).toNat, 0⟩ .deadline
      else d2
    let sc3 := d3.step p
    let d4 := if sc3.canary then
        (if sc3.withheld then { d3 with recov := { d3.recov with canaryDue := true } } else d3.canaryCheck p sc.ctx)
      else d3
    let sc4 := d4.step p
    let d6 := (d4.sliceLate p).setStep p { sc4 with
      running := false, abandoned := false, endTick := now, lastDur := min dur (2 ^ 32 - 1)
      lastRes := BitVec.ofNat 32 (cause + (if missed then 16 else 0) + (if sc4.varExec then 64 else 0) + 256 * sc.ctx) }
    (d6.onCtx sc.ctx (fun x => { x with
      steps := no
      ended := some ⟨no, sc.variant, now, d6.time.elapsed, sc4.withheld, sc4.varExec, sc4.canary⟩ })).verdictSend sc.ctx no (!sc4.withheld)

/-- STEP_END_BARRIER. -/
def execStepEndBarrier (plot : Nat) (s : State) : Host.Outcome State Fault Refusal := onDev (·.stepEnd plot) s

/-- A cycle of a pavilion with its monitors' margins (R360 to R362): where one is at or below the warning level, the next
cycle is stretched to twice the oscillator's unstretched period; the 17th of a beat raises the margin alarm. The cycle after cycle 255
is cycle 0 of the next beat. -/
def Dev.monitor (d : Dev) (n : Nat) (margins : List Nat) : Dev :=
  let p := d.pav n
  if p.run ≠ .running || p.stall.isSome || p.gated || margins.length ≠ 8 then d
  else
    let pg := pavPage n
    let lvl := bitsN (d.rgN pg 0x60C 0) 0 6
    let warns := margins.map (fun m => decide (min m 63 ≤ lvl))
    let d1 := forEach ((List.range 8).zip margins) d (fun s e =>
      let m := min e.2 63
      let old := s.rgN pg (0x620 + 4 * e.1) 0
      let low := if old = 0 then m else min m (bitsN old 8 6)
      let warned := bitN old 14 || decide (m ≤ lvl)
      s.setN pg (0x620 + 4 * e.1) 0 (m + 256 * low + (if warned then 2 ^ 14 else 0)))
    let d2 := d1.onPav n (fun q => { q with minMargin := margins.foldl min q.minMargin, slowPeriod := warns.any id })
    if !warns.any id then d2
    else
      let next := p.cycle % 256 = 255
      let d3 := (d2.onPav n (fun q => { q with
        stretched := if next then q.stretched else q.stretched + 1, carryStretch := if next then 1 else q.carryStretch
        lost := { q.lost with stretch := q.lost.stretch + 1, stretchFs := q.lost.stretchFs + d.rgN pg 0x604 0 } })).count pg 0x120 1
      if !next && (d3.pav n).stretched = 17 then (d3.countB 0x005 0x124 p.plot 1).raise pg 6 (pavWhere n 0 0) else d3

/-- CYCLE_STRETCH. -/
def execCycleStretch (pav : Nat) (margins : List Nat) (s : State) : Host.Outcome State Fault Refusal :=
  onDev (·.monitor pav margins) s

/-- The oscillator state of a pavilion (R358), and its setting with a frequency error in ppm. -/
def Dev.oscState (d : Dev) (n : Nat) : Nat := bitsN (d.rgN (pavPage n) 0x600 0) 2 4
def Dev.setOsc (d : Dev) (n st : Nat) (ppm : Int) : Dev :=
  d.setN (pavPage n) 0x600 0 (4 * st + 2 ^ 16 * patternN 16 ppm)
def Dev.oscPpm (d : Dev) (n : Nat) : Int := signedN 16 (bitsN (d.rgN (pavPage n) 0x600 0) 16 16)

/-- The unstretched period in femtoseconds at a frequency error, to the nearest (R357: 1.5 GHz at 0). -/
def oscPeriod (ppm : Int) : Nat := (666666666667 + (1000000 + ppm).toNat / 2) / (1000000 + ppm).toNat

/-- The crossings of a pavilion to pavilions outside its pair, each with the pavilion across (R370). -/
def outerSides (n : Nat) : List (Nat × Nat) :=
  (List.range 8).filterMap (fun x => (neighbour n x).bind (fun q => if q / 2 = n / 2 then none else some (x, q)))

/-- A notice sent: REQ toggles, or, while one of its signal is unacknowledged, the sender counts it (R366). -/
def Pav.notify (p : Pav) (key now : Nat) : Pav :=
  if (p.hsOpen.find key).isSome then { p with hsMore := p.hsMore.put key (p.hsMore.get key 0 + 1) }
  else { p with hsOpen := p.hsOpen.put key now }

/-- ACK of a notice: the sender sends the next of those it has counted (R366). -/
def Pav.noticeAck (p : Pav) (key now : Nat) : Pav :=
  match p.hsMore.get key 0 with
  | 0 => { p with hsOpen := p.hsOpen.del key }
  | k + 1 => { p with hsOpen := p.hsOpen.put key now, hsMore := p.hsMore.put key k }

/-- A pavilion whose reset is over goes IDLE: its oscillator is locked, its power-on initialisation done (R252), and no far side that
was reset beside it is still to report (R371). -/
def Dev.leaveReset (d : Dev) (n : Nat) : Dev :=
  d.onPav n (fun p => if p.run = .reset && d.oscState n = 2 && p.awaits.isEmpty && !bitN d.power.initLeft (n / 2) then { p with run := .idle } else p)

/-- An oscillator locks (R358, R370, R371): ACQUIRE becomes LOCKED, a ready notice goes to each side that the reset has cut off, and a
pavilion out of reset goes IDLE, or stays FENCED until UNFENCE (R619). It does not lock while its pair is held in reset (R598). -/
def Dev.oscLock (d : Dev) (n : Nat) : Dev :=
  let ctl := d.rgN (pavPage n) 0x030 0
  if (d.pav n).fused || d.oscState n ≠ 1 || bitN ctl 0 then d
  else
    let sides := outerSides n
    let told := (sides.filter (fun e => bitN (d.rgN (pavPage e.2) 0x644 0) (facing e.1) || ((d.pav n).hsOpen.find (2 * e.1)).isSome)).map (·.1)
    let there := (sides.filter (fun e => d.oscState e.2 = 2)).map (·.1)
    (((((d.setOsc n 2 0).setN (pavPage n) 0x604 0 (oscPeriod 0)).setN (pavPage n) 0x030 0 0).onPav n (fun p =>
      forEach told { p with lockedOnce := true, oscBadWindows := 0, awaits := p.awaits.filter (fun x => !there.contains x) }
        (fun q x => q.notify (2 * x + 1) d.time.elapsed)))).leaveReset n

/-- OSC_LOCK. -/
def execOscLock (pav : Nat) (s : State) : Host.Outcome State Fault Refusal := onDev (·.oscLock pav) s

/-- The end of a window of the frequency-locked loop (R357 to R359): four windows in a row beyond 2,000 ppm, or no period,
lose the lock: a class F fault that abandons the group's step and fences the pavilion. -/
def Dev.fllWindow (d : Dev) (n : Nat) (ppm : Int) (periods : Bool) : Dev :=
  let st := d.oscState n
  if (d.pav n).fused || !(st = 1 || st = 2) then d
  else
    let bad := if 2000 < ppm.natAbs then (d.pav n).oscBadWindows + 1 else 0
    let d1 := ((d.setOsc n st ppm).setN (pavPage n) 0x604 0 (if periods then oscPeriod ppm else d.rgN (pavPage n) 0x604 0)).onPav n
      (fun p => { p with oscBadWindows := bad })
    if st = 2 && (decide (4 ≤ bad) || !periods) then
      (d1.setOsc n 3 ppm).raiseB 0x004 0 6 true (pavWhere n 0 0) .localFault
    else d1

/-- FLL_WINDOW. -/
def execFllWindow (pav : Nat) (ppm : Int) (periods : Bool) (s : State) : Host.Outcome State Fault Refusal :=
  onDev (·.fllWindow pav ppm periods) s

/-- UNFENCE (R512): a fenced pavilion whose pair has been reset and whose oscillator is locked returns to service, and the
sets of its plot are chosen anew (R237). -/
def Dev.unfence (d : Dev) (n : Nat) : Dev :=
  if (d.pav n).run ≠ .fenced || d.oscState n ≠ 2 || !(d.pav n).lockedOnce then d
  else
    let d1 := d.onPav n (fun p => { p with run := .idle })
    match d1.pavPlot n with
    | some p => d1.reselectPlot p
    | none => d1

/-- A command that no register carries and that the MANAGE class allows (DEDUCED, log entry 28). -/
def onManage (r : Route) (f : Dev → Dev) (s : State) : Host.Outcome State Fault Refusal :=
  .next (if !s.dev.powered then s
    else if (s.rights r).manage then { s with dev := f s.dev }
    else { s with dev := s.dev.refuse 0 0 1 false })

/-- UNFENCE. -/
def execUnfence (r : Route) (pav : Nat) (s : State) : Host.Outcome State Fault Refusal := onManage r (·.unfence pav) s

/-- The pavilions of a plot that can run: owned, on, idle or running, with a locked oscillator (R15, R358). -/
def Dev.groupOf (d : Dev) (p : Nat) : List Nat :=
  (List.range 32).filter (fun n => bitN (d.plot p).pairs (n / 2) &&
    ((d.pav n).run = .idle || (d.pav n).run = .running) && d.oscState n = 2)

/-- The bundle the next release of a context runs, with its set and the number under which an issue-memory bank holds it: a
requested activation's bundle counts from 128 on (R225, R226). A set of the active bundle runs only while R238 allows one. -/
def Dev.nextBundle (d : Dev) (c : Nat) : Option (Bundle × Nat × Nat) :=
  let x := d.ctx c
  match d.taking c, x.staged.bundle with
  | true, some b => (d.chooseSet x.plot b).map (fun k => (b, k, 128 + k))
  | _, _ => match x.active with
    | some b => if x.noVariant then none else some (b, x.want, x.want)
    | none => none

/-- A bank of a pavilion's issue memory filled: the one that does not hold the set that runs. -/
def Pav.fillBank (p : Pav) (c running key : Nat) : Pav :=
  if p.banks.contains (some (c, key)) then p
  else
    let k := if nthD p.banks 0 none = some (c, running) then 1 else 0
    { p with banks := setAt p.banks k (some (c, key)) }

/-- The Gatehouse fills the free banks for a context's next set (R226, R237), or meets an uncorrectable error. -/
def Dev.issueFill (d : Dev) (c : Nat) (ok : Bool) : Dev :=
  match d.nextBundle c with
  | none => d
  | some (_, _, key) =>
    let x := d.ctx c
    if !ok then (d.setCtx c { x with imageEcc := true }).raise 0x002 3 ⟨none, some x.plot, 0, 0, 0⟩
    else
      let ns := (d.groupOf x.plot).filter (fun n => !(d.pav n).banks.contains (some (c, key)))
      let d1 := forEach ns d (fun s n => s.onPav n (·.fillBank c x.set key))
      (d1.onCtx c (fun y => { y with imageEcc := false })).count 0x002 0x118 ns.length

/-- ISSUE_FILL. -/
def execIssueFill (ctx : Nat) (ok : Bool) (s : State) : Host.Outcome State Fault Refusal := onDev (·.issueFill ctx ok) s

/-- The effect of a reset notice on the neighbour (R370, order 2): its inbound FIFO flushed, the generation advanced, its
free entries toward that side taken away, the crossing HELD. -/
def Dev.takeReset (d : Dev) (n x : Nat) : Dev :=
  let pg := pavPage n
  let d1 := d.onPav n (fun p => { p with
    fifos := p.fifos.put x [], inGen := p.inGen.put x (p.inGen.get x 0 + 1), freeCnt := p.freeCnt.put x 0
    freed := p.freed.put x 0, cut := if p.cut.contains x then p.cut else p.cut ++ [x] })
  (d1.setN pg 0x644 0 (d1.rgN pg 0x644 0 ||| 2 ^ x)).raise pg 8 (pavWhere n 0 0)

/-- Can a side acknowledge a notice (R364, R367): its power on, its oscillator going, not held in reset? -/
def Dev.acks (d : Dev) (n : Nat) : Bool := (d.pav n).run ≠ .off && !bitN (d.rgN (pavPage n) 0x030 0) 0 && d.oscState n ≠ 3

/-- RESET_NOTICE (R366, R370): a pavilion takes the notice of the side across a crossing that is in reset, and acknowledges
it. -/
def Dev.resetNotice (d : Dev) (n x : Nat) : Dev :=
  match neighbour n x with
  | none => d
  | some q =>
    if !d.acks n || ((d.pav q).hsOpen.find (2 * facing x)).isNone then d
    else (d.onPav q (·.noticeAck (2 * facing x) d.time.elapsed)).takeReset n x

/-- RESET_NOTICE. -/
def execResetNotice (pav x : Nat) (s : State) : Host.Outcome State Fault Refusal := onDev (·.resetNotice pav x) s

/-- READY_NOTICE (R370, order 4): the side across the crossing is out of reset and stamps its flits with the new generation;
16 free entries again. A pavilion that has waited for it goes IDLE (R371). -/
def Dev.readyNotice (d : Dev) (n x : Nat) : Dev :=
  match neighbour n x with
  | none => d
  | some q =>
    let pg := pavPage n
    let y := facing x
    let held := d.rgN pg 0x644 0
    if !d.acks n || ((d.pav q).hsOpen.find (2 * y + 1)).isNone || ((d.pav q).hsOpen.find (2 * y)).isSome || d.oscState q ≠ 2 then d
    else
      let d1 := (d.setN pg 0x644 0 (if bitN held x then held - 2 ^ x else held)).onPav q (fun p =>
        { p.noticeAck (2 * y + 1) d.time.elapsed with outGen := p.outGen.put y ((d.pav n).inGen.get x 0) })
      (d1.onPav n (fun p => { p with
        freeCnt := p.freeCnt.put x 16, outGen := p.outGen.put x ((d1.pav q).inGen.get y 0), cut := p.cut.filter (· ≠ x)
        awaits := p.awaits.filter (· ≠ x) })).leaveReset n

/-- READY_NOTICE. -/
def execReadyNotice (pav x : Nat) (s : State) : Host.Outcome State Fault Refusal := onDev (·.readyNotice pav x) s

/-- HANDSHAKE_TIMEOUT (R367): no ACK within the stall timeout of a notice's REQ: the far side counts as reset; a step whose group holds
it is abandoned. -/
def Dev.handshakeTimeout (tie : Nat) (d : Dev) (n x : Nat) : Dev :=
  let due (key : Nat) : Bool := ((d.pav n).hsOpen.find key).any (fun since => decide (since + d.stallTicks + tie ≤ d.time.elapsed))
  match [2 * x, 2 * x + 1].find? due, neighbour n x with
  | some key, some q =>
    let pg := pavPage n
    let d1 := d.onPav n (·.noticeAck key d.time.elapsed)
    let d2 := (d1.setN pg 0x644 0 (d1.rgN pg 0x644 0 ||| 2 ^ (8 + x))).count 0x004 0x11C 1
    let d3 := (d2.raise 0x004 7 (pavWhere n 0 0)).takeReset n x
    forEach ((List.range 16).filter (fun p => (d3.step p).running && bitN (d3.step p).group q)) d3
      (fun s p => s.abandon p .localFault s.number 0)
  | _, _ => d

/-- HANDSHAKE_TIMEOUT. -/
def execHandshakeTimeout (pav x : Nat) (s : State) : Host.Outcome State Fault Refusal := onTimer (fun tie d => d.handshakeTimeout tie pav x) s

end Sys2Proof.Machine
end

