-- ==== Sys2Proof/Machine/KioskOps.lean ====
section
/-! DEFINITION. What the Kiosk's commands share: its registers, accounts, KV pages and their chains, records and rings, mirrors, the acceptance of commands (R390 to R397, R404, R407 to R411, R415 to R419, R427, R572). -/
namespace Sys2Proof.Machine

/-- CTX_CFG of a context (R435), and its bits. -/
def Dev.kcfg (d : Dev) (c : Nat) : Nat := d.rgN 0x003 0x404 c
def Dev.serves (d : Dev) (c : Nat) : Bool := bitN (d.kcfg c) 0
def Dev.follows (d : Dev) (c : Nat) : Bool := bitN (d.kcfg c) 6
def Dev.retryLimit (d : Dev) (c : Nat) : Nat := bitsN (d.kcfg c) 8 4

/-- The time count as a number. -/
def Dev.now (d : Dev) : Nat := d.time.count.toNat

/-- A sequence handle as recipes and records carry it (R232, R390, R416): index, then generation. -/
def handleOf (i gen : Nat) : Nat := i + 2 ^ 18 * gen
def Dev.handle (d : Dev) (i : Nat) : Nat := handleOf i (d.seq i).gen

/-- Where the extension of a sequence lies (R393). -/
def Dev.extOff (d : Dev) (i : Nat) : Nat :=
  let c := (d.seq i).ctx
  gaOff (d.rg64 0x003 0x418 c) + 1024 * (i - bitsN (d.rgN 0x003 0x410 c) 0 18)

/-- A field of the extension read, and written. -/
def Dev.extGet (d : Dev) (i off n : Nat) : Nat := d.lpNat (d.extOff i + off) n
def Dev.extPut (d : Dev) (i off n v : Nat) : Dev := d.lpWrite (d.extOff i + off) (toBytes n v)

/-- The sequences of a context, in index order. -/
def Dev.seqsOf (d : Dev) (c : Nat) : List (Nat × SeqEntry) := d.seqs.filter (fun e => e.2.ctx = c && e.2.st ≠ .free)

/-- An account, and its refill at an elapsed tick (R373, R408). -/
def Dev.acct (d : Dev) (a : Nat) : Account := d.accts.get a Account.blank
def Account.refill (a : Account) (t : Nat) : Account :=
  { a with level := min (a.burst * 1000000) (a.level + ((a.rate * (t - a.lastTick) / 1000 : Nat) : Int)), lastTick := t }
def Dev.refill (d : Dev) (a t : Nat) : Dev := { d with accts := d.accts.put a ((d.acct a).refill t) }

/-- A charge at a commit whose tick is the count `t` (R408): in units, from the level in micro-units. -/
def Dev.charge (d : Dev) (a t prompt gen : Nat) : Dev :=
  let x := (d.acct a).refill (d.time.elapsed - (d.now - t))
  let n := prompt * x.promptCost + gen * x.genCost
  { d with accts := d.accts.put a { x with level := x.level - 1000000 * n, service := x.service + n } }

/-- The fairness order (R409): does request `x` come before request `y`? -/
def Dev.fairLe (d : Dev) (x y : Nat) : Bool :=
  let ex := d.seq x
  let ey := d.seq y
  let a := d.acct ex.account
  let b := d.acct ey.account
  let l := a.service * b.weight
  let r := b.service * a.weight
  if l ≠ r then decide (l < r)
  else if ex.account ≠ ey.account then decide (ex.account < ey.account)
  else
    let tx := d.extGet x 0x18 8
    let ty := d.extGet y 0x18 8
    if tx ≠ ty then decide (tx < ty) else decide (x ≤ y)

/-- A list put in order by insertion. -/
def insertBy {α : Type} (le : α → α → Bool) (x : α) : List α → List α
  | [] => [x]
  | y :: ys => if le x y then x :: y :: ys else y :: insertBy le x ys
def sortBy {α : Type} (le : α → α → Bool) (l : List α) : List α := l.foldl (fun s x => insertBy (fun a b => !le b a) x s) []

/-- The packages of a plot that are in service (R427), and the page its KV pages begin with in each: system pages lie first
in the lowest one (R463). -/
def Dev.plotPkgs (d : Dev) (p : Nat) : List Nat := (bitList (d.plot p).packages 16).filter d.mcServes
def Dev.kvFirst (d : Dev) (p pkg : Nat) : Nat := pkg * 2 ^ 20 + (if (d.plot p).sysPackage = pkg then (d.plot p).sysPages else 0)

/-- PAGES_FREE, PAGES_RESERVED (R404, R435) and the KV pages a plot has at all. -/
def Dev.kvTotal (d : Dev) (p : Nat) : Nat :=
  (d.plotPkgs p).foldl (fun n k => n + ((k + 1) * 2 ^ 20 - d.kvFirst p k)) 0
def Dev.pagesFree (d : Dev) (p : Nat) : Nat :=
  let pk := d.plotPkgs p
  d.kvTotal p - (d.pages.filter (fun e =>
    pk.contains (e.1 / 2 ^ 20) && decide (d.kvFirst p (e.1 / 2 ^ 20) ≤ e.1) && e.2.st ≠ 0)).length
def Dev.pagesReserved (d : Dev) (p : Nat) : Nat :=
  (d.seqs.filter (fun e => e.2.st ≠ .free && (d.ctx e.2.ctx).plot = p)).foldl (fun n e => n + e.2.reservedPages) 0
def Dev.pagesAvail (d : Dev) (p : Nat) : Nat := d.pagesFree p - d.pagesReserved p

/-- The first FREE page from an index on. -/
def Dev.firstFree (d : Dev) : Nat → Nat → Nat → Option Nat
  | 0, _, _ => none
  | n + 1, p, stop => if stop ≤ p then none else if (d.page p).st = 0 then some p else Dev.firstFree d n (p + 1) stop

/-- The page the next allocation of a plot takes (R427). -/
def Dev.nextPage (d : Dev) (p : Nat) : Option Nat :=
  let pk := d.plotPkgs p
  let order := match (d.plot p).lastPkg with
    | some l => pk.filter (fun k => decide (l < k)) ++ pk.filter (fun k => decide (k ≤ l))
    | none => pk
  (order.filterMap (fun k => d.firstFree (d.pages.length + 1) (d.kvFirst p k) ((k + 1) * 2 ^ 20))).head?

/-- The chain of pages from a page on (R427). -/
def Dev.chain (d : Dev) (h : Nat) : Nat → Nat → List Nat
  | 0, _ => []
  | n + 1, p =>
    let e := d.page p
    if e.seq ≠ h || !(e.st = 1 || e.st = 2 || e.st = 5) then []
    else if e.tail then [p] else p :: Dev.chain d h n e.next

/-- The pages of a sequence, in chain order. -/
def Dev.seqPages (d : Dev) (i : Nat) : List Nat := d.chain (d.handle i) d.pages.length (d.seq i).head

/-- Pages changed by a function. -/
def Dev.onPages (d : Dev) (ps : List Nat) (f : PageEntry → PageEntry) : Dev := forEach ps d (fun s p => s.setPage p (f (s.page p)))

/-- One page allocated to a sequence and put at the end of its chain (R272, R427). -/
def Dev.allocPage (d : Dev) (i p : Nat) : Dev :=
  let e := d.seq i
  let plot := (d.ctx e.ctx).plot
  let empty := (d.seqPages i).isEmpty
  let d1 := if empty then d else d.setPage e.tail { d.page e.tail with next := p, tail := false }
  let old := d.page p
  let d2 := d1.setPage p { PageEntry.free with st := 1, plot := plot, seq := d.handle i, gen := (old.gen + 1) % 64, tail := true }
  (d2.setSeq i { e with head := if empty then p else e.head, tail := p, reservedPages := e.reservedPages - 1 }).onPlot plot
    (fun x => { x with lastPkg := some (p / 2 ^ 20) })

/-- Pages allocated to a sequence until its chain holds `need` (R427). -/
def Dev.allocTo (d : Dev) (i : Nat) : Nat → Dev
  | 0 => d
  | n + 1 =>
    match d.nextPage (d.ctx (d.seq i).ctx).plot with
    | some p => Dev.allocTo (d.allocPage i p) i n
    | none => d

/-- `need` pages allocated as whole blocks of `streams` pages; PARTIAL is set on the pages of the last block (R427). -/
def Dev.allocBlocks (d : Dev) (i need streams : Nat) : Dev :=
  let d1 := d.allocTo i need
  let ps := d1.seqPages i
  if need = 0 then d1 else d1.onPages (ps.drop (ps.length - streams)) (fun e => { e with partial_ := true })

/-- A page back to FREE, unscrubbed (R272, R411): the entry's other fields stay, until an allocation writes them. -/
def PageEntry.freed (e : PageEntry) : PageEntry := { e with st := 0 }

/-- The rings (R394): configuration, kind, context, size, base. -/
def Dev.ringCfg (d : Dev) (r : Nat) : Nat := d.rgN 0x003 0x50C r
def Dev.ringKind (d : Dev) (r : Nat) : Nat := bitsN (d.ringCfg r) 5 2
def Dev.ringCtx (d : Dev) (r : Nat) : Nat := bitsN (d.ringCfg r) 8 8
def Dev.ringSize (d : Dev) (r : Nat) : Nat := 2 ^ bitsN (d.ringCfg r) 0 5
def Dev.ringBase (d : Dev) (r : Nat) : Nat := gaOff (d.rg64 0x003 0x504 r)
def Dev.isRing (d : Dev) (r kind c : Nat) : Bool := (d.ring r).inUse && d.ringKind r = kind && d.ringCtx r = c

/-- The OUTPUT rings of a context, ascending. -/
def Dev.outRings (d : Dev) (c : Nat) : List Nat := (d.rings.filter (fun e => d.isRing e.1 2 c)).map (·.1)

/-- Flags of a record (R416). -/
def fFinal : Nat := 1
def fLate : Nat := 2
def fStop : Nat := 4
def fDraft : Nat := 8
def fNoToken : Nat := 16

/-- A record of 16 bytes (R416). -/
def KRec.bytes (r : KRec) : List Byte :=
  toBytes 3 (handleOf r.idx r.gen) ++ toBytes 1 r.status ++ toBytes 4 r.token ++ toBytes 4 r.position ++ toBytes 2 r.logprob ++
    toBytes 2 r.flags

/-- A record put among those that wait for the next commit point. -/
def Dev.post_ (d : Dev) (c : Nat) (r : KRec) : Dev := d.onKc c (fun k => { k with waiting := k.waiting ++ [r] })

/-- A record without a token: a command's result (R417), or a completion. TOKEN is 0; POSITION and LOGPROB of a token that is
not there are free values (R416; log entry 164). -/
def Dev.result (d : Dev) (c ring idx gen status flags : Nat) : Dev :=
  let k := handleOf idx gen + 2 ^ 24 * status
  d.post_ c ⟨ring, idx, gen, status, 0, (Config.unstated32 3 k).toNat, (Config.unstated32 4 k).toNat % 2 ^ 16, fNoToken + flags⟩

/-- The counter of a completion's status (R438). -/
def statusCounter (status : Nat) : Option Nat :=
  match status with
  | 3 => some 0x118 | 4 => some 0x11C | 5 => some 0x108 | 6 => some 0x10C | 7 => some 0x110 | 8 => some 0x138 | 9 => some 0x148
  | _ => none

/-- A request ends (R411): its pages freed unscrubbed, its reservation returned, its entry FREE with its generation. -/
def Dev.endSeq (d : Dev) (i status : Nat) : Dev :=
  let e := d.seq i
  let d1 := ((d.dropNamed (d.ctx e.ctx).plot e.pins).onPages (d.seqPages i) PageEntry.freed).setSeq i { e with
    st := .free, pins := [], reservedPages := 0, cancelPending := false, parkPending := false, heldBudget := false }
  let d2 := d1.onKc e.ctx (fun k => { k with
    parks := k.parks.filter (fun p => p.seq ≠ i), parkedAt := k.parkedAt.del i
    cmds := k.cmds.filter (fun q => !(q.kind = .submit && q.idx = i)), aborts := k.aborts.filter (· ≠ i)
    notes := k.notes ++ [⟨handleOf i e.gen, e.position, e.tokensOut, 0, e.position, [], true, false⟩] })
  let d3 := d2.count 0x003 0x114 1
  let d4 := match statusCounter status with
    | some off => d3.count 0x003 off 1
    | none => d3
  if status = 9 then d4.record 0x003 8 ⟨none, some (d.ctx e.ctx).plot, 0, 0, 0⟩ else d4

/-- A request that completes without a token (R410). -/
def Dev.complete (d : Dev) (i status : Nat) : Dev :=
  let e := d.seq i
  (d.result e.ctx e.outRing i e.gen status fFinal).endSeq i status

/-- Packets of a message at a path MTU (R572, R579): bits [9:7] of QP_CFG. -/
def Dev.qpMtu (d : Dev) (q : Nat) : Nat :=
  match bitsN (d.rgN 0x073 0x404 q) 7 3 with
  | 3 => 1024 | 4 => 2048 | _ => 4096

/-- Frames of a queue pair sent on its interface (R571). -/
def Dev.qpSend (d : Dev) (q frames : Nat) (o : Out) : Dev := d.hostSend (bitsN (d.rgN 0x073 0x404 q) 4 3) (max 1 frames) o

/-- An RDMA write issued on a queue pair (R571). -/
def Dev.rdmaWrite (d : Dev) (q ring off addr rkey : Nat) (data : List Byte) : Dev :=
  let x := d.qp q
  let n := max 1 (ceilDiv data.length (d.qpMtu q))
  (d.onQp q (fun y => { y with
    psn := (x.psn + n) % 2 ^ 24
    ops := y.ops ++ [⟨true, x.psn, 0, ring, off, data.length, d.time.elapsed⟩] })).qpSend q (ceilDiv data.length (d.qpMtu q)) (.roceWrite q x.psn addr rkey data)

/-- A failed mirror (R419): MIRROR cleared, MIRROR_ERROR set. -/
def Dev.mirrorFail (d : Dev) (r : Nat) : Dev :=
  let v := d.ringCfg r
  (d.setN 0x003 0x50C r (if bitN v 20 then v - 2 ^ 20 else v)).record 0x003 4 Where.none

/-- Bytes of a ring copied to its mirror (R419), on a queue pair that is RTS; on another one the write fails. -/
def Dev.mirror (d : Dev) (r off len : Nat) : Dev :=
  let q := bitsN (d.rgN 0x003 0x520 r) 0 11
  if !bitN (d.ringCfg r) 20 || len = 0 then d
  else if (d.qp q).st ≠ 3 then d.mirrorFail r
  else d.rdmaWrite q r off (d.rg64 0x003 0x518 r + (off - d.ringBase r)) (d.rgN 0x003 0x524 r) (d.lpRead off len)

/-- The PHASE bit of a unit (R415): 1 in a ring's first pass (a DESIGN CHOICE: the spec says only that it toggles). -/
def phaseOf (u size : Nat) : Nat := if (u / size) % 2 = 0 then 4 else 0

/-- A batch record's header (R415). -/
def batchHeader (step tick n c flags variant : Nat) : List Byte :=
  toBytes 8 step ++ toBytes 8 tick ++ toBytes 4 n ++ toBytes 1 c ++ toBytes 1 flags ++ toBytes 2 variant ++ List.replicate 8 0

/-- A batch record written into a ring, with the pad it may need, and mirrored (R415, R419). -/
def Dev.writeBatch (d : Dev) (r c step tick flags variant : Nat) (recs : List KRec) : Dev :=
  let size := d.ringSize r
  let g := d.ring r
  let left := size - g.prod % size
  let need := 2 + recs.length
  let pad := if left < need then left else 0
  let at_ (u : Nat) : Nat := d.ringBase r + 16 * (u % size)
  let padBytes := if pad = 1 then List.replicate 8 0xFF ++ List.replicate 8 0
    else batchHeader step tick (2 ^ 32 - 1) c (flags + phaseOf g.prod size) variant ++ List.replicate (16 * (pad - 2)) 0
  let u := g.prod + pad
  let d1 := if pad = 0 then d else d.lpWrite (at_ g.prod) padBytes
  let d2 := (d1.lpWrite (at_ u + 32) (recs.flatMap KRec.bytes)).lpWrite (at_ u)
    (batchHeader step tick recs.length c (flags + phaseOf u size) variant)
  let d3 := (d2.setRing r { g with prod := (u + need) % 2 ^ 32 }).count 0x003 0x150 recs.length
  if bitN (d.ringCfg r) 20 then
    let d4 := ((d3.mirror r (at_ g.prod) (16 * pad)).mirror r (at_ u + 32) (16 * recs.length)).mirror r (at_ u) 32
    if bitN (d4.ringCfg r) 20 then d4.count 0x003 0x154 1 else d4
  else d3

/-- Does a ring have free units for a record, and for the pad that placing it may need (R418)? -/
def Dev.ringRoom (d : Dev) (r units : Nat) : Bool :=
  let size := d.ringSize r
  let g := d.ring r
  let used := (g.prod + 2 ^ 32 - g.cons) % 2 ^ 32
  let left := size - g.prod % size
  decide (units + (if left < units then left else 0) + used ≤ size)

/-- Records that wait, written as batch records (R410, R415): for each ring the `first` records of it among the first
`slots` waiting, and up to 256 of the others; the rest wait. A record whose ring is no OUTPUT ring of the context goes to
the context's lowest one. -/
def Dev.writeWaiting (d : Dev) (c step tick flags variant slots : Nat) : Dev :=
  let rings := d.outRings c
  let home (r : KRec) : Nat := if rings.contains r.ring then r.ring else rings.headD 0
  let k := d.kc c
  let tagged := (List.range k.waiting.length).zip k.waiting
  rings.foldl (fun s r =>
    let mine := tagged.filter (fun e => home e.2 = r)
    let now := mine.filter (fun e => decide (e.1 < slots)) ++ (mine.filter (fun e => decide (slots ≤ e.1))).take 256
    if now.isEmpty then s
    else
      let keep := (s.kc c).waiting.filter (fun x => !(home x = r))
      let rest := (mine.filter (fun e => decide (slots ≤ e.1))).drop 256
      (s.onKc c (fun y => { y with waiting := keep ++ rest.map (·.2) })).writeBatch r c step tick flags variant (now.map (·.2))) d

/-- The next entry of a SUBMIT ring (R396): none where no doorbell has made one visible, a lower ring of the context has one,
the context is disabled, follows (R433), is a shadow (R517), or its plot is not ACTIVE (R470). -/
def Dev.nextCmd (d : Dev) (r : Nat) : Option (List Byte) :=
  let g := d.ring r
  let c := d.ringCtx r
  let lower := d.rings.any (fun e => decide (e.1 < r) && d.isRing e.1 1 c && e.2.prod ≠ e.2.cons)
  if !d.isRing r 1 c || g.prod = g.cons || lower || !d.serves c || d.follows c || d.isShadow || (d.plot (d.ctx c).plot).st ≠ 1 then none
  else some (d.lpRead (d.ringBase r + 64 * (g.cons % d.ringSize r)) 64)

/-- A field of a command's 64 bytes. -/
def fieldOf (bs : List Byte) (off n : Nat) : Nat := leNat ((bs.drop off).take n)

/-- The consumer position past an accepted entry. -/
def Dev.pastCmd (d : Dev) (r : Nat) : Dev := let g := d.ring r; d.setRing r { g with cons := (g.cons + 1) % 2 ^ 32 }

/-- Is a command refused for its common part (R397): reserved bits, or an index outside the context's range? -/
def Dev.cmdBad (d : Dev) (c : Nat) (bs : List Byte) : Bool :=
  let i := fieldOf bs 4 4 % 2 ^ 18
  fieldOf bs 1 3 ≠ 0 || fieldOf bs 7 1 ≠ 0 || decide (1 < fieldOf bs 0x3C 4) || i = 0 ||
    decide (i < bitsN (d.rgN 0x003 0x410 c) 0 18) || decide (bitsN (d.rgN 0x003 0x414 c) 0 18 < i)

/-- BAD_COMMAND (R397): the result goes to the request's output ring, or to the one the command names. -/
def Dev.badCommand (d : Dev) (c : Nat) (bs : List Byte) : Dev :=
  let h := fieldOf bs 4 4
  let e := d.seq (h % 2 ^ 18)
  let ring := if e.st ≠ .free && e.ctx = c then e.outRing else fieldOf bs 0x2A 2
  (d.result c ring (h % 2 ^ 18) (h / 2 ^ 18 % 64) 0x14 0).record 0x003 0 ⟨none, some (d.ctx c).plot, 0, 0, 0⟩

/-- Does a value lie within the bounds of every register that a recipe source feeds (R397)? -/
def Dev.fedOk (d : Dev) (c : Nat) (f : RecipeSrc → Bool) (v : Nat) : Bool :=
  match (d.ctx c).active with
  | none => true
  | some b => (b.body.recipes.filter (fun q => f q.src)).all (fun q => q.regs.all (fun p =>
      match b.body.params.find? (fun x => x.p = p) with
      | some x => x.inBounds (d.ctx c).plot v
      | none => true))

/-- Do the prompt tokens lie in LPDDR5X of the context's plot (R396)? -/
def Dev.promptOk (d : Dev) (c addr n : Nat) : Bool :=
  match d.localMem addr with
  | some off => bitN (d.plot (d.ctx c).plot).packages (off / 2 ^ 35) && bitN (d.plot (d.ctx c).plot).packages ((off + 4 * n - 1) / 2 ^ 35)
  | none => false

/-- A SUBMIT refused (R391, R396, R397). -/
def Dev.submitBad (d : Dev) (c : Nat) (bs : List Byte) : Bool :=
  let h := fieldOf bs 4 4
  let e := d.seq (h % 2 ^ 18)
  let a := d.acct (fieldOf bs 0x28 2)
  let n := fieldOf bs 0x18 4
  e.st ≠ .free || h / 2 ^ 18 % 64 ≠ (e.gen + 1) % 64 || !a.valid || a.plot ≠ (d.ctx c).plot ||
    !d.isRing (fieldOf bs 0x2A 2) 2 c || (bitN (fieldOf bs 0x3C 4) 0 && !bitN (d.kcfg c) 2) ||
    n = 0 || decide (2 ^ 24 < n) || fieldOf bs 0x1C 4 = 0 || decide (2 ^ 24 < fieldOf bs 0x1C 4) ||
    fieldOf bs 0x34 4 = 0 || decide (86400000 < fieldOf bs 0x34 4) || !d.promptOk c (fieldOf bs 0x10 8) n ||
    !d.fedOk c (· = .seed) (fieldOf bs 8 8) || !d.fedOk c (· = .sampling false) (fieldOf bs 0x2C 4) ||
    !d.fedOk c (· = .sampling true) (fieldOf bs 0x30 4)

/-- A SUBMIT accepted (R391, R393): the generation stored, the entry QUEUED, the extension written. Without a usable set it
completes ABORTED_FAULT (R413). -/
def Dev.acceptSubmit (d : Dev) (c : Nat) (bs : List Byte) : Dev :=
  let h := fieldOf bs 4 4
  let i := h % 2 ^ 18
  let d1 := d.setSeq i { SeqEntry.free with
    st := .queued, gen := h / 2 ^ 18 % 64, ctx := c, tree := bitN (fieldOf bs 0x3C 4) 0, account := fieldOf bs 0x28 2
    outRing := fieldOf bs 0x2A 2, seed := fieldOf bs 8 8, deadline := fieldOf bs 0x20 8, promptLeft := fieldOf bs 0x18 4
    maxNew := fieldOf bs 0x1C 4, promptAddr := fieldOf bs 0x10 8 }
  let d2 := d1.lpWrite (d1.extOff i) ((bs.drop 0x2C).take 8 ++ (bs.drop 0x38).take 4 ++ (bs.drop 0x34).take 4 ++ List.replicate 112 0)
  let d3 := (d2.count 0x003 0x100 1).onKc c (fun k => { k with cmds := k.cmds ++
    [⟨.submit, i, h / 2 ^ 18 % 64, d.time.count, 0, 0, 0, 0, 0⟩] })
  if (d.ctx c).noVariant then d3.complete i 9 else d3

/-- A command on a request whose generation differs (R397): STALE_HANDLE. -/
def Dev.staleCmd (d : Dev) (c i gen : Nat) : Dev := (d.result c (d.seq i).outRing i gen 0x11 0).count 0x003 0x13C 1

/-- CANCEL accepted (R410, R434). -/
def Dev.acceptCancel (d : Dev) (c i gen : Nat) : Dev :=
  let e := d.seq i
  if e.gen ≠ gen then d.staleCmd c i gen
  else if e.st = .free then d.result c e.outRing i gen 0x10 0
  else (d.setSeq i { e with cancelPending := true }).onKc c (fun k => { k with cmds := k.cmds ++
    [⟨.cancel, i, gen, d.time.count, 0, 0, 0, 0, 0⟩] })

/-- PARK accepted (R429): on a RUNNING request only. -/
def Dev.acceptPark (d : Dev) (c : Nat) (bs : List Byte) : Dev :=
  let h := fieldOf bs 4 4
  let i := h % 2 ^ 18
  let gen := h / 2 ^ 18 % 64
  let e := d.seq i
  let ttl := fieldOf bs 0x34 4
  if e.gen ≠ gen then d.staleCmd c i gen
  else if e.st ≠ .running ∨ ttl = 0 ∨ 86400000 < ttl then d.badCommand c bs
  else (d.setSeq i { e with parkPending := true }).onKc c (fun k => { k with cmds := k.cmds ++
    [⟨.park, i, gen, d.time.count, 0, 0, 0, 0, ttl⟩] })

/-- RESUME accepted (R430): on a PARKED request; on one that has completed the answer is ALREADY_DONE. -/
def Dev.acceptResume (d : Dev) (c : Nat) (bs : List Byte) : Dev :=
  let h := fieldOf bs 4 4
  let i := h % 2 ^ 18
  let gen := h / 2 ^ 18 % 64
  let e := d.seq i
  let n := fieldOf bs 0x18 4
  let m := fieldOf bs 0x1C 4
  if e.gen ≠ gen then d.staleCmd c i gen
  else if e.st = .free then d.result c e.outRing i gen 0x10 0
  else if e.st ≠ .parked ∨ n = 0 ∨ 2 ^ 24 < n ∨ m = 0 ∨ 2 ^ 24 < m ∨ !d.promptOk c (fieldOf bs 0x10 8) n then d.badCommand c bs
  else d.onKc c (fun k => { k with cmds := k.cmds ++
    [⟨.resume, i, gen, d.time.count, fieldOf bs 0x10 8, n, m, fieldOf bs 0x20 8, 0⟩] })

/-- The command at the front of a SUBMIT ring taken (R396, R397), where its TYPE is one of `types`. -/
def Dev.takeCmd (d : Dev) (r : Nat) (types : Nat → Bool) : Dev :=
  match d.nextCmd r with
  | none => d
  | some bs =>
    let c := d.ringCtx r
    let h := fieldOf bs 4 4
    let t := fieldOf bs 0 1
    if !types t then d
    else
      let d1 := d.pastCmd r
      if d.cmdBad c bs then d1.badCommand c bs
      else match t with
        | 1 => if d.submitBad c bs then d1.badCommand c bs else d1.acceptSubmit c bs
        | 2 => d1.acceptCancel c (h % 2 ^ 18) (h / 2 ^ 18 % 64)
        | 3 => d1.acceptPark c bs
        | 4 => d1.acceptResume c bs
        | _ => d1.badCommand c bs

/-- CMD_SUBMIT: also the entries with a reserved TYPE, which are refused BAD_COMMAND. -/
def execCmdSubmit (ring : Nat) (s : State) : Host.Outcome State Fault Refusal :=
  onDev (·.takeCmd ring (fun t => !(t = 2 || t = 3 || t = 4))) s

/-- CMD_CANCEL. -/
def execCmdCancel (ring : Nat) (s : State) : Host.Outcome State Fault Refusal := onDev (·.takeCmd ring (· = 2)) s

/-- CMD_PARK. -/
def execCmdPark (ring : Nat) (s : State) : Host.Outcome State Fault Refusal := onDev (·.takeCmd ring (· = 3)) s

/-- CMD_RESUME. -/
def execCmdResume (ring : Nat) (s : State) : Host.Outcome State Fault Refusal := onDev (·.takeCmd ring (· = 4)) s

/-- The room a step's commit may need in an output ring, and a release held for want of it (R418, R438): OUT_FULL shown and its
ticks counted until a ring has the room. -/
def Dev.outNeed (v : VariantBody) : Nat := 2 + 16 * v.batchMax + 256
def Dev.roomFor (d : Dev) (c : Nat) (v : VariantBody) : Bool := (d.outRings c).all (fun r => d.ringRoom r (Dev.outNeed v))
def Dev.endHold (d : Dev) (c : Nat) : Dev :=
  match (d.kc c).outFull with
  | some t => (d.onKc c (fun k => { k with outFull := none })).count 0x003 0x14C (d.time.elapsed - t)
  | none => d
def Dev.holdRoom (d : Dev) (c : Nat) (v : VariantBody) : Dev :=
  if d.roomFor c v then d.endHold c
  else if (d.kc c).outFull.isSome then d
  else (d.onKc c (fun k => { k with outFull := some d.time.elapsed })).record 0x003 2 ⟨none, some (d.ctx c).plot, 0, 0, 0⟩

/-- The hold of a composed step as its rings now stand. -/
def Dev.settleRoom (d : Dev) (c : Nat) : Dev :=
  match (d.kc c).phase, d.nextBundle c with
  | .composed, some (b, set, _) => match ((b.set set).getD [])[(d.kc c).variant]? with
    | some v => d.holdRoom c v
    | none => d
  | _, _ => d

/-- Is a doorbell stale (R395): another generation, or an index that would move backwards or past the other one? -/
def Dev.doorbellStale (d : Dev) (r gen : Nat) (index : W32) : Bool :=
  let g := d.ring r
  let diff (a b : Nat) : Nat := (a + 2 ^ 32 - b) % 2 ^ 32
  let n := index.toNat
  if !g.inUse || g.gen ≠ gen then true
  else if d.ringKind r = 1 then !(decide (diff g.prod g.cons ≤ diff n g.cons) && decide (diff n g.cons ≤ d.ringSize r))
  else if d.ringKind r = 2 then !(decide (diff n g.cons ≤ diff g.prod g.cons))
  else true

/-- RING_DOORBELL (R395): the producer index of a SUBMIT ring, the consumer index of an OUTPUT ring; any other is stale. -/
def Dev.doorbell (d : Dev) (r gen : Nat) (index : W32) : Dev :=
  let g := d.ring r
  if d.doorbellStale r gen index then (d.count 0x003 0x140 1).record 0x003 1 Where.none
  else if d.ringKind r = 1 then d.setRing r { g with prod := index.toNat }
  else (d.setRing r { g with cons := index.toNat }).settleRoom (d.ringCtx r)

/-- RING_DOORBELL: by a write of KIOSK.DOORBELL (R435). -/
def execRingDoorbell (r : Route) (ring gen : Nat) (index : W32) (s : State) : Host.Outcome State Fault Refusal :=
  let low := ring % 32768 + 32768 * (gen % 16)
  let s1 := { s with dev := { s.dev with latch := s.dev.latch.put (2 * selKey r 0x003 0x530 + 1) (BitVec.ofNat 32 low) } }
  onReg r 0x003 0x534 index.toNat (·.doorbell (ring % 32768) (gen % 16) index) (if s.dev.answers then s1 else s)

/-- The ring result shown (R435). -/
def Dev.ringResult (d : Dev) (code : Nat) : Dev := d.setN 0x003 0x52C 0 code

/-- CREATE of a ring (R394, R436): RANGE outside its context's plot or for a k its kind does not have. -/
def Dev.ringCreate (d : Dev) (r : Nat) : Dev :=
  let g := d.ring r
  let k := bitsN (d.ringCfg r) 0 5
  let kind := d.ringKind r
  let c := d.ringCtx r
  let len := (if kind = 2 then 16 else 64) * 2 ^ k
  let kOk := if kind = 2 then decide (8 ≤ k) && decide (k ≤ 16) else kind ≠ 0 && decide (4 ≤ k) && decide (k ≤ 12)
  let place : Bool := match d.localMem (d.rg64 0x003 0x504 r) with
    | some off => off % 4096 = 0 && (d.plot (d.ctx c).plot).inSystem off len
    | none => false
  if g.inUse then d.ringResult 2
  else if !kOk || !place || (d.ctx c).st = 0 || d.ringPlot r ≠ some (d.ctx c).plot then d.ringResult 1
  else
    let gen := (g.gen + 1) % 16
    let v := d.ringCfg r
    ((d.setRing r ⟨true, gen, 0, 0⟩).setN 0x003 0x50C r (v - 2 ^ 16 * bitsN v 16 4 + 2 ^ 16 * gen)).ringResult 0

/-- DESTROY of a ring (R436): BUSY where a request that is not FREE names it; RANGE where there is none. -/
def Dev.ringDestroy (d : Dev) (r : Nat) : Dev :=
  let g := d.ring r
  if !g.inUse then d.ringResult 1
  else if d.ringKind r = 2 && d.seqs.any (fun e => e.2.st ≠ .free && e.2.outRing = r) then d.ringResult 2
  else (d.setRing r { g with inUse := false }).ringResult 0

/-- RING_CREATE. -/
def execRingCreate (r : Route) (ring : Nat) (s : State) : Host.Outcome State Fault Refusal :=
  onReg r 0x003 0x528 (ring % 32768 + 2 ^ 15) (·.ringCreate (ring % 32768)) s

/-- RING_DESTROY. -/
def execRingDestroy (r : Route) (ring : Nat) (s : State) : Host.Outcome State Fault Refusal :=
  onReg r 0x003 0x528 (ring % 32768 + 2 ^ 16) (·.ringDestroy (ring % 32768)) s

/-- MIRROR_FAILED (R419): an outstanding mirror write of the ring has failed. -/
def Dev.mirrorFailed (d : Dev) (r : Nat) : Dev :=
  d.when (bitN (d.ringCfg r) 20 && d.qps.any (fun e => e.2.ops.any (fun o => o.write && o.ring = r))) (fun s =>
    let drop (o : QpOp) : Bool := !(o.write && o.ring = r)
    { s.mirrorFail r with qps := s.qps.map (fun e => (e.1, { e.2 with ops := e.2.ops.filter drop })) })

/-- MIRROR_FAILED. -/
def execMirrorFailed (ring : Nat) (s : State) : Host.Outcome State Fault Refusal := onDev (·.mirrorFailed ring) s

end Sys2Proof.Machine
end

