-- ==== Sys2Proof/Machine/Compose.lean ====
section
/-! DEFINITION. Compose: admission, the batch, the variant, page allocation, patch recipes, the input image, composition records (R232, R398 to R409, R423, R427, R428, R430, R433). -/
namespace Sys2Proof.Machine

/-- COUNT and SAMPLE of a request's slot (R399). -/
def spanOf (cap : Nat) (e : SeqEntry) : Nat × Bool :=
  if e.promptLeft = 0 then (1, true) else (min e.promptLeft cap, decide (e.promptLeft ≤ cap))

/-- The position of node 0 of a request's draft: the slot's last input position (DEDUCED, log entry 31). -/
def nodeBase (cap : Nat) (e : SeqEntry) : Nat := e.position + (spanOf cap e).1 - 1

/-- The pages a request's chain must hold before its step (R423, R427). -/
def pagesFor (b : BundleBody) (e : SeqEntry) : Nat :=
  let last := nodeBase b.capacity e
  let top := if e.tree then max (if (spanOf b.capacity e).2 then last + 63 else last) (e.position + 63) else last
  (top / b.perPage + 1) * b.streams

/-- The page need N of admission (R404, R430): whole blocks for every position the request can reach, less the pages it
holds in local LPDDR5X. -/
def pageNeed (b : BundleBody) (e : SeqEntry) (held : Nat) : Nat :=
  ceilDiv (e.position + e.promptLeft + (e.maxNew - e.tokensOut) + (if e.tree then 64 else 0)) b.perPage * b.streams - held

/-- The variant the Kiosk picks for a batch (R400): the smallest deadline that covers it, ties to the lower number. -/
def pickVariant (vs : List VariantBody) (n pages : Nat) : Option (Nat × VariantBody) :=
  (((List.range vs.length).zip vs).filter (fun e => decide (n ≤ e.2.batchMax) && decide (pages ≤ e.2.pageMax))).foldl
    (fun (best : Option (Nat × VariantBody)) e => match best with
      | some x => if e.2.deadline < x.2.deadline then some e else some x
      | none => some e) none

/-- PERIOD_TICKS and SLICE_TICKS of a context (R404, R475, R477). -/
def Dev.sliceTicks (d : Dev) (c : Nat) : Nat × Nat :=
  match (d.plot (d.ctx c).plot).running with
  | some cal => (cal.period, (cal.entries.filter (fun e => e.1 = c)).foldl (fun n e => n + e.2.2) 0)
  | none => (1, 1)

/-- The projected finish is in time (R404): `t` is the step time T. -/
def Dev.finishOk (d : Dev) (c : Nat) (b : BundleBody) (e : SeqEntry) (t : Nat) : Bool :=
  let sl := d.sliceTicks c
  let steps := ceilDiv e.promptLeft b.capacity + (e.maxNew - e.tokensOut) - 1
  e.deadline = 0 || (sl.2 ≠ 0 && decide (d.now + ceilDiv (steps * t * sl.1) sl.2 ≤ e.deadline))

/-- The step time T of R404 with one more request. -/
def Dev.stepTime (d : Dev) (c : Nat) (b : BundleBody) (vs : List VariantBody) (e : SeqEntry) : Nat :=
  let run := (d.seqsOf c).filter (fun q => q.2.st = .running)
  let pages := run.foldl (fun n q => n + max (d.seqPages q.1).length (pagesFor b q.2)) (pagesFor b e)
  let t := match pickVariant vs (run.length + 1) pages with
    | some v => v.2.deadline
    | none => vs.foldl (fun m v => max m v.deadline) 0
  t + d.rgN 0x003 0x43C c

/-- PARKED sequences whose pages lie in local LPDDR5X, in the order R406 evicts them; `skip` is not one of them. -/
def Dev.reclaimOrder (d : Dev) (c skip : Nat) : List Nat :=
  let l := (d.seqsOf c).filter (fun q => q.2.st = .parked && q.1 ≠ skip && !(d.seqPages q.1).isEmpty)
  (sortBy (fun (x y : Nat × Nat) => decide (x.2 < y.2) || (x.2 = y.2 && decide (x.1 ≤ y.1)))
    (l.map (fun q => (q.1, d.extGet q.1 0x10 8)))).map (·.1)

/-- Eviction until the available pages cover a need (R406). -/
def Dev.reclaim (d : Dev) (c need : Nat) (order : List Nat) : Dev :=
  forEach order d (fun s i => if need ≤ s.pagesAvail (s.ctx c).plot then s else s.complete i 8)

/-- The status of the first test of R403 that a request fails, 0 for none; `held` are local pages it holds. -/
def Dev.admissionTest (d : Dev) (c i : Nat) (e : SeqEntry) (b : BundleBody) (vs : List VariantBody) (held : Nat) : Nat :=
  let n := pageNeed b e held
  let rec_ := if bitN (d.kcfg c) 7 then (d.reclaimOrder c i).foldl (fun s j => s + (d.seqPages j).length) 0 else 0
  if d.pagesAvail (d.ctx c).plot + rec_ < n then 5
  else if !d.finishOk c b e (d.stepTime c b vs e) then 6
  else if (d.acct e.account).level ≤ 0 then 7
  else 0

/-- Pages taken for an admitted request (R403, R406). -/
def Dev.takePages (d : Dev) (c i n : Nat) : Dev := if bitN (d.kcfg c) 7 then d.reclaim c n (d.reclaimOrder c i) else d

/-- A QUEUED request tested and admitted, or completed with its status (R403, R405); under PIN it holds a reference on every region
of the bundle it runs on (R457). -/
def Dev.tryAdmit (d : Dev) (c i : Nat) (b : BundleBody) (vs : List VariantBody) : Dev × Bool :=
  let d0 := d.refill (d.seq i).account d.time.elapsed
  let e := d0.seq i
  let st := d0.admissionTest c i e b vs 0
  let n := pageNeed b e 0
  if st = 0 then
    let d1 := d0.takePages c i n
    let pins := if (d.ctx c).pin then b.regions else []
    let d2 := ((d1.takeNamed (d.ctx c).plot pins).setSeq i { e with st := .running, reservedPages := e.reservedPages + n, pins }).extPut i 0x18 8 d.now
    ((d2.onKc c (fun k => { k with cmds := k.cmds.filter (fun q => !(q.kind = .submit && q.idx = i)) })).count 0x003 0x104 1, true)
  else if !bitN (d.kcfg c) 1 || !d0.finishOk c b e (d0.stepTime c b vs e) || decide (d0.kvTotal (d.ctx c).plot < n) then
    (d0.complete i st, false)
  else (d0, false)

/-- The fetch of one remotely parked page back into a new local page (R430). -/
def Dev.fetchPage (d : Dev) (c i dev remote local_ : Nat) : Dev × Nat :=
  let p := (d.ctx c).plot
  let r := d.openFabric (.kioskFetch c i) .get p (fun x => { x with
    len := 32768, addr := dev * 2 ^ 52 + 2 ^ 49 + 32768 * remote, pcount := ceilDiv 32768 448, pages := [local_] })
  (r.1.postAll r.2 (r.1.getRequests r.2 r.2.addr 32768), r.2.serial)

/-- A RESUME admitted (R430): local pages back to ACTIVE and the request RUNNING, or remote pages fetched into new ones. -/
def Dev.resumeSeq (d : Dev) (c i : Nat) (e : SeqEntry) (n streams : Nat) : Dev :=
  let d1 := d.takePages c i n
  match (d1.kc c).parkedAt.find i with
  | none =>
    let d2 := (d1.onPages (d1.seqPages i) (fun p => { p with st := 1 })).setSeq i { e with st := .running, reservedPages := e.reservedPages + n }
    (d2.result c e.outRing i e.gen 0x13 0).count 0x003 0x134 1
  | some remote =>
    let d2 := (d1.setSeq i { e with st := .resuming, reservedPages := e.reservedPages + n, head := 0, tail := 0 }).allocBlocks i remote.length streams
    let dev := bitsN (d2.rgN 0x003 0x444 c) 0 12
    let local_ := d2.seqPages i
    let r := forEach (remote.zip local_) (d2, ([] : List Nat)) (fun s e => let q := s.1.fetchPage c i dev e.1 e.2; (q.1, s.2 ++ [q.2]))
    r.1.onKc c (fun k => { k with parks := k.parks ++ [⟨i, dev, local_, remote, r.2, true, false⟩] })

/-- Does a CANCEL of the same request stand before a command in acceptance order (R398, R430)? The commit point answers it first. -/
def Dev.cancelBefore (d : Dev) (c : Nat) (q : KCmd) : Bool :=
  ((d.kc c).cmds.takeWhile (fun p => p != q)).any (fun p => p.kind = .cancel && p.idx = q.idx && p.gen = q.gen)

/-- A RESUME tested (R430): one that fails leaves the request PARKED, the status reported without FINAL. -/
def Dev.tryResume (d : Dev) (c : Nat) (q : KCmd) (b : BundleBody) (vs : List VariantBody) : Dev :=
  let gone (s : Dev) : Dev := s.onKc c (fun k => { k with cmds := k.cmds.erase q })
  let e0 := d.seq q.idx
  if e0.gen ≠ q.gen ∨ e0.st ≠ .parked then gone (d.result c e0.outRing q.idx q.gen 0x10 0)
  else if (d.kc c).parks.any (fun p => p.seq = q.idx) || d.cancelBefore c q then d
  else
    let d0 := d.refill e0.account d.time.elapsed
    let e := { e0 with promptLeft := q.promptLen, promptAddr := q.promptAddr, maxNew := q.maxNew, deadline := q.deadline }
    let held := (d0.seqPages q.idx).length
    let st := d0.admissionTest c q.idx e b vs held
    if st = 0 then gone (d0.resumeSeq c q.idx e (pageNeed b e held) b.streams)
    else gone (d0.result c e.outRing q.idx q.gen st 0)

/-- Admission at compose (R398, R403): commands in acceptance order, at most ADMIT_PER_STEP admissions; while a PIN
activation waits no request is admitted (R457). -/
def Dev.admission (d : Dev) (c : Nat) (b : BundleBody) (vs : List VariantBody) : Dev :=
  let lim := bitsN (d.rgN 0x003 0x460 c) 0 9
  let r := (d.kc c).cmds.foldl (fun (s : Dev × Nat) q =>
    match q.kind with
    | .resume => (s.1.tryResume c q b vs, s.2)
    | .submit =>
      let e := s.1.seq q.idx
      if e.st ≠ .queued || e.cancelPending || (s.1.ctx c).pinWaits || decide (lim ≤ s.2) then s
      else
        let t := s.1.tryAdmit c q.idx b vs
        (t.1, if t.2 then s.2 + 1 else s.2)
    | _ => s) (d, 0)
  r.1

/-- The requests of a context that may run (R401, R412), in fairness order (R409). -/
def Dev.runnable (d : Dev) (c : Nat) : List Nat :=
  sortBy d.fairLe (((d.seqsOf c).filter (fun q =>
    q.2.st = .running && !q.2.cancelPending && !q.2.parkPending && decide (0 < (d.acct q.2.account).level) &&
      decide (q.2.retries < d.retryLimit c))).map (·.1))

/-- Requests taken in order while the largest bounds hold (R400). -/
def Dev.takeBatch (d : Dev) (b : BundleBody) (maxB maxP : Nat) (l : List Nat) : List (Nat × Nat) :=
  l.foldl (fun (s : List (Nat × Nat)) i =>
    let n := max (d.seqPages i).length (pagesFor b (d.seq i))
    let tot := s.foldl (fun t e => t + e.2) 0
    if maxB ≤ s.length ∨ maxP < tot + n then s else s ++ [(i, n)]) []

/-- A batch some variant covers: the last request taken is left out until one does (DEDUCED, log entry 32). -/
def fitBatch (vs : List VariantBody) : Nat → List (Nat × Nat) → Option (List (Nat × Nat) × Nat × VariantBody)
  | 0, _ => none
  | k + 1, l =>
    if l.isEmpty then none
    else match pickVariant vs l.length (l.foldl (fun t e => t + e.2) 0) with
      | some v => some (l, v.1, v.2)
      | none => fitBatch vs k l.dropLast

/-- A page entry as a parameter register carries it (R189, R428). -/
def pageEntryOf (d : Dev) (p : Nat) : Nat := let e := d.page p; p + 2 ^ 24 * e.gen + 2 ^ 32 * seqField e.seq + 2 ^ 56 * e.plot

/-- The values a recipe writes (R232, R423, R428): register, value, the slot's request. -/
def Dev.recipeWrites (d : Dev) (b : BundleBody) (slots : List Nat) (q : Recipe) : List (Nat × Nat × Option Nat) :=
  (List.range q.slots).flatMap (fun i =>
    let r := q.first + q.stride * i
    let who := slots[i]?
    let own (f : SeqEntry → Nat) (idle : Nat) : List (Nat × Nat × Option Nat) :=
      [(r, match who with
        | some k => f (d.seq k)
        | none => idle, who)]
    match q.src with
    | .const v => [(r, v, none)]
    | .batchCount => [(r, slots.length, none)]
    | .slotMask => [(r, 2 ^ slots.length - 1, none)]
    | .seed => own (·.seed) q.idle
    | .tokenIndex => own (·.tokensOut) q.idle
    | .position => own (·.position) q.idle
    | .seqHandle => [(r, match who with
        | some k => d.handle k
        | none => q.idle, who)]
    | .sampling top => [(r, match who with
        | some k => d.extGet k (if top then 4 else 0) 4
        | none => q.idle, who)]
    | .treeNodes => own (fun e => if e.tree then 64 else 1) 0
    | .pageList l f j =>
      let pages := match who with
        | some k => d.seqPages k
        | none => []
      (List.range j).map (fun m =>
        (r + m, match (if l < b.streams then pages[(f + m) * b.streams + l]? else none) with
          | some p => pageEntryOf d p
          | none => q.idle, who)))

/-- Recipe values written until one is refused (R230, R402): the request whose value it was. -/
def Dev.patchAll (d : Dev) (c : Nat) (ws : List (Nat × Nat × Option Nat)) : Dev × Option (Option Nat) :=
  ws.foldl (fun (s : Dev × Option (Option Nat)) w => match s.2 with
    | some _ => s
    | none =>
      let r := s.1.patch c .kiosk w.1 (BitVec.ofNat 64 w.2.1)
      (r.1, if r.2 then none else some w.2.2)) (d, none)

/-- The bytes of one input record (R399), whole KiB. -/
def inputSlot (cap : Nat) : Nat := ceilDiv (128 + 4 * cap) 1024 * 1024

/-- The input image (R399): a record for every slot of the variant's largest batch, empty slots zeros. -/
def Dev.inputImage (d : Dev) (b : BundleBody) (v : VariantBody) (slots : List Nat) : List Byte :=
  (List.range v.batchMax).flatMap (fun i =>
    match slots[i]? with
    | none => List.replicate (inputSlot b.capacity) 0
    | some k =>
      let e := d.seq k
      let sp := spanOf b.capacity e
      let toks := if e.promptLeft = 0 then toBytes 4 e.nextToken
        else match d.localMem e.promptAddr with
          | some off => d.lpRead off (4 * sp.1)
          | none => []
      let bs := toBytes 4 sp.1 ++ toBytes 1 (if sp.2 then 1 else 0) ++ List.replicate 123 0 ++ toks
      bs ++ List.replicate (inputSlot b.capacity - bs.length) 0)

/-- The devices a lead writes composition records to (R433, R506, R518): the members of its bundle's groups, and its
shadow. -/
def Dev.followersOf (d : Dev) (c : Nat) : List Nat :=
  match (d.ctx c).active with
  | none => []
  | some b =>
    if !b.multi || d.follows c then []
    else (b.body.groups.flatMap (·.members)).foldl (fun s m => if m = d.number || s.contains m then s else s ++ [m]) []
def Dev.shadowOf (d : Dev) : List Nat := if d.shadowValid && !d.isShadow && d.recov.following then [d.shadowPartner] else []

/-- An inbox entry sent: its bytes by PUT, then the producer word advanced by FADD_I64 (R432). -/
def Dev.inboxSend (d : Dev) (c dev kind : Nat) (vals : List Nat) : Dev :=
  let p := (d.ctx c).plot
  let bs := Config.inboxBytes kind vals
  let a (off : Nat) : Nat := dev * 2 ^ 52 + 2 ^ 49 + off % 2 ^ 39
  let r := d.openFabric (.kioskInbox c) .put p (fun x => { x with
    len := bs.length, addr := a (Config.inboxPlace dev c), pcount := ceilDiv bs.length 448 })
  let d1 := r.1.postAll r.2 (r.1.dataPackets r.2 0x00 1 r.2.addr none bs)
  let q := d1.openFabric (.kioskInbox c) .fadd p (fun x => { x with len := 64, addr := a (Config.inboxWord dev c), pcount := 1 })
  q.1.postAll q.2 (q.1.dataPackets q.2 0x04 1 q.2.addr none (toBytes 8 1 ++ List.replicate 56 0))

/-- COMPARE of a request (R518): its ADMIT_TICK lies at or after T0. -/
def Dev.compareBit (d : Dev) (i : Nat) : Bool := decide (d.rg64 0x000 0x824 0 ≤ d.extGet i 0x18 8)

/-- The composition record of a batch, to every follower and the shadow (R433, R518). -/
def Dev.sendComposition (d : Dev) (c step variant : Nat) (ws : List (Nat × Nat × Option Nat)) (slots : List Nat) : Dev :=
  let vals := [step, variant] ++ ws.flatMap (fun w => [w.1, w.2.1]) ++
    slots.flatMap (fun i => [d.handle i, if d.compareBit i then 1 else 0])
  forEach (d.followersOf c ++ d.shadowOf) d (fun s n => s.inboxSend c n 3 vals)

/-- Composition of the batch (R400 to R402, R427): patched again without a request whose value was refused. -/
def Dev.composeBatch (d : Dev) (c : Nat) (b : BundleBody) (vs : List VariantBody) : Nat → Dev
  | 0 => d
  | k + 1 =>
    let maxB := vs.foldl (fun m v => max m v.batchMax) 0
    let maxP := vs.foldl (fun m v => max m v.pageMax) 0
    match fitBatch vs (maxB + 1) (d.takeBatch b maxB maxP (d.runnable c)) with
    | none => d
    | some (l, vn, v) =>
      let d1 := forEach l d (fun s e => s.allocBlocks e.1 (e.2 - (s.seqPages e.1).length) b.streams)
      let slots := l.map (·.1)
      let ws := b.recipes.flatMap (d1.recipeWrites b slots)
      let r := d1.patchAll c ws
      match r.2 with
      | some (some i) => Dev.composeBatch ((r.1.complete i 9).record 0x003 3 ⟨none, some (d.ctx c).plot, 0, 0, 0⟩) c b vs k
      | some none => r.1
      | none =>
        let d2 := r.1.onKc c (fun y => { y with
          phase := .composed, variant := vn, forNew := r.1.taking c
          batch := slots.map (fun i => let e := r.1.seq i; let sp := spanOf b.capacity e; ⟨i, sp.1, sp.2, e.tree, e.position⟩) })
        (d2.sendComposition c ((d2.ctx c).steps.toNat + 1) vn ws slots).holdRoom c v

/-- HELD_BUDGET of every RUNNING request as its account stands (R392, R401). -/
def Dev.holdBudget (d : Dev) (c : Nat) : Dev :=
  forEach ((d.seqsOf c).filter (fun q => q.2.st = .running)) d (fun s q =>
    let s1 := s.refill q.2.account s.time.elapsed
    s1.setSeq q.1 { s1.seq q.1 with heldBudget := decide ((s1.acct q.2.account).level ≤ 0) })

/-- A compose (R398): for a context that serves, leads, has a bundle to run and no step or commit outstanding. A composition
for the bundle that a requested activation replaces is dropped first (R225). -/
def Dev.compose (d0 : Dev) (c : Nat) : Dev :=
  let stale := decide ((d0.kc c).phase = .composed) && (d0.kc c).forNew != d0.taking c
  let d := if stale then d0.onKc c (fun k => { k with phase := .open_, batch := [] }) else d0
  let x := d.ctx c
  if !d.serves c || d.follows c || d.isShadow || x.st ≠ 1 || (d.plot x.plot).st ≠ 1 || (d.kc c).phase ≠ .open_ ||
      d.ctxRuns c || x.ended.isSome || (d.kc c).resetWanted || bitN (d.rgN 0x003 0x030 0) 0 then d
  else
    let d1 := d.pinSwitch c
    match d1.nextBundle c with
    | none => d1
    | some (b, set, _) =>
      let vs := (b.set set).getD []
      let d1 := d1.admission c b.body vs
      (d1.holdBudget c).composeBatch c b.body vs (d.seqs.length + 1)

/-- KIOSK_COMPOSE. -/
def execKioskCompose (ctx : Nat) (s : State) : Host.Outcome State Fault Refusal := onDev (·.compose ctx) s

end Sys2Proof.Machine
end

