-- ==== Sys2Proof/Machine/Release.lean ====
section
/-! DEFINITION. The release of a step (R15, R16, R34, R143, R225, R228, R231, R237, R273, R316, R382, R398, R399, R418, R433, R477, R509, R514). -/
namespace Sys2Proof.Machine

/-- Is a context its plot's turn (R477): with no calendar its lowest-numbered CREATED context, else the context of the
current slice? -/
def Dev.turnOf (d : Dev) (c : Nat) : Bool :=
  let pn := (d.ctx c).plot
  let p := d.plot pn
  match p.running with
  | none => ((d.ctxs.filter (fun e => e.2.plot = pn && e.2.st = 1)).map (·.1)).head? = some c
  | some _ => match p.slice with
    | some (x, _) => x = c && p.resident = some c && p.switching.isNone
    | none => false

/-- Does a deadline end within the slice (R34, R477)? Without a calendar the slice is unbounded. -/
def Dev.sliceFits (d : Dev) (c deadline : Nat) : Bool :=
  let p := d.plot (d.ctx c).plot
  match p.running, p.slice with
  | some _, some (_, fin) => decide (d.now + deadline ≤ fin.toNat)
  | some _, none => false
  | none, _ => true

/-- The canary context runs one step per interval (R514). -/
def Dev.canaryCtx (d : Dev) (c : Nat) : Bool := bitN (d.rgN 0x000 0x840 0) 8 && bitsN (d.rgN 0x000 0x840 0) 0 8 = c
def Dev.canaryAllows (d : Dev) (c : Nat) : Bool := !d.canaryCtx c || d.recov.canaryDue

/-- Has the host set PARAM_READY where the bundle has HOST registers (R231)? -/
def Dev.paramsReady (d : Dev) (c : Nat) (b : Bundle) : Bool :=
  !b.body.params.any (fun q => q.owner = .host) || (d.ctx c).paramReady

/-- Are KV moves of a context under way (R273, R426)? -/
def Dev.compacting (d : Dev) (c : Nat) : Bool := !(d.kc c).moves.isEmpty

/-- The batch a context's next release runs: the Kiosk's composition, or on a follower the lead's record of that step
(R398, R433): variant, values, image. -/
def Dev.composed (d : Dev) (c : Nat) (b : BundleBody) (vs : List VariantBody) : Option (Nat × VariantBody × List (Nat × Nat) × List Byte) :=
  let k := d.kc c
  if d.follows c || d.isShadow then
    match k.follow.find? (fun f => f.step = (d.ctx c).steps.toNat + 1) with
    | some f => (vs[f.variant]?).map (fun v => (f.variant, v, f.values, f.image))
    | none => none
  else if k.phase = .composed ∧ k.forNew = d.taking c then
    (vs[k.variant]?).map (fun v => (k.variant, v, [], d.inputImage b v (k.batch.map (·.seq))))
  else none

/-- Do the set's pavilions run, and hold its issue streams (R15, R226)? -/
def Dev.groupReady (d : Dev) (c set key : Nat) (b : Bundle) : Bool :=
  let g := d.groupOf (d.ctx c).plot
  (List.range 32).all (fun n => !b.setUses set n || (g.contains n && (d.pav n).banks.contains (some (c, key)))) &&
    g.all (fun n => (d.pav n).run = .idle)

/-- Do the controllers of a plot's packages serve (R549, R619, R621): none of them retrains? A FAILED one is out of service. -/
def Dev.packagesUp (d : Dev) (p : Nat) : Bool :=
  (bitList (d.plot p).packages 16).all (fun n => (d.mc n).phy = 2 || (d.mc n).phy = 3)

/-- The conditions of a release that do not depend on who asks for it. -/
def Dev.canRelease (d : Dev) (c : Nat) : Option (Bundle × Nat × Nat × VariantBody × List (Nat × Nat) × List Byte) :=
  let x := d.ctx c
  if x.st ≠ 1 || (d.plot x.plot).st ≠ 1 || (d.plot x.plot).assigning || (d.step x.plot).running || x.ended.isSome ||
      x.imageEcc || d.power.fatal || d.power.tripped || d.power.phase ≠ .live || d.power.state ≠ 0 || !d.packagesUp x.plot || (d.kc c).resetWanted || bitN (d.rgN 0x003 0x030 0) 0 ||
      d.compacting c || !d.canaryAllows c ||
      d.recov.promoteAt.isSome then none
  else match d.nextBundle c with
    | none => none
    | some (b, set, key) =>
      match d.composed c b.body ((b.set set).getD []) with
      | none => none
      | some (vn, v, vals, img) =>
        if d.groupReady c set key b && d.paramsReady c b && (d.follows c || d.isShadow || d.roomFor c v) then
          some (b, set, vn, v, vals, img)
        else none

/-- A pavilion at cycle 0 of a step (R143): accumulators, working store and weight tier keep their contents. -/
def Pav.startStep (p : Pav) (plot c : Nat) : Pav :=
  { p with
    run := .running, plot := plot, ctx := c, cycle := 0, gated := false, issued := [], ended := false, stall := none, held := [], lastCause := 0
    sregs := [], idx := [], preds := [], ctrs := [], tiles := [], pend := [], checks := [], active := [], loops := [], fifos := []
    wires := [], freeCnt := p.cutFree, freed := [], lost := ⟨0, 0, 0, 0, 0, 0⟩, stretched := 0, carryStretch := 0, lastStretched := 0, minMargin := 63
    fills := [], vecTo := 0 }

/-- The bytes of a reduction buffer's planes. -/
def RedBuf.valueLen (r : RedBuf) : Nat := match r.n with
  | some n => r.elems * (n.bits / 8)
  | none => 4 * r.elems

/-- The reduction buffers of a bundle cleared at a step's start (R197, R279). -/
def Dev.clearRed (d : Dev) (b : BundleBody) : Dev :=
  forEach b.redBufs d (fun s r => s.onPav r.pav (fun p => { p with
    store := (p.store.clear r.off r.valueLen).clear r.cmpOff (if r.n.isSome then 2 * r.elems else 0) }))

/-- Every tracker of a plot: NEXT becomes CURRENT, NEXT becomes 0 (R316). -/
def Dev.turnTrackers (d : Dev) (p : Nat) : Dev :=
  { d with trackers := d.trackers.map (fun e => if inRange (d.plot p).trkRange e.1 then (e.1, ⟨e.2.next, 0⟩) else e) }

/-- The switch of sets at a release (R237): counted, with the ticks since the loss. -/
def Dev.switchSet (d : Dev) (c set : Nat) : Dev :=
  let x := d.ctx c
  if x.set = set then d
  else
    ((d.setCtx c { x with set := set }).count 0x002 0x114 1).setN 0x002 0x430 0 (min (2 ^ 32 - 1) (d.time.elapsed - x.lossAt))

/-- The transfer that fills the bundle's input buffer from the input image (R398, R399). -/
def Dev.fillInput (d : Dev) (c : Nat) (b : BundleBody) (img : List Byte) : Dev :=
  match b.inputBuf.bind (fun k => b.staging[k]?) with
  | none => d
  | some st =>
    let n := min img.length (1024 * st.kib)
    let serial := d.serial
    let r := d.openLocal (.kioskInput c) .inputFill (d.ctx c).plot (fun x => { x with
      loc := st.pav * 2 ^ 25 + st.off, len := n, addr := d.number * 2 ^ 52 + st.pav * 2 ^ 25 + st.off
      got := Mem.store [] 0 (img.take n), gotBursts := List.range (ceilDiv n 64) })
    match r.1.stagingAt st.pav st.off with
    | some (k, _) => r.1.reserveFill st.pav k serial (kibOf n) true
    | none => r.1

/-- The release itself: bundle, set, parameters, trackers, pavilions, the step controller, the input buffer. -/
def Dev.release (d : Dev) (c : Nat) (b : Bundle) (set vn : Nat) (v : VariantBody) (vals : List (Nat × Nat)) (img : List Byte) : Dev :=
  let x := d.ctx c
  let p := x.plot
  let no := x.steps + 1
  let d1 := if d.taking c then d.activate c else d
  let d2 := forEach vals (d1.switchSet c set) (fun s e => (s.patch c .kiosk e.1 (BitVec.ofNat 64 e.2)).1)
  let d3 := (d2.onCtx c (fun x => let y := x.landed d2.time.elapsed; { y with live := y.pend, paramReady := false, verdicts := y.verdicts.filter (fun v => decide (no.toNat ≤ v / 4096)) })).count 0x002 0x10C 1
  let grp := d3.groupOf p
  let d4 := forEach grp ((d3.turnTrackers p).clearRed b.body) (fun s n => s.onPav n (·.startStep p c))
  let canary := d4.canaryCtx c && d4.recov.canaryDue
  let old := d4.step p
  let fin : Option W64 := match (d4.plot p).running, (d4.plot p).slice with
    | some _, some e => some e.2
    | _, _ => none
  let kept : SMap StepCtl := if old.beats = 0 then d4.lastSteps else d4.lastSteps.put old.ctx old
  let d5 := ({ d4 with lastSteps := kept }).setStep p { (d4.step p) with
    running := true, ctx := c, variant := vn, beats := v.beats, deadline := v.deadline, start := d4.time.count
    startEl := d4.time.elapsed, group := grp.foldl (fun m n => m + 2 ^ n) 0, sliceFin := fin, beat := 0, throttle := 0, varExec := false
    withheld := false, abandoned := false, canary := canary }
  let gap := if (d5.kc c).commitTick = 0 then 0 else min (2 ^ 32 - 1) (d5.time.count - (d5.kc c).commitTick).toNat
  let d6 := ((d5.setN 0x003 0x45C c gap).onKc c (fun k => { k with phase := .released })).endHold c
  let d7 := if canary then { d6 with recov := { d6.recov with canaryDue := false } } else d6
  let d8 := d7.onPlot p (fun y => { y with resident := some c })
  let d9 := d8.fillInput c b.body img
  match (d9.ctx c).withholdNext.find? (fun e => e.1 = no) with
  | some (_, org) => (d9.onCtx c (fun y => { y with withholdNext := y.withholdNext.filter (fun e => e.1 ≠ no) })).abandon p .remoteAbort org 0
  | none => d9

/-- Is the bundle that a release would activate one of which no set can run (R238)? -/
def Dev.noSetFits (d : Dev) (c : Nat) : Bool :=
  let x := d.ctx c
  d.taking c && !(d.step x.plot).running && x.ended.isNone && (match x.staged.bundle with
    | some b => (d.chooseSet x.plot b).isNone
    | none => false)

/-- STEP_RELEASE: a context whose turn it is, whose deadline fits the slice (R34), and, for a multi-device bundle, that a
launch has started (R382, R458). A requested bundle of which no set can run is activated and releases nothing (R238). -/
def Dev.stepRelease (d : Dev) (c : Nat) : Dev :=
  match d.canRelease c with
  | none => if d.noSetFits c then d.activate c else d
  | some (b, set, vn, v, vals, img) =>
    let fresh := d.taking c
    if !d.turnOf c || !d.sliceFits c v.deadline || (b.multi && (fresh || (d.ctx c).launch.isNone)) then d
    else d.release c b set vn v vals img

/-- STEP_RELEASE. -/
def execStepRelease (ctx : Nat) (s : State) : Host.Outcome State Fault Refusal := onDev (·.stepRelease ctx) s

end Sys2Proof.Machine
end

