-- ==== Sys2Proof/Machine/Clocks.lean ====
section
/-! DEFINITION. The time domain: reference and holdover, the upstream port and sync states, steering and jumps, launches (R372 to R387). -/
namespace Sys2Proof.Machine

/-- The device steers to nothing: it is the manager, or the only one (R378, R380). -/
def Dev.timeFree (d : Dev) : Bool := d.isManager || d.systemSize = 1

/-- A change of the sync state; an exit from SYNCED sets SYNC_ALARM and is counted (R380, R388). -/
def Dev.setSync (d : Dev) (st : Nat) (up : Option Nat) : Dev :=
  let d1 := { d with time := { d.time with sync := st, upstream := up, good := if st = d.time.sync then d.time.good else 0 } }
  if d.time.sync = 3 && (st = 1 || st = 2) then (d1.count 0x004 0x108 1).raise 0x004 3 Where.none else d1

/-- May a port be the upstream one (R378)? -/
def Dev.upstreamOk (d : Dev) (n : Nat) : Bool := (d.port n).st = .up && ((d.port n).peerManager || (d.port n).peerSynced)

/-- The minimal ports toward the manager in the active bank, where MANAGER_ID names it (R378, R601). -/
def Dev.managerPorts (d : Dev) : Nat :=
  let m := d.rgN 0x000 0x418 0
  if bitN m 12 then entryPorts (d.router.entry d.router.active (bitsN m 0 12)) else 0

/-- The upstream port and the sync state chosen anew (R378, R380): a kept port stays; else the manager's own port, else a port of a
synced peer at the smallest distance, a minimal port toward the manager before any other, the lower of equal ones (log entry 39). -/
def Dev.retime (d : Dev) : Dev :=
  if d.timeFree then d.setSync 0 none
  else
    let cand := (List.range 12).filter d.upstreamOk
    let pick := match cand.find? (fun n => (d.port n).peerManager) with
      | some n => some n
      | none => match cand.find? (fun n => bitN d.managerPorts n) with
        | some n => some n
        | none => cand.head?
    let up := match d.time.upstream with
      | some n => if d.upstreamOk n then some n else pick
      | none => pick
    if d.time.expired || up.isNone then d.setSync 1 up
    else if up = d.time.upstream && (d.time.sync = 2 || d.time.sync = 3) then d
    else d.setSync 2 up

/-- The conditions under which the counter may jump (R379), the offset apart. -/
def Dev.jumpOk (d : Dev) : Bool :=
  !d.ctxs.any (fun e => e.2.active.isSome) && d.time.launch ≠ 1 && d.router.armed.isNone &&
    d.plots.all (fun e => e.2.armed.isNone && e.2.running.isNone) && d.seqs.all (fun e => e.2.st = .free) && !d.shadowValid

/-- The counter set in one tick (R379); the PTP mapping is discarded (R373). -/
def Dev.jumpTo (d : Dev) (v : W64) : Dev :=
  ({ d with time := { d.time with count := v }, ptp := { d.ptp with valid := false } }).count 0x004 0x120 1

/-- The rate that removes an offset over 10 ms (R379), in 0.01 ppm: an eighth of a tick is 1.25 such steps. -/
def removeRate (theta : Int) : Int := -(theta * 10).tdiv 8

/-- A rate clamped to 100 ppm (R379). -/
def clampRate (r : Int) : Int := max (-10000) (min 10000 r)

/-- The sync state after an exchange with an offset on the upstream port (R380): 8 in a row within half a tick for SYNCED, an offset
beyond SYNC_ALARM leaves it. -/
def Dev.judgeSync (d : Dev) (theta : Int) : Dev :=
  let good := if theta.natAbs ≤ 4 then d.time.good + 1 else 0
  let d1 := { d with time := { d.time with good := good } }
  if d1.time.sync = 2 && decide (8 ≤ good) then { d1 with time := { d1.time with sync := 3 } }
  else if d1.time.sync = 3 && decide (d1.rgN 0x004 0x41C 0 < theta.natAbs) then d1.setSync 2 d1.time.upstream
  else d1

/-- An exchange on the upstream port (R379, R380): a jump where one may take place, else the slew; then the sync state. -/
def Dev.steer (d : Dev) (theta : Int) : Dev :=
  let d0 := { d with time := { d.time with offset := theta } }
  (if 8000 < theta.natAbs && d0.jumpOk then d0.jumpTo (d0.time.count - BitVec.ofInt 64 (theta / 8))
   else
    let f := Config.freqEstimate d0.time.freq theta
    { d0 with time := { d0.time with freq := f, rate := clampRate (removeRate theta + f) } }).judgeSync theta

/-- REF_LOSS (R374): no reference edge for 100 ticks. -/
def Dev.refLoss (d : Dev) : Dev :=
  if !d.power.refOk then d
  else
    let d1 := { d with power := { d.power with refOk := false, refSince := d.time.elapsed },
                       time := { d.time with holdover := true, holdSince := d.time.elapsed } }
    (d1.count 0x004 0x10C 1).raise 0x004 0 Where.none

/-- REF_LOSS. -/
def execRefLoss (s : State) : Host.Outcome State Fault Refusal := onDev Dev.refLoss s

/-- REF_RETURN (R374, R614): the PLL relocks and holdover ends; the bound of CALIBRATE starts again. -/
def Dev.refReturn (d : Dev) : Dev :=
  if d.power.refOk then d
  else
    ({ d with power := { d.power with refOk := true, refSince := d.time.elapsed },
              time := { d.time with holdover := false, expired := false } }).retime

/-- REF_RETURN. -/
def execRefReturn (s : State) : Host.Outcome State Fault Refusal := onDev Dev.refReturn s

/-- HOLDOVER_EXPIRY (R374): holdover has lasted its limit; a device that is not FREE enters UNSYNCED. -/
def Dev.holdoverExpiry (tie : Nat) (d : Dev) : Dev :=
  if !d.time.holdover || d.time.expired || d.time.elapsed < d.time.holdSince + ticksMs * d.rgN 0x004 0x418 0 + tie then d
  else
    let d1 := ({ d with time := { d.time with expired := true } }).raise 0x004 1 Where.none
    if d1.time.sync = 0 then d1 else d1.setSync 1 d1.time.upstream

/-- HOLDOVER_EXPIRY. -/
def execHoldoverExpiry (s : State) : Host.Outcome State Fault Refusal := onTimer Dev.holdoverExpiry s

/-- TIME_PLL_UNLOCK (R375): the time PLL loses lock with a reference present: class X. -/
def Dev.pllUnlock (d : Dev) : Dev :=
  if !d.time.locked || !d.power.refOk then d
  else ({ d with time := { d.time with locked := false } }).raise 0x004 2 Where.none

/-- TIME_PLL_UNLOCK. -/
def execTimePllUnlock (s : State) : Host.Outcome State Fault Refusal := onDev Dev.pllUnlock s

/-! ### Launches -/

/-- An arm (R382, R383). -/
def Dev.launchArm (d : Dev) (c : Nat) : Dev :=
  let at_ := BitVec.ofNat 64 (d.rg64 0x004 0x420 0)
  let ok := decide (d.time.count < at_) && (d.time.sync = 0 || d.time.sync = 3) && (d.ctx c).multi
  if ok then { d with time := { d.time with launch := 1, launchLate := false, launchCtx := c, launchAt := at_ } }
  else ({ d with time := { d.time with launch := 3, launchLate := false, launchCtx := c } }).record 0x004 4 Where.none

/-- LAUNCH_ARM. -/
def execLaunchArm (r : Route) (ctx : Nat) (s : State) : Host.Outcome State Fault Refusal :=
  onReg r 0x004 0x428 (ctx % 256 + 256) (·.launchArm (ctx % 256)) s

/-- Is this a tick in which the armed launch releases its step (R382, R384)? -/
def Dev.launchDue (d : Dev) : Bool :=
  d.time.launch = 1 && decide (d.time.launchAt ≤ d.time.count) && (match d.canRelease d.time.launchCtx with
    | some (_, _, _, v, _, _) => d.turnOf d.time.launchCtx && d.sliceFits d.time.launchCtx v.deadline
    | none => false)

/-- A cancel (R384): one in the tick in which the step is released finds it released; it is refused and changes nothing. -/
def Dev.launchCancel (d : Dev) (c : Nat) : Dev :=
  d.when (d.time.launch = 1 && d.time.launchCtx = c && !d.launchDue) (fun e => { e with time := { e.time with launch := 0 } })

/-- LAUNCH_CANCEL. -/
def execLaunchCancel (r : Route) (ctx : Nat) (s : State) : Host.Outcome State Fault Refusal :=
  onReg r 0x004 0x428 (ctx % 256 + 512) (·.launchCancel (ctx % 256)) s

/-- The armed launch releases its context's first step at the launch count, or at the first tick after it at which the device
can (R382, R384). -/
def Dev.launch (d : Dev) : Dev :=
  let c := d.time.launchCtx
  if d.time.launch ≠ 1 || d.time.count < d.time.launchAt then d
  else match d.canRelease c with
    | none => d
    | some (b, set, vn, v, vals, img) =>
      if !d.turnOf c || !d.sliceFits c v.deadline then d
      else
        let late := decide (d.time.launchAt < d.time.count)
        let at_ := d.time.launchAt
        let d1 := (d.release c b set vn v vals img).onCtx c (fun x => { x with launch := some at_ })
        let d2 := ({ d1 with time := { d1.time with launch := 2, launchLate := late, launchTick := d.time.count } }).count 0x004 0x114 1
        if late then d2.record 0x004 5 Where.none else d2

/-- LAUNCH. -/
def execLaunch (s : State) : Host.Outcome State Fault Refusal := onDev Dev.launch s

/-- TIME_JUMP_CMD (R379, R386): a jump to JUMP_TO on a FREE device. -/
def execTimeJumpCmd (r : Route) (s : State) : Host.Outcome State Fault Refusal :=
  onReg r 0x004 0x478 1 (fun d => d.when (d.time.sync = 0 && d.jumpOk) (·.jumpTo (BitVec.ofNat 64 (d.rg64 0x004 0x470 0)))) s

end Sys2Proof.Machine
end

