-- ==== Sys2Proof/Machine/Commit.lean ====
section
/-! DEFINITION. The commit point: the commit tensor, tree verification, stop rules, records, page-map edits, retries, parks, idle commits, followers (R410 to R434, R457, R519). -/
namespace Sys2Proof.Machine

/-- The 2 KiB of a slot of the commit tensor (R424); a bundle without one is read as zeros (DESIGN CHOICE, log entry 33). -/
def Dev.commitSlot (d : Dev) (b : BundleBody) (i : Nat) : List Byte :=
  match b.commit with
  | some r => (d.pav r.pav).store.bytes (r.off + 2048 * i) 2048
  | none => List.replicate 2048 0

/-- Fields of a node (R424). -/
def ctDraft (raw : List Byte) (u : Nat) : Nat := fieldOf raw (128 + 16 * u) 4
def ctSample (raw : List Byte) (u : Nat) : Nat := fieldOf raw (132 + 16 * u) 4
def ctResid (raw : List Byte) (u : Nat) : Nat := fieldOf raw (136 + 16 * u) 4
def ctLpDraft (raw : List Byte) (u : Nat) : Nat := fieldOf raw (140 + 16 * u) 2
def ctLpSample (raw : List Byte) (u : Nat) : Nat := fieldOf raw (142 + 16 * u) 2
def ctQ (raw : List Byte) (u : Nat) : Nat := fieldOf raw (1152 + 4 * u) 4
def ctP (raw : List Byte) (u : Nat) : Nat := fieldOf raw (1408 + 4 * u) 4
def ctLpResid (raw : List Byte) (u : Nat) : Nat := fieldOf raw (1664 + 2 * u) 2

/-- The nodes of a slot that count, and the depth of each, 0 where it is not valid (R179, R424, R425). -/
def ctNodes (tree : Bool) (raw : List Byte) : Nat := if tree then min (fieldOf raw 64 4) 64 else 1
def ctDepths (tree : Bool) (raw : List Byte) : List Nat := treeDepths ((raw.take 64).map (·.toNat)) (ctNodes tree raw)

/-- The valid children of a node, ascending (R425). -/
def ctKids (tree : Bool) (raw : List Byte) (u : Nat) : List Nat :=
  (List.range (ctNodes tree raw)).filter (fun c =>
    nthD (ctDepths tree raw) c 0 ≠ 0 && decide (u < c) && (nthD raw c 0).toNat = u)

/-- The ratio test (R425): g × Q < P with one rounding of the product; with Q at 0, P above 0. -/
def ratioTest (seed tokens : Nat) (raw : List Byte) (c : Nat) : Bool :=
  if (fp32 (ctQ raw c)).isZero then fp32Cmp .lt 0 (ctP raw c)
  else fp32Cmp .lt (fp32Mul (uniform (draw 3 0 c seed tokens 0)) (ctQ raw c)) (ctP raw c)

/-- The walk of the tree from a node (R425): the accepted nodes, and whether the last node had a valid child. -/
def treeWalk (ratio tree : Bool) (seed tokens : Nat) (raw : List Byte) : Nat → Nat → List Nat × Bool
  | 0, _ => ([], false)
  | n + 1, u =>
    let kids := ctKids tree raw u
    match kids.find? (fun c => if ratio then ratioTest seed tokens raw c else ctDraft raw c = ctSample raw u) with
    | some c => let r := treeWalk ratio tree seed tokens raw n c; (c :: r.1, r.2)
    | none => ([], !kids.isEmpty)

/-- A token a commit may deliver. -/
structure Tok where
  tok : Nat
  pos : Nat
  lp : Nat
  flags : Nat
  deriving DecidableEq, Repr

/-- The tokens of the accepted path and the final token (R425); `base` is node 0's position. -/
def pathToks (ratio : Bool) (raw : List Byte) (base : Nat) (w : List Nat × Bool) : List Tok :=
  let last := w.1.getLastD 0
  let fin : Tok := if ratio && w.2 then ⟨ctResid raw last, base + w.1.length + 1, ctLpResid raw last, 0⟩
    else ⟨ctSample raw last, base + w.1.length + 1, ctLpSample raw last, 0⟩
  ((List.range w.1.length).zip w.1).map (fun e => ⟨ctDraft raw e.2, base + e.1 + 1, ctLpDraft raw e.2, fDraft⟩) ++ [fin]

/-- The bytes of a token (R421). -/
def Dev.tokenBytes (d : Dev) (c t : Nat) : List Byte :=
  if bitsN (d.rgN 0x003 0x428 c) 0 19 ≤ t then []
  else
    let base := gaOff (d.rg64 0x003 0x420 c)
    d.lpRead (base + d.lpNat (base + 8 * t) 4) (min 64 (d.lpNat (base + 8 * t + 4) 1))

/-- Does a stop string end within the new bytes (R421)? -/
def endsWithin (tail new str : List Byte) : Bool :=
  !str.isEmpty && (List.range new.length).any (fun k =>
    let t := tail ++ new.take (k + 1)
    decide (str.length ≤ t.length) && t.drop (t.length - str.length) = str)

/-- The stop block of a request (R420): token ids and strings. -/
def Dev.stopBlock (d : Dev) (c i : Nat) : List Nat × List (List Byte) :=
  let x := d.extGet i 8 4
  if !bitN (d.kcfg c) 4 || x = 2 ^ 32 - 1 then ([], [])
  else
    let bs := d.lpRead (gaOff (d.rg64 0x003 0x42C c) + 512 * x) 512
    (((List.range 16).map (fun k => fieldOf bs (4 * k) 4)).filter (· ≠ 2 ^ 32 - 1),
     (List.range 4).map (fun k => (bs.drop (128 + 64 * k)).take (min 64 (fieldOf bs (64 + k) 1))))

/-- Is a committed token a stop match (R420, R421)? -/
def Dev.stopMatch (d : Dev) (c : Nat) (blk : List Nat × List (List Byte)) (tail new : List Byte) (t : Nat) : Bool :=
  let eos := d.rgN 0x003 0x40C c
  (eos ≠ 2 ^ 32 - 1 && t = eos) || blk.1.contains t || blk.2.any (endsWithin tail new ·)

/-- Tokens cut after the first stop match and at MAX_NEW (R410, R422): the delivered ones, whether the last is a match, and
the tail that stays. -/
def Dev.cutToks (d : Dev) (c : Nat) (blk : List Nat × List (List Byte)) : Nat → List Byte → List Tok → List Tok × Bool × List Byte
  | _, tail, [] => ([], false, tail)
  | 0, tail, _ => ([], false, tail)
  | n + 1, tail, t :: ts =>
    let new := d.tokenBytes c t.tok
    let all := tail ++ new
    let tail1 := all.drop (all.length - 63)
    if d.stopMatch c blk tail new t.tok then ([{ t with flags := t.flags + fStop }], true, tail1)
    else
      let r := Dev.cutToks d c blk n tail1 ts
      (t :: r.1, r.2.1, r.2.2)

/-- The chain of a sequence as its position stands (R427): PARTIAL cleared where a block is full, TAIL on the last page. -/
def Dev.fixChain (d : Dev) (b : BundleBody) (i : Nat) : Dev :=
  let ps := d.seqPages i
  let pos := (d.seq i).position
  let d1 := forEach ((List.range ps.length).zip ps) d (fun s e =>
    s.setPage e.2 { s.page e.2 with partial_ := decide (pos < (e.1 / b.streams + 1) * b.perPage), tail := decide (e.1 + 1 = ps.length) })
  d1.setSeq i { d1.seq i with tail := ps.getLastD 0 }

/-- Blocks beyond the last position in the pages freed, back to RESERVED_PAGES (R426). -/
def Dev.trimChain (d : Dev) (b : BundleBody) (i : Nat) : Dev :=
  let e := d.seq i
  let ps := d.seqPages i
  let keep := ((e.position - 1) / b.perPage + 1) * b.streams
  let gone := ps.drop keep
  let d1 := match (ps.take keep).getLast? with
    | some p => if gone.isEmpty then d else d.setPage p { d.page p with tail := true }
    | none => d
  ((d1.onPages gone PageEntry.freed).setSeq i { e with reservedPages := e.reservedPages + gone.length }).fixChain b i

/-- Moves of KV entries after a verification (R272, R426): the pages involved COMPACTING, the moves under way; without a
move the pages beyond are freed at once. -/
def Dev.startMoves (d : Dev) (c : Nat) (b : BundleBody) (i base : Nat) (path : List Nat) : Dev :=
  let mv := (((List.range path.length).zip path).filter (fun e => e.2 ≠ e.1 + 1)).map (fun e => (⟨i, base + e.2, base + e.1 + 1⟩ : KvMove))
  if mv.isEmpty then d.trimChain b i
  else
    let ps := d.seqPages i
    let blocks := mv.flatMap (fun m => [m.fromPos / b.perPage, m.toPos / b.perPage])
    let hit := (List.range ps.length).filter (fun k => blocks.contains (k / b.streams))
    let d1 := d.onPages (hit.map (fun k => nthD ps k 0)) (fun p => { p with st := 5 })
    (d1.onKc c (fun k => { k with moves := k.moves ++ mv })).count 0x003 0x12C (mv.length * b.streams)

/-- The first cancel of a request accepted before a tick. -/
def Dev.cancelled (d : Dev) (c i : Nat) (tick : Nat) : Option KCmd :=
  (d.kc c).cmds.find? (fun q => q.kind = .cancel && q.idx = i && q.gen = (d.seq i).gen && decide (q.tick.toNat < tick))
def Dev.dropCmd (d : Dev) (c : Nat) (q : KCmd) : Dev := d.onKc c (fun k => { k with cmds := k.cmds.erase q })

/-- One slot of a step that samples (R410, R422 to R426). -/
def Dev.sampleSlot (d : Dev) (c : Nat) (b : BundleBody) (s : BatchSlot) (raw : List Byte) (tick prompt : Nat) : Dev × Option Decision :=
  let i := s.seq
  let e := d.seq i
  let ratio := bitN (d.kcfg c) 3
  let base := s.first + s.count - 1
  let w := treeWalk ratio e.tree e.seed e.tokensOut raw 64 0
  let valid := ((List.range 64).filter (fun k => k ≠ 0 && nthD (ctDepths e.tree raw) k 0 ≠ 0)).length
  let d1 := if e.tree then (d.count 0x003 0x124 valid).count 0x003 0x128 w.1.length else d
  let tail := d1.lpRead (d1.extOff i + 0x21) (min 63 (d1.extGet i 0x20 1))
  let cut := d1.cutToks c (d1.stopBlock c i) (e.maxNew - e.tokensOut) tail (pathToks ratio raw base w)
  let n := cut.1.length
  let late := e.deadline ≠ 0 && decide (e.deadline < tick)
  let out := e.tokensOut + n
  let status := if late then 4 else if cut.2.1 then 1 else if e.maxNew ≤ out then 2 else 0
  let d2 := forEach ((List.range n).zip cut.1) d1 (fun t x =>
    let last := decide (x.1 + 1 = n)
    t.post_ c ⟨e.outRing, i, e.gen, if last then status else 0, x.2.tok, x.2.pos, x.2.lp,
      x.2.flags + (if late then fLate else 0) + (if last && status ≠ 0 then fFinal else 0)⟩)
  let fin := cut.1.getLastD ⟨e.nextToken, e.position, 0, 0⟩
  let d3 := (d2.setSeq i { e with position := fin.pos, nextToken := fin.tok, tokensOut := out }).count 0x003 0x120 n
  let d4 := (d3.extPut i 0x20 1 cut.2.2.length).lpWrite (d3.extOff i + 0x21) cut.2.2
  let d5 := d4.charge e.account tick prompt n
  let dec : Decision := ⟨handleOf i e.gen, fin.pos, out, prompt, base, w.1, status ≠ 0, false⟩
  if status ≠ 0 then ((if n = 0 then d5.result c e.outRing i e.gen status fFinal else d5).endSeq i status, some dec)
  else (d5.startMoves c b i base (w.1.take (n - 1)), some dec)

/-- One slot at the commit point (R410). -/
def Dev.slotCommit (d : Dev) (c : Nat) (b : BundleBody) (s : BatchSlot) (raw : List Byte) (tick : Nat) : Dev × Option Decision :=
  let i := s.seq
  let e := d.seq i
  if e.st ≠ .running || e.ctx ≠ c then (d, none)
  else match d.cancelled c i tick with
    | some q => ((d.dropCmd c q).complete i 3, some ⟨handleOf i e.gen, e.position, e.tokensOut, 0, e.position, [], true, false⟩)
    | none =>
      let prompt := if e.promptLeft = 0 then 0 else s.count
      let d1 := d.setSeq i { e with retries := 0, promptLeft := e.promptLeft - prompt, promptAddr := e.promptAddr + 4 * prompt }
      if s.sample then d1.sampleSlot c b s raw tick prompt
      else
        let d2 := (d1.setSeq i { d1.seq i with position := e.position + s.count }).charge e.account tick prompt 0
        (d2.fixChain b i, some ⟨handleOf i e.gen, e.position + s.count, e.tokensOut, prompt, e.position, [], false, false⟩)

/-- Pages of a park region that a plot's parks use (R432). -/
def Dev.grantUsed (d : Dev) (p : Nat) : List Nat :=
  (d.kctx.filter (fun e => (d.ctx e.1).plot = p)).flatMap (fun e =>
    e.2.parkedAt.flatMap (·.2) ++ e.2.parks.flatMap (·.remote))

/-- One page copied to the remote park region by PUT (R432): the transfer's serial number. -/
def Dev.copyPage (d : Dev) (c i dev local_ remote : Nat) : Dev × Nat :=
  let bs := d.lpRead (32768 * local_) 32768
  let r := d.openFabric (.kioskPark c i) .put (d.ctx c).plot (fun x => { x with
    len := 32768, addr := dev * 2 ^ 52 + 2 ^ 49 + 32768 * remote, pcount := ceilDiv 32768 448, pages := [local_] })
  (r.1.postAll r.2 (r.1.dataPackets r.2 0x00 1 r.2.addr none bs), r.2.serial)

/-- A remote park that cannot be made, or whose copies failed (R432). -/
def Dev.parkFail (d : Dev) (i : Nat) : Dev :=
  (d.complete i 9).record 0x003 5 ⟨none, some (d.ctx (d.seq i).ctx).plot, 0, 0, 0⟩

/-- A request parked at a commit point (R429, R432), and the followers told. -/
def Dev.park (d : Dev) (c i ttl tick : Nat) : Dev :=
  let e := d.seq i
  let d0 := d.onKc c (fun k => { k with notes := k.notes ++ [⟨handleOf i e.gen, e.position, e.tokensOut, 0, e.position, [], false, true⟩] })
  let d1 := (d0.setSeq i { e with st := .parked, parkPending := false, reservedPages := 0 }).extPut i 0x10 8 (tick + 1000000 * ttl)
  let d2 := d1.extPut i 0x0C 4 ttl
  if !bitN (d.kcfg c) 5 then
    ((d2.onPages (d2.seqPages i) (fun p => { p with st := 2 })).result c e.outRing i e.gen 0x12 0).count 0x003 0x130 1
  else
    let cfg := d2.rgN 0x003 0x444 c
    let local_ := d2.seqPages i
    let used := d2.grantUsed (d2.ctx c).plot
    let first := bitsN (d2.rgN 0x003 0x448 c) 0 24
    let grant := (((List.range (min (bitsN (d2.rgN 0x003 0x44C c) 0 24) (used.length + local_.length))).map (first + ·)).filter
      (fun p => !used.contains p)).take local_.length
    if !bitN cfg 12 || grant.length < local_.length then d2.parkFail i
    else
      let dev := bitsN cfg 0 12
      let r := forEach (local_.zip grant) (d2, ([] : List Nat)) (fun s x => let q := s.1.copyPage c i dev x.1 x.2; (q.1, s.2 ++ [q.2]))
      r.1.onKc c (fun k => { k with parks := k.parks ++ [⟨i, dev, local_, grant, r.2, false, false⟩] })

/-- A waiting command of a request answered at a commit point (R410, R429, R434); a park waits for a compaction of the request's
pages (R532). -/
def Dev.answerCmd (d : Dev) (c i tick : Nat) (q : KCmd) : Dev :=
  let e := d.seq i
  if q.kind = .submit then d
  else if e.gen ≠ q.gen ∨ e.st = .free then (d.dropCmd c q).result c e.outRing i q.gen 0x10 0
  else if tick ≤ q.tick.toNat then d
  else match q.kind with
    | .cancel => (d.dropCmd c q).complete i 3
    | .park =>
      if (d.kc c).moves.any (fun m => m.seq = i) then d
      else if e.st = .running then (d.dropCmd c q).park c i q.ttl tick
      else (d.dropCmd c q).result c e.outRing i q.gen 0x14 0
    | _ => d

/-- Does the extension of a sequence lie in an uncorrectable burst (R393, R413, R437)? -/
def Dev.extBad (d : Dev) (i : Nat) : Bool := d.dramBad.any (fun b => b = d.extOff i / 64 || b = d.extOff i / 64 + 1)

/-- What completes a request at a commit point after the slots (R410, R412, R413, R431), and its waiting commands. -/
def Dev.afterSlot (d : Dev) (c i tick : Nat) : Dev :=
  let e := d.seq i
  let k := d.kc c
  let dead := e.deadline ≠ 0 && decide (e.deadline < tick)
  let exp := d.extGet i 0x10 8
  let resumed := k.cmds.any (fun q => q.kind = .resume && q.idx = i && q.gen = e.gen && decide (q.tick.toNat ≤ exp))
  let copying := k.parks.any (fun p => p.seq = i)
  let d1 :=
    if e.st = .free || e.ctx ≠ c then d
    else if (d.ctx c).noVariant || (d.ctx c).st = 2 || (d.plot (d.ctx c).plot).st = 2 || k.aborts.contains i || (e.st = .running && decide (d.retryLimit c ≤ e.retries)) then d.complete i 9
    else if d.extBad i then (d.raise 0x003 7 ⟨none, some (d.ctx c).plot, 0, 0, i⟩).complete i 9
    else if (e.st = .queued || e.st = .parked || e.st = .resuming) && dead then d.complete i 4
    else if e.st = .parked && decide (exp < tick) && !resumed && !copying then d.complete i 8
    else d
  forEach (k.cmds.filter (fun q => q.idx = i)) d1 (fun s q => s.answerCmd c i tick q)

/-- The requests of a context after the slots, in index order. -/
def Dev.afterSlots (d : Dev) (c tick : Nat) : Dev :=
  let is := (d.seqs.filter (fun e => e.2.ctx = c)).map (·.1)
  forEach is d (fun s i => s.afterSlot c i tick)

/-- The digest ring entry of a step (R519): on the primary and on the shadow while they follow. -/
def Dev.digestEntry (d : Dev) (step : Nat) (varExec : Bool) (slots : List (Nat × List Byte)) : Dev :=
  if !d.shadowValid || !d.recov.following then d
  else match d.localMem (d.rg64 0x000 0x834 0) with
    | none => d
    | some base =>
      let h := sha384 (toBytes 8 step ++ slots.flatMap (fun e => toBytes 3 e.1 ++ e.2))
      let bs := toBytes 8 step ++ toBytes 1 (if varExec then 1 else 0) ++ List.replicate 7 0 ++ h
      let d1 := d.lpWrite (base + 64 * (d.recov.digestPos % 4096)) bs
      ({ d1 with recov := { d1.recov with digestPos := (d1.recov.digestPos + 1) % 4096 } }).count 0x000 0x19C 1

/-- A decision as numbers, for the record that carries it. -/
def Decision.nums (x : Decision) : List Nat :=
  [x.handle, x.position, x.tokensOut, x.prompt, x.base, if x.done then 1 else 0, if x.parked then 1 else 0] ++ x.path

/-- The commit decisions sent to the followers and the shadow (R433, R509): those of the step's slots, then the other completions
and the parks since the last ones (log entry 191). -/
def Dev.sendDecisions (d : Dev) (c step : Nat) (withheld : Bool) (ds : List Decision) : Dev :=
  let others := (d.kc c).notes.filter (fun n => !(n.done && ds.any (fun x => x.done && x.handle = n.handle)))
  let vals := [step, if withheld then 1 else 0] ++ (ds ++ others).flatMap Decision.nums
  forEach (d.followersOf c ++ d.shadowOf) (d.onKc c (fun k => { k with notes := [] })) (fun s n => s.inboxSend c n 4 vals)

/-- A commit point over (R398, R439, R457): the context may compose again; a waiting PIN switch takes place. -/
def Dev.commitOver (d : Dev) (c : Nat) (e : EndedStep) : Dev :=
  ((d.onCtx c (fun x => { x with ended := none })).onKc c (fun k => { k with
    phase := .open_, batch := [], commitTick := e.endTick, resetWanted := false })).pinSwitch c

/-- A withheld step (R412): each request of it keeps its place and counts a retry. -/
def Dev.withheldCommit (d : Dev) (c : Nat) : Dev :=
  forEach (d.kc c).batch d (fun s b =>
    let e := s.seq b.seq
    if e.st ≠ .running then s else (s.setSeq b.seq { e with retries := min 255 (e.retries + 1) }).count 0x003 0x144 1)

/-- The commit of a step that is not withheld (R410, R415, R416). -/
def Dev.stepCommit (d : Dev) (c : Nat) (b : BundleBody) (e : EndedStep) : Dev :=
  let k := d.kc c
  let tick := e.endTick.toNat
  let raws := (List.range k.batch.length).map (d.commitSlot b ·)
  let cmp := (((k.batch.zip raws).filter (fun x => d.compareBit x.1.seq)).map (fun x => (d.handle x.1.seq, x.2)))
  let d1 := d.onKc c (fun y => { y with waiting := [] })
  let r := forEach (k.batch.zip raws) (d1, ([] : List Decision)) (fun s x =>
    let q := s.1.slotCommit c b x.1 x.2 tick
    (q.1, s.2 ++ q.2.toList))
  let slots := (r.1.kc c).waiting.length
  let d2 := r.1.afterSlots c tick
  let d3 := d2.onKc c (fun y => { y with waiting := y.waiting ++ k.waiting })
  let d4 := d3.writeWaiting c e.number.toNat tick (if e.varExec then 1 else 0) e.variant slots
  (d4.sendDecisions c e.number.toNat false r.2).digestEntry e.number.toNat e.varExec cmp

/-- COMMIT (R398, R410, R412, R510): of a context that leads, once its step has ended and, in a collective, every follower's
clean verdict has arrived. After a class X fault the Kiosk writes no further record (R500). -/
def Dev.commit (d : Dev) (c : Nat) : Dev :=
  let x := d.ctx c
  match x.ended, x.active with
  | some e, some b =>
    if d.follows c || d.isShadow || d.ctxRuns c || d.power.fatal then d
    else if e.withheld then ((d.withheldCommit c).sendDecisions c e.number.toNat true []).commitOver c e
    else if x.launch.isSome && !(d.followersOf c).all (fun f => x.verdicts.contains (4096 * e.number.toNat + f)) then d
    else (d.stepCommit c b.body e).commitOver c e
  | _, _ => d

/-- COMMIT. -/
def execCommit (ctx : Nat) (s : State) : Host.Outcome State Fault Refusal := onDev (·.commit ctx) s

/-- The ring a record of a context goes to (R416): the request's OUTPUT ring, or the context's lowest one where the record's
ring is none of them. -/
def Dev.homeRing (d : Dev) (c : Nat) (r : KRec) : Nat := if (d.outRings c).contains r.ring then r.ring else (d.outRings c).headD 0

/-- VAR_EXEC of the last step of a context, as STEP.LAST_RESULT holds it (R53, R415). -/
def Dev.lastVarExec (d : Dev) (c : Nat) : Nat :=
  let here := d.step (d.ctx c).plot
  let sc := if here.ctx = c && here.beats ≠ 0 then here else d.lastSteps.get c StepCtl.idle
  if bitN sc.lastRes.toNat 6 then 1 else 0

/-- IDLE_COMMIT (R414, R418): with no step under way, at most 256 of the waiting completions and results, where each ring
they go to has room; a context of a plot that is REMOVING takes it whether enabled or not (R470). -/
def Dev.idleCommit (d : Dev) (c : Nat) : Dev :=
  let x := d.ctx c
  let d1 := d.afterSlots c d.now
  let now := (d1.kc c).waiting.take 256
  if d.power.fatal || !(d.serves c || (d.plot x.plot).st = 2) || d.follows c || d.isShadow || d.ctxRuns c || x.ended.isSome || (d.kc c).phase = .released ||
      !(now.map (d1.homeRing c)).all (d1.ringRoom · 258) then d
  else
    let rest := (d1.kc c).waiting.drop 256
    let d2 := if now.isEmpty then d1
      else (((d1.onKc c (fun k => { k with waiting := now })).writeWaiting c x.steps.toNat d.now (2 + d.lastVarExec c) 0 0).onKc c
        (fun k => { k with waiting := k.waiting ++ rest })).count 0x003 0x158 1
    let d3 := if (d2.kc c).notes.isEmpty then d2 else d2.sendDecisions c x.steps.toNat false []
    let stale := (d3.kc c).batch.any (fun b => let e := d3.seq b.seq; e.st ≠ .running || e.cancelPending || e.parkPending)
    ((d3.onKc c (fun k => if k.phase = .composed && stale then { k with phase := .open_, batch := [] } else k)).settleRoom c).pinSwitch c

/-- IDLE_COMMIT. -/
def execIdleCommit (ctx : Nat) (s : State) : Host.Outcome State Fault Refusal := onDev (·.idleCommit ctx) s

/-- One KV entry of one stream moved (R426). -/
def Dev.moveEntry (d : Dev) (b : BundleBody) (m : KvMove) (l : Nat) : Dev :=
  let ps := d.seqPages m.seq
  match ps[m.fromPos / b.perPage * b.streams + l]?, ps[m.toPos / b.perPage * b.streams + l]? with
  | some p, some q =>
    d.lpWrite (32768 * q + m.toPos % b.perPage * b.kvEntry) (d.lpRead (32768 * p + m.fromPos % b.perPage * b.kvEntry) b.kvEntry)
  | _, _ => d

/-- COMPACTION_DONE (R272, R273, R426): every entry moved, the pages ACTIVE again, blocks beyond freed. -/
def Dev.compactionDone (d : Dev) (c : Nat) : Dev :=
  match (d.kc c).moves, (d.ctx c).active with
  | [], _ => d
  | _, none => d.onKc c (fun k => { k with moves := [] })
  | ms, some b =>
    let live := ms.filter (fun m => (d.seq m.seq).st ≠ .free)
    let d1 := forEach live d (fun s m => forEach (List.range b.body.streams) s (fun t l => t.moveEntry b.body m l))
    let is := live.foldl (fun (l : List Nat) m => if l.contains m.seq then l else l ++ [m.seq]) []
    let d2 := forEach is d1 (fun s i =>
      (s.onPages (s.seqPages i) (fun p => if p.st = 5 then { p with st := 1 } else p)).trimChain b.body i)
    d2.onKc c (fun k => { k with moves := [] })

/-- COMPACTION_DONE. -/
def execCompactionDone (ctx : Nat) (s : State) : Host.Outcome State Fault Refusal := onDev (·.compactionDone ctx) s

/-- A park's copy or fetch whose transfers have all ended. -/
def Dev.copyOf (d : Dev) (c i : Nat) (fetch : Bool) : Option ParkCopy :=
  (d.kc c).parks.find? (fun p => p.seq = i && p.fetch = fetch && p.pend.isEmpty)
def Dev.dropCopy (d : Dev) (c i : Nat) : Dev := d.onKc c (fun k => { k with parks := k.parks.filter (fun p => p.seq ≠ i) })

/-- REMOTE_PARK_DONE (R429, R432): every page copied, the park entry sent, the local pages freed, the request PARKED; or a
copy failed. -/
def Dev.remoteParkDone (d : Dev) (c i : Nat) : Dev :=
  match d.copyOf c i false with
  | none => d
  | some p =>
    let e := d.seq i
    if p.failed then (d.dropCopy c i).parkFail i
    else
      let plot := (d.ctx c).plot
      let d1 := (d.dropCopy c i).inboxSend c p.dev 1 ([plot, d.number, d.extGet i 0x10 8] ++ p.remote)
      let d2 := (d1.onPages p.local_ PageEntry.freed).setSeq i { e with head := 0, tail := 0 }
      ((d2.onKc c (fun k => { k with parkedAt := k.parkedAt.put i p.remote })).result c e.outRing i e.gen 0x12 0).count 0x003 0x130 1

/-- REMOTE_PARK_DONE. -/
def execRemoteParkDone (ctx seq : Nat) (s : State) : Host.Outcome State Fault Refusal := onDev (·.remoteParkDone ctx seq) s

/-- RESUME_FETCH_DONE (R430, R432): every page fetched back, the release entry sent, the request RUNNING; or a fetch
failed and the request is aborted. -/
def Dev.resumeFetchDone (d : Dev) (c i : Nat) : Dev :=
  match d.copyOf c i true with
  | none => d
  | some p =>
    let e := d.seq i
    if p.failed then (d.dropCopy c i).complete i 9
    else
      let d1 := (d.dropCopy c i).inboxSend c p.dev 2 ([(d.ctx c).plot, d.number] ++ p.remote)
      let d2 := (d1.onKc c (fun k => { k with parkedAt := k.parkedAt.del i })).setSeq i { e with st := .running }
      (d2.result c e.outRing i e.gen 0x13 0).count 0x003 0x134 1

/-- RESUME_FETCH_DONE. -/
def execResumeFetchDone (ctx seq : Nat) (s : State) : Host.Outcome State Fault Refusal := onDev (·.resumeFetchDone ctx seq) s

/-- A follower's sequence ended: its pages freed, its entry FREE. -/
def Dev.followEnd (d : Dev) (i : Nat) : Dev :=
  (d.onPages (d.seqPages i) PageEntry.freed).setSeq i { d.seq i with st := .free, reservedPages := 0 }

/-- A slot of a composition record on a follower (R433): the sequence known under the lead's handle, its pages allocated; one that
was parked has its pages ACTIVE again. -/
def Dev.followSlot (d : Dev) (c : Nat) (b : BundleBody) (s : BatchSlot) : Dev :=
  let i := s.seq % 2 ^ 18
  let gen := s.seq / 2 ^ 18 % 64
  let e := d.seq i
  let known := e.st ≠ .free && e.gen = gen
  let e1 := if known then e else { SeqEntry.free with gen := gen, ctx := c }
  let e2 := { e1 with st := .running, tree := s.tree, position := s.first }
  let last := s.first + s.count - 1
  let top := if s.tree then last + 63 else last
  let d0 := if known then d.onPages (d.seqPages i) (fun p => if p.st = 2 then { p with st := 1 } else p) else d.followEnd i
  let d1 := d0.setSeq i e2
  d1.allocBlocks i ((top / b.perPage + 1) * b.streams - (d1.seqPages i).length) b.streams

/-- A commit decision on a follower (R433): the same page-map edits on its own pages. A park leaves them PARKED here (R532; log
entry 191). -/
def Dev.followCommit (d : Dev) (c : Nat) (b : BundleBody) (x : Decision) : Dev :=
  let i := x.handle % 2 ^ 18
  let e := d.seq i
  if e.st = .free || e.gen ≠ x.handle / 2 ^ 18 % 64 then d
  else if x.done then d.followEnd i
  else if x.parked then (d.onPages (d.seqPages i) (fun p => { p with st := 2 })).setSeq i { e with st := .parked }
  else (d.setSeq i { e with position := x.position, tokensOut := x.tokensOut }).startMoves c b i x.base x.path

/-- The commit decisions of the lead, taken once the follower's own step has ended (R433, R509, R519); those of an idle commit
point come without a step. -/
def Dev.takeDecisions (d : Dev) (c step : Nat) (withheld : Bool) (ds : List Decision) : Dev :=
  let x := d.ctx c
  match x.ended, x.active with
  | some e, some b =>
    if e.number.toNat ≠ step then d
    else
      let f := (d.kc c).follow.find? (fun y => y.step = step)
      let slots : List (Nat × BatchSlot × Bool) := match f with
        | some y => ((List.range y.slots.length).zip (y.slots.zip y.compare)).filter (fun q => q.2.2)
        | none => []
      let cmp := slots.map (fun q => (q.2.1.seq, d.commitSlot b.body q.1))
      let d0 := forEach ds d (fun s q => s.followCommit c b.body q)
      let d1 := if withheld then d0 else d0.digestEntry step e.varExec cmp
      (d1.onKc c (fun k => { k with follow := k.follow.filter (fun y => decide (step < y.step)) })).commitOver c e
  | none, some b => if x.steps.toNat = step && !d.ctxRuns c then forEach ds d (fun s q => s.followCommit c b.body q) else d
  | _, _ => d

/-- An inbox entry taken (R432, R433). -/
def Dev.inboxTake (d : Dev) (c : Nat) : InboxMsg → Dev
  | .park p dev pages expiry =>
    let ok := pages.filter (fun n => (d.page n).st = 0)
    { d.onPages ok (fun e => { e with st := 3 }) with remote := d.remote ++ [⟨p, dev, ok, expiry⟩] }
  | .release p dev pages =>
    let held := pages.filter (fun n => (d.page n).st = 3)
    let d1 := d.onPages held PageEntry.freed
    let cut (h : RemoteHold) : RemoteHold :=
      if h.plot = p ∧ h.dev = dev then { h with pages := h.pages.filter (fun n => !held.contains n) } else h
    { d1 with remote := (d1.remote.map cut).filter (fun h => !h.pages.isEmpty) }
  | .composition f =>
    if !(d.follows c || d.isShadow) then d
    else match d.nextBundle c with
      | none => d
      | some (b, _, _) =>
        (forEach f.slots d (fun s x => s.followSlot c b.body x)).onKc c (fun k => { k with follow := k.follow ++ [f] })
  | .decisions step w ds => if d.follows c || d.isShadow then d.takeDecisions c step w ds else d

/-- INBOX_READ (R432): the next entry of an INBOX ring of the context, decoded (log entry 30). -/
def Dev.inboxRead (d : Dev) (c r : Nat) (m : InboxMsg) : Dev :=
  if !d.isRing r 3 c || !d.serves c then d
  else
    let g := d.ring r
    (d.setRing r { g with prod := (g.cons + 1) % 2 ^ 32, cons := (g.cons + 1) % 2 ^ 32 }).inboxTake c m

/-- INBOX_READ. -/
def execInboxRead (ctx ring : Nat) (m : InboxMsg) (s : State) : Host.Outcome State Fault Refusal := onDev (·.inboxRead ctx ring m) s

/-- REMOTE_PARK_EXPIRY (R432): XFER_TIMEOUT after EXPIRY the REMOTE pages of a park are FREE. -/
def Dev.remoteExpiry (tie : Nat) (d : Dev) (plot dev : Nat) : Dev :=
  let due := d.remote.filter (fun h => h.plot = plot && h.dev = dev && decide (h.expiry + d.xferTicks + tie ≤ d.now))
  let d1 := forEach due d (fun s h => s.onPages (h.pages.filter (fun n => (s.page n).st = 3)) PageEntry.freed)
  { d1 with remote := d1.remote.filter (fun h => !due.contains h) }

/-- REMOTE_PARK_EXPIRY. -/
def execRemoteParkExpiry (plot dev : Nat) (s : State) : Host.Outcome State Fault Refusal := onTimer (fun tie d => d.remoteExpiry tie plot dev) s

end Sys2Proof.Machine
end

