-- ==== Sys2Proof/Machine/Packets.lean ====
section
/-! DEFINITION. Packets at their destination and their answers at the origin: checks, placement, trackers, confirmation, transfer errors (R284 to R295, R302, R311 to R319, R448 to R450, R517). -/
namespace Sys2Proof.Machine

/-- Is a packet one of an open transfer of this device (R312)? -/
def Dev.ofOwn (d : Dev) (p : Packet) : Bool :=
  p.origin = d.number && d.xfers.any (fun x => x.fabric && x.tag = p.tag && x.gen = p.tagGen)

/-- A packet taken from the local port at which it waits. -/
def Dev.takeEject (d : Dev) (p : Packet) : Dev := { d with eject := d.eject.erase p }

/-- Does a packet need an arrival entry (R317, R450)? -/
def Packet.needsEntry (p : Packet) : Bool := decide (1 < p.pcount) && ((p.trkValid && p.typ ≠ 0x05) || p.typ = 0x09) && p.typ ≠ 0x08

/-- The arrival entry of a packet's transfer, and whether the table has room for it (R305, R317). -/
def Arrival.of (a : Arrival) (p : Packet) : Bool := a.src = p.src && a.tag = p.tag && a.gen = p.tagGen
def Dev.arrivalRoom (d : Dev) (p : Packet) : Bool :=
  !p.needsEntry || d.arrivals.any (·.of p) || decide (d.arrivals.length < 4096)

/-- The 16 units of 64 bytes of a KiB. -/
def kibUnits (k : Nat) : List Nat := (List.range 16).map (16 * k + ·)

/-- Bytes from another device written into a staging buffer: its counter advances for each KiB they make whole (R74). -/
def Dev.putStaging (d : Dev) (n buf : Nat) (st : Staging) (off : Nat) (bs : List Byte) : Dev :=
  let d1 := d.onPav n (·.putStore off bs)
  let f := (d1.pav n).fillSeq buf
  let us := (List.range (ceilDiv bs.length 64)).foldl (fun l k =>
    let u := (off - st.off) / 64 + k
    if l.contains u then l else l ++ [u]) f.units
  let whole := (us.map (· / 16)).eraseDups.filter (fun k => (kibUnits k).all us.contains)
  let d2 := d1.onPav n (fun p => p.setFill { f with units := us.filter (fun u => !whole.contains (u / 16)) })
  if whole.isEmpty then d2 else (d2.advanceCtr n st.ctr whole.length).count (pavPage n) 0x144 whole.length

/-- The staging buffer of a plot's bundle that holds a run of bytes of the working store space. -/
def Dev.stagingOf (d : Dev) (plot off len : Nat) : Option (Nat × Staging) :=
  (d.bodyOf plot).bind (fun b => ((List.range b.staging.length).zip b.staging).find? (fun e =>
    e.2.pav = off / 2 ^ 25 && decide (e.2.off ≤ off % 2 ^ 25) && decide (off % 2 ^ 25 + len ≤ e.2.off + 1024 * e.2.kib)))

/-- The values an XW_ADD packet carries (R295): values, then companions. -/
def Packet.xwValues (p : Packet) (n : XwN) : List (Nat × Nat) :=
  let vb := n.bits / 8
  let k := min n.perPacket (p.payload.length / (vb + 2))
  (List.range k).map (fun i => (leNat ((p.payload.drop (vb * i)).take vb), leNat ((p.payload.drop (vb * k + 2 * i)).take 2)))

/-- The reduction buffer or XW tensor of a plot's bundle that an add names, with the index of its first element (R105, R197,
R198, R285): width and window must be the buffer's. -/
def Dev.redOf (d : Dev) (plot off : Nat) (n : Option XwN) (win : Int) (elems : Nat) : Option (RedBuf × Nat) :=
  let vb := match n with
    | some w => w.bits / 8
    | none => 4
  (d.bodyOf plot).bind (fun b => ((b.redBufs ++ b.xwTensors).find? (fun r =>
    r.n = n && (n.isNone || r.win = win) && r.pav = off / 2 ^ 25 && decide (r.off ≤ off % 2 ^ 25) &&
      (off % 2 ^ 25 - r.off) % vb = 0 && decide ((off % 2 ^ 25 - r.off) / vb + elems ≤ r.elems))).map
    (fun r => (r, (off % 2 ^ 25 - r.off) / vb)))

/-- Bytes that a packet reads or writes at its address. -/
def Packet.span (p : Packet) : Nat := if p.typ = 0x01 then p.len * p.pcount else if p.typ = 0x04 then 8 else p.payload.length

/-- Does a packet's address lie in its space, and in a declared buffer where the space asks for one (R75, R285, R286)? -/
def Dev.addrOk (d : Dev) (p : Packet) : Bool :=
  let off := gaOff p.addr
  match gaSpace p.addr with
  | 0 => decide (off < 2 ^ 30) && decide (off % 2 ^ 25 + p.span ≤ 2 ^ 25) && (p.typ = 0x01 || (d.stagingOf p.plot off p.span).isSome)
  | 1 => decide (off < 2 ^ 34) && decide (off % 2 ^ 29 + p.span ≤ 0x18000000)
  | 2 => decide (off + p.span ≤ 2 ^ 39) && d.packageOk (off / 2 ^ 35) && (p.span = 0 || d.packageOk ((off + p.span - 1) / 2 ^ 35))
  | 4 => decide (off < 2 ^ 30) &&
      (if p.typ = 0x05 then match xwnOf p.xwn with
        | some n => (d.redOf p.plot off (some n) p.win (p.xwValues n).length).isSome
        | none => false
       else (d.redOf p.plot off none 0 (p.payload.length / 4)).isSome)
  | _ => false

/-- The operations a space accepts (R285). -/
def spaceTakes (space typ : Nat) : Bool :=
  match space with
  | 0 => typ = 0x00 || typ = 0x01 || typ = 0x07
  | 1 => typ = 0x01 || typ = 0x09
  | 2 => typ = 0x00 || typ = 0x01 || typ = 0x07 || typ = 0x04
  | 4 => typ = 0x05 || typ = 0x06
  | _ => false

/-- Does PLOT own the addressed pavilion or package, and the tracker (R286, R315)? -/
def Dev.plotOwns (d : Dev) (p : Packet) : Bool :=
  let x := d.plot p.plot
  let off := gaOff p.addr
  (match gaSpace p.addr with
   | 1 => bitN x.pairs (off / 2 ^ 29 / 2)
   | 2 => bitN x.packages (off / 2 ^ 35) && (p.span = 0 || bitN x.packages ((off + p.span - 1) / 2 ^ 35))
   | _ => bitN x.pairs (off / 2 ^ 25 / 2)) && (!p.trkValid || inRange x.trkRange p.tracker)

/-- The status with which a packet is refused, or 0 (R286, R294). -/
def Dev.packetStatus (d : Dev) (p : Packet) : Nat :=
  if p.typ = 0x08 then (if p.trkValid && !inRange (d.plot p.plot).trkRange p.tracker then 3 else 0)
  else if !spaceTakes (gaSpace p.addr) p.typ then 2
  else if !d.addrOk p then 1
  else if !d.plotOwns p then 3
  else 0

/-- STEP_GEN judged (R316): into CURRENT, into NEXT, or the packet is dropped. -/
def Dev.stepGen (d : Dev) (p : Packet) : Option Bool :=
  let g := (d.stepNo p.plot).toNat
  if !p.plan || p.stepGen = g % 16 then some false
  else if p.stepGen = (g + 1) % 16 then some true
  else none

/-- A tracker's count advanced (R315 to R317). -/
def Dev.trackAdd (d : Dev) (p : Packet) (next : Bool) (k : Nat) : Dev :=
  if !p.trkValid then d
  else
    let t := d.tracker p.tracker
    let t' : Tracker := if next then { t with next := (t.next + k) % 2 ^ 32 } else { t with cur := (t.cur + k) % 2 ^ 32 }
    { d with trackers := d.trackers.put p.tracker t' }

/-- A packet counted in its transfer's arrival entry (R317): the device, and whether the transfer is placed whole. -/
def Dev.arrivalCount (d : Dev) (p : Packet) : Dev × Bool :=
  if p.pcount ≤ 1 then (d, true)
  else
    let a := (d.arrivals.find? (·.of p)).getD ⟨p.src, p.tag, p.tagGen, [], p.pcount, d.time.elapsed⟩
    let a' := { a with placed := if a.placed.contains p.pseq then a.placed else a.placed ++ [p.pseq] }
    let rest := d.arrivals.filter (fun b => !b.of p)
    if p.pcount ≤ a'.placed.length then ({ d with arrivals := rest }, true)
    else ({ d with arrivals := rest ++ [a'] }, false)

/-- The tracker of a placed packet (R315, R317): a tracked transfer counts once, an XW_ADD its contributions. -/
def Dev.track (d : Dev) (p : Packet) (next : Bool) : Dev :=
  if !p.trkValid then d
  else if p.typ = 0x05 then d.trackAdd p next p.contrib
  else if p.typ = 0x08 then d.trackAdd p next 1
  else
    let r := d.arrivalCount p
    if r.2 then r.1.trackAdd p next 1 else r.1

/-- A COMPLETION of the packets of one transfer that wait for confirmation (R288). -/
def Dev.sendCompletion (d : Dev) (u : Unconf) : Dev :=
  ({ d with unconf := d.unconf.filter (fun v => !(v.src = u.src && v.tag = u.tag && v.gen = u.gen)) }).post
    { Packet.blank with
      dest := u.src, src := d.number, mid := u.src, phase := true, tc := 2, typ := 0x03, epoch := d.router.epoch, plan := u.plan,
      tag := u.tag, tagGen := u.gen, plot := u.plot, plotGen := (d.plot u.plot).gen, pcount := u.seqs.length }

/-- A placed packet to be confirmed: at once when 32 wait (R288). A shadow leaves the confirmation to the primary (R517, log
entry 34). -/
def Dev.confirm (d : Dev) (p : Packet) : Dev :=
  if d.isShadow && d.recov.following then d
  else
    let u := (d.unconf.find? (fun v => v.src = p.src && v.tag = p.tag && v.gen = p.tagGen)).getD
      ⟨p.src, p.tag, p.tagGen, p.plot, p.plan, [], d.time.elapsed⟩
    let u' := { u with seqs := u.seqs ++ [p.pseq] }
    let d1 := { d with unconf := d.unconf.filter (fun v => !(v.src = p.src && v.tag = p.tag && v.gen = p.tagGen)) ++ [u'] }
    if 32 ≤ u'.seqs.length then d1.sendCompletion u' else d1

/-- A packet placed locally on a primary copied to its shadow (R517). -/
def Dev.shadowCopy (d : Dev) (p : Packet) : Dev :=
  if d.shadowValid && !d.isShadow && d.recov.following && shadowDropped p.typ then
    d.post { p with dest := d.shadowPartner, tc := 1, hops := 0, phase := false, tree := 0, deflected := false,
                    addr := d.shadowPartner * 2 ^ 52 + p.addr % 2 ^ 52 }
  else d

/-- What follows every placement: the tracker, the confirmation, the shadow's copy. -/
def Dev.placed (d : Dev) (p : Packet) (next : Bool) : Dev :=
  let d1 := d.track p next
  (if p.typ = 0x08 then d1 else d1.confirm p).shadowCopy p

/-- A packet refused at its destination (R286). -/
def Dev.refusePacket (d : Dev) (p : Packet) (st : Nat) : Dev :=
  ((d.errorResp p st).count 0x051 0x114 1).record 0x051 4 ⟨none, some p.plot, 0, 0, 0⟩

/-- A data or request packet of a type at its destination: fencing (R312), the plot's generation and the checks (R286),
STEP_GEN (R316), then its placement. -/
def Dev.arrive (d : Dev) (typ : Nat) (p : Packet) (place : Dev → Bool → Dev) : Dev :=
  if p.typ ≠ typ || p.dest ≠ d.number || !d.arrivalRoom p then d
  else
    let d0 := d.takeEject p
    if d0.selfFenced && !d0.ofOwn p then d0.fenceNotice p
    else if (d0.plot p.plot).gen ≠ p.plotGen then (d0.count 0x051 0x110 1).record 0x051 3 ⟨none, some p.plot, 0, 0, 0⟩
    else
      let st := d0.packetStatus p
      if st ≠ 0 then d0.refusePacket p st
      else match d0.stepGen p with
        | none => (d0.count 0x051 0x10C 1).record 0x051 2 ⟨none, some p.plot, 0, 0, 0⟩
        | some next => place d0 next

/-- The data of a PUT or MCAST packet placed (R285). -/
def Dev.placeData (d : Dev) (p : Packet) (next : Bool) : Dev :=
  let off := gaOff p.addr
  let d1 := if gaSpace p.addr = 2 then d.lpWrite off p.payload
    else match d.stagingOf p.plot off p.span with
      | some (k, st) => d.putStaging (off / 2 ^ 25) k st (off % 2 ^ 25) p.payload
      | none => d
  d1.placed p next

/-- PUT. -/
def execPut (p : Packet) (s : State) : Host.Outcome State Fault Refusal := onDev (fun d => d.arrive 0x00 p (·.placeData p ·)) s

/-- MCAST (R313). -/
def execMcast (p : Packet) (s : State) : Host.Outcome State Fault Refusal := onDev (fun d => d.arrive 0x07 p (·.placeData p ·)) s

/-- The lowest word of a list of bad 16-byte words that a run of bytes touches. -/
def badWord (l : List Nat) (off n : Nat) : Option Nat :=
  l.foldl (fun (b : Option Nat) w =>
    if decide (16 * w < off + n) && decide (off < 16 * w + 16) && (match b with | some v => decide (w < v) | none => true) then some w else b) none

/-- An uncorrectable error met at the destination (R294): the memory's own fault, and DEST_ECC to the origin. -/
def Dev.destEcc (d : Dev) (p : Packet) (w : Nat) : Dev :=
  let off := gaOff p.addr
  (match gaSpace p.addr with
   | 1 => d.pavEvent (off / 2 ^ 29) (.tierUncorr (16 * w))
   | 2 => d
   | _ => d.pavEvent (off / 2 ^ 25) (.storeUncorr (16 * w))).errorResp p 4

/-- The uncorrectable word that an access at a packet's address meets. -/
def Dev.badAt (d : Dev) (p : Packet) (n : Nat) : Option Nat :=
  let off := gaOff p.addr
  match gaSpace p.addr with
  | 1 => badWord (d.pav (off / 2 ^ 29)).tierBad (off % 2 ^ 29) n
  | 2 => (List.range ((off + n + 63) / 64 - off / 64)).map (off / 64 + ·) |>.find? d.dramBad.contains
  | _ => badWord (d.pav (off / 2 ^ 25)).storeBad (off % 2 ^ 25) n

/-- The bytes of a space at an offset. -/
def Dev.spaceBytes (d : Dev) (space off n : Nat) : List Byte :=
  match space with
  | 1 => (d.pav (off / 2 ^ 29)).tier.bytes (off % 2 ^ 29) n
  | 2 => d.lpRead off n
  | _ => (d.pav (off / 2 ^ 25)).store.bytes (off % 2 ^ 25) n

/-- A read answered (R76, R94, R265, R288, R293): PCOUNT packets of LEN bytes, numbered on from the request's PSEQ. -/
def Dev.answerGet (d : Dev) (p : Packet) : Dev :=
  let n := p.len * p.pcount
  let off := gaOff p.addr
  let sp := gaSpace p.addr
  let bursts := (List.range ((off + n + 63) / 64 - off / 64)).map (off / 64 + ·)
  let d0 := if sp = 2 then forEach bursts d (fun s b => (s.controllerRead b 0 false .none (some p.plot)).1)
    else if sp = 0 then (d.portRead (off / 2 ^ 25) (off % 2 ^ 25) n).count (pavPage (off / 2 ^ 25)) 0x148 (kibOf n)
    else d
  match d.badAt p n with
  | some w => if sp = 2 then d0.destEcc p w else d.destEcc p w
  | none =>
    let d1 := if sp = 2 then d0.count 0x090 0x104 bursts.length else d0
    forEach (List.range p.pcount) d1 (fun s k => s.post { Packet.blank with
      dest := p.src, src := s.number, mid := p.src, tc := p.tc, typ := 0x02, epoch := s.router.epoch, plan := p.plan,
      tag := p.tag, tagGen := p.tagGen, pseq := p.pseq + k, stepGen := p.stepGen, plot := p.plot, plotGen := p.plotGen,
      addr := p.addr + p.len * k, len := p.len, pcount := p.pcount, payload := s.spaceBytes sp (off + p.len * k) p.len })

/-- GET_REQ. -/
def execGetReq (p : Packet) (s : State) : Host.Outcome State Fault Refusal :=
  onDev (fun d => d.arrive 0x01 p (fun e _ => e.answerGet p)) s

/-- A fetch-add at its word (R198, R291): wrap-around; the old value goes back only where no plan issued it. -/
def Dev.placeFadd (d : Dev) (p : Packet) (next : Bool) : Dev :=
  let off := gaOff p.addr
  match d.badAt p 8 with
  | some w => d.destEcc p w
  | none =>
    let old := d.lpNat off 8
    let d1 := d.lpWrite off (toBytes 8 ((old + leNat (p.payload.take 8)) % 2 ^ 64))
    if p.plan then d1.placed p next
    else
      ((d1.track p next).shadowCopy p).post { Packet.blank with
        dest := p.src, src := d1.number, mid := p.src, tc := 1, typ := 0x02, epoch := d1.router.epoch, tag := p.tag,
        tagGen := p.tagGen, plot := p.plot, plotGen := p.plotGen, addr := p.addr, len := 64, pcount := 1,
        payload := toBytes 8 old ++ List.replicate 56 0 }

/-- FADD_I64_PACKET. -/
def execFaddI64Packet (p : Packet) (s : State) : Host.Outcome State Fault Refusal :=
  onDev (fun d => d.arrive 0x04 p (·.placeFadd p ·)) s

/-- One XW value added to element `i` of a buffer (R105, R302). -/
def Pav.xwAddAt (q : Pav) (r : RedBuf) (n : XwN) (i v c : Nat) : Pav :=
  let vb := n.bits / 8
  let a := r.off + vb * i
  let ca := r.cmpOff + 2 * i
  let x := (Xw.unpack n.bits (leNat (q.store.bytes a vb)) (leNat (q.store.bytes ca 2))).combine (Xw.unpack n.bits v c)
  let o := x.pack n.bits
  (q.putStore a (toBytes vb o.1)).putStore ca (toBytes 2 o.2)

/-- An XW_ADD placed (R302). -/
def Dev.placeXw (d : Dev) (p : Packet) (next : Bool) : Dev :=
  match xwnOf p.xwn with
  | none => d
  | some n =>
    let vs := p.xwValues n
    match d.redOf p.plot (gaOff p.addr) (some n) p.win vs.length, d.badAt p (vs.length * (n.bits / 8)) with
    | some _, some w => d.destEcc p w
    | some (r, i), none =>
      (d.onPav r.pav (fun q => forEach ((List.range vs.length).zip vs) q (fun t e => t.xwAddAt r n (i + e.1) e.2.1 e.2.2))).placed p next
    | none, _ => d

/-- XW_ADD. -/
def execXwAdd (p : Packet) (s : State) : Host.Outcome State Fault Refusal := onDev (fun d => d.arrive 0x05 p (·.placeXw p ·)) s

/-- One FP32 value added to element `i` of a buffer in arrival order (R132, R293). -/
def Pav.fAddAt (q : Pav) (r : RedBuf) (i v : Nat) : Pav :=
  let a := r.off + 4 * i
  q.putStore a (toBytes 4 (fp32Add (leNat (q.store.bytes a 4)) v))

/-- An F_ADD placed. -/
def Dev.placeF (d : Dev) (p : Packet) (next : Bool) : Dev :=
  let vs := (pieces 4 p.payload).map leNat
  match d.redOf p.plot (gaOff p.addr) none 0 vs.length, d.badAt p (4 * vs.length) with
  | some _, some w => d.destEcc p w
  | some (r, i), none =>
    (d.onPav r.pav (fun q => forEach ((List.range vs.length).zip vs) q (fun t e => t.fAddAt r (i + e.1) e.2))).placed p next
  | none, _ => d

/-- F_ADD. -/
def execFAdd (p : Packet) (s : State) : Host.Outcome State Fault Refusal := onDev (fun d => d.arrive 0x06 p (·.placeF p ·)) s

/-- NULL_PACKET (R171, R317): it places nothing and counts as what it stands for. -/
def execNullPacket (p : Packet) (s : State) : Host.Outcome State Fault Refusal := onDev (fun d => d.arrive 0x08 p (·.placed p ·)) s

/-- COMPLETION_TIMER (R288): 256 ticks after the first unconfirmed placement of a transfer. -/
def Dev.completionTimer (tie : Nat) (d : Dev) (src tag : Nat) : Dev :=
  match d.unconf.find? (fun u => u.src = src && u.tag = tag) with
  | some u => if u.since + 256 + tie ≤ d.time.elapsed then d.sendCompletion u else d
  | none => d

/-- COMPLETION_TIMER. -/
def execCompletionTimer (src tag : Nat) (s : State) : Host.Outcome State Fault Refusal := onTimer (fun tie d => d.completionTimer tie src tag) s

/-! ### Loads at their destination -/

/-- The LOCAL entry of the shard table that a LOAD packet's transfer matches (R450): state, start address, length. -/
def Dev.shardOf (d : Dev) (p : Packet) : Option (Nat × Shard) :=
  let start := gaOff p.addr - 448 * p.pseq
  d.shards.find? (fun e =>
    let x := e.2
    x.local_ && (x.st = .expected || x.st = .writing || x.st = .failed) && x.plot = p.plot && x.pav = start / 2 ^ 29 &&
      ceilDiv x.len 448 = p.pcount &&
      d.regions.any (fun r => r.2.name = x.name && r.2.epoch = x.epoch && r.2.plot = x.plot && r.2.st ≠ 0 &&
        r.2.base * 65536 + x.off = start % 2 ^ 29))

/-- The region in LOADING of a shard entry, of the generation a LOAD packet carries (R257). -/
def Dev.loadRegion (d : Dev) (x : Shard) (gen : Nat) : Bool :=
  d.regions.any (fun r => r.2.name = x.name && r.2.epoch = x.epoch && r.2.plot = x.plot && r.2.st = 1 && r.2.gen = gen)

/-- A load write dropped (R257). -/
def Dev.staleLoad (d : Dev) : Dev := (d.count 0x0A0 0x110 1).record 0x0A0 2 Where.none

/-- A LOAD packet placed in the tier, or refused (R257, R286, R450); a word it writes is not written back by the sweep (R260). An entry whose transfer is whole has no source any more:
its readback is due. -/
def Dev.placeLoad (d : Dev) (p : Packet) : Dev :=
  match d.shardOf p with
  | none => d.refusePacket p 1
  | some (k, x) =>
    if !d.loadRegion x p.aux then (d.staleLoad).refusePacket p 5
    else
      let a := gaOff p.addr % 2 ^ 29
      let lost := (d.pav x.pav).scrubQ.filter (fun w => decide (16 * w < a + p.payload.length) && decide (a < 16 * w + 16))
      let d1 := (d.onPav x.pav (fun q => { q.putTier a p.payload with scrubQ := q.scrubQ.filter (fun w => !lost.contains w) })).count
        0x0A0 0x10C lost.length
      let r := d1.arrivalCount p
      let x' := { x with st := .writing, cause := 0, src := if r.2 then none else some (p.src, p.tag, p.tagGen) }
      ({ r.1 with shards := r.1.shards.put k x' }).confirm p

/-- LOAD_PACKET. -/
def execLoadPacket (p : Packet) (s : State) : Host.Outcome State Fault Refusal :=
  onDev (fun d => d.arrive 0x09 p (fun e _ => e.placeLoad p)) s

/-- An arrival entry not complete within the transfer timeout released (R317); the shard it was writing fails (R451). -/
def Dev.reap (tie : Nat) (d : Dev) (src tag : Nat) : Dev :=
  match d.arrivals.find? (fun a => a.src = src && a.tag = tag) with
  | none => d
  | some a =>
    if d.time.elapsed < a.since + d.xferTicks + tie then d
    else
      let d1 := (({ d with arrivals := d.arrivals.erase a }).count 0x051 0x120 1).record 0x051 5 Where.none
      let hit (x : Shard) : Bool := x.st = .writing && x.src = some (a.src, a.tag, a.gen)
      let n := (d1.shards.filter (fun e => hit e.2)).length
      let lose (e : Nat × Shard) : Nat × Shard := if hit e.2 then (e.1, { e.2 with st := .failed, cause := 4, src := none }) else e
      ({ d1 with shards := d1.shards.map lose }).count 0x090 0x5C4 n

/-- ARRIVAL_REAP. -/
def execArrivalReap (src tag : Nat) (s : State) : Host.Outcome State Fault Refusal := onTimer (fun tie d => d.reap tie src tag) s

/-! ### Answers at the origin -/

/-- A late packet discarded (R290). -/
def Dev.late (d : Dev) : Dev := (d.count 0x051 0x108 1).record 0x051 1 Where.none

/-- A load outcome that concerns no step, written to the log (R462). -/
def Dev.loadNotice (d : Dev) (plot cause : Nat) : Dev := if cause = 0 then d else d.notice 0x090 cause ⟨none, some plot, 0, 0, 0⟩

/-- The end of a load job (R443, R445, R449): its key's table entry erased, an entry of the shard table that only served it
EMPTY again. -/
def Dev.endJob (d : Dev) (j : Nat) (st : JobSt) (cause : Nat) : Dev :=
  let x := d.job j
  let sh := d.shards.find x.shard
  let id := match sh with
    | some e => e.keyId
    | none => 0
  let keys := if x.key.isSome then d.shardKeys.filter (fun k => !(k.plot = x.plot && k.keyId = id)) else d.shardKeys
  let d1 := (({ d with shardKeys := keys }).setJob j { x with st := st, cause := cause, plain := [], key := none }).loadNotice x.plot cause
  let busy := d1.jobs.any (fun e => e.1 ≠ j && e.2.shard = x.shard && (e.2.st = .queued || e.2.st = .reading))
  match sh with
  | some e => if !e.local_ && !busy then { d1 with shards := d1.shards.del x.shard } else d1
  | none => d1

/-- The cause that a failed LOAD copy gives its job (R462). -/
def copyCause (cause : Nat) : Nat := if cause = 0x10 then 7 else 8

/-- A LOAD copy that has ended (R449): confirmed, or lost with a member fenced at the origin, or a failure of the job. -/
def Dev.copyDone (d : Dev) (j : Nat) (x : Xfer) (cause : Nat) : Dev :=
  let b := d.job j
  if b.st ≠ .reading || !b.copies.contains x.serial then d
  else
    let b' := { b with copies := b.copies.filter (· ≠ x.serial) }
    if cause = 0 then d.setJob j b'
    else if cause = 0x13 && d.fenced (gaDev x.addr) then d.setJob j { b' with missing := true }
    else (d.setJob j b').endJob j .failed (copyCause cause)

/-- A fabric transfer closed, and its owner told. A plan's transfer that fails FLUSHED abandons its step (R348). -/
def Dev.closeFabric (d : Dev) (x : Xfer) (cause status : Nat) : Dev :=
  let d1 := d.closeXfer x cause
  match x.owner with
  | .plan _ => if cause = 0x12 then d1.abandon x.plot .localFault d1.number 0 else d1
  | .faddCmd => d1.setN 0x051 0x42C 0 ((if cause = 0 then 2 else 3) + 16 * status)
  | .loadJob j => d1.copyDone j x cause
  | _ => d1

/-- The transfer a packet answers, as a packet of its type at its origin: discarded as late where its tag is closed or of
another generation (R290); a fenced device drops what is of no open transfer of its own (R312). -/
def Dev.answer (d : Dev) (typ : Nat) (p : Packet) (f : Dev → Xfer → Dev) : Dev :=
  if p.typ ≠ typ || p.dest ≠ d.number then d
  else
    let d0 := d.takeEject p
    match d0.xfers.find? (fun x => x.fabric && x.tag = p.tag && x.gen = p.tagGen) with
    | none => if d0.selfFenced then d0.fenceNotice p else d0.late
    | some x => f d0 x

/-- A transfer that has been confirmed whole closes (R288). A read of a plan closes once its data are placed, by
TRANSFER_COMPLETE. -/
def Dev.settle (d : Dev) (serial : Nat) : Dev :=
  match d.xfer serial with
  | none => d
  | some x =>
    if x.kind = .mcast then (if x.mcastOver then d.closeMcast x else d)
    else if x.complete && x.err.isNone then d.closeFabric x 0 0
    else d

/-- A COMPLETION at the origin (R288, R314). -/
def Dev.confirmed (d : Dev) (x : Xfer) (p : Packet) : Dev :=
  let got := (x.memberConf.find? (fun e => e.1 = p.src)).elim 0 (·.2)
  let x' := if x.kind = .mcast then
      { x with memberConf := x.memberConf.filter (fun e => e.1 ≠ p.src) ++ [(p.src, got + p.pcount)] }
    else { x with confirmed := x.confirmed ++ (List.range p.pcount).map (x.confirmed.length + ·) }
  (d.setXfer x').settle x.serial

/-- COMPLETION. -/
def execCompletion (p : Packet) (s : State) : Host.Outcome State Fault Refusal :=
  onDev (fun d => d.answer 0x03 p (fun e x => e.confirmed x p)) s

/-- The data of a GET_RESP taken in at the origin (R288, R291): kept for the staging buffer, for the page a fetch back fills,
or as the old value of a fetch-add. -/
def Dev.takeResp (d : Dev) (x : Xfer) (p : Packet) : Dev :=
  if x.confirmed.contains p.pseq then d
  else
    let at_ := 448 * p.pseq
    let us := (List.range (ceilDiv p.payload.length 64)).map (at_ / 64 + ·)
    let y := { x with confirmed := x.confirmed ++ [p.pseq] }
    match x.owner with
    | .plan _ => d.setXfer { y with got := y.got.store at_ p.payload, gotBursts := y.gotBursts ++ us }
    | .kioskFetch _ _ => (d.setXfer y).lpWrite (32768 * x.pages.headD 0 + at_) p.payload
    | .faddCmd => (d.setXfer y).set64 0x051 0x424 0 (leNat (p.payload.take 8))
    | _ => d.setXfer y

/-- GET_RESP. -/
def execGetResp (p : Packet) (s : State) : Host.Outcome State Fault Refusal :=
  onDev (fun d => d.answer 0x02 p (fun e x => (e.takeResp x p).settle x.serial)) s

/-- ERROR_RESP (R289): the transfer fails with REMOTE_ERROR. -/
def execErrorResp (p : Packet) (s : State) : Host.Outcome State Fault Refusal :=
  onDev (fun d => d.answer 0x0A p (fun e x => e.closeFabric x 0x10 p.aux)) s

/-- FLUSH_NOTICE (R289): counted where it is received; the transfer fails with FLUSHED. -/
def execFlushNotice (p : Packet) (s : State) : Host.Outcome State Fault Refusal :=
  onDev (fun d =>
    if p.typ ≠ 0x0C || p.dest ≠ d.number then d
    else (d.count 0x051 0x118 1).answer 0x0C p (fun e x => e.closeFabric x 0x12 p.aux)) s

/-- A FENCE_NOTICE at the origin (R289, R314): a multicast gives up the member whose copy it concerns; any other transfer fails
with FENCED. -/
def Dev.fencedOff (d : Dev) (x : Xfer) (p : Packet) : Dev :=
  if x.kind = .mcast then
    let m := gaDev p.addr
    (d.setXfer { x with pages := if x.pages.contains m then x.pages else x.pages ++ [m] }).settle x.serial
  else d.closeFabric x 0x13 9

/-- FENCE_NOTICE. -/
def execFenceNotice (p : Packet) (s : State) : Host.Outcome State Fault Refusal :=
  onDev (fun d =>
    if p.typ ≠ 0x0B || p.dest ≠ d.number then d
    else (d.count 0x051 0x11C 1).answer 0x0B p (fun e x => e.fencedOff x p)) s

/-- The transfer timeout (R289, R314, R321): a multicast whose missing members are all fenced at the origin ends PARTIAL. -/
def Dev.xferTimeout (tie : Nat) (d : Dev) (serial : Nat) : Dev :=
  match d.xfer serial with
  | none => d
  | some x =>
    if !x.fabric || d.time.elapsed < x.issued + d.xferTicks + tie then d
    else if x.kind = .mcast && (x.members.filter (fun m => !x.memberDone m)).all d.fenced then d.closeMcast x
    else ((d.count 0x051 0x104 1).record 0x051 0 ⟨none, some x.plot, 0, 0, 0⟩).closeFabric x 0x11 0

/-- XFER_TIMEOUT. -/
def execXferTimeout (xfer : Nat) (s : State) : Host.Outcome State Fault Refusal := onTimer (fun tie d => d.xferTimeout tie xfer) s

/-! ### Fetch-add by command -/

/-- FADD_CMD (R291, R320): a fetch-add to FADD_ADDR of FADD_VAL. One runs at a time. -/
def Dev.faddGo (d : Dev) : Dev :=
  if d.rgN 0x051 0x42C 0 % 4 = 1 then d
  else
    let a := d.rg64 0x051 0x410 0
    let v := d.rg64 0x051 0x418 0
    let r := (d.setN 0x051 0x42C 0 1).openFabric .faddCmd .fadd 0 (fun x => { x with len := 64, addr := a, pcount := 1 })
    r.1.postAll r.2 (r.1.dataPackets r.2 0x04 1 a none (toBytes 8 v ++ List.replicate 56 0))

/-- FADD_CMD. -/
def execFaddCmd (r : Route) (s : State) : Host.Outcome State Fault Refusal := onReg r 0x051 0x420 1 Dev.faddGo s

end Sys2Proof.Machine
end

