-- ==== Sys2Proof/Machine/Router.lean ====
section
/-! DEFINITION. The router: injection, ranking, minimal routing and deflection, ejection, scheduled traffic and combining, epochs and banks, fences (R296 to R312). -/
namespace Sys2Proof.Machine

/-- One router cycle under way: the device, the outputs taken, the packets ejected. -/
structure Cycle where
  dev : Dev
  used : List Nat
  ejects : Nat
  deriving DecidableEq, Repr

/-- Priority of a class at an output (R297). -/
def tcPriority (tc : Nat) : Nat :=
  match tc with
  | 3 => 1 | 0 => 2 | 2 => 3 | _ => 4

/-- The rank of a contender (R299, R304): arrivals before local injection of unscheduled packets, then priority, larger HOPS, lower
input port. -/
def rankOf (port : Nat) (p : Packet) : Nat :=
  (if 12 ≤ port ∧ p.tc ≠ 0 then 10000000 else 0) + 100000 * tcPriority p.tc + 1000 * (64 - min 64 p.hops) + port

/-- Is a contender really there: at an input port, or waiting for injection (ports 12 and up)? -/
def Dev.contends (d : Dev) (port : Nat) (p : Packet) : Bool :=
  if 12 ≤ port then d.inject.contains p else (d.port port).rx.contains p

/-- A packet taken by the router: from a receive buffer, whose credits it returns (R342), or from injection. -/
def Dev.routerTake (d : Dev) (port : Nat) (p : Packet) : Dev :=
  if 12 ≤ port then { d with inject := d.inject.erase p }
  else d.onPort port (fun q => { q with
    rx := q.rx.erase p, takenH := addAt q.takenH p.tc 1, takenD := addAt q.takenD p.tc (p.len / 64) })

/-- A device whose fence bit is clear, chosen at random with equal chances (R303). -/
def Dev.randomMid (d : Dev) : Nat × Dev :=
  let l := (List.range d.systemSize).filter (fun m => !d.fencedAtSource m)
  let k := d.draw
  (nthD l ((Config.freeWord k.1).toNat % max 1 l.length) d.number, k.2)

/-- The header a packet gets at its injection (R303, R309). -/
def Dev.injected (d : Dev) (p : Packet) : Packet × Dev :=
  let q := { p with hops := 0, epoch := d.router.epoch, deflected := false }
  if p.tc = 1 then
    let r := d.randomMid
    ({ q with mid := r.1, phase := r.1 = q.src || r.1 = q.dest }, r.2)
  else ({ q with mid := q.dest, phase := true }, d)

/-- Is an output free for a packet in this cycle (R304, R340, R344)? -/
def Cycle.free (c : Cycle) (o : Nat) (p : Packet) : Bool :=
  c.dev.portUp o && !c.used.contains o && !(c.dev.port o).busyFor p.tc p.len

/-- A packet sent on an output. -/
def Cycle.send (c : Cycle) (o : Nat) (p : Packet) : Cycle :=
  { c with dev := (c.dev.portSend o { p with hops := p.hops + 1 }).count 0x050 0x100 1, used := c.used ++ [o] }

/-- The output an unscheduled packet takes (R303, R304): one of the free minimal ports, which one left open; else, deflected,
the free port of least distance, the lower of equal ones (the table tells no port's distance but the minimal ones': log entry
35). -/
def Cycle.choose (c : Cycle) (minPorts : Nat) (p : Packet) : Option (Nat × Bool) × Cycle :=
  match (bitList minPorts 12).filter (fun o => c.free o p) with
  | [] => (((List.range 12).find? (fun o => c.free o p)).map (fun o => (o, true)), c)
  | [o] => (some (o, false), c)
  | o :: os =>
    let k := c.dev.draw
    (some (nthD (o :: os) ((Config.freeWord k.1).toNat % (o :: os).length) o, false), { c with dev := k.2 })

/-- An unscheduled packet on its way (R303, R304, R308): sent on the free minimal port of its target in the bank of its epoch, or
deflected; `none` where every output is taken. `home` says that it is at its destination and finds no way out (R305). -/
def Cycle.onward (c : Cycle) (bank : Nat) (home : Bool) (q : Packet) : Option Cycle :=
  let r := { q with phase := q.phase || q.mid = c.dev.number }
  let ch := c.choose (if home then 0 else entryPorts (c.dev.router.entry bank (if r.phase then r.dest else r.mid))) r
  ch.1.map (fun e =>
    let c1 : Cycle := { ch.2 with dev := ch.2.dev.count 0x050 (if home then 0x108 else 0x104) (if e.2 then 1 else 0) }
    c1.send e.1 { r with deflected := r.deflected || e.2 })

/-- The packet taken from where it waits. -/
def Cycle.take (c : Cycle) (port : Nat) (p : Packet) : Cycle := { c with dev := c.dev.routerTake port p }

/-- An unscheduled packet, `q` as it goes on, `p` as it waits at its input (R303 to R305). -/
def Cycle.unscheduled (c : Cycle) (port : Nat) (p q : Packet) (bank : Nat) : Cycle :=
  let home := q.dest = c.dev.number
  if home && decide (c.ejects < 4) && c.dev.arrivalRoom q then
    let c1 := c.take port p
    { c1 with dev := { c1.dev with eject := c1.dev.eject ++ [q] }, ejects := c.ejects + 1 }
  else ((c.take port p).onward bank home q).getD c

/-- The scheduled route a TC0 packet follows here (R298): the tree of a reduction or multicast, else the route to its
destination. A null packet with TREE 0 that names no reduction buffer keeps to the route to its destination, where there is one: it
stands for a put (DEDUCED, log entry 180). -/
def Dev.schedRoute (d : Dev) (p : Packet) : Option SchedRoute :=
  (d.variantOf p.plot).bind (fun v =>
    let direct := v.routes.find? (fun r => r.tree = none && r.dest = p.dest)
    let tree := v.routes.find? (fun r => r.tree = some p.tree)
    let nullPut := p.typ = 0x08 && p.tree = 0 && gaSpace p.addr ≠ 4 && direct.isSome
    if (p.typ = 0x05 || p.typ = 0x06 || p.typ = 0x07 || p.typ = 0x08) && !nullPut && tree.isSome then tree else direct)

/-- Does a route carry a multicast: a tree that ends in members (R313)? -/
def SchedRoute.spreads (r : SchedRoute) : Bool := r.tree.isSome && (r.home || !r.below.isEmpty)

/-- Is a TC0 packet a copy of a multicast, or a null packet in the place of one (R171, R313)? -/
def Dev.spread (d : Dev) (p : Packet) : Bool :=
  p.tc = 0 && (p.typ = 0x07 || p.typ = 0x08) && (d.schedRoute p).any SchedRoute.spreads

/-- A TC0 packet that has left its route and goes on as unscheduled traffic, routed minimally by the epoch it carries (R300, R309); where
no output is free it waits for the next router cycle. -/
def Cycle.goOn (c : Cycle) (q : Packet) : Cycle :=
  match (c.dev.router.bankOf q.epoch).bind (fun bank => c.onward bank false q) with
  | some c1 => c1
  | none => { c with dev := { c.dev with router := { c.dev.router with demoted := c.dev.router.demoted ++ [q] } } }

/-- A packet that leaves its scheduled route counted (R300). -/
def Dev.demote (d : Dev) : Dev := (d.count 0x050 0x118 1).raise 0x050 2 Where.none

/-- A packet as TC1 toward a device (R300). -/
def Packet.lowTo (q : Packet) (m : Nat) : Packet :=
  { q with tc := 1, phase := true, mid := m, dest := m, addr := m * 2 ^ 52 + q.addr % 2 ^ 52 }

/-- A TC0 packet at its output (R299, R300): sent, or held in the output's scheduled queue of 64; where the queue is full it
leaves its route and goes on as TC1, once for each device of `tgt`. -/
def Cycle.toOutput (c : Cycle) (o : Nat) (q : Packet) (tgt : List Nat) : Cycle :=
  let queue := c.dev.router.sched.get o []
  if queue.isEmpty && c.free o q then c.send o q
  else if queue.length < 64 then
    { c with dev := ({ c.dev with router := { c.dev.router with sched := c.dev.router.sched.put o (queue ++ [q]) } }).count 0x050 0x114 1 }
  else
    forEach tgt { c with dev := c.dev.demote } (fun s m => s.goOn (q.lowTo m))

/-- The packet two partials make (R301). -/
def combinePackets (a b : Packet) : Packet :=
  match xwnOf a.xwn with
  | none => a
  | some n =>
    let l := ((a.xwValues n).zip (b.xwValues n)).map (fun (x : (Nat × Nat) × (Nat × Nat)) =>
      ((Xw.unpack n.bits x.1.1 x.1.2).combine (Xw.unpack n.bits x.2.1 x.2.2)).pack n.bits)
    { a with payload := l.flatMap (fun (x : Nat × Nat) => toBytes (n.bits / 8) x.1) ++ l.flatMap (fun (x : Nat × Nat) => toBytes 2 x.2),
             contrib := a.contrib + b.contrib }

/-- Do two packets meet in the combine buffer (R301)? -/
def Packet.meets (a b : Packet) : Bool :=
  a.tree = b.tree && a.addr = b.addr && a.stepGen = b.stepGen && a.xwn = b.xwn && a.win = b.win

/-- Bytes the combine buffer holds. -/
def Router.combineUse (r : Router) : Nat := r.combine.foldl (fun m c => m + c.pkt.payload.length) 0

/-- The confirmation of a contribution that a router has taken into a partial (log entry 36). -/
def Dev.absorb (d : Dev) (p : Packet) : Dev :=
  d.post { Packet.blank with
    dest := p.src, src := d.number, mid := p.src, phase := true, tc := 2, typ := 0x03, epoch := d.router.epoch, plan := p.plan,
    tag := p.tag, tagGen := p.tagGen, plot := p.plot, plotGen := p.plotGen, pcount := 1 }

/-- A partial that leaves its router is remembered, so that later contributions pass uncombined (R301); what the tree's earlier steps
but the last have left is forgotten. -/
def Router.left (r : Router) (p : Packet) : Router :=
  let old := r.recentLeft.filter (fun k => k.1 ≠ p.tree || k.2.2 = p.stepGen || (k.2.2 + 1) % 16 = p.stepGen)
  { r with recentLeft := (p.tree, p.addr, p.stepGen) :: old.filter (· ≠ (p.tree, p.addr, p.stepGen)) }

/-- An XW_ADD of a tree where partials meet (R301): combined, held, or passed on. `none` where the packet is kept. -/
def Cycle.combine (c : Cycle) (rt : SchedRoute) (q : Packet) : Cycle × Option Packet :=
  let r := c.dev.router
  match r.combine.find? (fun h => h.pkt.meets q) with
  | some h =>
    let m := combinePackets h.pkt q
    let d1 := (c.dev.count 0x050 0x11C q.contrib).absorb q
    let rest := r.combine.erase h
    if h.expect ≤ m.contrib then
      ({ c with dev := { d1 with router := ({ d1.router with combine := rest }).left m } }, some m)
    else ({ c with dev := { d1 with router := { d1.router with combine := rest ++ [{ h with pkt := m }] } } }, none)
  | none =>
    if r.recentLeft.contains (q.tree, q.addr, q.stepGen) || decide (262144 < r.combineUse + q.payload.length) then (c, some q)
    else ({ c with dev := { c.dev with router := { r with combine := r.combine ++ [⟨q, rt.expect, c.dev.time.elapsed⟩] } } }, none)

/-- A multicast copy on its tree (R313): one copy down each branch that has a member whose fence bit is clear, and one into this
device where it is a member. -/
def Cycle.replicate (c : Cycle) (rt : SchedRoute) (q : Packet) : Cycle :=
  let d := c.dev
  let c1 : Cycle := if rt.home && !d.fenced d.number then
      { c with dev := { d with eject := d.eject ++ [{ q with dest := d.number, addr := d.number * 2 ^ 52 + q.addr % 2 ^ 52 }] }, ejects := c.ejects + 1 }
    else c
  forEach rt.below c1 (fun s e =>
    let live := e.2.filter (fun m => !s.dev.fenced m)
    if live.isEmpty then s else s.toOutput e.1 q live)

/-- A TC0 packet on its scheduled route (R298 to R301, R313); one without a route here leaves its route. -/
def Cycle.scheduled (c : Cycle) (port : Nat) (p q : Packet) (bank : Nat) : Cycle :=
  match c.dev.schedRoute q with
  | some rt =>
    let room := decide (c.ejects < 4) && c.dev.arrivalRoom q
    if c.dev.spread q then (if rt.home && !room then c else (c.take port p).replicate rt q)
    else if q.dest = c.dev.number then (if room then c.unscheduled port p q bank else c)
    else
      let c1 := c.take port p
      let r := if q.typ = 0x05 ∧ rt.tree.isSome ∧ 1 < rt.expect then c1.combine rt q else (c1, some q)
      match r.2, rt.outs.head? with
      | some m, some o => r.1.toOutput o m [m.dest]
      | _, _ => r.1
  | none =>
    if q.dest = c.dev.number then c.unscheduled port p q bank
    else match (c.take port p).onward bank false { q with tc := 1, phase := true, mid := q.dest } with
      | some c1 => { c1 with dev := c1.dev.demote }
      | none => c

/-- A packet dropped on the way with a FLUSH_NOTICE of a status to its origin (R306, R308, R310); `f` counts the drop. -/
def Cycle.drop (c : Cycle) (port : Nat) (p : Packet) (status : Nat) (f : Dev → Dev) : Cycle :=
  { c with dev := (f (c.dev.routerTake port p)).flushNotice p status }

/-- A packet with its header as it goes on: the hop limit (R306), the epoch (R310), at its first router a destination that can be
reached (R308), then its route. -/
def Cycle.route (c : Cycle) (port : Nat) (p q : Packet) : Cycle :=
  let home := q.dest = c.dev.number
  if !home && decide (64 ≤ q.hops) then
    c.drop port p 6 (fun e => ((e.count 0x050 0x10C 1).record 0x050 0 Where.none).lastDrop q 6)
  else match c.dev.router.bankOf q.epoch with
    | none => c.drop port p 8 (fun e => (e.count 0x050 0x110 1).record 0x050 1 Where.none)
    | some bank =>
      if decide (12 ≤ port) && !home && !c.dev.spread q && !entryValid (c.dev.router.entry bank q.dest) then c.drop port p 7 id
      else if q.tc = 0 then c.scheduled port p q bank
      else c.unscheduled port p q bank

/-- One contender at the router: malformed packets and packets for fenced devices are dropped at the first router (R296, R312);
an ABORT is left to the bell (R508), a TIME packet to the port's shell (R376). -/
def Cycle.one (c : Cycle) (port : Nat) (p : Packet) : Cycle :=
  let d := c.dev
  if !d.contends port p || p.bell || p.typ = 0x0F then c
  else if d.malformed p then { c with dev := ((d.routerTake port p).count 0x050 0x124 1).record 0x050 3 Where.none }
  else if decide (12 ≤ port) && d.fencedAtSource p.dest && !d.spread p then
    { c with dev := ((d.routerTake port p).fenceNotice p).count 0x050 0x120 1 }
  else if 12 ≤ port then
    let r := d.injected p
    ({ c with dev := r.2 } : Cycle).route port p r.1
  else c.route port p p

/-- The heads of the scheduled queues sent on outputs that are free (R299). -/
def Cycle.drainQueues (c : Cycle) : Cycle :=
  forEach (List.range 12) c (fun s o =>
    match s.dev.router.sched.get o [] with
    | [] => s
    | q :: rest =>
      if s.free o q then
        ({ s with dev := { s.dev with router := { s.dev.router with sched := s.dev.router.sched.put o rest } } } : Cycle).send o q
      else s)

/-- The packets that have left their scheduled route and found no output yet go on (R300). -/
def Cycle.drainDemoted (c : Cycle) : Cycle :=
  forEach c.dev.router.demoted { c with dev := { c.dev with router := { c.dev.router with demoted := [] } } } (fun s q => s.goOn q)

/-- One router cycle over its contenders (R299, R304): TC3 first, then waiting scheduled frames, then the others by rank. -/
def Dev.routeCycle (d : Dev) (cands : List (Nat × Packet)) : Dev :=
  let l := sortBy (fun (a b : Nat × Packet) => decide (rankOf a.1 a.2 ≤ rankOf b.1 b.2)) cands
  let bells := l.filter (fun e => e.2.tc = 3 && decide (e.1 < 12))
  let others := l.filter (fun e => !(e.2.tc = 3 && decide (e.1 < 12)))
  let c1 := forEach bells (⟨d, [], 0⟩ : Cycle) (fun c e => c.one e.1 e.2)
  (forEach others c1.drainQueues.drainDemoted (fun c e => c.one e.1 e.2)).dev

/-- PACKET_ROUTE. -/
def execPacketRoute (cands : List (Nat × Packet)) (s : State) : Host.Outcome State Fault Refusal := onDev (·.routeCycle cands) s

/-- Has the slot window ended in which a partial was held (R298, R301)? The frame of 64 slots of 64 ticks repeats from the start of the
step that this device runs for the plot (DEDUCED, log entry 181); a route that names no slot of its output has no window to wait for. -/
def Dev.windowOver (d : Dev) (h : Combining) : Bool :=
  match d.schedRoute h.pkt with
  | none => true
  | some rt =>
    let mine := (rt.slots.filter (fun s => rt.outs.head? = some s.1)).map (·.2)
    let t0 := (d.step h.pkt.plot).startEl
    mine.isEmpty || (List.range 65).any (fun k =>
      let e := t0 + 64 * ((h.since - t0) / 64 + k + 1)
      mine.contains (((h.since - t0) / 64 + k) % 64) && decide (e ≤ d.time.elapsed))

/-- COMBINE_SEND (R301): the slot window of a held partial has ended. -/
def Dev.combineSend (d : Dev) (tree addr : Nat) : Dev :=
  match d.router.combine.find? (fun h => h.pkt.tree = tree && h.pkt.addr = addr) with
  | none => d
  | some h =>
    if !d.windowOver h then d
    else
      let d1 := { d with router := ({ d.router with combine := d.router.combine.erase h }).left h.pkt }
      match (d1.schedRoute h.pkt).bind (fun rt => rt.outs.head?) with
      | some o => ((⟨d1, [], 0⟩ : Cycle).toOutput o h.pkt [h.pkt.dest]).dev
      | none => d1

/-- COMBINE_SEND. -/
def execCombineSend (tree addr : Nat) (s : State) : Host.Outcome State Fault Refusal := onDev (·.combineSend tree addr) s

/-! ### Banks and fences -/

/-- A routing switch armed (R309, R310, R320); a retained bank has refused it before. -/
def Dev.switchArm (d : Dev) (epoch : Nat) : Dev :=
  { d with router := { d.router with armed := some ⟨epoch % 256, BitVec.ofNat 64 (d.rg64 0x050 0x40C 0)⟩ } }

/-- SWITCH_ARM. -/
def execSwitchArm (r : Route) (epoch : Nat) (s : State) : Host.Outcome State Fault Refusal :=
  onReg r 0x050 0x414 (epoch % 256 + 256) (·.switchArm epoch) s

/-- The primary's role as its shadow knows it, by MANAGER_ID (R521, R601; DEDUCED, log entry 51). -/
def Dev.roleOf (d : Dev) (n : Nat) : Nat :=
  let m := d.rgN 0x000 0x418 0
  if bitN m 12 && bitsN m 0 12 = n then 0 else if bitN m 28 && bitsN m 16 12 = n then 1 else 2

/-- The numbers of a shadow pair exchanged at the switch count (R521): the pair ends. -/
def Dev.swapNumber (d : Dev) : Dev :=
  let n := d.shadowPartner
  ({ (d.setN 0x051 0x400 0 (n + 4096)).setN 0x000 0x820 0 0 with recov := { d.recov with following := false } })

/-- Promotion at a switch count (R521): a shadow whose MATCHES has reached PROMOTE_STEPS takes the primary's number and role; a
primary whose own number the new bank carries elsewhere takes the shadow's number and is fenced (log entry 51). -/
def Dev.promote (d : Dev) : Dev :=
  if !d.shadowValid || !d.recov.following then d
  else if d.isShadow then
    if bitsN (d.rgN 0x000 0x82C 0) 0 24 < bitsN (d.rgN 0x000 0x830 0) 0 24 then d
    else
      let e := d.swapNumber.setN 0x000 0x410 0 (d.roleOf d.shadowPartner)
      ({ e with recov := { e.recov with promoteAt := some (e.time.elapsed + e.horizon) } }).retime
  else if entryValid (d.router.entry d.router.active d.number) then
    let e := d.swapNumber
    (e.setFence e.number true).retime
  else d

/-- ROUTE_SWITCH (R309, R310): at the switch count the written bank becomes active; the old one is retained. -/
def Dev.routeSwitch (d : Dev) : Dev :=
  match d.router.armed with
  | none => d
  | some a =>
    if d.time.count < a.count then d
    else ({ d with router := { d.router with
      active := 1 - d.router.active, epoch := a.epoch, oldEpoch := d.router.epoch, retained := true
      retainedSince := d.time.elapsed, armed := none } } : Dev).promote

/-- ROUTE_SWITCH. -/
def execRouteSwitch (s : State) : Host.Outcome State Fault Refusal := onDev Dev.routeSwitch s

/-- BANK_RETAIN_END (R310): the drain horizon has passed after the switch. -/
def Dev.retainEnd (d : Dev) : Dev :=
  d.when (d.router.retained && decide (d.router.retainedSince + d.horizon ≤ d.time.elapsed))
    (fun e => { e with router := { e.router with retained := false } })

/-- BANK_RETAIN_END. -/
def execBankRetainEnd (s : State) : Host.Outcome State Fault Refusal := onDev Dev.retainEnd s

/-- A FENCE_SET packet at its destination (R311): only the manager's sets and clears bits. -/
def Dev.fenceSet (d : Dev) (p : Packet) : Dev :=
  d.when (p.typ = 0x11 && p.dest = d.number) (fun e =>
    forEach (if e.roleOf p.src = 0 then Config.fenceUpdates p.payload else []) (e.takeEject p) (fun s u => s.setFence (u.1 % 4096) u.2))

/-- FENCE_SET. -/
def execFenceSet (p : Packet) (s : State) : Host.Outcome State Fault Refusal := onDev (·.fenceSet p) s

/-- FENCE_MAP_WRITE (R311, R320). -/
def execFenceMapWrite (r : Route) (k : Nat) (v : W32) (s : State) : Host.Outcome State Fault Refusal :=
  onReg r 0x051 (0x800 + 4 * (k % 128)) v.toNat (fun d => (d.noteFence (k % 128)).setRg 0x051 (0x800 + 4 * (k % 128)) 0 v) s

/-- LINK_MGMT (R293): a link management packet is taken at its destination. The spec gives its content no meaning (log entry
37). -/
def Dev.linkMgmt (d : Dev) (p : Packet) : Dev := d.when (p.typ = 0x12 && p.dest = d.number) (fun e => e.takeEject p)

/-- LINK_MGMT. -/
def execLinkMgmt (p : Packet) (s : State) : Host.Outcome State Fault Refusal := onDev (·.linkMgmt p) s

end Sys2Proof.Machine
end

