-- ==== Sys2Proof/Machine/Links.lean ====
section
/-! DEFINITION. Fabric links: frames, acknowledgement and replay, credits, bring-up, grace and flush, draining, time exchanges (R323 to R356, R376 to R379). -/
namespace Sys2Proof.Machine

/-- The place of a port's fault (R504). -/
def Dev.portWhere (d : Dev) (n : Nat) : Where := ⟨none, none, n + 16 * (d.port n).cause, (d.port n).downTick.toNat, 0⟩

/-- Does a port's link carry frames that are judged (R327, R329, R345)? -/
def Port.links (p : Port) : Bool :=
  p.st = .up || p.st = .draining || p.st = .drained || (p.phase = .init && (p.st = .init || p.st = .held))

/-- May the port send PACKET frames, new or again: its link is up, or in INIT both INIT_ACKs are exchanged (R329)? -/
def Port.mayReplay (p : Port) : Bool :=
  p.st = .up || p.st = .draining || p.st = .drained ||
    (p.phase = .init && (p.st = .init || p.st = .held) && p.gotInit && p.gotInitAck)

/-- An IDLE frame with the current ACK (R332, R336, R337). -/
def Dev.sendIdle (d : Dev) (n : Nat) (nak : Bool) : Dev :=
  (d.sendFrame n .idle 0 nak).count (portPage n) (if nak then 0x110 else 0x108) 1

/-- A CRC error (R335, R337): the frame is discarded whole, and a NAK goes out. -/
def Dev.crcError (d : Dev) (n : Nat) : Dev :=
  let d1 := (d.count (portPage n) 0x10C 1).raise (portPage n) 0 (d.portWhere n)
  (d1.onPort n (fun p => { p with nakPending := true })).sendIdle n true

/-- Is sequence number `a` at or past `b` (modulo 2 ^ 16)? -/
def seqCovers (a b : Nat) : Bool := decide ((a + 65536 - b % 65536) % 65536 < 32768)

/-- The stored frames that an ACK covers freed (R334); an advance ends a row of replays (R339). -/
def Port.acked (p : Port) (a : Nat) : Port :=
  let rest := p.replay.filter (fun e => !seqCovers a e.1)
  { p with replay := rest, ackRecv := a, replaysNoAck := if rest.length < p.replay.length then 0 else p.replaysNoAck }

/-- The ACK and the credits of a frame used (R335, R342). -/
def Port.useFrame (p : Port) (h : FrameHdr) : Port :=
  let q := { p with returnedH := h.credH, returnedD := h.credD }
  if h.ackValid then q.acked h.ack else q

/-- The link declared down (R345): HELD, with the frames kept, retraining from TRAIN; the row of replays is over (R339, R346). -/
def Dev.declareDown (d : Dev) (n cause : Nat) : Dev :=
  let p := d.port n
  let p1 := { p with
    st := .held, phase := .train, cause := cause, downTick := d.time.count, downSince := d.time.elapsed
    graceLen := ticksMs * d.rgN (portPage n) 0x410 0, graceOpen := true, phaseSince := d.time.elapsed, exchOpen := false
    drainAfter := p.drainAfter || p.st = .draining || p.st = .drained, retrains := 0, replaysNoAck := 0, waiting := [] }
  let d1 := ((d.setPort n p1).setN (portPage n) 0x600 0 0).count (portPage n) 0x140 1
  (d1.raise (portPage n) 1 (d1.portWhere n)).retime

/-- A stored frame sent again, with the stamp of its own departure (R338, R376). -/
def Dev.resendFrame (d : Dev) (n : Nat) (e : Nat × Nat × Packet) : Dev :=
  let r := d.departing n e.2.2
  (r.2.onPort n (fun p => { p with replay := p.replay.map (fun f => if f.1 = e.1 then (e.1, d.time.elapsed, r.1) else f) })).sendFrame n
    (.packet r.1) e.1 false

/-- A replay from a SEQ on (R338, R339): every stored frame from there on sent again in order; the sixteenth in a row without
an advance declares the link of a port in UP, DRAINING or DRAINED down (R345). -/
def Dev.replayFrom (d : Dev) (n a : Nat) : Dev :=
  let p := d.port n
  let fs := p.replay.filter (fun e => seqCovers e.1 a)
  if fs.isEmpty || !p.mayReplay then d
  else
    let pg := portPage n
    let p1 := { p with lastReplay := some (a, d.time.elapsed), replaysNoAck := p.replaysNoAck + 1 }
    let d1 := forEach fs (d.setPort n p1) (fun s e => s.resendFrame n e)
    let d2 := ((d1.count pg 0x118 1).count pg 0x11C fs.length).count pg 0x100 fs.length
    if 16 ≤ p1.replaysNoAck && (p.st = .up || p.st = .draining || p.st = .drained) then d2.declareDown n 2 else d2

/-- A NAK received (R338): ignored where it names the point of a replay started less than RTT ago. -/
def Dev.nakReceived (d : Dev) (n ack : Nat) : Dev :=
  let p := d.port n
  let a := (ack + 1) % 65536
  let recent := match p.lastReplay with
    | some (b, t) => a = b && decide (d.time.elapsed < t + p.rtt)
    | none => false
  if recent then d else (d.count (portPage n) 0x114 1).replayFrom n a

/-- The fields of a frame that passed its checks used: ACK, credits, NAK, and what they let go out. A NAK of a peer that has accepted
nothing yet, with ACK_VALID 0, asks for SEQ 0 on (R331, R337, R338). -/
def Dev.useFrame (d : Dev) (n : Nat) (h : FrameHdr) : Dev :=
  let d1 := (d.onPort n (·.useFrame h)).sendWaiting n
  if h.nak then d1.nakReceived n (if h.ackValid then h.ack else 65535) else d1

/-- A frame of another generation (R335, R354). -/
def Dev.staleGen (d : Dev) (n : Nat) : Dev := (d.count (portPage n) 0x12C 1).record (portPage n) 6 Where.none

/-- An accepted packet (R335, R336): into the receive buffer, E advanced, an acknowledgement when 32 wait. -/
def Dev.acceptPacket (d : Dev) (n : Nat) (pk : Packet) : Dev :=
  let p := d.port n
  let p1 := { p with
    rxE := (p.rxE + 1) % 65536, rx := p.rx ++ [pk], nakPending := false, ackValid := true
    unacked := p.unacked + 1, unackedSince := if p.unacked = 0 then d.time.elapsed else p.unackedSince }
  let d1 := (d.setPort n p1).count (portPage n) 0x104 1
  if 32 ≤ p1.unacked then d1.sendIdle n false else d1

/-- FRAME_PACKET: judged by CRC, generation and SEQ (R335). -/
def Dev.framePacket (d : Dev) (n : Nat) (h : FrameHdr) (pk : Packet) : Dev :=
  let p := d.port n
  let diff := (h.seq % 65536 + 65536 - p.rxE) % 65536
  if !p.links then d
  else if !h.crcOk || h.rsv then d.crcError n
  else if h.gen ≠ p.rxGen then d.staleGen n
  else if diff = 0 then (d.useFrame n h).acceptPacket n pk
  else if 0xF800 ≤ diff then (d.useFrame n h).count (portPage n) 0x124 1
  else if diff ≤ 0x07FF then
    let d1 := d.count (portPage n) 0x128 1
    if p.nakPending then d1 else (d1.onPort n (fun q => { q with nakPending := true })).sendIdle n true
  else d.crcError n

/-- FRAME_PACKET. -/
def execFramePacket (port : Nat) (h : FrameHdr) (p : Packet) (s : State) : Host.Outcome State Fault Refusal :=
  onDev (·.framePacket port h p) s

/-- FRAME_IDLE (R332, R335). -/
def Dev.frameIdle (d : Dev) (n : Nat) (h : FrameHdr) : Dev :=
  let p := d.port n
  if !p.links then d
  else if !h.crcOk || h.rsv then d.crcError n
  else if h.gen ≠ p.rxGen then d.staleGen n
  else d.useFrame n h

/-- FRAME_IDLE. -/
def execFrameIdle (port : Nat) (h : FrameHdr) (s : State) : Host.Outcome State Fault Refusal := onDev (·.frameIdle port h) s

/-! ### Time exchanges -/

/-- The payload of a TIME packet (R376). -/
def TimeBody.bytes (b : TimeBody) : List Byte :=
  toBytes 8 b.depart ++ toBytes 8 b.reqArrive ++ toBytes 2 b.exch ++ toBytes 1 b.kind ++
    toBytes 1 (b.synced.toNat + 2 * b.manager.toNat) ++ List.replicate 44 0

/-- The body a TIME packet's payload spells. -/
def timeBodyOf (bs : List Byte) : TimeBody :=
  let f (off n : Nat) : Nat := leNat ((bs.drop off).take n)
  ⟨f 0 8, f 8 8, f 16 2, f 18 1, bitN (f 19 1) 0, bitN (f 19 1) 1⟩

/-- A TIME packet sent on a port (R376); its shell writes DEPART as it goes out. -/
def Dev.sendTime (d : Dev) (n : Nat) (b : TimeBody) : Dev :=
  let peer := ((d.port n).peer.map (·.1)).getD 0
  d.portOffer n { Packet.blank with
    dest := peer, src := d.number, mid := peer, phase := true, tc := 2, typ := 0x0F, epoch := d.router.epoch, len := 64,
    pcount := 1, payload := b.bytes }

/-- Does the device report itself synced, and manager, to a peer (R376, R378)? -/
def Dev.flagSynced (d : Dev) : Bool := d.time.sync = 3
def Dev.flagManager (d : Dev) : Bool := d.isManager

/-- A REQ sent (R377). -/
def Dev.startExchange (d : Dev) (n : Nat) : Dev :=
  let num := ((d.port n).exchNum + 1) % 65536
  let d1 := d.onPort n (fun p => { p with
    exchNum := num, exchOpen := true, exchAt := d.time.elapsed, lastExch := d.time.elapsed
    waiting := p.waiting.filter (fun q => q.typ ≠ 0x0F) })
  d1.sendTime n ⟨0, 0, num, 1, d.flagSynced, d.flagManager⟩

/-- TIME_EXCHANGE (R376): every 10 ms on a port in INIT or UP. -/
def Dev.timeExchange (d : Dev) (n : Nat) : Dev :=
  let p := d.port n
  let ready := p.st = .up || (p.st = .init && p.gotInit && p.gotInitAck)
  if !ready || p.exchOpen || d.time.elapsed < p.lastExch + 10 * ticksMs then d else d.startExchange n

/-- TIME_EXCHANGE. -/
def execTimeExchange (port : Nat) (s : State) : Host.Outcome State Fault Refusal := onDev (·.timeExchange port) s

/-- EXCHANGE_LOST (R328, R377): no RESP within 1 ms; in INIT the exchange is repeated at once. -/
def Dev.exchangeLost (tie : Nat) (d : Dev) (n : Nat) : Dev :=
  let p := d.port n
  if !p.exchOpen || d.time.elapsed < p.exchAt + ticksMs + tie then d
  else
    let d1 := (d.onPort n (fun q => { q with exchOpen := false })).count 0x004 0x104 1
    if p.phase = .init && (p.st = .init || p.st = .held) then d1.startExchange n else d1

/-- EXCHANGE_LOST. -/
def execExchangeLost (port : Nat) (s : State) : Host.Outcome State Fault Refusal := onTimer (fun tie d => d.exchangeLost tie port) s

/-- A port whose first exchange of an INIT has completed enters UP, or DRAINED after a drain that waited (R329, R346, R351); a
resume replays what the peer still lacks. -/
def Dev.enterUp (d : Dev) (n : Nat) : Dev :=
  let p := d.port n
  let resumed := p.st = .held
  let st : LinkState := if p.drainAfter then .drained else .up
  let d1 := d.setPort n { p with st := st, phase := st, graceOpen := false, drainAfter := false, fails := 0, retrains := 0 }
  let d2 := if resumed then (d1.count (portPage n) 0x144 1).record (portPage n) 2 Where.none else d1
  (d2.reselectAll).retime

/-- The delay and the offset an exchange yields, in eighths of a tick (R377). -/
def exchDelay (t1 t2 t3 t4 : Nat) : Int := (((t4 : Int) - t1) - ((t3 : Int) - t2)) / 2
def exchOffset (t1 t2 t3 t4 : Nat) : Int := (((t1 : Int) - t2) + ((t4 : Int) - t3)) / 2

/-- A RESP that answers the last REQ sent (R377): delay, offset, the peer's flags, and a port in INIT comes up. -/
def Dev.takeTimeResp (d : Dev) (n : Nat) (b : TimeBody) (arrive : Nat) : Dev :=
  let p := d.port n
  if !p.exchOpen || b.exch ≠ p.exchNum then d
  else
    let dl := exchDelay p.exchStamp b.reqArrive b.depart arrive
    let th := exchOffset p.exchStamp b.reqArrive b.depart arrive
    let d1 := (d.setPort n { p with
      exchOpen := false, linkDelay := some (dl.toNat % 2 ^ 20), peerSynced := b.synced, peerManager := b.manager }).count 0x004 0x100 1
    let d2 := if p.phase = .init then d1.enterUp n else d1.retime
    if d2.time.upstream = some n then d2.steer th else d2

/-- TIME_PACKET: the shell of a port takes a TIME packet from its receive buffer and answers a REQ, or uses a RESP (R376,
R377). -/
def Dev.timePacket (d : Dev) (n : Nat) (b : TimeBody) (arrive : Nat) : Dev :=
  let p := d.port n
  match p.rx.find? (fun q => q.typ = 0x0F && timeBodyOf q.payload = b) with
  | none => d
  | some q =>
    let d1 := (d.routerTake n q).onPort n (fun r => if b.kind = 1 ∨ b.kind = 2 then { r with peerSynced := b.synced, peerManager := b.manager } else r)
    if b.kind = 1 then
      (d1.sendTime n ⟨0, arrive % 2 ^ 64, b.exch, 2, d.flagSynced, d.flagManager⟩).retime
    else if b.kind = 2 then d1.takeTimeResp n b arrive
    else d1

/-- TIME_PACKET. -/
def execTimePacket (port : Nat) (b : TimeBody) (arrive : Nat) (s : State) : Host.Outcome State Fault Refusal :=
  onDev (·.timePacket port b arrive) s

/-! ### INIT -/

/-- The body of this port's INIT frames (R333). -/
def Dev.initBody (d : Dev) (n : Nat) : InitBody :=
  let p := d.port n
  ⟨d.number, n, p.initResume, advHeaders, advData, p.rxE⟩

/-- An INIT or INIT_ACK frame sent. -/
def Dev.sendInit (d : Dev) (n : Nat) (ack : Bool) : Dev :=
  d.sendFrame n (if ack then .initAck (d.initBody n) else .init (d.initBody n)) 0 false

/-- INIT entered (R328, R329, R346): RESUME from HELD within grace; otherwise a full initialisation, whose transmit generation
is one further. -/
def Dev.enterInit (d : Dev) (n : Nat) : Dev :=
  let p := d.port n
  let resume := p.st = .held && p.graceOpen
  let d1 := d.setPort n { p with
    st := if resume then .held else .init, phase := .init, phaseSince := d.time.elapsed, initAt := d.time.elapsed
    initDepart := d.time.elapsed, initResume := resume, gotInit := false, gotInitAck := false, exchOpen := false, waiting := []
    txGen := if resume then p.txGen else (p.txGen + 1) % 256 }
  d1.sendInit n false

/-- The peer's advertisement taken and the counts cleared: a full initialisation (R346). -/
def Port.fullInit (p : Port) (h : FrameHdr) (b : InitBody) : Port :=
  { p with
    rxGen := h.gen, txSeq := 0, ackRecv := 0xFFFF, rxE := 0, lastAckSent := 0xFFFF, ackValid := false, nakPending := false
    unacked := 0, replay := [], lastReplay := none, replaysNoAck := 0, advH := b.advH, advD := b.advD
    chargedH := [0, 0, 0, 0], chargedD := [0, 0, 0, 0], returnedH := [0, 0, 0, 0], returnedD := [0, 0, 0, 0]
    takenH := [0, 0, 0, 0], takenD := [0, 0, 0, 0] }

/-- Both INIT_ACKs exchanged (R329, R346): a resume replays what the peer still lacks, which is what its replay buffer holds, since the
peer accepts the frames of the first time exchange only after them (R335; DEDUCED, log entry 182); then that exchange starts. -/
def Dev.initBoth (d : Dev) (n : Nat) : Dev :=
  let p := d.port n
  if !p.gotInit || !p.gotInitAck || p.exchOpen then d
  else (match p.initResume, p.replay with
    | true, e :: _ => d.replayFrom n e.1
    | _, _ => d).startExchange n

/-- FRAME_INIT (R329, R346, R352): resume, or flush and full initialisation; answered by INIT_ACK. -/
def Dev.frameInit (d : Dev) (n : Nat) (h : FrameHdr) (b : InitBody) : Dev :=
  let p := d.port n
  if !(p.phase = .init && (p.st = .init || p.st = .held)) then d
  else if !h.crcOk || h.rsv then d.crcError n
  else if p.gotInit && p.rxGen = h.gen then d.sendInit n true
  else
    let resume := p.initResume && b.resume && h.gen = p.rxGen
    let d1 := if p.initResume && !resume then
        ((d.flushPort n).onPort n (fun q => { q with cause := 4 })).enterInit n
      else d
    let d2 := d1.onPort n (fun q =>
      let r := if resume then q.acked ((b.expect + 65535) % 65536) else q.fullInit h b
      { r with gotInit := true, peer := some (b.dev, b.port) })
    (d2.sendInit n true).initBoth n

/-- FRAME_INIT. -/
def execFrameInit (port : Nat) (h : FrameHdr) (b : InitBody) (s : State) : Host.Outcome State Fault Refusal :=
  onDev (·.frameInit port h b) s

/-- FRAME_INIT_ACK (R329): the answer to this port's INIT, whose round trip is recorded. -/
def Dev.frameInitAck (d : Dev) (n : Nat) (h : FrameHdr) (b : InitBody) : Dev :=
  let p := d.port n
  if !(p.phase = .init && (p.st = .init || p.st = .held)) then d
  else if !h.crcOk || h.rsv then d.crcError n
  else if p.gotInitAck then d
  else (d.setPort n { p with gotInitAck := true, rtt := d.time.elapsed - p.initDepart, peer := some (b.dev, b.port) }).initBoth n

/-- FRAME_INIT_ACK. -/
def execFrameInitAck (port : Nat) (h : FrameHdr) (b : InitBody) (s : State) : Host.Outcome State Fault Refusal :=
  onDev (·.frameInitAck port h b) s

/-- INIT_REPEAT (R328): INIT frames repeat every microsecond until answered. -/
def Dev.initRepeat (tie : Nat) (d : Dev) (n : Nat) : Dev :=
  let p := d.port n
  if !(p.phase = .init && (p.st = .init || p.st = .held)) || p.gotInitAck || d.time.elapsed < p.initAt + ticksUs + tie then d
  else (d.setPort n { p with initAt := d.time.elapsed, initDepart := d.time.elapsed }).sendInit n false

/-- INIT_REPEAT. -/
def execInitRepeat (port : Nat) (s : State) : Host.Outcome State Fault Refusal := onTimer (fun tie d => d.initRepeat tie port) s

/-! ### Timers and bring-up -/

/-- ACK_TIMER (R336). -/
def Dev.ackTimer (tie : Nat) (d : Dev) (n : Nat) : Dev :=
  let p := d.port n
  if !p.links || p.unacked = 0 || d.time.elapsed < p.unackedSince + d.rgN (portPage n) 0x414 0 + tie then d else d.sendIdle n false

/-- ACK_TIMER. -/
def execAckTimer (port : Nat) (s : State) : Host.Outcome State Fault Refusal := onTimer (fun tie d => d.ackTimer tie port) s

/-- REPLAY_TIMER (R339): the oldest stored frame has waited too long. -/
def Dev.replayTimer (tie : Nat) (d : Dev) (n : Nat) : Dev :=
  let p := d.port n
  match p.replay with
  | [] => d
  | e :: _ =>
    if !p.mayReplay || d.time.elapsed < e.2.1 + ticksUs * d.rgN (portPage n) 0x418 0 + tie then d
    else (d.count (portPage n) 0x120 1).replayFrom n e.1

/-- REPLAY_TIMER. -/
def execReplayTimer (port : Nat) (s : State) : Host.Outcome State Fault Refusal := onTimer (fun tie d => d.replayTimer tie port) s

/-- LOCK_LOSS (R345): a lane without symbol lock for LOCK_LOSS_TIME. -/
def Dev.lockLoss (d : Dev) (n us : Nat) : Dev :=
  let p := d.port n
  let on := p.st = .up || p.st = .draining || p.st = .drained
  if !on || us < d.rgN (portPage n) 0x40C 0 then d else d.declareDown n 1

/-- LOCK_LOSS. -/
def execLockLoss (port us : Nat) (s : State) : Host.Outcome State Fault Refusal := onDev (·.lockLoss port us) s

/-- GRACE_EXPIRY (R347, R351): the frames flushed, the port DOWN, a class F fault. -/
def Dev.graceExpiry (tie : Nat) (d : Dev) (n : Nat) : Dev :=
  let p := d.port n
  if p.st ≠ .held || !p.graceOpen || d.time.elapsed < p.downSince + p.graceLen + tie then d
  else
    let d1 := (d.flushPort n).count (portPage n) 0x148 1
    let d2 := d1.onPort n (fun q => { q with st := .down, phase := .train, phaseSince := d1.time.elapsed })
    d2.raise (portPage n) 3 (d.portWhere n)

/-- GRACE_EXPIRY. -/
def execGraceExpiry (port : Nat) (s : State) : Host.Outcome State Fault Refusal := onTimer (fun tie d => d.graceExpiry tie port) s

/-- LANE_LOCK, LANE_MAP and CAL_RESULT of a port whose lanes are not trained (R353). -/
def Dev.noLanes (d : Dev) (n : Nat) : Dev :=
  ((d.setN (portPage n) 0x600 0 0).setN (portPage n) 0x604 0 0).setN (portPage n) 0x608 0 0

/-- CALIBRATE entered (R328). -/
def Dev.calibratePort (d : Dev) (n : Nat) : Dev :=
  (d.noLanes n).onPort n (fun p => { p with st := .calibrate, phase := .calibrate, phaseSince := d.time.elapsed })

/-- A phase of bring-up that completes (R323, R327 to R329): `lanes` are CAL_RESULT [15:0] in CALIBRATE, where all eight lanes of
both directions must work, and LANE_MAP in TRAIN. -/
def Dev.phaseDone (d : Dev) (n : Nat) (lanes : W32) : Dev :=
  let p := d.port n
  let pg := portPage n
  match p.phase with
  | .calibrate =>
    let v := lanes.toNat % 65536
    let d1 := d.setN pg 0x608 0 (v + (if v = 0xFFFF then 2 ^ 16 else 0))
    if v ≠ 0xFFFF then d1
    else d1.onPort n (fun q => { q with st := .train, phase := .train, phaseSince := d.time.elapsed })
  | .train => ((d.setRg pg 0x604 0 lanes).setN pg 0x600 0 0x1FF).enterInit n
  | _ => d

/-- BRINGUP_PHASE_DONE. -/
def execBringupPhaseDone (port : Nat) (lanes : W32) (s : State) : Host.Outcome State Fault Refusal :=
  onDev (·.phaseDone port lanes) s

/-- The bound of a phase in ticks (R328). -/
def phaseBound (ph : LinkState) : Nat :=
  match ph with
  | .calibrate => 250 * ticksMs
  | .train => 50 * ticksMs
  | _ => 5 * ticksMs

/-- BRINGUP_PHASE_TIMEOUT (R328): in HELD and DOWN the port retrains, from DOWN after 16 attempts from CALIBRATE; otherwise it
starts again from CALIBRATE, and after the third failure in a row it is FAILED. -/
def Dev.phaseTimeout (tie : Nat) (d : Dev) (n : Nat) : Dev :=
  let p := d.port n
  let busy := p.phase = .calibrate || p.phase = .train || p.phase = .init
  if !busy || d.time.elapsed < p.phaseSince + phaseBound p.phase + tie then d
  else if p.st = .held then d.setPort n { p with phase := .train, phaseSince := d.time.elapsed, exchOpen := false, retrains := p.retrains + 1 }
  else if p.st = .down then
    (if p.retrains < 15 then d.setPort n { p with phase := .train, phaseSince := d.time.elapsed, retrains := p.retrains + 1 }
     else (d.setPort n { p with retrains := 0 }).calibratePort n)
  else if p.fails < 2 then (d.setPort n { p with fails := p.fails + 1, exchOpen := false }).calibratePort n
  else
    ((d.noLanes n).setPort n { p with st := .failed, phase := .failed, fails := 0, exchOpen := false }).raise (portPage n) 5 (d.portWhere n)

/-- BRINGUP_PHASE_TIMEOUT. -/
def execBringupPhaseTimeout (port : Nat) (s : State) : Host.Outcome State Fault Refusal := onTimer (fun tie d => d.phaseTimeout tie port) s

/-! ### Link commands -/

/-- ENABLE (R328): from OFF, in PORT_MAP, and from FAILED. -/
def Dev.linkEnable (d : Dev) (n : Nat) : Dev :=
  d.when (bitN d.portMap n && ((d.port n).st = .off || (d.port n).st = .failed)) (·.calibratePort n)

/-- LINK_ENABLE. -/
def execLinkEnable (r : Route) (port : Nat) (s : State) : Host.Outcome State Fault Refusal :=
  onReg r (portPage (port % 12)) 0x404 1 (·.linkEnable (port % 12)) s

/-- DRAIN (R351); the sets are chosen anew (R237). -/
def execLinkDrain (r : Route) (port : Nat) (s : State) : Host.Outcome State Fault Refusal :=
  onReg r (portPage (port % 12)) 0x404 2 (fun d => ((d.drainPort (port % 12)).reselectAll).retime) s

/-- UNDRAIN (R351). -/
def Dev.undrain (d : Dev) (n : Nat) : Dev :=
  d.when ((d.port n).st = .drained) (fun e => ((e.onPort n (fun p => { p with st := .up, phase := .up })).reselectAll).retime)

/-- LINK_UNDRAIN. -/
def execLinkUndrain (r : Route) (port : Nat) (s : State) : Host.Outcome State Fault Refusal :=
  onReg r (portPage (port % 12)) 0x404 3 (·.undrain (port % 12)) s

/-- RECALIBRATE (R330): runs live in UP, without losing a frame. -/
def execLinkRecalibrate (r : Route) (port : Nat) (s : State) : Host.Outcome State Fault Refusal :=
  onReg r (portPage (port % 12)) 0x404 4
    (fun d => d.when ((d.port (port % 12)).st = .up) (·.count (portPage (port % 12)) 0x150 1)) s

/-- DRAIN_COMPLETE (R351): the replay buffer is empty. -/
def Dev.drainComplete (d : Dev) (n : Nat) : Dev :=
  d.when ((d.port n).st = .draining && (d.port n).replay.isEmpty) (·.onPort n (fun p => { p with st := .drained, phase := .drained }))

/-- DRAIN_COMPLETE. -/
def execDrainComplete (port : Nat) (s : State) : Host.Outcome State Fault Refusal := onDev (·.drainComplete port) s

/-- FEC_ALARM_WINDOW (R353 to R355): the codewords of one millisecond. -/
def Dev.fecWindow (d : Dev) (n corrected uncorrected : Nat) : Dev :=
  if (d.port n).st = .off then d
  else
    let d1 := (d.count (portPage n) 0x138 corrected).count (portPage n) 0x13C uncorrected
    if d1.rgN (portPage n) 0x454 0 < uncorrected then d1.raise (portPage n) 4 (d.portWhere n) else d1

/-- FEC_ALARM_WINDOW. -/
def execFecAlarmWindow (port corrected uncorrected : Nat) (s : State) : Host.Outcome State Fault Refusal :=
  onDev (·.fecWindow port corrected uncorrected) s

/-- A port taken OFF with its frames flushed (R352, R356): its state is cleared, the tick it was last declared down stays. -/
def Dev.portOff (d : Dev) (n cause : Nat) : Dev :=
  ((d.flushPort n).noLanes n).setPort n { Port.off with cause := cause, downTick := (d.port n).downTick }

end Sys2Proof.Machine
end

