-- ==== Sys2Proof/Machine/Roce.lean ====
section
/-! DEFINITION. RoCEv2: queue pairs, memory regions, requests and responses, congestion control; load jobs and shards as they ride on it (R440 to R462, R571 to R574). -/
namespace Sys2Proof.Machine

/-- The packets a message of a length takes on a queue pair. -/
def Dev.qpPackets (d : Dev) (q n : Nat) : Nat := max 1 (ceilDiv n (d.qpMtu q))

/-- An RDMA read issued for a load job (R448, R571). -/
def Dev.rdmaRead (d : Dev) (q j addr rkey len : Nat) : Dev :=
  let x := d.qp q
  (d.onQp q (fun y => { y with
    psn := (x.psn + d.qpPackets q len) % 2 ^ 24
    ops := y.ops ++ [⟨false, x.psn, j, 0, 0, len, d.time.elapsed⟩] })).qpSend q 1 (.roceRead q x.psn addr rkey len)

/-- The outstanding requests of a queue pair failed (R572): mirrors cleared, load jobs RDMA_ERROR. -/
def Dev.failOps (d : Dev) (q : Nat) : Dev :=
  let ops := (d.qp q).ops
  let d1 := d.onQp q (fun x => { x with ops := [] })
  forEach ops d1 (fun s o =>
    if o.write then s.mirrorFail o.ring
    else if (s.job o.job).st = .reading then s.endJob o.job .failed 1 else s)

/-- A queue pair into ERROR (R572). -/
def Dev.qpError (d : Dev) (q : Nat) : Dev :=
  ((d.onQp q (fun x => { x with st := 4 })).failOps q).record 0x073 0 Where.none

/-- The line rate of a queue pair's interface in Mb/s (R554): by its host port's mode. -/
def Dev.lineRate (d : Dev) (q : Nat) : Nat :=
  match d.rgN (0x070 + bitsN (d.rgN 0x073 0x404 q) 4 3 / 4) 0x400 0 % 4 with
  | 0 => 400000 | 1 => 200000 | _ => 100000

/-- QP_CMD CONNECT (R572, R579): from RESET by INIT and RTR to RTS. Both directions start at QP_PSN (log entry 40). -/
def Dev.qpConnect (d : Dev) (q : Nat) : Dev :=
  if (d.qp q).st ≠ 0 then d
  else
    let psn := d.rgN 0x073 0x41C q % 2 ^ 24
    d.onQp q (fun _ => { Qp.reset with
      st := 3, psn := psn, epsn := psn, rate := d.lineRate q, target := d.lineRate q, timerAt := d.time.elapsed })

/-- QP_CONNECT. -/
def execQpConnect (r : Route) (qp : Nat) (s : State) : Host.Outcome State Fault Refusal :=
  onReg r 0x073 0x420 1 (fun d => d.when (d.sel r 0x073 0x400 % 2048 = qp) (·.qpConnect qp)) s

/-- QP_CMD RESET (R572). -/
def Dev.qpReset (d : Dev) (q : Nat) : Dev := (d.failOps q).onQp q (fun _ => Qp.reset)

/-- QP_RESET. -/
def execQpReset (r : Route) (qp : Nat) (s : State) : Host.Outcome State Fault Refusal :=
  onReg r 0x073 0x420 2 (fun d => d.when (d.sel r 0x073 0x400 % 2048 = qp) (·.qpReset qp)) s

/-- MR_CMD CREATE (R573): the generation advances. -/
def Dev.mrCreate (d : Dev) (k : Nat) : Dev :=
  let old := d.mrs.get k Mr.free
  let cfg := d.rgN 0x073 0x440 k
  match d.localMem (d.rg64 0x073 0x434 k) with
  | some _ => { d with mrs := d.mrs.put k ⟨true, (old.gen + 1) % 256, d.rg64 0x073 0x434 k, 4096 * d.rgN 0x073 0x43C k, cfg % 16,
                                          bitN cfg 4, bitN cfg 5, bitsN cfg 16 12⟩ }
  | none => d

/-- MR_CREATE. -/
def execMrCreate (r : Route) (mr : Nat) (s : State) : Host.Outcome State Fault Refusal :=
  onReg r 0x073 0x448 1 (fun d => d.when (d.sel r 0x073 0x430 % 4096 = mr) (·.mrCreate mr)) s

/-- MR_DESTROY. -/
def execMrDestroy (r : Route) (mr : Nat) (s : State) : Host.Outcome State Fault Refusal :=
  onReg r 0x073 0x448 2 (fun d => d.when (d.sel r 0x073 0x430 % 4096 = mr)
    (fun e => { e with mrs := e.mrs.put mr { e.mrs.get mr Mr.free with valid := false } })) s

/-- The rkey of a region (R573). -/
def Mr.rkey (m : Mr) (k : Nat) : Nat := k + 4096 * m.gen + 2 ^ 20 * m.tag

/-- Is a request's key, range, permission and plot in order, and its message of at most 1 GiB (R572, R573; log entry 189)? -/
def Dev.rkeyOk (d : Dev) (q rkey addr len : Nat) (write : Bool) : Bool :=
  let k := rkey % 4096
  let m := d.mrs.get k Mr.free
  m.valid && m.rkey k = rkey && m.plot = d.rgN 0x073 0x404 q % 16 && (if write then m.write else m.read) &&
    decide (m.base ≤ addr) && decide (addr + len ≤ m.base + m.len) && decide (len ≤ 2 ^ 30)

/-- A packet marked ECN-CE answered by a CNP, at most one per CNP_INTERVAL (R574). -/
def Dev.ecnSeen (d : Dev) (q : Nat) (ecn : Bool) : Dev :=
  let x := d.qp q
  let due := match x.lastCnp with
    | some t => decide (t + ticksUs * d.rgN 0x073 0x474 0 ≤ d.time.elapsed)
    | none => true
  if ecn && due then ((d.onQp q (fun y => { y with lastCnp := some d.time.elapsed })).qpSend q 1 (.cnp q)).count 0x073 0x104 1 else d

/-- A request with a bad key, range or permission (R573). -/
def Dev.rkeyRefused (d : Dev) (q psn : Nat) : Dev := ((d.qpSend q 1 (.roceNak q psn)).count 0x073 0x10C 1).record 0x073 1 Where.none

/-- The bursts of a range counted as background traffic (R267, R283). -/
def Dev.background (d : Dev) (off len : Nat) : Dev := d.count (mcPage (off / 2 ^ 35)) 0x118 ((off + len + 63) / 64 - off / 64)

/-- RDMA_READ_REQUEST (R571, R573). -/
def Dev.readRequest (d : Dev) (q psn addr rkey len : Nat) (ecn : Bool) : Dev :=
  let x := d.qp q
  if x.st ≠ 3 then d
  else
    let d0 := d.ecnSeen q ecn
    if psn ≠ x.epsn then d0.qpSend q 1 (.roceNak q psn)
    else if !d0.rkeyOk q rkey addr len false then d0.rkeyRefused q psn
    else
      let off := gaOff addr
      let d1 := d0.onQp q (fun y => { y with epsn := (y.epsn + d0.qpPackets q len) % 2 ^ 24 })
      let n := (off + len + 63) / 64 - off / 64
      let d2 := ((d1.background off len).count (mcPage (off / 2 ^ 35)) 0x100 n).count 0x090 0x104 n
      d2.qpSend q (d2.qpPackets q len) (.roceResp q psn (d2.lpRead off len))

/-- RDMA_READ_REQUEST. -/
def execRdmaReadRequest (qp psn addr rkey len : Nat) (ecn : Bool) (s : State) : Host.Outcome State Fault Refusal :=
  onDev (·.readRequest qp psn addr rkey len ecn) s

/-- RDMA_WRITE_REQUEST (R571, R573). -/
def Dev.writeRequest (d : Dev) (q psn addr rkey : Nat) (data : List Byte) (ecn : Bool) : Dev :=
  let x := d.qp q
  if x.st ≠ 3 then d
  else
    let d0 := d.ecnSeen q ecn
    if psn ≠ x.epsn then d0.qpSend q 1 (.roceNak q psn)
    else if !d0.rkeyOk q rkey addr data.length true then d0.rkeyRefused q psn
    else
      let off := gaOff addr
      let d1 := d0.onQp q (fun y => { y with epsn := (y.epsn + d0.qpPackets q data.length) % 2 ^ 24 })
      ((d1.background off data.length).lpWrite off data).qpSend q 1 (.roceAck q psn)

/-- RDMA_WRITE_REQUEST. -/
def execRdmaWriteRequest (qp psn addr rkey : Nat) (data : List Byte) (ecn : Bool) (s : State) : Host.Outcome State Fault Refusal :=
  onDev (·.writeRequest qp psn addr rkey data ecn) s

/-- RDMA_ACK: the writes up to a PSN acknowledged; the retries start again (R572). -/
def Dev.rdmaAck (d : Dev) (q psn : Nat) : Dev :=
  let x := d.qp q
  if x.st ≠ 3 then d
  else
    let covered (o : QpOp) : Bool := o.write && decide ((psn + 2 ^ 24 - o.psn) % 2 ^ 24 < 2 ^ 23)
    let bytes := (x.ops.filter covered).foldl (fun m o => m + o.len) 0
    d.onQp q (fun y => { y with ops := y.ops.filter (fun o => !covered o), retries := 0, byteCnt := y.byteCnt + bytes })

/-- RDMA_ACK. -/
def execRdmaAck (qp psn : Nat) (s : State) : Host.Outcome State Fault Refusal := onDev (·.rdmaAck qp psn) s

/-- A request sent again (R572). -/
def Dev.resend (d : Dev) (q : Nat) (o : QpOp) : Dev :=
  if o.write then
    d.qpSend q (d.qpPackets q o.len) (.roceWrite q o.psn (d.rg64 0x003 0x518 o.ring + (o.off - d.ringBase o.ring)) (d.rgN 0x003 0x524 o.ring) (d.lpRead o.off o.len))
  else
    let j := d.job o.job
    d.qpSend q 1 (.roceRead q ((o.psn + j.recvd / d.qpMtu q) % 2 ^ 24) (j.remote + j.recvd) j.rkey (o.len - j.recvd))

/-- RDMA_ACK_TIMEOUT (R572): the oldest request has waited 4.096 us * 2 ^ t; it is sent again until its retries are spent, which
puts the queue pair into ERROR. -/
def Dev.ackTimeout (tie : Nat) (d : Dev) (q : Nat) : Dev :=
  let x := d.qp q
  match x.ops with
  | [] => d
  | o :: _ =>
    let cfg := d.rgN 0x073 0x404 q
    let t := if bitsN cfg 13 5 = 0 then 14 else bitsN cfg 13 5
    if x.st ≠ 3 || d.time.elapsed < o.sent + 4096 * 2 ^ t + tie then d
    else if bitsN cfg 10 3 ≤ x.retries then d.qpError q
    else
      let d1 := d.onQp q (fun y => { y with
        retries := y.retries + 1, ops := y.ops.map (fun p => { p with sent := d.time.elapsed }) })
      (forEach x.ops d1 (fun s p => s.resend q p)).count 0x073 0x100 x.ops.length

/-- RDMA_ACK_TIMEOUT. -/
def execRdmaAckTimeout (qp : Nat) (s : State) : Host.Outcome State Fault Refusal := onTimer (fun tie d => d.ackTimeout tie qp) s

/-! ### DCQCN (log entry 41) -/

/-- A CNP acted on (R574): the rate falls by half of alpha, alpha rises by the gain. -/
def Dev.cnpReceived (d : Dev) (q : Nat) : Dev :=
  let x := d.qp q
  if x.st ≠ 3 then d
  else
    let g := 65536 / 2 ^ bitsN (d.rgN 0x073 0x468 0) 0 4
    let rate := max (d.rgN 0x073 0x470 0) (x.rate - x.rate * x.alpha / 131072)
    (d.onQp q (fun y => { y with
      target := x.rate, rate := rate, alpha := min 65536 (x.alpha - x.alpha * g / 65536 + g), byteCnt := 0, incr := 0
      timerAt := d.time.elapsed })).count 0x073 0x108 1

/-- CNP_RECEIVED. -/
def execCnpReceived (qp : Nat) (s : State) : Host.Outcome State Fault Refusal := onDev (·.cnpReceived qp) s

/-- A rate increase event (R574): by the timer, or by the byte counter; after five events the target rises by DCQCN_AI. -/
def Dev.dcqcnTimer (d : Dev) (q : Nat) : Dev :=
  let x := d.qp q
  let due := decide (x.timerAt + ticksUs * d.rgN 0x073 0x460 0 ≤ d.time.elapsed) || decide (d.rgN 0x073 0x464 0 ≤ x.byteCnt)
  if x.st ≠ 3 || !due then d
  else
    let g := 65536 / 2 ^ bitsN (d.rgN 0x073 0x468 0) 0 4
    let target := if 5 ≤ x.incr then min (d.lineRate q) (x.target + d.rgN 0x073 0x46C 0) else x.target
    d.onQp q (fun y => { y with
      target := target, rate := min (d.lineRate q) ((x.rate + target) / 2), alpha := x.alpha - x.alpha * g / 65536
      incr := x.incr + 1, timerAt := d.time.elapsed, byteCnt := if d.rgN 0x073 0x464 0 ≤ x.byteCnt then 0 else x.byteCnt })

/-- DCQCN_TIMER. -/
def execDcqcnTimer (qp : Nat) (s : State) : Host.Outcome State Fault Refusal := onDev (·.dcqcnTimer qp) s

/-! ### Load jobs -/

/-- The descriptor staged in JOB_STAGE (R447). -/
def Dev.stagedJob (d : Dev) (order : Nat) : Job :=
  let w (k : Nat) : Nat := d.rgN 0x090 (0x530 + 4 * k) 0
  { Job.free with
    st := .queued, shard := bitsN (w 0) 0 14, ctx := bitsN (w 0) 16 8, group := bitsN (w 1) 0 6, qp := bitsN (w 1) 16 11
    remote := w 2 + 2 ^ 32 * w 3, rkey := w 4, tag := w 5, plot := (d.ctx (bitsN (w 0) 16 8)).plot, order := order }

/-- Is a job waiting or running? -/
def Job.busy (j : Job) : Bool := j.st = .queued || j.st = .reading

/-- JOB_CMD SUBMIT (R447): the lowest job number that is neither queued nor running; 64 jobs fill the queue. -/
def Dev.jobSubmit (d : Dev) : Dev :=
  match (List.range 64).find? (fun k => !(d.job k).busy) with
  | none => d.setN 0x090 0x554 0 128
  | some k =>
    let order := (d.jobs.foldl (fun m e => max m e.2.order) 0) + 1
    (d.setJob k (d.stagedJob order)).setN 0x090 0x554 0 (k + 64)

/-- JOB_SUBMIT. -/
def execJobSubmit (r : Route) (s : State) : Host.Outcome State Fault Refusal := onReg r 0x090 0x550 1 Dev.jobSubmit s

/-- JOB_START (R445, R447, R448): in submission order, up to 8 at once; the key copied, the reads issued. -/
def Dev.jobStart (d : Dev) (k : Nat) : Dev :=
  let j := d.job k
  let running := (d.jobs.filter (fun e => e.2.st = .reading)).length
  if j.st ≠ .queued || 8 ≤ running || d.jobs.any (fun e => e.2.st = .queued && decide (e.2.order < j.order)) then d
  else match d.shards.find j.shard with
    | none => d.endJob k .failed 5
    | some sh => match d.shardKeys.find? (fun e => e.plot = j.plot && e.keyId = sh.keyId) with
      | none => d.endJob k .failed 5
      | some key =>
        let d1 := d.setJob k { j with st := .reading, key := some key.serial, keyGen := (d.key (if d.plotsMode then j.plot else 0)).gen }
        if (d1.qp j.qp).st ≠ 3 then d1.endJob k .failed 1 else d1.rdmaRead j.qp k j.remote j.rkey (sh.len + 16)

/-- JOB_START. -/
def execJobStart (job : Nat) (s : State) : Host.Outcome State Fault Refusal := onDev (·.jobStart job) s

/-- The members of a load group: device, region generation, descriptor index (R446). -/
def Dev.groupMembers (d : Dev) (g : Nat) : List (Nat × Nat × Nat) :=
  ((List.range 32).map (fun m => d.rgN 0x090 0x524 (g + 64 * m))).filterMap (fun v =>
    if bitN v 31 then some (bitsN v 0 12, bitsN v 12 4, bitsN v 16 10) else none)

/-- BASE of a shard's region as the reader knows it (R448, log entry 42). -/
def Dev.shardBase (d : Dev) (plot : Nat) (sh : Shard) (dev idx : Nat) : Nat :=
  match d.regions.find? (fun r => r.2.st ≠ 0 && r.2.plot = plot && r.2.name = sh.name && r.2.epoch = sh.epoch) with
  | some r => r.2.base
  | none => Config.memberBase dev idx

/-- The LOAD copies of a job opened, one transfer to each valid member (R448). -/
def Dev.openCopies (d : Dev) (k : Nat) (sh : Shard) : Dev :=
  let j := d.job k
  forEach (d.groupMembers j.group) d (fun s m =>
    let a := m.1 * 2 ^ 52 + 2 ^ 48 + sh.pav * 2 ^ 29 + s.shardBase j.plot sh m.1 m.2.2 * 65536 + sh.off
    let r := s.openFabric (.loadJob k) .load j.plot (fun x => { x with
      len := sh.len, addr := a, pcount := ceilDiv sh.len 448, loc := m.2.1 })
    r.1.setJob k { r.1.job k with copies := (r.1.job k).copies ++ [r.2.serial] })

/-- Packets `lo` to `hi - 1` of every LOAD copy of a job sent (R448); AUX carries the member's generation. -/
def Dev.sendCopies (d : Dev) (k lo hi : Nat) : Dev :=
  let j := d.job k
  forEach (d.xfers.filter (fun x => x.owner = .loadJob k && j.copies.contains x.serial)) d (fun s x =>
    forEach ((List.range (hi - lo)).map (lo + ·)) s (fun t i =>
      let n := min 448 (x.len - 448 * i)
      t.post { t.packetOf x 0x09 1 (gaDev x.addr) with
        pseq := i, addr := x.addr + 448 * i, len := (n + 63) / 64 * 64, payload := j.plain.bytes (448 * i) n, aux := x.loc }))

/-- A response of a load job's read (R445, R448): decrypted in order; the last packet of every copy waits for the tag. -/
def Dev.jobData (d : Dev) (q k : Nat) (o : QpOp) (cipher plain : List Byte) (tagOk : Option Bool) : Dev :=
  let j := d.job k
  let key := d.key (if d.plotsMode then j.plot else 0)
  match d.shards.find j.shard with
  | none => d
  | some sh =>
    if !key.loaded || key.gen ≠ j.keyGen then ((d.onQp q (fun x => { x with ops := x.ops.erase o })).staleBlock).endJob k .failed 6
    else
      let n := min cipher.length (sh.len - j.recvd)
      let got := j.recvd + cipher.length
      let d1 := if j.recvd = 0 then d.openCopies k sh else d
      let d2 := d1.setJob k { d1.job k with recvd := got, plain := j.plain.store j.recvd (plain.take n) }
      let d3 := d2.count 0x090 0x5C8 (min sh.len got / 1024 - min sh.len j.recvd / 1024)
      let last := ceilDiv sh.len 448 - 1
      let d4 := d3.sendCopies k (min last (min sh.len j.recvd / 448)) (min last (min sh.len got / 448))
      if got < sh.len + 16 then d4
      else
        let d5 := d4.onQp q (fun x => { x with ops := x.ops.erase o, retries := 0 })
        if tagOk = some true then
          (d5.sendCopies k last (last + 1)).setJob k { d5.job k with tagOk := some true }
        else (d5.count 0x090 0x5CC 1).endJob k .failed 2

/-- RDMA_READ_RESPONSE: the next response of the oldest read on a queue pair (R448, R571). The plaintext and the verdict on the
GCM tag are what AES-256-GCM gives under the job's key (log entry 43). -/
def Dev.readResponse (d : Dev) (q psn : Nat) (cipher plain : List Byte) (tagOk : Option Bool) : Dev :=
  match (d.qp q).ops.find? (fun o => !o.write) with
  | none => d
  | some o =>
    let j := d.job o.job
    if (d.qp q).st ≠ 3 || j.st ≠ .reading || psn ≠ (o.psn + j.recvd / d.qpMtu q) % 2 ^ 24 || o.len < j.recvd + cipher.length then d
    else d.jobData q o.job o cipher plain tagOk

/-- RDMA_READ_RESPONSE. -/
def execRdmaReadResponse (qp psn : Nat) (cipher plain : List Byte) (tagOk : Option Bool) (s : State) :
    Host.Outcome State Fault Refusal := onDev (·.readResponse qp psn cipher plain tagOk) s

/-- JOB_COMPLETE (R449): the tag verified and every copy over. -/
def Dev.jobComplete (d : Dev) (k : Nat) : Dev :=
  let j := d.job k
  d.when (j.st = .reading && j.tagOk = some true && j.copies.isEmpty) (·.endJob k .done 0)

/-- JOB_COMPLETE. -/
def execJobComplete (job : Nat) (s : State) : Host.Outcome State Fault Refusal := onDev (·.jobComplete job) s

end Sys2Proof.Machine
end

