-- ==== Sys2Proof/Machine/Weights.lean ====
section
/-! DEFINITION. Manifests, arrival checks and sweeps of weights (R440 to R455). -/
namespace Sys2Proof.Machine

/-- A manifest as its bytes read (R441). -/
structure Manifest where
  signed : Bool
  hash : List Byte
  epoch : Nat
  recs : List ShardRec
  deriving DecidableEq, Repr

/-- A run of bytes. -/
def cut (bs : List Byte) (off n : Nat) : List Byte := (bs.drop off).take n
def cutN (bs : List Byte) (off n : Nat) : Nat := leNat (cut bs off n)
def allZero (bs : List Byte) : Bool := bs.all (· = 0)

/-- A shard record (R441). -/
def shardRec (bs : List Byte) : ShardRec where
  name := cutN bs 0 4
  pav := cutN bs 4 1
  off := cutN bs 8 4
  len := cutN bs 12 4
  iv := cut bs 16 12
  keyId := cutN bs 28 4
  digest := cut bs 32 48
  reservedOk := allZero (cut bs 5 3) && allZero (cut bs 80 16)

/-- The bytes of a manifest at an LPDDR5X offset, where they lie in the plot's pages PINNED to handle 0 (R442). -/
def Dev.pinned (d : Dev) (plot off len : Nat) : Bool :=
  (List.range ((off + len + 32767) / 32768 - off / 32768)).all (fun k =>
    let e := d.page (off / 32768 + k)
    e.st = 4 && e.seq = 0 && e.plot = plot)

/-- A record within the limits of R440, against the region it names where that exists in the plot. -/
def Dev.recOk (d : Dev) (plot epoch : Nat) (r : ShardRec) : Bool :=
  r.reservedOk && decide (r.pav < 32) && r.off % 64 = 0 && r.len % 64 = 0 && decide (64 ≤ r.len) && decide (r.len ≤ 384 * 2 ^ 20) &&
    d.regions.all (fun g => !(g.2.st ≠ 0 && g.2.plot = plot && g.2.name = r.name && g.2.epoch = epoch) ||
      decide (r.off + r.len ≤ g.2.len * 65536))

/-- The manifest at MANIFEST_ADDR, if its format holds (R440 to R442). -/
def Dev.manifest (d : Dev) (plot : Nat) : Option Manifest :=
  match d.localMem (d.rg64 0x090 0x510 0) with
  | none => none
  | some off =>
    if !d.pinned plot off 96 then none
    else
      let h := d.lpRead off 96
      let n := cutN h 8 4
      let signed := bitN (cutN h 6 2) 0
      let len := 96 + 96 * n + (if signed then 96 else 0)
      let ok := cutN h 0 4 = 0x4D4E5247 && cutN h 4 2 = 1 && decide (cutN h 6 2 < 2) && decide (1 ≤ n) && decide (n ≤ 16384) &&
        cutN h 12 4 = len && allZero (cut h 26 6) && allZero (cut h 80 16) && (signed || allZero (cut h 32 48))
      if !ok || !d.pinned plot off len then none
      else
        let m : Manifest := ⟨signed, cut h 32 48, cutN h 24 2,
          (List.range n).map (fun k => shardRec (d.lpRead (off + 96 + 96 * k) 96))⟩
        if m.recs.all (d.recOk plot m.epoch) then some m else none

/-- The weight integrity mode of a context (R453, R495): 1 DIGEST, 2 SIGNATURE, 3 BOTH. -/
def Ctx.integrity (x : Ctx) : Nat := bitsN x.modes.toNat 6 2

/-- The region a record names in a plot, if it exists there. -/
def Dev.namedRegion (d : Dev) (plot name epoch : Nat) : Option (Nat × Region) :=
  d.regions.find? (fun g => g.2.st ≠ 0 && g.2.plot = plot && g.2.name = name && g.2.epoch = epoch)

/-- The first run of free entries of the shard table (R443), of 16,384; which free run is taken is a DESIGN CHOICE (log entry 45). -/
def Dev.freeRun (d : Dev) (n : Nat) : Option Nat :=
  let ends := 0 :: d.shards.map (fun e => e.1 + 1)
  ends.find? (fun k => decide (k + n ≤ 16384) && d.shards.all (fun e => decide (e.1 < k) || decide (k + n ≤ e.1)))

/-- What MR13 measures of a manifest (R485): the plot, and SHA-384 of the manifest's bytes. -/
def Dev.manifestEvent (d : Dev) (plot : Nat) : List Byte :=
  let off := (d.localMem (d.rg64 0x090 0x510 0)).getD 0
  toBytes 1 plot ++ sha384 (d.lpRead off (leNat (d.lpRead (off + 12) 4)))

/-- The manifest command (R442, R443): the checks in order; the entries of an accepted manifest, which MR13 measures (R485). A plot
that is REMOVING has it refused with BUSY (R470; log entry 190). -/
def Dev.manifestCmd (d : Dev) (c : Nat) (sigOk : Bool) : Dev :=
  let plot := (d.ctx c).plot
  let mode := (d.ctx c).integrity
  let answer (e : Dev) (code first : Nat) : Dev := e.setN 0x090 0x51C 0 (code + 2 ^ 16 * first)
  if (d.plot plot).st = 2 then answer d 6 0
  else match d.manifest plot with
  | none => answer d 1 0
  | some m =>
    let need := m.signed || mode ≠ 1
    let known := d.pubKeys.any (fun k => k.plot = plot && sha384 k.key = m.hash)
    let regionBad (r : ShardRec) : Bool := match d.namedRegion plot r.name m.epoch with
      | some g => g.2.st ≠ 1 || !bitN g.2.pavMask r.pav
      | none => false
    if need && (!m.signed || !known) then answer d 3 0
    else if need && !sigOk then answer (d.count 0x090 0x5DC 1) 2 0
    else if m.recs.any regionBad then answer d 5 0
    else match d.freeRun m.recs.length with
      | none => answer d 4 0
      | some k =>
        let entry (r : ShardRec) : Shard :=
          { st := .expected, local_ := (d.namedRegion plot r.name m.epoch).isSome, sweep := mode ≠ 2, plot := plot, cause := 0,
            name := r.name, epoch := m.epoch, pav := r.pav, off := r.off, len := r.len, iv := r.iv, keyId := r.keyId,
            digest := r.digest, lastSweep := 0, sweptEl := 0, src := none }
        let d1 := forEach ((List.range m.recs.length).zip m.recs) d (fun s e => { s with shards := s.shards.put (k + e.1) (entry e.2) })
        answer (d1.mrExtend 13 0 (d.manifestEvent plot)) 0 k

/-- MANIFEST_CMD. -/
def execManifestCmd (r : Route) (ctx : Nat) (sigOk : Bool) (s : State) : Host.Outcome State Fault Refusal :=
  onReg r 0x090 0x518 (ctx % 256 + 256) (·.manifestCmd (ctx % 256) sigOk) s

/-- The bytes of a shard in its tier. -/
def Dev.shardBytes (d : Dev) (g : Region) (x : Shard) : List Byte := (d.pav x.pav).tier.bytes (g.base * 65536 + x.off) x.len

/-- A region whose LOCAL entries are all DONE becomes READY (R452). -/
def Dev.regionReady (d : Dev) (k : Nat) (g : Region) : Dev :=
  let mine := d.shards.filter (fun e => e.2.local_ && e.2.plot = g.plot && e.2.name = g.name && e.2.epoch = g.epoch)
  if g.st = 1 && !mine.isEmpty && mine.all (fun e => e.2.st = .done) then (d.setRegion k { g with st := 2 }).backUp k else d

/-- SHARD_READBACK_DONE (R450 to R452): the readback of a shard placed whole; for a region no longer in LOADING it ends without a
result (R257). -/
def Dev.readbackDone (d : Dev) (i : Nat) : Dev :=
  match d.shards.find i with
  | none => d
  | some x => match d.namedRegion x.plot x.name x.epoch with
    | none => d
    | some (k, g) =>
      if x.st ≠ .writing || x.src.isSome || !x.local_ || g.st ≠ 1 then d
      else if sha384 (d.shardBytes g x) = x.digest then
        (({ d with shards := d.shards.put i { x with st := .done, cause := 0 } }).count 0x090 0x5C0 1).regionReady k g
      else
        ((({ d with shards := d.shards.put i { x with st := .mismatch, cause := 3 } }).setRegion k { g with st := 4 }).count
          0x090 0x5D0 1).loadNotice x.plot 3

/-- SHARD_READBACK_DONE. -/
def execShardReadbackDone (entry : Nat) (s : State) : Host.Outcome State Fault Refusal := onDev (·.readbackDone entry) s

/-- The log entry of a sweep mismatch (R455): the region in LOCUS2, the pavilion in LOCUS; it has no ERR_STATUS bit (log entry
44). -/
def Dev.sweepFault (d : Dev) (x : Shard) (g : Nat) : Dev :=
  let w : Where := ⟨some x.pav, some x.plot, x.pav, g, 0⟩
  (d.logPush (d.faultEntry 0x0A0 31 .f false w)).consequence 0x0A0 .f false w .localFault

/-- WEIGHT_SWEEP (R454, R455): the digest of one DONE entry taken from a scrub pass. -/
def Dev.weightSweep (d : Dev) (i : Nat) : Dev :=
  match d.shards.find i with
  | none => d
  | some x => match d.namedRegion x.plot x.name x.epoch with
    | none => d
    | some (k, g) =>
      let due := decide (x.sweptEl + ticksS * d.rgN 0x0A0 0x438 0 ≤ d.time.elapsed)
      if x.st ≠ .done || !x.sweep || !x.local_ || !(g.st = 2 || g.st = 3) || !due then d
      else
        let d1 := d.count 0x090 0x5D4 1
        if sha384 (d1.shardBytes g x) = x.digest then
          { d1 with shards := d1.shards.put i { x with lastSweep := d1.time.count, sweptEl := d1.time.elapsed } }
        else
          (({ d1 with shards := d1.shards.put i { x with st := .mismatch, cause := 9 } }).count 0x090 0x5D8 1).sweepFault x k

/-- WEIGHT_SWEEP. -/
def execWeightSweep (entry : Nat) (s : State) : Host.Outcome State Fault Refusal := onDev (·.weightSweep entry) s

end Sys2Proof.Machine
end

