-- ==== Sys2Proof/Machine/Plots.lean ====
section
/-! DEFINITION. Plots, their clearing, contexts and slice calendars (R463 to R479). -/
namespace Sys2Proof.Machine

/-- The staged descriptor, slot grants and anchor (R465, R495). -/
def Dev.stagedDesc (d : Dev) : List W32 := (List.range 16).map (fun k => d.rg 0x008 (0x440 + 4 * k) 0)
def Dev.stagedSlots (d : Dev) : List Nat := (List.range 12).map (fun n => d.rg64 0x008 (0x480 + 8 * n) 0)
def Dev.stagedAnchor (d : Dev) : List Byte := (List.range 12).flatMap (fun k => toBytes 4 (d.rgN 0x008 (0x4E0 + 4 * k) 0))

/-- PLOT_SEL (R495): PLOT_DESC, SLOT_GRANT and TENANT_ANCHOR take the selected plot's values. -/
def Dev.loadStaged (d : Dev) (p : Nat) : Dev :=
  let x := d.plot p
  let d1 := forEach (List.range 16) d (fun s k => s.setN 0x008 (0x440 + 4 * k) 0 (x.word k))
  let d2 := forEach (List.range 12) d1 (fun s n => s.set64 0x008 (0x480 + 8 * n) 0 (nthD x.slots n 0))
  forEach (List.range 12) d2 (fun s k => s.setN 0x008 (0x4E0 + 4 * k) 0 (leNat ((x.anchor.drop (4 * k)).take 4)))

/-- PLOT_SEL_WRITE: the route's selector, and what it loads. -/
def execPlotSelWrite (r : Route) (p : Nat) (s : State) : Host.Outcome State Fault Refusal :=
  onReg r 0x008 0x404 (p % 16) (fun d =>
    ({ d with sels := d.sels.put (selKey r 0x008 0x404) (BitVec.ofNat 32 (p % 16)) }).loadStaged (p % 16)) s

/-- A plot with a descriptor, as the checks of an ASSIGN look at it. -/
def Plot.withDesc (x : Plot) (desc : List W32) (slots : List Nat) (anchor : List Byte) : Plot :=
  { x with desc := desc, slots := slots, anchor := anchor }

/-- Do two ranges share an item? -/
def rangesMeet (a b : Nat × Nat) : Bool := decide (a.1 < b.1 + b.2) && decide (b.1 < a.1 + a.2)

/-- Do two plots name a common resource, slot grants apart (R463)? -/
def Plot.meets (a b : Plot) : Bool :=
  (a.pairs &&& b.pairs) ≠ 0 || (a.packages &&& b.packages) ≠ 0 || rangesMeet a.ctxRange b.ctxRange ||
    rangesMeet a.ringRange b.ringRange || rangesMeet a.acctRange b.acctRange || rangesMeet a.trkRange b.trkRange ||
    rangesMeet a.seqRange b.seqRange || rangesMeet a.descRange b.descRange || rangesMeet a.qpRange b.qpRange

/-- Is a pair fused, or its domain not ON (R467)? -/
def Dev.pairUsable (d : Dev) (k : Nat) : Bool := !d.modl.fused (2 * k) && bitN d.power.domains k

/-- Is a package populated, and its controller not FAILED (R467, R616)? -/
def Dev.pkgUsable (d : Dev) (n : Nat) : Bool := d.modl.populated n && (d.mc n).phy ≠ 3

/-- A count of 0, a range that leaves its table, or a resource the module does not have (R465, R467). A mask that names nothing
counts as a count of 0 (DESIGN CHOICE, log entry 47). -/
def Dev.descBad (d : Dev) (x : Plot) : Bool :=
  let leaves (r : Nat × Nat) (size : Nat) : Bool := r.2 = 0 || decide (size < r.1 + r.2)
  x.pairs = 0 || x.packages = 0 || leaves x.ctxRange 256 || leaves x.ringRange 32768 || leaves x.acctRange 65536 ||
    leaves x.trkRange 65536 || leaves x.seqRange 262144 || leaves x.descRange 1024 || leaves x.qpRange 2048 ||
    x.seqRange.1 = 0 || x.sysPages = 0 || decide (1048576 < x.sysPages) ||
    (bitList x.pairs 16).any (fun k => !d.pairUsable k) || (bitList x.packages 16).any (fun n => !d.pkgUsable n)

/-- The slot grants of a plot that another plot holds, or on a port outside PORT_MAP (R467). -/
def Dev.slotsBad (d : Dev) (p : Nat) (slots : List Nat) : Bool :=
  (List.range 12).any (fun n =>
    let mine := nthD slots n 0
    mine ≠ 0 && (!bitN d.portMap n ||
      (List.range 16).any (fun q => q ≠ p && ((d.plot q).st ≠ 0 || (d.plot q).assigning) && (mine &&& nthD (d.plot q).slots n 0) ≠ 0)))

/-- The result of an ASSIGN (R467): the first failure of the table, 0 where none fails. A plot whose assignment has not completed
is FREE, and its resources overlap. -/
def Dev.assignCheck (d : Dev) (p : Nat) : Nat :=
  let x := (d.plot p).withDesc d.stagedDesc d.stagedSlots d.stagedAnchor
  let others (f : Plot → Bool) : Bool := (List.range 16).any (fun q => q ≠ p && f (d.plot q) && x.meets (d.plot q))
  if !d.plotsMode && p ≠ 0 then 1
  else if (d.plot p).st ≠ 0 || (d.plot p).assigning || others (fun y => y.st ≠ 0) then 2
  else if d.descBad x then 3
  else if others (fun y => y.assigning) then 4
  else if d.slotsBad p x.slots then 5
  else if (d.key p).loaded then 6
  else 0

/-- Steps 1 to 3 of an accepted ASSIGN (R468): CLEAN_AT_ASSIGN, the generation, the key. -/
def Dev.assignStart (d : Dev) (p : Nat) (desc : List W32) (slots : List Nat) (anchor : List Byte) : Dev :=
  let x := (d.plot p).withDesc desc slots anchor
  let clean := d.power.cleared &&& x.pairs
  let d1 := { d with power := { d.power with cleared := d.power.cleared - clean } }
  ((d1.setPlot p { x with gen := (x.gen + 1) % 16, cleanAt := clean, assigning := true, assignSince := d.time.elapsed }).keyNew p)

/-- The bytes of a plot's descriptor, as MR11 measures it (R485). -/
def Plot.descBytes (x : Plot) : List Byte := x.desc.flatMap (fun w => toBytes 4 w.toNat)

/-- Steps 4 to 6 (R468): every page-map entry of the packages FREE with PLOT p, the system pages PINNED to handle 0, MR11
extended, the plot ACTIVE. -/
def Dev.assignEnd (d : Dev) (p : Nat) : Dev :=
  let x := d.plot p
  let entry (k : Nat) (e : PageEntry) : PageEntry :=
    if x.sysPackage = k / 2 ^ 20 ∧ k % 2 ^ 20 < x.sysPages then { PageEntry.free with st := 4, plot := p, gen := e.gen }
    else { PageEntry.free with plot := p, gen := e.gen }
  let d1 := { d with pages := d.pages.map (fun (e : Nat × PageEntry) => if bitN x.packages (e.1 / 2 ^ 20) then (e.1, entry e.1 e.2) else e) }
  (d1.mrExtend 11 0 (toBytes 1 p ++ x.descBytes ++ [0])).setPlot p { x with st := 1, assigning := false }

/-- A refused PLOT_CMD (R467, R496). -/
def Dev.plotRefused (d : Dev) (code : Nat) : Dev := (d.setN 0x008 0x410 0 code).record 0x008 0 Where.none

/-- PLOT_CMD ASSIGN. -/
def Dev.plotAssign (d : Dev) (p : Nat) : Dev :=
  let code := d.assignCheck p
  if code ≠ 0 then d.plotRefused code
  else (d.setN 0x008 0x410 0 16).assignStart p d.stagedDesc d.stagedSlots d.stagedAnchor

/-- PLOT_ASSIGN. -/
def execPlotAssign (r : Route) (p : Nat) (s : State) : Host.Outcome State Fault Refusal :=
  onReg r 0x008 0x40C (p % 16 + 16) (·.plotAssign (p % 16)) s

/-- PLOT_ASSIGN_DONE: PENDING ends with the last assignment under way. -/
def Dev.plotAssignDone (d : Dev) (p : Nat) : Dev :=
  if !(d.plot p).assigning then d
  else
    let d1 := d.assignEnd p
    if (List.range 16).any (fun q => (d1.plot q).assigning) then d1 else d1.setN 0x008 0x410 0 (d1.rgN 0x008 0x410 0 % 16)

/-- PLOT_ASSIGN_DONE. -/
def execPlotAssignDone (p : Nat) (s : State) : Host.Outcome State Fault Refusal := onDev (·.plotAssignDone p) s

/-- PLOT_CMD REMOVE (R470): the step in progress will be withheld, a save or restore is abandoned, rings are no longer read. A
plot that is not ACTIVE is BUSY (DESIGN CHOICE, log entry 48). -/
def Dev.plotRemove (d : Dev) (p : Nat) : Dev :=
  let x := d.plot p
  if x.st ≠ 1 then d.plotRefused 2
  else
    let d1 := (d.setN 0x008 0x410 0 0).setPlot p { x with st := 2, switching := none }
    let d2 := match x.switching with
      | some w => d1.count 0x008 0x104 (d.time.elapsed - w.since)
      | none => d1
    if (d2.step p).running then d2.withhold p else d2

/-- PLOT_REMOVE. -/
def execPlotRemove (r : Route) (p : Nat) (s : State) : Host.Outcome State Fault Refusal :=
  onReg r 0x008 0x40C (p % 16 + 32) (·.plotRemove (p % 16)) s

/-- The contexts of a plot. -/
def Dev.ctxsOf (d : Dev) (p : Nat) : List Nat := (d.ctxs.filter (fun e => e.2.st ≠ 0 && e.2.plot = p)).map (·.1)

/-- Has a context taken its final commit point (R470): no step, no commit to come, no request, no record to be written? A context
that follows takes none of its own. -/
def Dev.ctxSettled (d : Dev) (c : Nat) : Bool :=
  !d.ctxRuns c && (d.ctx c).ended.isNone && (d.follows c || d.isShadow || (!d.ctxRequests c && (d.kc c).waiting.isEmpty))

/-- The TENANT sessions of a plot end (R492). -/
def Dev.endTenant (d : Dev) (p : Nat) : Dev :=
  forEach ((d.sess.filter (fun e => e.2.cls = some (.tenant p))).map (·.1)) d (fun s n => s.endSession n)

/-- PLOT_REMOVE_FINAL (R470, tick F). -/
def Dev.removeFinal (d : Dev) (p : Nat) : Dev :=
  let x := d.plot p
  let cs := d.ctxsOf p
  if x.st ≠ 2 || x.tickF.isSome || !cs.all d.ctxSettled then d
  else
    let d1 := if (d.key p).loaded then d.keyKill p else d
    let d2 := ({ d1 with shardKeys := d1.shardKeys.filter (fun k => k.plot ≠ p)
                         pubKeys := d1.pubKeys.filter (fun k => k.plot ≠ p) }).endTenant p
    let d3 := forEach cs d2 (fun s c =>
      let s1 := forEach ((s.seqsOf c).map (·.1)) s (fun t i => t.endSeq i 9)
      (s1.dropStaged c).dropActive c)
    let d4 := { d3 with regions := d3.regions.map (fun (e : Nat × Region) =>
      if inRange x.descRange e.1 then (e.1, { e.2 with st := 0, refs := 0 }) else e) }
    let d5 := forEach (pavsOfPairs x.pairs) d4 (fun s n => s.onPav n Pav.stopIdle)
    d5.setPlot p { x with gen := (x.gen + 1) % 16, tickF := some d.time.elapsed }

/-- PLOT_REMOVE_FINAL. -/
def execPlotRemoveFinal (p : Nat) (s : State) : Host.Outcome State Fault Refusal := onDev (·.removeFinal p) s

/-- PLOT_FREE (R470, steps 5 and 6): the page-map entries of its packages FREE, the plot FREE once the drain horizon has passed,
REMOVE_TICK, MR11, PLOT_REMOVED. -/
def Dev.plotFree (d : Dev) (p : Nat) : Dev :=
  let x := d.plot p
  match x.tickF with
  | none => d
  | some f =>
    if x.st ≠ 2 || decide (d.time.elapsed < f + d.horizon) then d
    else
      let d1 := { d with pages := d.pages.map (fun (e : Nat × PageEntry) =>
        if bitN x.packages (e.1 / 2 ^ 20) then (e.1, { PageEntry.free with gen := e.2.gen }) else e) }
      let d2 := d1.setPlot p { Plot.free with gen := x.gen }
      let d3 := (d2.mrExtend 11 1 (toBytes 1 p ++ x.descBytes ++ [0])).set64 0x008 0x414 0 d.time.count.toNat
      (d3.count 0x008 0x108 1).record 0x008 4 ⟨none, some p, 0, 0, 0⟩

/-- PLOT_FREE. -/
def execPlotFree (p : Nat) (s : State) : Host.Outcome State Fault Refusal := onDev (·.plotFree p) s

/-- CLEAR_STATUS.RESULT kept beside CLEARED (R495). -/
def Dev.clearResult (d : Dev) (code : Nat) : Dev := d.setN 0x008 0x420 0 (code * 2 ^ 17)

/-- CLEAR_CMD (R472): pairs that no plot owns, that are on, and no clear under way; else BUSY. -/
def Dev.clearCmd (d : Dev) (mask : Nat) : Dev :=
  let owned (k : Nat) : Bool := (List.range 16).any (fun q => ((d.plot q).st ≠ 0 || (d.plot q).assigning) && bitN (d.plot q).pairs k)
  if d.clearRun.isSome || (bitList mask 16).any (fun k => owned k || !d.pairUsable k) then d.clearResult 1
  else { d with clearRun := some ⟨mask % 2 ^ 16, d.time.elapsed⟩ }

/-- CLEAR_CMD, with GO. -/
def execClearCmd (r : Route) (mask : Nat) (s : State) : Host.Outcome State Fault Refusal :=
  onReg r 0x008 0x41C (mask % 2 ^ 16 + 2 ^ 16) (·.clearCmd (mask % 2 ^ 16)) s

/-- A pavilion's stores written with 0 and valid check bits (R252, R472). -/
def Pav.cleared (p : Pav) : Pav :=
  { p with store := [], storeBad := [], storeSoft := [], tier := [], tierBad := [], tierSoft := [], acc := [], sregs := []
           banks := [none, none] }

/-- The least ticks of a clear (R472): 6,291,456 cycles of writes and the readback. -/
def clearTicks : Nat := 4194304 + 402653184

/-- CLEAR_DONE: `bad` are the pairs that read back a word that is not zero. -/
def Dev.clearDone (d : Dev) (bad : Nat) : Dev :=
  match d.clearRun with
  | none => d
  | some c =>
    if d.time.elapsed < c.since + clearTicks then d
    else
      let d1 := forEach (pavsOfPairs c.mask) d (fun s n => s.onPav n Pav.cleared)
      let good := (bitList c.mask 16).filter (fun k => !bitN bad k)
      let fails := (bitList c.mask 16).any (bitN bad ·)
      let keep := d1.power.cleared - (d1.power.cleared &&& (c.mask &&& bad))
      let d2 := { d1 with clearRun := none, power := { d1.power with cleared := good.foldl (fun m k => if bitN m k then m else m + 2 ^ k) keep } }
      let d3 := ((d2.clearResult (if fails then 2 else 0)).count 0x008 0x10C good.length).mrExtend 11 2 (toBytes 2 c.mask ++ toBytes 2 bad)
      if fails then d3.record 0x008 5 Where.none else d3

/-- CLEAR_DONE. -/
def execClearDone (bad : Nat) (s : State) : Host.Outcome State Fault Refusal := onDev (·.clearDone bad) s

/-- CTX_RESULT of a context command, and its refusal recorded (R495, R496). -/
def Dev.ctxResult (d : Dev) (code : Nat) : Dev :=
  let d1 := d.setN 0x008 0x530 0 code
  if code = 0 then d1 else d1.record 0x008 1 Where.none

/-- CTX_CMD CREATE (R391, R473): the checks in order; a new context's sequence entries start at generation 0. -/
def Dev.ctxCreate (d : Dev) (c : Nat) : Dev :=
  let m := d.rg 0x008 0x524 c
  let p := bitsN m.toNat 0 4
  if (d.ctx c).st ≠ 0 then d.ctxResult 1
  else if (d.plot p).st ≠ 1 || !inRange (d.plot p).ctxRange c then d.ctxResult 3
  else if bitsN m.toNat 6 2 = 0 then d.ctxResult 2
  else
    let lo := bitsN (d.rgN 0x003 0x410 c) 0 18
    let hi := bitsN (d.rgN 0x003 0x414 c) 0 18
    let d1 := { d with seqs := d.seqs.filter (fun (e : Nat × SeqEntry) => !(decide (lo ≤ e.1) && decide (e.1 ≤ hi) && decide (e.2.st = SeqSt.free)) && e.2.ctx ≠ c) }
    ((d1.setCtx c { Ctx.free with st := 1, plot := p, modes := m }).setKc c KCtx.init).ctxResult 0

/-- CTX_CREATE. -/
def execCtxCreate (r : Route) (ctx : Nat) (s : State) : Host.Outcome State Fault Refusal :=
  onReg r 0x008 0x528 (ctx % 256 + 2 ^ 8) (·.ctxCreate (ctx % 256)) s

/-- CTX_CMD DESTROY (R473). -/
def Dev.ctxDestroy (d : Dev) (c : Nat) : Dev :=
  let x := d.ctx c
  if x.st = 0 then d.ctxResult 2
  else if x.holdsBundle || d.ctxRequests c then d.ctxResult 1
  else
    let d1 := d.onPlot x.plot (fun p => if p.resident = some c then { p with resident := none } else p)
    ({ d1 with ctxs := d1.ctxs.del c, kctx := d1.kctx.del c, lastSteps := d1.lastSteps.del c }).ctxResult 0

/-- CTX_DESTROY. -/
def execCtxDestroy (r : Route) (ctx : Nat) (s : State) : Host.Outcome State Fault Refusal :=
  onReg r 0x008 0x528 (ctx % 256 + 2 ^ 9) (·.ctxDestroy (ctx % 256)) s

/-- The staged calendar of a plot (R475, R495). -/
def Dev.stagedCal (d : Dev) (p : Nat) : Calendar :=
  let entry (e : Nat) : Option (Nat × Nat × Nat) :=
    let k := p + 16 * e
    let w := d.rgN 0x008 0x570 k
    if bitN w 8 then some (bitsN w 0 8, d.rgN 0x008 0x574 k, d.rgN 0x008 0x578 k) else none
  ⟨BitVec.ofNat 64 (d.rg64 0x008 0x564 p), d.rgN 0x008 0x56C p, (List.range 16).filterMap entry⟩

/-- The bundles in the slots of a context. -/
def Ctx.bundles (x : Ctx) : List Bundle := x.active.toList ++ x.staged.bundle.toList

/-- Do entries of a calendar overlap, or leave the period (R475)? -/
def Calendar.overlaps (k : Calendar) : Bool :=
  let es := k.entries
  es.any (fun e => decide (k.period < e.2.1 + e.2.2)) ||
    (List.range es.length).any (fun i => (List.range i).any (fun j => match es[i]?, es[j]? with
      | some a, some b => rangesMeet a.2 b.2
      | _, _ => false))

/-- Does an entry of a calendar fall short of the SLICE_NEED of a bundle of its context (R235, R476)? -/
def Dev.calShort (d : Dev) (k : Calendar) : Bool :=
  k.entries.any (fun e => (d.ctx e.1).bundles.any (fun b => decide (e.2.2 < b.hdr.sliceNeed)))

/-- The result of an arm (R476), the cases in the rule's order: 0 OK, 1 OVERLAP, 2 SHORT, 3 PLOT, 4 RANGE. -/
def Dev.calCheck (d : Dev) (p : Nat) (k : Calendar) (arm : Nat) : Nat :=
  if k.overlaps then 1
  else if (d.plot p).st ≠ 1 || k.entries.any (fun e => (d.ctx e.1).st ≠ 1 || (d.ctx e.1).plot ≠ p) then 3
  else if d.calShort k then 2
  else if k.period < 10000 ∨ 1000000000 < k.period ∨ arm ≤ d.time.count.toNat then 4
  else 0

/-- CAL_CMD ARM (R476). -/
def Dev.calArm (d : Dev) (p : Nat) : Dev :=
  let k := d.stagedCal p
  let arm := d.rg64 0x008 0x580 0
  let code := d.calCheck p k arm
  let d1 := d.setN 0x008 0x588 0 code
  if code = 0 then d1.onPlot p (fun x => { x with armed := some (k, BitVec.ofNat 64 arm) }) else d1.record 0x008 2 Where.none

/-- CAL_ARM. -/
def execCalArm (r : Route) (p : Nat) (s : State) : Host.Outcome State Fault Refusal :=
  onReg r 0x008 0x57C (p % 16 + 16) (·.calArm (p % 16)) s

/-- The first period start of a calendar at or after a count (R475). -/
def Calendar.startFrom (k : Calendar) (t : Nat) : Nat :=
  if t ≤ k.epoch.toNat then k.epoch.toNat else k.epoch.toNat + ceilDiv (t - k.epoch.toNat) (max 1 k.period) * k.period

/-- CALENDAR_SWITCH (R476): at the arm count where no calendar runs, else at the first period start at or after it. -/
def Dev.calendarSwitch (d : Dev) (p : Nat) : Dev :=
  let x := d.plot p
  match x.armed with
  | none => d
  | some (k, arm) =>
    let at_ := match x.running with
      | some r => r.startFrom arm.toNat
      | none => arm.toNat
    if x.st ≠ 1 || decide (d.time.count.toNat < at_) then d
    else d.setPlot p { x with running := some k, armed := none, slice := none }

/-- CALENDAR_SWITCH. -/
def execCalendarSwitch (p : Nat) (s : State) : Host.Outcome State Fault Refusal := onDev (·.calendarSwitch p) s

/-- The end of the slice of a context that a calendar is in at a count (R475). -/
def Calendar.sliceEnd (k : Calendar) (c now : Nat) : Option Nat :=
  if now < k.epoch.toNat ∨ k.period = 0 then none
  else
    let pos := (now - k.epoch.toNat) % k.period
    (k.entries.find? (fun e => e.1 = c && decide (e.2.1 ≤ pos) && decide (pos < e.2.1 + e.2.2))).map
      (fun e => now - pos + e.2.1 + e.2.2)

/-- The declared live regions of a bundle as they are saved: by pavilion, then in declaration order (R278). -/
def BundleBody.liveOrder (b : BundleBody) : List StoreRegion := (List.range 32).flatMap (fun n => b.live.filter (fun r => r.pav = n))

/-- A copy of the parameter registers as bytes, and back (R278). -/
def paramBytes (m : SMap W64) : List Byte := (List.range 4096).flatMap (fun p => toBytes 8 (m.get p 0).toNat)
def paramOf (bs : List Byte) : SMap W64 :=
  ((List.range 4096).zip (pieces 8 bs)).filterMap (fun e => if leNat e.2 = 0 then none else some (e.1, BitVec.ofNat 64 (leNat e.2)))

/-- The KiB of a save or a restore (R283). -/
def saveKib (b : BundleBody) : Nat := ceilDiv (0x11000 + (b.live.map (·.len)).sum) 1024

/-- The image of a context in its save area (R278). -/
def Dev.saveBytes (d : Dev) (c : Nat) (b : Bundle) : List Byte :=
  let x := d.ctx c
  let live := b.body.liveOrder.flatMap (fun r => (d.pav r.pav).store.bytes r.off r.len)
  toBytes 8 c ++ toBytes 8 x.steps.toNat ++ toBytes 8 d.time.count.toNat ++ toBytes 8 live.length ++ b.hdr.digest.take 16 ++
    List.replicate (4096 - 48) 0 ++ paramBytes x.live ++ paramBytes x.settled.pend ++ live

/-- A context saved to its save area (R278, R478). -/
def Dev.saveCtx (d : Dev) (c : Nat) : Dev :=
  match (d.ctx c).active with
  | none => d
  | some b => ((d.lpWrite (d.saveArea c).1 (d.saveBytes c b)).onCtx c (fun x => { x.settled with saved := true })).count 0x080 0x110 (saveKib b.body)

/-- SLICE_START (R478, steps 1 and 2): the slice of a context begins once the resident context's step has ended and been
committed; where another context is resident and this one holds a bundle, the resident one is saved and a restore begins. A slice of the
canary context between its intervals belongs to the resident one (R514). -/
def Dev.sliceStart (d : Dev) (p c : Nat) : Dev :=
  let x := d.plot p
  let x1 := d.ctx c
  match x.running.bind (·.sliceEnd c d.time.count.toNat) with
  | none => d
  | some fin =>
    let waits : Bool := match x.resident with
      | some r => (d.ctx r).ended.isSome
      | none => false
    if x.st ≠ 1 || x1.st = 0 || (d.step p).running || waits || x.switching.isSome ||
        (x.slice.map (·.2)) = some (BitVec.ofNat 64 fin) then d
    else
      let idle := d.canaryCtx c && !d.recov.canaryDue
      let who := if idle then x.resident.getD c else c
      let d1 := (d.dropBanks who (fun _ => true)).setPlot p { x with slice := some (who, BitVec.ofNat 64 fin) }
      if idle || x.resident = some c || x1.active.isNone || x1.st ≠ 1 then d1
      else
        let d2 := match x.resident with
          | some r => d1.saveCtx r
          | none => d1
        (d2.onPlot p (fun y => { y with switching := some ⟨x.resident, c, d.time.elapsed⟩ })).count 0x008 0x100 1

/-- SLICE_START. -/
def execSliceStart (p ctx : Nat) (s : State) : Host.Outcome State Fault Refusal := onDev (·.sliceStart p ctx) s

/-- What a restore reads from the save area (R278): both copies of the parameters and the live working set. A context that has
never been saved has nothing there (DEDUCED, log entry 49). -/
def Dev.restoreSaved (d : Dev) (c : Nat) (b : BundleBody) : Dev :=
  if !(d.ctx c).saved then d
  else
    let base := (d.saveArea c).1
    let d1 := d.onCtx c (fun x => { x with live := paramOf (d.lpRead (base + 0x1000) 32768), pend := paramOf (d.lpRead (base + 0x9000) 32768) })
    (forEach b.liveOrder (d1, base + 0x11000) (fun s r =>
      (s.1.onPav r.pav (·.putStore r.off (d.lpRead s.2 r.len)), s.2 + r.len))).1

/-- The swappable regions a bundle references, written into the tiers from their backing images unless still in place (R259). -/
def Dev.restoreRegions (d : Dev) (p : Nat) (b : BundleBody) : Dev :=
  let ids := (d.regions.filter (fun e => e.2.plot = p && e.2.st ≠ 0 && e.2.swappable && b.regions.contains (e.2.name, e.2.epoch))).map (·.1)
  forEach ids d (fun s k =>
    let g := s.region k
    forEach ((bitList g.pavMask 32).filter (fun n => !s.inPlace.contains (k, n))) s (fun t n =>
      let img := t.backed k n
      let put (q : Pav) : Pav := { q with
        tier := forEach img (q.tier.clear (g.base * 65536) (g.len * 65536)) (fun m e => m.write (g.base * 65536 + e.1) e.2)
        tierBad := freshWords q.tierBad (g.base * 65536) (g.len * 65536), tierSoft := freshWords q.tierSoft (g.base * 65536) (g.len * 65536) }
      (((t.onPav n put).putInPlace k n).count 0x080 0x114 (g.len * 64)).count 0x090 0x104 (g.len * 1024)))

/-- Patches held during a change applied to the pending copy (R279). -/
def Dev.applyHeld (d : Dev) (c : Nat) : Dev :=
  d.onCtx c (fun x => { x with pend := forEach x.held x.pend (fun m e => m.put e.1 e.2), held := [] })

/-- Does a restore of a context meet an uncorrectable burst in its save area (R265, R479)? -/
def Dev.savedBad (d : Dev) (c : Nat) : Bool :=
  (d.ctx c).saved && (match (d.ctx c).active with
    | some b => d.dramBad.any (fun n => decide ((d.saveArea c).1 / 64 ≤ n) &&
        decide (64 * n < (d.saveArea c).1 + 0x11000 + (b.body.live.map (·.len)).sum))
    | none => false)

/-- CONTEXT_RESTORE_DONE (R478, steps 3 and 4; R479): the incoming context is resident, or, on an uncorrectable error,
RESTORE_FAILED. -/
def Dev.restoreDone (d : Dev) (p : Nat) (fine : Bool) : Dev :=
  let x := d.plot p
  match x.switching with
  | none => d
  | some w =>
    let ok := fine && !d.savedBad w.into
    let d1 := (d.setPlot p { x with switching := none, resident := if ok then some w.into else none }).count 0x008 0x104 (d.time.elapsed - w.since)
    if !ok then (d1.onCtx w.into (fun y => { y with st := 2 })).raise 0x008 3 ⟨none, some p, 0, 0, 0⟩
    else match (d1.ctx w.into).active with
      | none => d1
      | some b =>
        let d2 := (d1.restoreSaved w.into b.body).restoreRegions p b.body
        (d2.applyHeld w.into).count 0x080 0x114 (saveKib b.body)

/-- CONTEXT_RESTORE_DONE. -/
def execContextRestoreDone (p : Nat) (ok : Bool) (s : State) : Host.Outcome State Fault Refusal := onDev (·.restoreDone p ok) s

end Sys2Proof.Machine
end

