-- ==== Sys2Proof/Machine/Trust.lean ====
section
/-! DEFINITION. Fuses that commands blow, the SPDM responder and its sessions, weight keys, management logins and delegation (R480, R484 to R494, R568). -/
namespace Sys2Proof.Machine

/-- A state command of the SECURITY class that no register carries (R484, R493). -/
def onSecurity (r : Route) (f : State → State) (s : State) : Host.Outcome State Fault Refusal :=
  .next (if !s.dev.powered then s
    else if (s.rights r).security then f s
    else { s with dev := s.dev.refuse 0 0 1 false })

/-- The descriptor copy that boot reads: the valid one with the higher sequence number (R481, R483). -/
def NonVol.descriptor (nv : NonVol) : Option FlashDesc :=
  nv.desc.foldl (fun (b : Option FlashDesc) (x : FlashDesc) => if !x.valid then b else match b with
    | some y => if y.seq < x.seq then some x else some y
    | none => some x) none

/-- Is the trial flag set (R481, R550)? -/
def NonVol.trial (nv : NonVol) : Bool := (nv.descriptor.map (·.trial)).getD false

/-- SVN_COMMIT (R484, R550): each counter takes the running component's SVN; refused while the running slot is on trial. A fuse
never clears (R480). -/
def State.svnCommit (s : State) : State :=
  if s.nv.trial then s
  else { s with nv := { s.nv with svn := (List.range 8).map (fun k =>
    max (nthD s.nv.svn k 0) (min 64 ((s.dev.belv.running[k]?).map (·.svn) |>.getD 0))) } }

/-- SVN_COMMIT. -/
def execSvnCommit (r : Route) (s : State) : Host.Outcome State Fault Refusal := onSecurity r State.svnCommit s

/-- The keys not revoked (R480). -/
def NonVol.keyLive (nv : NonVol) (k : Nat) : Bool := decide (k < 4) && !bitN nv.keyRevoked k

/-- KEY_REVOCATION (R480): signed with another unrevoked key, so the last one stays. -/
def State.revoke (s : State) (k signer : Nat) (sigOk : Bool) : State :=
  if s.dev.powered && sigOk && k ≠ signer && s.nv.keyLive k && s.nv.keyLive signer then
    { s with nv := { s.nv with keyRevoked := s.nv.keyRevoked + 2 ^ k } }
  else s

/-- KEY_REVOCATION. -/
def execKeyRevocation (k signer : Nat) (sigOk : Bool) (s : State) : Host.Outcome State Fault Refusal := .next (s.revoke k signer sigOk)

/-- Does the responder answer identity requests, and every request (R491, R546, R613)? -/
def Dev.spdmIdentity (d : Dev) : Bool :=
  d.belv.st = 0 && (match d.power.phase with
    | .boot | .calibrate | .live | .rest => true
    | _ => false)
def Dev.spdmFull (d : Dev) : Bool := d.spdmIdentity && d.power.phase ≠ .boot

/-- RESET_CTRL.IN_RESET of a page (R598, R619): held, or released and its block not ready yet. -/
def Dev.inReset (d : Dev) (page : Nat) : Bool :=
  let v := d.rgN page 0x030 0
  bitN v 0 ||
    (if inOff page 0x010 0x02F then bitN v 8
     else if inOff page 0x040 0x04B then
       bitN v 8 && ((d.port (page - 0x040)).st = .calibrate || (d.port (page - 0x040)).st = .train || (d.port (page - 0x040)).st = .init)
     else if inOff page 0x060 0x06F then (d.mc (page - 0x060)).quick
     else if page = 0x070 ∨ page = 0x071 then (d.hport (page - 0x070)).inReset
     else if page = 0x001 then bitN v 8 && d.belv.st = 1
     else if page = 0x003 then d.kctx.any (fun e => e.2.resetWanted)
     else false)

/-- What a page shows of a reset: its own, or of a controller with no package, which is held in reset for good (R6). -/
def Dev.shownReset (d : Dev) (page : Nat) : Bool :=
  d.inReset page || (inOff page 0x060 0x06F && !(d.mc (page - 0x060)).populated)

/-- The pages whose block has a partial reset (R598). -/
def resetPages : List Nat :=
  [0x001, 0x002, 0x003, 0x070, 0x071] ++ (List.range 32).map pavPage ++ (List.range 12).map portPage ++ (List.range 16).map mcPage

/-- Is the device settled (R491): no activation and no partial reset in progress? -/
def Dev.settled (d : Dev) : Bool := d.belv.update ≠ 3 && !resetPages.any d.inReset

/-- An answer to an SPDM request. -/
def Dev.spdmSay (d : Dev) (link : Nat) (m : SpdmOut) : Dev := d.emit (.spdm link m)

/-- An identity request's answer (R489). -/
def spdmIdentityReply (link : Nat) (m : SpdmOut) (s : State) : Host.Outcome State Fault Refusal :=
  onDev (fun d => d.when d.spdmIdentity (·.spdmSay link m)) s

/-- SPDM_GET_VERSION: version 1.2 only (R488). -/
def execSpdmGetVersion (link : Nat) (s : State) : Host.Outcome State Fault Refusal := spdmIdentityReply link (.version 0x12) s

/-- SPDM_GET_CAPABILITIES: the sizes of R488. -/
def execSpdmGetCapabilities (link : Nat) (s : State) : Host.Outcome State Fault Refusal :=
  spdmIdentityReply link (.capabilities 4096 65536) s

/-- SPDM_NEGOTIATE_ALGORITHMS. -/
def execSpdmNegotiateAlgorithms (link : Nat) (s : State) : Host.Outcome State Fault Refusal := spdmIdentityReply link .algorithms s

/-- The digest of slot 0's chain (R487): the DeviceID certificate and the alias certificate, whose encoding the spec does not
give. -/
def State.chainDigest (s : State) : List Byte := sha384 (Config.eventBytes 16 (s.nv.devCert ++ toBytes 48 s.dev.belv.alias_))

/-- SPDM_GET_DIGESTS: slot 0. -/
def execSpdmGetDigests (link : Nat) (s : State) : Host.Outcome State Fault Refusal :=
  spdmIdentityReply link (.digests s.chainDigest) s

/-- SPDM_GET_CERTIFICATE: slot 0; no other is provisioned (R487). The error code is DSP0274's InvalidRequest (PRESUMED, log entry 50). -/
def execSpdmGetCertificate (link slot : Nat) (s : State) : Host.Outcome State Fault Refusal :=
  spdmIdentityReply link (if slot = 0 then .certificate 0 else .error 0x01) s

/-- The measurement registers at one tick. -/
def Dev.mrValues (d : Dev) : List (List Byte) := (List.range 16).map (fun k => nthD d.belv.mrs k (List.replicate 48 0))

/-- The tenancy block (R489), its fields in the rule's order; the spec gives them no layout. -/
def Dev.tenancyBlock (d : Dev) : List Byte :=
  Config.eventBytes 17 ((List.range 16).flatMap (fun p =>
    let x := d.plot p
    toBytes 1 x.st ++ toBytes 1 x.gen ++ toBytes 1 (d.key p).gen ++ toBytes 2 x.pairs ++ toBytes 2 x.cleanAt) ++ toBytes 2 d.power.cleared)

/-- The measurement log (R485), likewise. -/
def Dev.mlogBlock (d : Dev) : List Byte :=
  Config.eventBytes 18 (d.belv.mlog.flatMap (fun e => toBytes 1 e.reg ++ e.d ++ toBytes 8 e.tick.toNat ++ toBytes 1 e.typ))

/-- The answer to GET_MEASUREMENTS of an index (R489). -/
def Dev.measureReply (d : Dev) (index : Nat) : SpdmOut :=
  let mr (k : Nat) : Nat × List Byte := (k + 1, nthD d.belv.mrs k (List.replicate 48 0))
  if 1 ≤ index ∧ index ≤ 16 then .measurements [mr (index - 1)]
  else if index = 17 then .measurements [(17, d.tenancyBlock)]
  else if index = 18 then .measurements [(18, d.mlogBlock)]
  else if index = 0xFF then .measurements ((List.range 16).map mr ++ [(17, d.tenancyBlock), (18, d.mlogBlock)])
  else .error 0x01

/-- A pending session opened by KEY_EXCHANGE (R490): up to 64, else SessionLimitExceeded. -/
def Dev.keyExchange (d : Dev) (link : Nat) : Dev :=
  if 64 ≤ d.sess.length then d.spdmSay link (.error 0x0A)
  else
    let n := d.serial + 1
    ({ d with serial := n, sess := d.sess.put n ⟨none, link, d.time.elapsed, 0, false⟩ }).spdmSay link (.keyExchangeRsp n)

/-- What a request that waits for the device to be settled gets once it is (R491): 0 CHALLENGE, 1 KEY_EXCHANGE, 16 + index
GET_MEASUREMENTS. -/
def Dev.spdmServe (d : Dev) (link code : Nat) : Dev :=
  if code = 0 then d.spdmSay link (.challengeAuth d.mrValues)
  else if code = 1 then d.keyExchange link
  else d.spdmSay link (d.measureReply (code - 16))

/-- ResponseNotReady (R491): the RDTExponent bounds the expected wait and is otherwise free. -/
def Dev.spdmDefer (d : Dev) (link code : Nat) : Dev :=
  let k := d.draw
  ({ k.2 with links := k.2.links.put link code }).spdmSay link (.notReady ((Config.freeWord k.1).toNat % 256))

/-- A request that waits for the device to be settled. -/
def spdmSettled (link code : Nat) (s : State) : Host.Outcome State Fault Refusal :=
  onDev (fun d => d.when d.spdmFull (fun d => if d.settled then d.spdmServe link code else d.spdmDefer link code)) s

/-- SPDM_CHALLENGE. -/
def execSpdmChallenge (link : Nat) (s : State) : Host.Outcome State Fault Refusal := spdmSettled link 0 s

/-- SPDM_GET_MEASUREMENTS. -/
def execSpdmGetMeasurements (link index : Nat) (s : State) : Host.Outcome State Fault Refusal := spdmSettled link (16 + index) s

/-- SPDM_KEY_EXCHANGE. -/
def execSpdmKeyExchange (link : Nat) (s : State) : Host.Outcome State Fault Refusal := spdmSettled link 1 s

/-- SPDM_RESPOND_IF_READY: the deferred response, once settled; UnexpectedRequest where none is deferred. -/
def execSpdmRespondIfReady (link : Nat) (s : State) : Host.Outcome State Fault Refusal :=
  onDev (fun d => d.when d.spdmFull (fun d => match d.links.find link with
    | none => d.spdmSay link (.error 0x04)
    | some code =>
      if d.settled then ({ d with links := d.links.del link }).spdmServe link code else d.spdmDefer link code)) s

/-- The class that a requester's chain gives (R490): by the anchor it ends in. -/
def State.sessionClass (s : State) (anchor : List Byte) : Option SessCls :=
  match s.nv.anchors.find? (fun e => e.2.digest = anchor) with
  | some e => some (.operator e.1)
  | none => ((List.range 16).find? (fun p => (s.dev.plot p).st = 1 && (s.dev.plot p).anchor = anchor && anchor.length = 48)).map .tenant

/-- SPDM_FINISH (R490): the session gets its class, or ends with an authentication failure. -/
def State.spdmFinish (s : State) (link n : Nat) (anchor : List Byte) (ok : Bool) : State :=
  let d := s.dev
  match d.sess.find n with
  | none => { s with dev := d.spdmSay link (.error 0x01) }
  | some x =>
    match (if ok then s.sessionClass anchor else none) with
    | some c =>
      let d1 := { d with sess := d.sess.put n { x with cls := some c, since := d.time.elapsed } }
      { s with dev := (d1.count 0x008 0x110 1).spdmSay link .finishRsp }
    | none =>
      let d1 := ((d.endSession n).count 0x008 0x114 1).record 0x008 7 Where.none
      { s with dev := d1.spdmSay link (.error 0x01) }

/-- SPDM_FINISH. -/
def execSpdmFinish (link session : Nat) (anchor : List Byte) (ok : Bool) (s : State) : Host.Outcome State Fault Refusal :=
  .next (if s.dev.powered && s.dev.spdmFull then s.spdmFinish link session anchor ok else s)

/-- A request inside an open session (R489). -/
def inSession (session : Nat) (f : Dev → Sess → Dev) (s : State) : Host.Outcome State Fault Refusal :=
  onDev (fun d => d.when d.spdmFull (fun d => match d.sess.find session with
    | some x => if x.cls.isSome then f d x else d
    | none => d)) s

/-- SPDM_HEARTBEAT. -/
def execSpdmHeartbeat (session : Nat) (s : State) : Host.Outcome State Fault Refusal :=
  inSession session (fun d x => ({ d with sess := d.sess.put session { x with since := d.time.elapsed } }).spdmSay x.link .heartbeatAck) s

/-- The heartbeat period in ticks (R489). -/
def heartbeatTicks : Nat := 60 * ticksS

/-- HEARTBEAT_TIMEOUT (R492): three heartbeats missed. -/
def execHeartbeatTimeout (session : Nat) (s : State) : Host.Outcome State Fault Refusal :=
  onTimer (fun tie d => match d.sess.find session with
    | some x => if d.time.elapsed < x.since + 3 * heartbeatTicks + tie then d else d.endSession session
    | none => d) s

/-- SPDM_KEY_UPDATE: the new key counts from the next message (R562). -/
def execSpdmKeyUpdate (session : Nat) (s : State) : Host.Outcome State Fault Refusal :=
  inSession session (fun d x => ({ d with sess := d.sess.put session { x with updates := x.updates + 1 } }).spdmSay x.link .keyUpdateAck) s

/-- SPDM_END_SESSION (R492). -/
def execSpdmEndSession (session : Nat) (s : State) : Host.Outcome State Fault Refusal :=
  inSession session (fun d x => (d.endSession session).spdmSay x.link .endSessionAck) s

/-- SPDM_GET_ENCAPSULATED_REQUEST: the device asks for the requester's certificate (R489). -/
def execSpdmGetEncapsulatedRequest (session : Nat) (s : State) : Host.Outcome State Fault Refusal :=
  onDev (fun d => d.when d.spdmFull (fun d => match d.sess.find session with
    | some x => d.spdmSay x.link .encapRequest
    | none => d)) s

/-- SPDM_DELIVER_ENCAPSULATED_RESPONSE. -/
def execSpdmDeliverEncapsulatedResponse (session : Nat) (s : State) : Host.Outcome State Fault Refusal :=
  onDev (fun d => d.when d.spdmFull (fun d => match d.sess.find session with
    | some x => ({ d with sess := d.sess.put session { x with encap := true } }).spdmSay x.link .encapAck
    | none => d)) s

/-- SPDM_UNSUPPORTED (R489). -/
def execSpdmUnsupported (link _code : Nat) (s : State) : Host.Outcome State Fault Refusal := spdmIdentityReply link .unsupported s

/-- May a session install keys for a plot (R490)? -/
def Dev.keyAllowed (d : Dev) (x : Sess) (plot : Nat) : Bool :=
  match x.cls with
  | some (.tenant p) => p = plot
  | some (.operator _) => decide (plot < 16) && (d.plot plot).operatorKeys
  | none => false

/-- WEIGHT_KEY (R444, R568): kind 1 SHARD, 2 PUBLISHER; answered 0 OK, 1 REFUSED, 2 TABLE_FULL, 3 BAD_KEY. -/
def Dev.weightKey (d : Dev) (x : Sess) (kind plot slot keyId : Nat) (key : List Byte) (onCurve : Bool) : Dev :=
  let say (e : Dev) (code : Nat) : Dev := e.spdmSay x.link (.vendor code)
  if !d.keyAllowed x plot then say (d.count 0x008 0x11C 1) 1
  else if kind = 1 then
    let rest := d.shardKeys.filter (fun (k : ShardKey) => !(k.plot = plot && k.keyId = keyId))
    if key.length ≠ 32 then say d 3
    else if 4096 ≤ rest.length then say d 2
    else
      let n := d.serial + 1
      say (({ d with serial := n, shardKeys := rest ++ [ShardKey.mk plot keyId n key] }).count 0x008 0x118 1) 0
  else if kind = 2 ∧ slot < 4 ∧ key.length = 96 ∧ onCurve then
    let old (k : PubKey) : Bool := k.plot = plot && k.slot = slot
    say (({ d with pubKeys := d.pubKeys.filter (fun k => !old k) ++ [PubKey.mk plot slot key] }).count 0x008 0x118 1) 0
  else say d 3

/-- WEIGHT_KEY. -/
def execWeightKey (session kind plot slot keyId : Nat) (key : List Byte) (onCurve : Bool) (s : State) : Host.Outcome State Fault Refusal :=
  inSession session (fun d x => d.weightKey x kind plot slot keyId key onCurve) s

/-- Is the management port served (R546, R613)? -/
def Dev.mgmtUp (d : Dev) : Bool := d.spdmFull

/-- A Redfish session of a role opened (R577): up to 8. -/
def Dev.openRf (d : Dev) (role : Role) : Dev :=
  match (List.range 8).find? (fun k => (d.rf.find k).isNone) with
  | some k => { d with rf := d.rf.put k ⟨role, d.time.elapsed⟩ }
  | none => d

/-- A failed login (R493, R497): the fifth of an account locks it for 300 s. -/
def Dev.loginFailed (d : Dev) (acct : Option Nat) : Dev :=
  let d1 := d.count 0x008 0x120 1
  match acct with
  | none => d1
  | some a =>
    let n := d1.logins.get a 0 + 1
    let d2 := { d1 with logins := d1.logins.put a n }
    if n = 5 then { d2 with lockedAt := d2.lockedAt.put a d2.time.elapsed } else d2

/-- MGMT_LOGIN (R493): by a certificate that chains to an operator anchor, or as a local account with its password, which the
first login must change. -/
def State.mgmtLogin (s : State) (cert : Option (List Byte)) (acct : Nat) (ok newPassword : Bool) : State :=
  let d := s.dev
  match cert with
  | some dg => match s.nv.anchors.find? (fun e => e.2.digest = dg) with
    | some e => { s with dev := if ok then d.openRf e.2.role else d.loginFailed none }
    | none => { s with dev := d.loginFailed none }
  | none => match s.nv.accounts.find acct with
    | none => { s with dev := d.loginFailed none }
    | some a =>
      if !a.valid then { s with dev := d.loginFailed none }
      else if (d.lockedAt.find acct).isSome then { s with dev := d.count 0x008 0x120 1 }
      else if !ok then { s with dev := d.loginFailed (some acct) }
      else
        let d1 := { d with logins := d.logins.del acct }
        if a.mustChange ∧ !newPassword then { s with dev := d1 }
        else if newPassword then
          { s with
            nv := { s.nv with accounts := s.nv.accounts.put acct { a with mustChange := false } }
            dev := (d1.mrExtend 9 0 [BitVec.ofNat 8 acct]).openRf a.role }
        else { s with dev := d1.openRf a.role }

/-- MGMT_LOGIN. -/
def execMgmtLogin (cert : Option (List Byte)) (acct : Nat) (ok newPassword : Bool) (s : State) : Host.Outcome State Fault Refusal :=
  .next (if s.dev.powered && s.dev.mgmtUp then s.mgmtLogin cert acct ok newPassword else s)

/-- LOGIN_LOCK_EXPIRY (R493). -/
def execLoginLockExpiry (acct : Nat) (s : State) : Host.Outcome State Fault Refusal :=
  onDev (fun d => match d.lockedAt.find acct with
    | some t => if d.time.elapsed < t + 300 * ticksS then d else { d with lockedAt := d.lockedAt.del acct, logins := d.logins.del acct }
    | none => d) s

/-- A write of DELEGATION (R494): the policy kept in the configuration store, MR9 extended. -/
def State.setDelegation (s : State) (v : Nat) : State :=
  { s with nv := { s.nv with delegation := BitVec.ofNat 32 (v % 8) }, dev := s.dev.mrExtend 9 1 (toBytes 4 (v % 8)) }

/-- DELEGATION_WRITE. -/
def execDelegationWrite (r : Route) (v : W32) (s : State) : Host.Outcome State Fault Refusal :=
  .next (s.regCmd r 0x008 0x5EC v.toNat (·.setDelegation v.toNat))

end Sys2Proof.Machine
end

