-- ==== Sys2Proof/Machine/Recovery.lean ====
section
/-! DEFINITION. Bells and verdicts, fate tags, canary intervals, shadowing, the log and the quarantine rules, and the common registers of every page (R502 to R528, R594 to R600, R607 to R610). -/
namespace Sys2Proof.Machine

/-! ### Bells -/

/-- The fields of a bell's payload (R507). -/
def bellLaunch (p : Packet) : W64 := BitVec.ofNat 64 (leNat (p.payload.take 8))
def bellStep (p : Packet) : W64 := BitVec.ofNat 64 (leNat ((p.payload.drop 8).take 8))
def bellKind (p : Packet) : Nat := leNat ((p.payload.drop 16).take 1)
def bellCause (p : Packet) : Nat := leNat ((p.payload.drop 17).take 1)
def bellOrigin (p : Packet) : Nat := leNat ((p.payload.drop 18).take 2) % 4096
def bellId (p : Packet) : Nat := leNat ((p.payload.drop 20).take 2)

/-- The context launched with a launch count (R509). -/
def Dev.launchedAs (d : Dev) (l : W64) : Option Nat := (d.ctxs.find? (fun e => e.2.st ≠ 0 && e.2.launch = some l)).map (·.1)

/-- An ABORT that withheld or abandoned a step here (R509, R527, R528). -/
def Dev.bellActed (d : Dev) (plot : Nat) (step : W64) : Dev :=
  (d.count 0x000 0x184 1).recordB 0x000 0 18 .d false ⟨none, some plot, 0, step.toNat, 0⟩

/-- What a device does with an ABORT (R509). -/
def Dev.bellHere (d : Dev) (p : Packet) : Dev :=
  match d.launchedAs (bellLaunch p) with
  | none => d.count 0x000 0x188 1
  | some c =>
    let x := d.ctx c
    let s := bellStep p
    let runs := (d.step x.plot).running && (d.step x.plot).ctx = c
    if runs && d.stepNo x.plot = s then
      (d.bellActed x.plot s).abandon x.plot .remoteAbort (bellOrigin p) (bellLaunch p).toNat
    else match x.ended with
      | some e =>
        if e.number = s then
          (if d.follows c then d else (d.bellActed x.plot s).setCtx c { x with ended := some { e with withheld := true } })
        else if x.steps < s then (d.bellActed x.plot s).setCtx c { x with withholdNext := x.withholdNext ++ [(s, bellOrigin p)] }
        else d.count 0x000 0x188 1
      | none =>
        if x.steps < s then (d.bellActed x.plot s).setCtx c { x with withholdNext := x.withholdNext ++ [(s, bellOrigin p)] }
        else d.count 0x000 0x188 1

/-- BELL_ABORT (R508, R509): an ABORT at a port that has not been seen is acted on and flooded on; one seen, or at the hop limit,
is dropped. -/
def Dev.bellAbort (d : Dev) (port : Nat) (p : Packet) : Dev :=
  if !p.bell || bellKind p ≠ 1 then d
  else
    let d1 := d.routerTake port p
    if d1.recov.seen.contains (bellOrigin p, bellId p) || decide (64 ≤ p.hops) then d1
    else
      let d2 := { d1 with recov := { d1.recov with seen := ((bellOrigin p, bellId p) :: d1.recov.seen).take 64 } }
      (d2.bellHere p).flood (some port) { p with hops := p.hops + 1 }

/-- BELL_ABORT. -/
def execBellAbort (port : Nat) (p : Packet) (s : State) : Host.Outcome State Fault Refusal := onDev (·.bellAbort port p) s

/-- BELL_VERDICT (R510): a clean verdict is noted for its step; one that is not clean lets the step never commit. -/
def Dev.bellVerdict (d : Dev) (p : Packet) : Dev :=
  if p.typ ≠ 0x10 || p.dest ≠ d.number || bellKind p ≠ 2 then d
  else
    let d1 := d.takeEject p
    match d1.launchedAs (bellLaunch p) with
    | some c => if bellCause p = 0 then d1.onCtx c (fun x => { x with verdicts := x.verdicts ++ [4096 * (bellStep p).toNat + bellOrigin p] }) else d1
    | none => d1

/-- BELL_VERDICT. -/
def execBellVerdict (p : Packet) (s : State) : Host.Outcome State Fault Refusal := onDev (·.bellVerdict p) s

/-- VERDICT_TIMEOUT (R510): the lead withholds the step, rings, and records the fault. -/
def Dev.verdictTimeout (tie : Nat) (d : Dev) (c : Nat) : Dev :=
  let x := d.ctx c
  match x.ended with
  | none => d
  | some e =>
    if e.withheld || d.follows c || x.launch.isNone || (d.followersOf c).all (fun f => x.verdicts.contains (4096 * e.number.toNat + f)) ||
        decide (d.time.elapsed < e.endEl + d.stallTicks + tie) then d
    else
      let d1 := d.setCtx c { x with ended := some { e with withheld := true } }
      (d1.ring_ c e.number .verdictTimeout).recordB 0x000 0 19 .d false ⟨none, some x.plot, 0, e.number.toNat, 0⟩

/-- VERDICT_TIMEOUT. -/
def execVerdictTimeout (ctx : Nat) (s : State) : Host.Outcome State Fault Refusal := onTimer (fun tie d => d.verdictTimeout tie ctx) s

/-! ### Fate tags -/

/-- The tags of a device as the manager's table has them, its own from its registers (R513). -/
def Dev.fateTags (d : Dev) : List (Nat × List Nat) :=
  let a := d.rgN 0x000 0x800 0
  let b := d.rgN 0x000 0x804 0
  (d.number, [a % 65536, a / 65536, b % 65536, b / 65536]) :: d.recov.fate.filter (fun e => e.1 ≠ d.number)

/-- A FENCE_SET packet for one device's bit (R311). -/
def Dev.fencePacket (d : Dev) (tgt n : Nat) (b : Bool) : Packet :=
  { d.bellPacket tgt (Config.fencePayload n b) with typ := 0x11 }

/-- A refused FATE_FENCE (R513, R527). -/
def Dev.fateRefused (d : Dev) (code : Nat) : Dev := (d.setN 0x000 0x80C 0 code).record 0x000 21 Where.none

/-- A FATE_FENCE (R513): the fence bits of every device that holds the value, set or cleared here and, by FENCE_SET packets, on
every device of the table. -/
def Dev.fateFence (d : Dev) (kind value : Nat) (b : Bool) : Dev :=
  let hit := (d.fateTags.filter (fun e => nthD e.2 (kind % 4) 0 = value % 65536)).map (·.1)
  if !d.isManager then d.fateRefused 2
  else if b && hit.contains d.number then d.fateRefused 1
  else
    let others := (d.fateTags.map (·.1)).filter (· ≠ d.number)
    let d1 := forEach hit d (fun s n => forEach others (s.setFence n b) (fun t m => t.post (t.fencePacket m n b)))
    d1.setN 0x000 0x80C 0 (2 ^ 16 * hit.length)

/-- FATE_FENCE_SET. -/
def execFateFenceSet (r : Route) (kind value : Nat) (s : State) : Host.Outcome State Fault Refusal :=
  onReg r 0x000 0x808 (kind % 4 + 4 * (value % 65536) + 2 ^ 18) (·.fateFence kind value true) s

/-- FATE_FENCE_CLEAR. -/
def execFateFenceClear (r : Route) (kind value : Nat) (s : State) : Host.Outcome State Fault Refusal :=
  onReg r 0x000 0x808 (kind % 4 + 4 * (value % 65536) + 2 ^ 19) (·.fateFence kind value false) s

/-! ### Canary and shadow -/

/-- CANARY_INTERVAL (R514). -/
def Dev.canaryInterval (d : Dev) : Dev :=
  let cfg := d.rgN 0x000 0x840 0
  d.when (bitN cfg 8 && decide (d.recov.canaryAt + bitsN cfg 16 16 * ticksS ≤ d.time.elapsed))
    (fun e => { e with recov := { e.recov with canaryDue := true, canaryAt := e.time.elapsed } })

/-- CANARY_INTERVAL. -/
def execCanaryInterval (s : State) : Host.Outcome State Fault Refusal := onDev Dev.canaryInterval s

/-- A write of SHADOW_CFG (R516): the pair set up or ended, MATCHES at 0. -/
def Dev.shadowCfg (d : Dev) (v : Nat) : Dev :=
  let d1 := (d.setN 0x000 0x820 0 (v % 2 ^ 14)).setN 0x000 0x82C 0 0
  { d1 with recov := { d1.recov with following := false } }

/-- SHADOW_CFG_WRITE. -/
def execShadowCfgWrite (r : Route) (v : W32) (s : State) : Host.Outcome State Fault Refusal :=
  onReg r 0x000 0x820 v.toNat (·.shadowCfg v.toNat) s

/-- SHADOW_START (R517): the counter has reached T0. -/
def Dev.shadowStart (d : Dev) : Dev :=
  d.when (d.shadowValid && decide (d.rg64 0x000 0x824 0 ≤ d.time.count.toNat))
    (fun e => { e with recov := { e.recov with following := true } })

/-- SHADOW_START. -/
def execShadowStart (s : State) : Host.Outcome State Fault Refusal := onDev Dev.shadowStart s

/-- PROMOTE_RELEASE (R521, order 4): one drain horizon after the switch count the new primary releases its next steps. -/
def Dev.promoteRelease (d : Dev) : Dev :=
  match d.recov.promoteAt with
  | none => d
  | some t =>
    if d.time.elapsed < t then d
    else
      let d1 := { d with recov := { d.recov with promoteAt := none } }
      forEach (d1.ctxs.map (·.1)) d1 (fun s c => s.stepRelease c)

/-- PROMOTE_RELEASE. -/
def execPromoteRelease (s : State) : Host.Outcome State Fault Refusal := onDev Dev.promoteRelease s

/-! ### The log -/

/-- The 64 bytes of a log entry (R503, R505). -/
def LogEntry.bytes (e : LogEntry) : List Byte :=
  let aux := toBytes 8 e.tick.toNat ++ toBytes 2 e.seq ++ toBytes 1 (e.typ % 16 + 16 * (e.cls % 8)) ++ toBytes 1 e.bit ++
    toBytes 2 e.page ++ toBytes 2 e.aux
  let body :=
    if e.typ = 2 then toBytes 48 (e.members.reverse.foldl (fun s m => s * 4096 + m % 4096) 0)
    else if e.typ = 3 then toBytes 4 e.locus ++ List.replicate 44 0
    else toBytes 1 (e.plot % 16) ++ toBytes 1 e.ctx ++ toBytes 2 (e.device % 4096 + 4096 * e.role) ++ toBytes 8 e.step.toNat ++
      toBytes 4 e.beat ++ toBytes 4 e.locus ++ toBytes 2 (patternN 16 e.temp) ++ toBytes 2 e.volt ++ toBytes 1 e.stretch ++
      toBytes 1 e.margin ++ toBytes 2 e.flags ++ toBytes 8 e.locus2 ++ List.replicate 12 0
  aux ++ body

/-- The log as a tick's writes meet it: what it held before them stays at hand for the snapshots of that tick (R609). -/
def Log.inTick (l : Log) (now : Nat) : Log :=
  if l.since = now + 1 then l else { l with since := now + 1, was := (l.head, l.oldest), gone := [] }

/-- An entry written into the log (R503, R608): SEQ given, the oldest dropped from a full log. -/
def Log.write (l0 : Log) (e : LogEntry) (now : Nat) : Log :=
  let l := l0.inTick now
  let full := (l.head + 65536 - l.oldest) % 65536 = 16384
  let slot := l.head % 16384
  { l with
           gone := if (l.gone.find slot).isSome then l.gone else
             (match l.entries.find slot with
              | some x => l.gone.put slot x
              | none => l.gone)
           head := (l.head + 1) % 65536, oldest := if full then (l.oldest + 1) % 65536 else l.oldest, wrapped := l.wrapped || full
           entries := l.entries.put (l.head % 16384) { e with seq := l.head } }

/-- The log's entry with a sequence number, where the log holds it (R608). -/
def Log.held (l : Log) (seq : Nat) : Option LogEntry :=
  if (seq + 65536 - l.oldest) % 65536 < (l.head + 65536 - l.oldest) % 65536 then l.entries.find (seq % 16384) else none

/-- The entry a snapshot of tick `now` takes (R609): the log's as that tick began, neither written nor overwritten in it. -/
def Log.heldBefore (l : Log) (seq now : Nat) : Option LogEntry :=
  if l.since ≠ now + 1 then l.held seq
  else if (seq + 65536 - l.was.2) % 65536 < (l.was.1 + 65536 - l.was.2) % 65536 then
    (l.gone.find (seq % 16384)).or (l.entries.find (seq % 16384))
  else none

/-- The source of a quarantine rule that a FAULT entry feeds (R523), and the pavilions it is counted for. -/
def LogEntry.quarantine (e : LogEntry) : Option (Nat × List Nat) :=
  if e.typ ≠ 1 then none
  else if 0x010 ≤ e.page ∧ e.page ≤ 0x02F then
    (match e.bit with
     | 0 | 1 => some (1, [e.page - 0x010])
     | 3 => some (2, [e.page - 0x010])
     | 6 => some (5, [e.page - 0x010])
     | _ => none)
  else if e.page = 0x0A0 ∧ e.bit = 1 then some (3, [e.locus % 32])
  else if e.page = 0x000 ∧ e.bit = 16 then some (4, bitList e.locus 32)
  else none

/-- Does an entry's capture meet a rule's conditions (R523, R526)? -/
def condMet (cond : Nat) (e : LogEntry) : Bool :=
  let lo := signedN 8 (bitsN cond 0 8) * 16
  let hi := signedN 8 (bitsN cond 8 8) * 16
  (!bitN cond 24 || (decide (lo ≤ e.temp) && decide (e.temp ≤ hi))) && (!bitN cond 25 || decide (bitsN cond 16 8 ≤ e.stretch))

/-- An ALERT of a quarantine rule: ALERT_N raised and the alert sent for the source's bit (R523; log entry 52). -/
def Dev.ruleAlert (d : Dev) (e : LogEntry) : Dev :=
  let d1 := d.alertSend e.page e.bit
  if d1.alertN then d1 else ({ d1 with alertN := true }).count 0x000 0x110 1

/-- The action of a rule that has reached its count on a pavilion (R523). -/
def Dev.ruleAct (d : Dev) (rule n action : Nat) (e : LogEntry) : Dev :=
  let w (flags : Nat) : Where := ⟨some n, e.plot, 2 ^ n, rule, flags⟩
  if action = 2 then
    let d1 := { d with log := { d.log with hits := d.log.hits.del (32 * rule + n) } }
    let d2 := (d1.count 0x000 0x198 1).recordB 0x000 0 17 .f false (w 2)
    d2.consFPav n false (w 2)
  else
    let d1 := d.notice e.page e.bit (w (if action = 1 then 1 else 0))
    if action = 1 then d1.ruleAlert e else d1

/-- One rule applied to one pavilion of an entry. -/
def Dev.ruleHit (d : Dev) (rule n : Nat) (e : LogEntry) : Dev :=
  let cfg := d.rgN 0x000 0x864 rule
  let window := bitsN cfg 20 12 * (if bitN cfg 7 then 60 else 1) * ticksS
  let key := 32 * rule + n
  let l := (d.log.hits.get key []).filter (fun t => decide (e.tick.toNat ≤ t + window)) ++ [e.tick.toNat]
  let d1 := { d with log := { d.log with hits := d.log.hits.put key l } }
  if l.length = bitsN cfg 8 12 then d1.ruleAct rule n (bitsN cfg 5 2) e else d1

/-- The quarantine rules evaluated on an entry that has reached the log (R523, R548). -/
def Dev.quarantine (d : Dev) (e : LogEntry) : Dev :=
  match e.quarantine with
  | none => d
  | some (src, ns) =>
    forEach (List.range 16) d (fun s rule =>
      let cfg := s.rgN 0x000 0x864 rule
      if bitN cfg 4 && bitsN cfg 0 4 = src && condMet (s.rgN 0x000 0x868 rule) e then forEach ns s (fun t n => t.ruleHit rule n e) else s)

/-- LOG_INTAKE (R548): Belvedere takes the entry at the front of the queue; once there is room again, a LOST entry follows the
entries that were lost. -/
def Dev.logIntake (d : Dev) : Dev :=
  match d.log.queue with
  | [] => d
  | e :: rest =>
    if d.belv.st ≠ 0 then d
    else
      let lost : List LogEntry := if d.log.lost = 0 then [] else
        [{ d.faultEntry 0x009 0 .none false Where.none with typ := 3, bit := 0, locus := d.log.lost }]
      let d1 := ({ d with log := { (d.log.write e d.time.elapsed) with queue := rest ++ lost, lost := 0 } }).count 0x009 0x100 1
      d1.quarantine e

/-- LOG_INTAKE. -/
def execLogIntake (s : State) : Host.Outcome State Fault Refusal := onDev Dev.logIntake s

/-- LOG_ENTRY_LOST (R548): an entry that meets a full queue. -/
def execLogEntryLost (e : LogEntry) (s : State) : Host.Outcome State Fault Refusal :=
  onDev (fun d => d.when (decide (256 ≤ d.log.queue.length)) (·.logPush e)) s

/-- The snapshot of a route (R609): VALID and the entry's bytes, empty where the log did not hold it as the tick began. -/
def Dev.logSelect (d : Dev) (r : Route) (seq : Nat) : Dev :=
  let bs := match d.log.heldBefore (seq % 65536) d.time.elapsed with
    | some e => e.bytes
    | none => []
  { d with sels := d.sels.put (selKey r 0x009 0x40C) (BitVec.ofNat 32 (seq % 65536)), snaps := d.snaps.put r.code bs }

/-- LOG_ENTRY_SEL. -/
def execLogEntrySel (r : Route) (seq : Nat) (s : State) : Host.Outcome State Fault Refusal :=
  onReg r 0x009 0x40C (seq % 65536) (·.logSelect r seq) s

/-- The log emptied (R545, R608). -/
def Dev.logClear (d : Dev) : Dev :=
  (({ d with log := { d.log with oldest := d.log.head, wrapped := false, entries := [], since := 0, gone := [] } }).count 0x009 0x10C 1).record 0x009 1 Where.none

/-- LOG_CLEAR. -/
def execLogClear (r : Route) (s : State) : Host.Outcome State Fault Refusal := onReg r 0x009 0x414 1 Dev.logClear s

/-! ### The common registers -/

/-- The counter of a fault's source: its page, 0xFFF for the fault's own, and its offset (R597 with the counter tables). -/
def faultCounter (block bit : Nat) : Option (Nat × Nat) :=
  let own (o : Nat) : Option (Nat × Nat) := some (0xFFF, o)
  match block, bit with
  | 0x000, 0 => own 0x108 | 0x000, 16 => own 0x194 | 0x000, 17 => own 0x198 | 0x000, 18 => own 0x184
  | 0x001, 0 => own 0x100
  | 0x002, 0 => own 0x104 | 0x002, 1 => own 0x110
  | 0x003, 1 => own 0x140 | 0x003, 8 => own 0x148
  | 0x004, 0 => own 0x10C | 0x004, 3 => own 0x108 | 0x004, 7 => own 0x11C
  | 0x005, 0 => own 0x100 | 0x005, 1 => own 0x104
  | 0x006, 4 => own 0x104
  | 0x007, 1 => own 0x104
  | 0x008, 4 => own 0x108 | 0x008, 7 => own 0x114
  | 0x009, 0 => own 0x104 | 0x009, 1 => own 0x10C
  | 0x010, 0 => own 0x12C | 0x010, 1 => own 0x130 | 0x010, 2 => own 0x134 | 0x010, 3 => own 0x138 | 0x010, 5 => own 0x13C
  | 0x010, 4 => some (0x004, 0x118)
  | 0x040, 0 => own 0x10C | 0x040, 1 => own 0x140 | 0x040, 2 => own 0x144 | 0x040, 3 => own 0x148 | 0x040, 6 => own 0x12C
  | 0x050, 0 => own 0x10C | 0x050, 1 => own 0x110 | 0x050, 2 => own 0x118 | 0x050, 3 => own 0x124
  | 0x051, 0 => own 0x104 | 0x051, 1 => own 0x108 | 0x051, 2 => own 0x10C | 0x051, 3 => own 0x110 | 0x051, 4 => own 0x114
  | 0x051, 5 => own 0x120
  | 0x060, 0 => own 0x108 | 0x060, 1 => own 0x10C
  | 0x070, 2 => own 0x110
  | 0x072, 0 => own 0x110
  | 0x073, 1 => own 0x10C
  | 0x080, 0 => own 0x104
  | 0x090, 0 => own 0x108
  | 0x0A0, 0 => own 0x100 | 0x0A0, 1 => own 0x104 | 0x0A0, 2 => own 0x110
  | _, _ => none

/-- The place a fault injected on a page is found at. -/
def Dev.injectWhere (d : Dev) (page bank : Nat) : Where :=
  if 0x010 ≤ page ∧ page ≤ 0x02F then { Where.none with pav := some (page - 0x010), plot := d.pavPlot (page - 0x010), locus := page - 0x010 }
  else if page = 0x005 then { Where.none with plot := some bank }
  else if 0x040 ≤ page ∧ page ≤ 0x04B then { Where.none with locus := page - 0x040 }
  else Where.none

/-- ERR_INJECT with GO (R597): as if the source of the bit had fired; ignored where the bit is reserved or raises class X, or
under INJECT_LOCK. -/
def Dev.inject_ (d : Dev) (page bank bit : Nat) : Dev :=
  let block := (blockOf page).getD 0xFFF
  match errClass block bit with
  | none => d
  | some cls =>
    if cls = .x || bitN (d.rgN page 0x034 bank) 1 then d
    else
      let w := d.injectWhere page bank
      let d1 := match faultCounter block bit with
        | some (p, o) => if p = 0xFFF then d.countB page o bank 1 else d.count p o 1
        | none => d
      let d2 := (d1.recordB page bank bit cls true w).consequence page cls false w (if block = 0x010 ∧ bit = 4 then .stallTimeout else .localFault)
      match block, bit, w.plot with
      | 0x010, 4, some p => d2.abandon p .stallTimeout d2.number 0
      | _, _, _ => d2

/-- ERR_INJECT. -/
def execErrInject (r : Route) (page bit : Nat) (s : State) : Host.Outcome State Fault Refusal :=
  onReg r page 0x024 (bit % 32 + 256) (fun d => d.inject_ page (d.bank r (s.rights r) page 0x024) (bit % 32)) s

/-- ERR_STATUS bits cleared; ERR_FIRST and ERR_TIME stay (R595). -/
def Dev.errClear (d : Dev) (page bank mask : Nat) : Dev :=
  d.setRg page 0x018 bank (d.rg page 0x018 bank &&& ~~~(BitVec.ofNat 32 mask))

/-- ERR_STATUS_CLEAR. -/
def execErrStatusClear (r : Route) (page : Nat) (mask : W32) (s : State) : Host.Outcome State Fault Refusal :=
  onReg r page 0x018 mask.toNat (fun d => d.errClear page (d.bank r (s.rights r) page 0x018) mask.toNat) s

/-- INT_STATUS bits cleared (R596): ALERT_N follows in the next tick. -/
def Dev.intClear (d : Dev) (page bank mask : Nat) : Dev :=
  d.setRg page 0x028 bank (d.rg page 0x028 bank &&& ~~~(BitVec.ofNat 32 mask))

/-- INT_STATUS_CLEAR. -/
def execIntStatusClear (r : Route) (page : Nat) (mask : W32) (s : State) : Host.Outcome State Fault Refusal :=
  onReg r page 0x028 mask.toNat (fun d => d.intClear page (d.bank r (s.rights r) page 0x028) mask.toNat) s

/-- LOCK bits set (R599). -/
def Dev.lock (d : Dev) (page bank v : Nat) : Dev := d.setRg page 0x034 bank (d.rg page 0x034 bank ||| BitVec.ofNat 32 (v % 4))

/-- LOCK_WRITE. -/
def execLockWrite (r : Route) (page : Nat) (v : W32) (s : State) : Host.Outcome State Fault Refusal :=
  onReg r page 0x034 v.toNat (fun d => d.lock page (d.bank r (s.rights r) page 0x034) v.toNat) s

end Sys2Proof.Machine
end

