-- ==== Sys2Proof/Machine/PowerOps.lean ====
section
/-! DEFINITION. Power-up and power-down, boot, resets, domains and REST, throttling, supply and heat, Belvedere and updates (R480 to R486, R534 to R553, R598, R599, R611 to R621). -/
namespace Sys2Proof.Machine

/-! ### Power -/

/-- The device as it stands right after PWR_GOOD: everything volatile at its power-on value (R612, R613, R617). -/
def Dev.fresh (d : Dev) : Dev :=
  let n := Dev.powerUp d.modl
  { n with
    time := { n.time with elapsed := d.time.elapsed }
    power := { n.power with enAt := d.power.enAt, offAt := d.power.offAt, goodAt := d.time.elapsed, phaseAt := d.time.elapsed }
    serial := d.serial, out := d.out, free := d.free }

/-- The device with no power: nothing volatile is left (R535, R617). -/
def Dev.dark (d : Dev) (en : Bool) : Dev :=
  let n := d.fresh
  { n with power := { n.power with en := en, good := false, phase := .off, domains := 0 } }

/-- PWR_EN_ASSERT (R611, R612, R617): `limitsKept` says that the carrier kept R611, `inRange` that the bus and the regulator of
domain 23 come into range within 50 ms. After a failed start PWR_GOOD waits for PWR_EN low for 1 s; otherwise asserting PWR_EN
earlier than that breaks R617. -/
def execPwrEnAssert (limitsKept inRange : Bool) (s : State) : Host.Outcome State Fault Refusal :=
  let d := s.dev
  let soon := decide (d.time.elapsed < d.power.offAt + ticksS)
  if d.power.en then .next s
  else if !limitsKept || (soon && !d.power.lockout) then .fault .outsideLimits
  else
    let d1 := { d with power := { d.power with en := true, enAt := d.time.elapsed, phase := .waiting } }
    .next { s with dev := if soon then d1 else if inRange then d1.fresh else { d1 with power := { d1.power with lockout := false } } }

/-- PWR_GOOD_TIMEOUT (R612): 50 ms without the voltages in range: conversion stops. -/
def Dev.goodTimeout (tie : Nat) (d : Dev) : Dev :=
  if d.power.phase ≠ .waiting || d.power.lockout || decide (d.time.elapsed < d.power.enAt + 50 * ticksMs + tie) then d
  else { d with power := { d.power with lockout := true, phase := .off } }

/-- PWR_GOOD_TIMEOUT. -/
def execPwrGoodTimeout (s : State) : Host.Outcome State Fault Refusal := .next { s with dev := s.dev.goodTimeout s.tie }

/-- PWR_EN_DEASSERT (R617). -/
def Dev.deassert (d : Dev) : Dev :=
  if !d.power.en then d
  else
    let n := d.dark false
    { n with power := { n.power with offAt := d.time.elapsed, lockout := d.power.lockout } }

/-- PWR_EN_DEASSERT. -/
def execPwrEnDeassert (s : State) : Host.Outcome State Fault Refusal := .next { s with dev := s.dev.deassert }

/-- CONVERSION_STOP (R542): below 36 V or above 63 V, PWR_GOOD deasserts and everything stops. -/
def execConversionStop (mv : Nat) (s : State) : Host.Outcome State Fault Refusal :=
  .next (if s.dev.power.good && (decide (mv < 36000) || decide (63000 < mv)) then { s with dev := s.dev.dark s.dev.power.en } else s)

/-- A full reset with power kept (R618): domain 23 stays on, so the time counter, the log and READY_MS stay; LPDDR5X keeps what
is now only ciphertext; THERM_TRIP_N stays asserted (R543); everything else returns to its power-on value. -/
def Dev.fullReset (d : Dev) : Dev :=
  let n := Dev.powerUp d.modl
  let p := d.power
  let t := d.time
  { n with
    time := { n.time with count := t.count, elapsed := t.elapsed, everLocked := t.everLocked, locked := t.locked || p.refOk
                          holdover := t.holdover, holdSince := t.holdSince, expired := t.expired }
    power := { n.power with enAt := p.enAt, offAt := p.offAt, goodAt := p.goodAt, phaseAt := t.elapsed, everOn := p.everOn
                            refOk := p.refOk, refSince := p.refSince, tripped := p.tripped }
    regs := d.regs.filter (fun (e : Nat × W32) => e.1 = rk 0x000 0x420 0)
    log := { d.log with hits := [] }
    serial := d.serial, lpddr := d.lpddr, burstKey := d.burstKey, dramBad := d.dramBad
    out := d.out, free := d.free }

/-- RST_N_LOW (R618): held low for at least 1 ms. -/
def execRstNLow (us : Nat) (s : State) : Host.Outcome State Fault Refusal := onDev (fun d => d.when (decide (1000 ≤ us)) Dev.fullReset) s

/-- FULL_RESET. -/
def execFullReset (r : Route) (s : State) : Host.Outcome State Fault Refusal := onReg r 0x000 0x424 1 Dev.fullReset s

/-! ### Boot -/

/-- HMAC-SHA384 (FIPS 198-1: a block of 128 bytes), which R486 names. -/
def hmac384 (key msg : List Byte) : List Byte :=
  let k := key ++ List.replicate (128 - key.length) 0
  sha384 (k.map (· ^^^ 0x5C) ++ sha384 (k.map (· ^^^ 0x36) ++ msg))

/-- The key under which a component is signed, unrevoked (R480, R482). -/
def NonVol.signer (nv : NonVol) (c : Comp) : Option Nat :=
  (List.range 4).find? (fun j => nthD nv.keyHash j 0 = c.keyHash && nv.keyLive j)

/-- Component `k` is accepted (R482). -/
def NonVol.accepts (nv : NonVol) (k : Nat) (c : Comp) : Bool :=
  c.sigOk && (nv.signer c).isSome && decide (nthD nv.svn k 0 ≤ c.svn) && decide (c.svn ≤ 64)

/-- A slot, and whether it may be booted at all (R483): complete, no component below its fused counter. -/
def NonVol.slotAt (nv : NonVol) (k : Nat) : SlotImg := nthD nv.slots k ⟨false, []⟩
def NonVol.bootable (nv : NonVol) (k : Nat) : Bool :=
  let i := nv.slotAt k
  i.complete && i.comps.length = 8 && (List.range 8).all (fun j => match i.comps[j]? with
    | some c => decide (nthD nv.svn j 0 ≤ c.svn)
    | none => false)

/-- The slot the descriptor names. -/
def NonVol.activeSlot (nv : NonVol) : Nat := ((nv.descriptor.map (·.slot)).getD 0) % 2

/-- Component `k` of a slot. -/
def NonVol.comp (nv : NonVol) (slot k : Nat) : Comp := nthD (nv.slotAt slot).comps k ⟨[], 0, 0, false⟩

/-- The event MR0 measures (R485). -/
def NonVol.fuseBytes (nv : NonVol) (key : Nat) : List Byte :=
  toBytes 1 nv.keyRevoked ++ nv.svn.flatMap (toBytes 8 ·) ++ toBytes 1 key ++ toBytes 1 (if nv.debugLock then 1 else 0)

/-- A slot fails (R483): the device restarts from the other slot with FALLBACK, or halts where both have failed. -/
def Dev.slotFails (d : Dev) (slot : Nat) : Dev :=
  let tried := d.belv.bootTried ++ [slot]
  let again := !tried.contains (1 - slot)
  let d1 := { d with
    belv := { Belv.reset with bootTried := tried, fallback := again }
    power := { d.power with phase := if again then .rom else .bootFail, phaseAt := d.time.elapsed } }
  if again then d1.record 0x008 6 Where.none else d1

/-- ROM_STAGE1_CHECK (R483, R486). -/
def State.romCheck (s : State) : State :=
  let d := s.dev
  let slot := if d.belv.bootTried.isEmpty then s.nv.activeSlot else 1 - (d.belv.bootTried.head?).getD 0
  let c := s.nv.comp slot 0
  if !d.powered || d.power.phase ≠ .rom then s
  else if !(s.nv.bootable slot && s.nv.accepts 0 c) then { s with dev := d.slotFails slot }
  else
    let key := (s.nv.signer c).getD 0
    let d1 := (d.mrExtend 0 0 (s.nv.fuseBytes key)).mrExtendD 1 1 c.digest
    { s with dev := { d1 with
      belv := { d1.belv with udsLocked := true, cdi := true, slot := slot, keyUsed := key, verified := 1, running := [c] }
      power := { d1.power with phase := .boot, phaseAt := d.time.elapsed } } }

/-- ROM_STAGE1_CHECK. -/
def execRomStage1Check (s : State) : Host.Outcome State Fault Refusal := .next s.romCheck

/-- The pairs that are not fused. -/
def Module.livePairs (m : Module) : Nat := match m.fusedPair with
  | some k => if k < 16 then 2 ^ 16 - 1 - 2 ^ k else 2 ^ 16 - 1
  | none => 2 ^ 16 - 1

/-- The LOCK bits of pages cleared, because their power domain turns on (R599). -/
def Dev.unlock (d : Dev) (pages : List Nat) : Dev :=
  { d with regs := d.regs.filter (fun (e : Nat × W32) => !(e.1 % 4096 = 0x034 && pages.contains (e.1 / 4096 % 4096))) }

/-- A pair's domain turns on (R252, R358, R534): its initialisation starts and its oscillators acquire lock. -/
def Dev.pairOn (d : Dev) (k : Nat) : Dev :=
  let on (s : Dev) (n : Nat) : Dev := (s.setPav n { Pav.off false with run := .reset }).setOsc n 1 0
  let d1 := ((on (on d (2 * k)) (2 * k + 1)).unlock [pavPage (2 * k), pavPage (2 * k + 1)]).count 0x006 0x108 1
  { d1 with power := { d1.power with
    domains := if bitN d1.power.domains k then d1.power.domains else d1.power.domains + 2 ^ k
    initLeft := if bitN d1.power.initLeft k then d1.power.initLeft else d1.power.initLeft + 2 ^ k } }

/-- A pair's domain turns off. -/
def Dev.pairOff (d : Dev) (k : Nat) : Dev :=
  let off (s : Dev) (n : Nat) : Dev := (s.setPav n (Pav.off (s.modl.fused n))).setOsc n 0 0
  let d1 := off (off d (2 * k)) (2 * k + 1)
  { d1 with power := { d1.power with
    domains := if bitN d1.power.domains k then d1.power.domains - 2 ^ k else d1.power.domains
    initLeft := if bitN d1.power.initLeft k then d1.power.initLeft - 2 ^ k else d1.power.initLeft } }

/-- The fabric's pages, the memory controllers', the host ports' and crypto's. -/
def fabricPages : List Nat := [0x050, 0x051] ++ (List.range 12).map portPage
def memoryPages : List Nat := [0x080] ++ (List.range 16).map mcPage
def hostPages : List Nat := [0x070, 0x071, 0x072, 0x073, 0x090]

/-- The pages whose LOCK bits clear when a domain turns on (R599): the weight tier's page has four quadrants, and turns on with the
first of them. -/
def Dev.wakes (d : Dev) (dom : Nat) : List Nat :=
  if dom = 20 then fabricPages
  else if dom = 21 then memoryPages
  else if dom = 22 then hostPages
  else if inRange (16, 4) dom && bitsN d.power.domains 16 4 = 0 then [0x0A0]
  else []

/-- Another domain turned on: counted, its LOCK bits cleared (R553, R599). -/
def Dev.domainOn (d : Dev) (dom : Nat) : Dev :=
  if bitN d.power.domains dom then d
  else (({ d with power := { d.power with domains := d.power.domains + 2 ^ dom } }).unlock (d.wakes dom)).count 0x006 0x108 1

/-- The fabric's domain turned on: every port of PORT_MAP starts its bring-up (R328). -/
def Dev.fabricOn (d : Dev) : Dev := forEach (bitList d.portMap 12) (d.domainOn 20) (fun s n => s.calibratePort n)

/-- CALIBRATE entered (R613, R614, R621): every domain on, fused pairs apart; pairs initialise, controllers train in full. -/
def Dev.enterCalibrate (d : Dev) : Dev :=
  let d1 := forEach (bitList d.modl.livePairs 16) d (fun s k => s.pairOn k)
  let d2 := forEach (List.range 4) d1 (fun s q => s.domainOn (16 + q))
  let d3 := ((d2.fabricOn).domainOn 21).domainOn 22
  let train (c : MemCtl) : MemCtl := if c.populated then { c with phy := 1, attempts := 0, quick := false } else c
  { d3 with
    memctl := d3.memctl.map train
    power := { d3.power with phase := .calibrate, phaseAt := d3.time.elapsed } }

/-- COMPONENT_VERIFY (R482, R483, R486): stage 1 checks the next component, extends its register and starts it. -/
def State.verifyNext (s : State) : State :=
  let d := s.dev
  let k := d.belv.verified
  let c := s.nv.comp d.belv.slot k
  if !d.powered || d.power.phase ≠ .boot then s
  else if !s.nv.accepts k c then { s with dev := d.slotFails d.belv.slot }
  else
    let mrs := d.belv.mrs
    let d1 := d.mrExtendD (k + 1) 1 c.digest
    let d2 := { d1 with belv := { d1.belv with verified := k + 1, running := d1.belv.running ++ [c] } }
    let cdi := hmac384 (toBytes 48 s.nv.uds) (nthD mrs 0 [] ++ nthD mrs 1 [])
    let d3 := if k ≠ 1 then d2 else { d2 with belv := { d2.belv with
      cdi := false, devKeyLocked := true, alias_ := leNat (hmac384 cdi (nthD d2.belv.mrs 2 [])) } }
    if k + 1 < 8 then { s with dev := d3 }
    else
      let d4 := d3.enterCalibrate
      let onTrial := s.nv.trial && d4.belv.slot = s.nv.activeSlot
      { s with dev := if onTrial then { d4 with belv := { d4.belv with update := 4, confirmSince := d4.time.elapsed } } else d4 }

/-- COMPONENT_VERIFY. -/
def execComponentVerify (s : State) : Host.Outcome State Fault Refusal := .next s.verifyNext

/-- PAIR_INIT_DONE (R252, R472): every word 0 with valid check bits, the CLEARED bit set. -/
def Dev.pairInitDone (d : Dev) (k : Nat) : Dev :=
  if !bitN d.power.initLeft k then d
  else
    let wake (s : Dev) (n : Nat) : Dev := s.onPav n (fun p =>
      { p.cleared with run := if p.run = .reset && s.oscState n = 2 && p.awaits.isEmpty then .idle else p.run })
    let d1 := wake (wake d (2 * k)) (2 * k + 1)
    { d1 with power := { d1.power with initLeft := d1.power.initLeft - 2 ^ k
                                       cleared := if bitN d1.power.cleared k then d1.power.cleared else d1.power.cleared + 2 ^ k } }

/-- PAIR_INIT_DONE. -/
def execPairInitDone (pair : Nat) (s : State) : Host.Outcome State Fault Refusal := onDev (·.pairInitDone pair) s

/-- The transfers that read or write pages of a package fail with DRAM_UNCORR (R265, R619). -/
def Dev.failPackage (d : Dev) (m : Nat) : Dev :=
  let hit (x : Xfer) : Bool := (x.kind = .pageIn || x.kind = .pageOut) && x.pages.any (fun p => p / 2 ^ 20 = m)
  { d with xfers := d.xfers.map (fun (x : Xfer) => if hit x then x.fail 0x08 else x) }

/-- MEMCTL_TRAIN_ATTEMPT_END (R614, R616, R621): all four channels trained, or a further attempt, or FAILED after three; a retraining
that fails gives way to full training. -/
def Dev.trainEnd (d : Dev) (m chanOk ms : Nat) (margins : List W32) : Dev :=
  let c := d.mc m
  if !d.packageOk m || !(c.phy = 1 || c.phy = 5) then d
  else
    let ok := chanOk % 16 = 15
    let c1 := { c with chanOk := chanOk % 16, chanBad := 15 - chanOk % 16, lastMs := ms % 65536, margins := margins.take 4 }
    if c.phy = 5 then d.onMc m (fun _ => if ok then { c1 with phy := 2, quick := false } else { c1 with phy := 1, attempts := 0 })
    else if ok then d.onMc m (fun _ => { c1 with phy := 2, attempts := c.attempts + 1, quick := false })
    else if c.attempts < 2 then d.onMc m (fun _ => { c1 with attempts := c.attempts + 1 })
    else (d.onMc m (fun _ => { c1 with phy := 3, attempts := 3, quick := false })).failPackage m

/-- MEMCTL_TRAIN_ATTEMPT_END. -/
def execMemctlTrainAttemptEnd (m chanOk ms : Nat) (margins : List W32) (s : State) : Host.Outcome State Fault Refusal :=
  onDev (·.trainEnd m chanOk ms margins) s

/-- Is a pair ready for READY (R614): initialised and its oscillators LOCKED, or fenced? -/
def Dev.pairReady (d : Dev) (k : Nat) : Bool :=
  let fenced := (d.pav (2 * k)).run = .fenced && (d.pav (2 * k + 1)).run = .fenced
  (!bitN d.power.initLeft k && d.oscState (2 * k) = 2 && d.oscState (2 * k + 1) = 2) || fenced

/-- The conditions under which CALIBRATE ends (R614). -/
def Dev.readyOk (d : Dev) : Bool :=
  d.power.phase = .calibrate && !d.power.fatal && d.time.locked && !bitN (d.rgN 0x004 0x018 0) 0 && (bitList d.modl.livePairs 16).all d.pairReady &&
    d.memctl.all (fun c => !c.populated || c.phy = 2 || c.phy = 3)

/-- The descriptor of plot 0 at READY (R465, R466): everything the module has, 65,536 system pages. -/
def Dev.wholeDesc (d : Dev) : List W32 :=
  let pkgs := ((List.range 16).filter d.pkgUsable).foldl (fun m n => m + 2 ^ n) 0
  [d.modl.livePairs + 2 ^ 16 * pkgs, 256 * 2 ^ 8, 32768 * 2 ^ 15, 0, 65536, 0, 65536, 1, 262143, 1024 * 2 ^ 10, 2048 * 2 ^ 11, 65536, 0, 0, 0, 0].map
    (BitVec.ofNat 32)

/-- READY_ENTRY (R466, R614): READY_MS at the first READY after power-up; plot 0 assigned unless REST has kept it. -/
def Dev.readyEntry (d : Dev) : Dev :=
  if !d.readyOk then d
  else
    let p := d.power
    let d1 := { d with power := { p with phase := .live, phaseAt := d.time.elapsed, state := 0, everOn := true } }
    let d2 := if p.everOn then d1 else d1.setN 0x000 0x420 0 ((d.time.elapsed - p.goodAt) / ticksMs)
    if (d2.plot 0).st ≠ 0 then d2
    else (d2.assignStart 0 d2.wholeDesc (List.replicate 12 (2 ^ 64 - 1)) (List.replicate 48 0)).assignEnd 0

/-- READY_ENTRY. -/
def execReadyEntry (s : State) : Host.Outcome State Fault Refusal := onDev Dev.readyEntry s

/-! ### Partial resets -/

/-- Counters and ERR_STATUS of a page cleared (R619). -/
def Dev.clearPage (d : Dev) (page : Nat) : Dev :=
  { d with regs := d.regs.filter (fun (e : Nat × W32) =>
      !(e.1 / 4096 % 4096 = page && (e.1 % 4096 = 0x018 || inOff (e.1 % 4096) 0x100 0x3FF))) }

/-- The pages that show a block's reset: both pages of a pair (R598). -/
def resetGroup (page : Nat) : List Nat :=
  if inOff page 0x010 0x02F then [0x010 + (page - 0x010) / 2 * 2, 0x010 + (page - 0x010) / 2 * 2 + 1] else [page]

/-- A pair enters its partial reset (R370, R619): a pavilion of a running group is fenced first; the pavilion stops, its own FIFOs are
cleared and its inbound generations advance; a reset notice goes out on each crossing to another pair; what is on its wires stays, to
be discarded as stale (R371). A side whose own notice this one has not answered waits for the other's ready notice, and so does this one. -/
def Dev.holdPav (d : Dev) (n : Nat) : Dev :=
  if (d.pav n).fused || (d.pav n).run = .off then d
  else
    let d1 := if (d.pav n).run = .running then d.consFPav n true (pavWhere n 0 0) else d
    let sides := outerSides n
    let outer := sides.map (·.1)
    let crossed := sides.filter (fun e => ((d1.pav e.2).hsOpen.find (2 * facing e.1)).isSome)
    let st := if (d1.pav n).run = .fenced then RunState.fenced else .reset
    let d2 := d1.onPav n (fun p => forEach outer { p.stop st with
      wires := p.wires, inGen := forEach outer p.inGen (fun m x => m.put x (m.get x 0 + 1)), awaits := crossed.map (·.1) }
      (fun q x => q.notify (2 * x) d1.time.elapsed))
    let d3 := forEach crossed d2 (fun s e => s.onPav e.2 (fun p => { p.noticeAck (2 * facing e.1) d1.time.elapsed with
      awaits := if p.awaits.contains (facing e.1) then p.awaits else p.awaits ++ [facing e.1] }))
    d3.setOsc n 1 0

/-- A host port enters its partial reset (R619): the connections of its interfaces close, its queue pairs enter ERROR, its MACsec
associations go; the PTP mapping stays. -/
def Dev.holdHport (d : Dev) (n : Nat) : Dev :=
  let mine (i : Nat) : Bool := i / 4 = n
  let cs := (d.conns.filter (fun e => e.2.open_ && mine e.2.iface)).map (·.1)
  let qs := (d.qps.filter (fun e => (e.2.st = 1 || e.2.st = 2 || e.2.st = 3) && mine (bitsN (d.rgN 0x073 0x404 e.1) 4 3))).map (·.1)
  let d1 := forEach cs d (fun s c => s.closeConn c false)
  let d2 := forEach qs d1 (fun s q => s.qpError q)
  d2.onHport n (fun p => { p with up := 0, fec := 0, held := [], pfcSent := 0, paused := 0, sas := [], txAn := [], inReset := true })

/-- A Kiosk partial reset (R439): each context with a step or a commit outstanding resets at its next commit point. -/
def Dev.kioskHold (d : Dev) : Dev :=
  forEach (d.ctxs.map (·.1)) d (fun s c => if s.ctxRuns c || (s.ctx c).ended.isSome then s.onKc c (fun k => { k with resetWanted := true }) else s)

/-- A Gatehouse partial reset (R250): verifications under way are abandoned. -/
def Dev.gateHold (d : Dev) : Dev :=
  forEach ((d.ctxs.filter (fun e => e.2.staged.st = 2)).map (·.1)) d (fun s c => s.dropStaged c)

/-- HOLD written 1 (R598, R619, R620): nothing where the block is already held, or has no partial reset. -/
def Dev.resetHold (d : Dev) (page : Nat) : Dev :=
  if !resetPages.contains page || bitN (d.rgN page 0x030 0) 0 then d
  else
    let d1 := forEach (resetGroup page) d (fun s q => s.setN q 0x030 0 1)
    if inOff page 0x010 0x02F then forEach (resetGroup page) d1 (fun s q => s.holdPav (q - 0x010))
    else if inOff page 0x040 0x04B then
      let n := page - 0x040
      ((({ d1 with ports := setAt d1.ports n { d1.port n with downTick := d1.time.count } } : Dev).portOff n 3).retime).reselectAll
    else if inOff page 0x060 0x06F then
      d1.onMc (page - 0x060) (fun c => if c.populated then { c with phy := if c.phy = 2 then 4 else c.phy, quick := true } else c)
    else if page = 0x070 ∨ page = 0x071 then d1.holdHport (page - 0x070)
    else if page = 0x003 then d1.kioskHold
    else if page = 0x002 then d1.gateHold
    else { d1 with belv := { d1.belv with st := 1, restartSince := d1.time.elapsed } }

/-- RESET_HOLD. -/
def execResetHold (r : Route) (page : Nat) (s : State) : Host.Outcome State Fault Refusal := onReg r page 0x030 1 (·.resetHold page) s

/-- HOLD written 0: where the block was held, its counters and ERR_STATUS clear and its reset runs (R598, R619). -/
def Dev.resetRun (d : Dev) (page : Nat) (f : Dev → Dev) : Dev :=
  if !resetPages.contains page || !bitN (d.rgN page 0x030 0) 0 then d
  else f (forEach (resetGroup page) d (fun s q => (s.clearPage q).setN q 0x030 0 (2 ^ 8)))

/-- PAIR_RESET (R358, R370, R619): its oscillators pass ACQUIRE to LOCKED. -/
def Dev.pairReset (d : Dev) (page : Nat) : Dev := d.resetRun page id
def execPairReset (r : Route) (page : Nat) (s : State) : Host.Outcome State Fault Refusal := onReg r page 0x030 0 (·.pairReset page) s

/-- FPORT_RESET (R356): up again from CALIBRATE. -/
def Dev.fportReset (d : Dev) (n : Nat) : Dev := d.resetRun (portPage n) (fun e => e.when (bitN e.portMap n) (·.calibratePort n))
def execFportReset (r : Route) (port : Nat) (s : State) : Host.Outcome State Fault Refusal :=
  onReg r (portPage port) 0x030 0 (·.fportReset port) s

/-- HPORT_RESET: link and auto-negotiation follow. -/
def Dev.hportReset (d : Dev) (n : Nat) : Dev := d.resetRun (0x070 + n) id
def execHportReset (r : Route) (port : Nat) (s : State) : Host.Outcome State Fault Refusal :=
  onReg r (0x070 + port) 0x030 0 (·.hportReset port) s

/-- MEMCTL_RESET (R619, R621): the PHY retrains from its stored results, or in full where it has none. -/
def Dev.memctlReset (d : Dev) (m : Nat) : Dev :=
  d.resetRun (mcPage m) (·.onMc m (fun c => if !c.populated then c else if c.phy = 4 then { c with phy := 5 } else { c with phy := 1, attempts := 0 }))
def execMemctlReset (r : Route) (m : Nat) (s : State) : Host.Outcome State Fault Refusal := onReg r (mcPage m) 0x030 0 (·.memctlReset m) s

/-- KIOSK_RESET (R439). -/
def Dev.kioskReset (d : Dev) : Dev := d.resetRun 0x003 (·.setN 0x003 0x030 0 0)
def execKioskReset (r : Route) (s : State) : Host.Outcome State Fault Refusal := onReg r 0x003 0x030 0 Dev.kioskReset s

/-- GATEHOUSE_RESET (R250). -/
def Dev.gatehouseReset (d : Dev) : Dev :=
  (if bitN (d.rgN 0x002 0x030 0) 0 then d.gateHold else d).resetRun 0x002 (·.setN 0x002 0x030 0 0)
def execGatehouseReset (r : Route) (s : State) : Host.Outcome State Fault Refusal := onReg r 0x002 0x030 0 Dev.gatehouseReset s

/-! ### Belvedere -/

/-- A restart of the management domain (R545, R546, R551): SPDM and Redfish sessions end, the quarantine counts restart; a third
within 600 s halts. -/
def Dev.belvRestart (d : Dev) (cause : Nat) : Dev :=
  let now := d.time.elapsed
  let recent := d.belv.restarts.filter (fun t => decide (now < t + 600 * ticksS)) ++ [now]
  let halts := decide (3 ≤ recent.length)
  let d1 := { d with
    belv := { d.belv with st := if halts then 2 else 1, cause := cause, restarts := recent, restartTick := d.time.count, restartSince := now }
    rf := [], links := [], log := { d.log with hits := [] } }
  let d2 := forEach (d1.sess.map (·.1)) d1 (fun s n => s.endSession n)
  let d3 := (d2.count 0x001 0x100 1).record 0x001 0 Where.none
  if halts then d3.record 0x001 1 Where.none else d3

/-- BELVEDERE_RESET (R546, R619): the restart that leaves HALTED. -/
def Dev.belvReset (d : Dev) : Dev := d.resetRun 0x001 (fun e => ({ e with belv := { e.belv with restarts := [] } }).belvRestart 4)
def execBelvedereReset (r : Route) (s : State) : Host.Outcome State Fault Refusal := onReg r 0x001 0x030 0 Dev.belvReset s

/-- BELVEDERE_RESTART: RESTART_CMD, which does not leave HALTED (R546). -/
def execBelvedereRestart (r : Route) (s : State) : Host.Outcome State Fault Refusal :=
  onReg r 0x001 0x408 1 (fun d => d.when (d.belv.st = 0) (·.belvRestart 4)) s

/-- BELVEDERE_SRAM_ECC (R545): outside the log a restart; inside it the log is cleared, and a LOST entry comes first. -/
def Dev.sramEcc (d : Dev) (inLog : Bool) : Dev :=
  if !inLog then d.when (d.belv.st = 0) (·.belvRestart 2)
  else
    let d1 := d.logClear
    let lost := { d1.faultEntry 0x009 0 .none false Where.none with typ := 3, bit := 0 }
    { d1 with log := { d1.log with queue := lost :: d1.log.queue.take 255 } }

/-- BELVEDERE_SRAM_ECC. -/
def execBelvedereSramEcc (inLog : Bool) (s : State) : Host.Outcome State Fault Refusal := onDev (·.sramEcc inLog) s

/-! ### Updates -/

/-- The flash descriptor written (R481): over the copy with the lower sequence number. -/
def NonVol.writeDesc (nv : NonVol) (slot : Nat) (trial : Bool) : NonVol :=
  let top := (nv.descriptor.map (·.seq)).getD 0
  let i := if (nthD nv.desc 0 ⟨false, 0, 0, false⟩).valid && (nthD nv.desc 0 ⟨false, 0, 0, false⟩).seq = top then 1 else 0
  { nv with desc := setAt nv.desc i ⟨true, top + 1, slot, trial⟩ }

/-- What the activation of a component does beyond its measurement (R549): Gatehouse firmware resets the Gatehouse with
no verification lost, Kiosk microcode the
Kiosk, the PHY shells retrain each controller, the fabric shells take each port through OFF and a full bring-up (R330). The other shells pause
service and change nothing else. -/
def Dev.activateBlock (d : Dev) (k : Nat) : Dev :=
  if k = 2 then d.clearPage 0x002
  else if k = 3 then (d.kioskHold).clearPage 0x003
  else if k = 6 then { d with memctl := d.memctl.map (fun (c : MemCtl) => if c.populated && c.phy = 2 then { c with phy := 5, quick := true } else c) }
  else if k = 4 then (forEach (bitList d.portMap 12) d (fun s n => s.when ((s.port n).st ≠ .off) (fun e => (e.portOff n 0).calibratePort n))).retime
  else d

/-- A component of the target slot activated: it runs, its register is extended (R485, R549). -/
def State.activateComp (s : State) (k : Nat) : State :=
  let c := s.nv.comp s.dev.belv.target k
  let d1 := (s.dev.activateBlock k).mrExtendD (k + 1) 1 c.digest
  { s with dev := ({ d1 with belv := { d1.belv with running := setAt d1.belv.running k c } }).count 0x001 0x10C 1 }

/-- The components still to activate, Belvedere's own already restarted: then the update is on trial, or over (R549, R550). -/
def State.activateRest (s : State) : State :=
  let s1 := forEach s.dev.belv.todo s State.activateComp
  let b := s1.dev.belv
  { s1 with dev := { s1.dev with belv := { b with
    todo := [], activating := 0, slot := b.target, update := if s1.nv.trial then 4 else 0, confirmSince := s1.dev.time.elapsed } } }

/-- The activation sequence of a slot (R549): each component whose digest differs from the running one, in ascending order; components
0 and 1 by a restart, after which the others follow. -/
def State.activateSlot (s : State) (slot : Nat) : State :=
  let b := s.dev.belv
  let todo := (List.range 8).filter (fun k => (s.nv.comp slot k).digest ≠ (nthD b.running k ⟨[], 0, 0, false⟩).digest)
  let s1 := { s with dev := { s.dev with belv := { b with
    update := 3, target := slot, todo := todo, activating := todo.foldl (fun m k => m + 2 ^ k) 0 } } }
  if todo.contains 0 || todo.contains 1 then { s1 with dev := { (s1.dev.belvRestart 3) with belv := { (s1.dev.belvRestart 3).belv with slot := slot } } }
  else s1.activateRest

/-- A revert (R550): the old slot reactivated by the same sequence. -/
def State.revert (s : State) : State :=
  let old := 1 - s.dev.belv.slot
  ({ s with nv := s.nv.writeDesc old false, dev := s.dev.record 0x001 3 Where.none }).activateSlot old

/-- BELVEDERE_WATCHDOG (R545, R550): a restart; on trial, the update is reverted. -/
def State.watchdog (s : State) : State :=
  if !s.dev.powered || s.dev.belv.st ≠ 0 then s
  else
    let s1 := { s with dev := s.dev.belvRestart 1 }
    if s.dev.belv.update ≠ 4 then s1
    else
      let old := 1 - s.dev.belv.slot
      let b := s1.dev.belv
      let todo := (List.range 8).filter (fun k => (s.nv.comp old k).digest ≠ (nthD b.running k ⟨[], 0, 0, false⟩).digest)
      { s1 with
        nv := s1.nv.writeDesc old false
        dev := { (s1.dev.record 0x001 3 Where.none) with belv := { b with
          update := 3, target := old, slot := old, todo := todo, activating := todo.foldl (fun m k => m + 2 ^ k) 0 } } }

/-- BELVEDERE_WATCHDOG. -/
def execBelvedereWatchdog (s : State) : Host.Outcome State Fault Refusal := .next s.watchdog

/-- BELVEDERE_RESTART_DONE (R545): the runtime reloaded and checked, MR2 extended; an activation under way goes on. A runtime that fails
its check leaves Belvedere HALTED (DESIGN CHOICE, log entry 54). -/
def State.restartDone (s : State) (ok : Bool) : State :=
  let d := s.dev
  if !d.powered || d.belv.st ≠ 1 || bitN (d.rgN 0x001 0x030 0) 0 then s
  else if !ok then { s with dev := ({ d with belv := { d.belv with st := 2 } }).record 0x001 1 Where.none }
  else
    let c := s.nv.comp d.belv.slot 1
    if d.belv.update ≠ 3 then
      let d1 := d.mrExtendD 2 1 c.digest
      { s with dev := ({ d1 with belv := { d1.belv with st := 0 } }).setN 0x001 0x030 0 0 }
    else
      let s1 := { s with dev := ({ d with belv := { d.belv with st := 0 } }).setN 0x001 0x030 0 0 }
      let s2 := if d.belv.todo.contains 1 then s1 else { s1 with dev := s1.dev.mrExtendD 2 1 c.digest }
      s2.activateRest

/-- BELVEDERE_RESTART_DONE. -/
def execBelvedereRestartDone (ok : Bool) (s : State) : Host.Outcome State Fault Refusal := .next (s.restartDone ok)

/-- SLOT_IMAGE_WRITE (R549): a complete image written into the slot that does not run, and every component checked. -/
def State.slotWrite (s : State) (img : SlotImg) : State :=
  let b := s.dev.belv
  if b.st ≠ 0 || b.update = 3 || b.update = 4 then s
  else
    let nv := { s.nv with slots := setAt s.nv.slots (1 - b.slot) img }
    let ok := img.complete && img.comps.length = 8 && (List.range 8).all (fun k => nv.accepts k (nv.comp (1 - b.slot) k))
    let d1 := { s.dev with belv := { b with update := if ok then 2 else 5 } }
    { s with nv := nv, dev := if ok then d1 else d1.record 0x001 2 Where.none }

/-- SLOT_IMAGE_WRITE: over a route that holds UPDATE. -/
def execSlotImageWrite (r : Route) (img : SlotImg) (s : State) : Host.Outcome State Fault Refusal :=
  .next (if !s.dev.powered || !s.dev.mgmtUp then s
    else if (s.rights r).update then s.slotWrite img
    else { s with dev := s.dev.refuse 0 0 1 false })

/-- UPDATE_CMD ACTIVATE (R549): from VERIFIED only. -/
def State.updateActivate (s : State) : State :=
  let t := 1 - s.dev.belv.slot
  if s.dev.belv.update ≠ 2 then s else ({ s with nv := s.nv.writeDesc t true }).activateSlot t
def execUpdateActivate (r : Route) (s : State) : Host.Outcome State Fault Refusal := .next (s.regCmd r 0x001 0x420 1 State.updateActivate)

/-- UPDATE_CMD CONFIRM (R550): the trial flag cleared. -/
def State.updateConfirm (s : State) : State :=
  if s.dev.belv.update ≠ 4 then s
  else { s with nv := s.nv.writeDesc s.dev.belv.slot false, dev := { s.dev with belv := { s.dev.belv with update := 0 } } }
def execUpdateConfirm (r : Route) (s : State) : Host.Outcome State Fault Refusal := .next (s.regCmd r 0x001 0x420 2 State.updateConfirm)

/-- UPDATE_CMD REVERT (R550). -/
def State.updateRevert (s : State) : State := if s.dev.belv.update ≠ 4 then s else s.revert
def execUpdateRevert (r : Route) (s : State) : Host.Outcome State Fault Refusal := .next (s.regCmd r 0x001 0x420 4 State.updateRevert)

/-- CONFIRM_WINDOW_EXPIRY (R550). -/
def State.confirmExpiry (s : State) : State :=
  let d := s.dev
  if !d.powered || d.belv.update ≠ 4 || decide (d.time.elapsed < d.belv.confirmSince + ticksS * d.rgN 0x001 0x424 0 + s.tie) then s else s.revert
def execConfirmWindowExpiry (s : State) : Host.Outcome State Fault Refusal := .next s.confirmExpiry

/-! ### Domains and REST -/

/-- A refused domain or REST command (R534, R535, R552). -/
def Dev.domainRefused (d : Dev) (code : Nat) : Dev := (d.setN 0x006 0x424 0 code).record 0x006 5 Where.none

/-- Does a plot hold a pair? -/
def Dev.pairHeld (d : Dev) (k : Nat) : Bool := (List.range 16).any (fun p => ((d.plot p).st ≠ 0 || (d.plot p).assigning) && bitN (d.plot p).pairs k)

/-- May a domain turn OFF (R534)? -/
def Dev.mayTurnOff (d : Dev) (dom : Nat) : Bool :=
  if dom < 16 then d.modl.fused (2 * dom) || !d.pairHeld dom
  else if dom < 20 then (List.range 4).all (fun j => !bitN d.power.domains (4 * (dom - 16) + j))
  else if dom = 20 then d.ports.all (fun p => p.st = .off || p.st = .drained) && d.systemSize = 1
  else false

/-- May a domain turn ON? A fused pair stays off, and a pair needs the quadrant above it (DEDUCED from R534, log entry 55). -/
def Dev.mayTurnOn (d : Dev) (dom : Nat) : Bool :=
  if dom < 16 then !d.modl.fused (2 * dom) && bitN d.power.domains (16 + dom / 4) else true

/-- DOMAIN_CMD ON. -/
def Dev.turnOn (d : Dev) (dom : Nat) : Dev :=
  if 24 ≤ dom then d.domainRefused 2
  else if d.power.phase ≠ .live || !d.mayTurnOn dom then d.domainRefused 1
  else
    let d1 := d.setN 0x006 0x424 0 0
    if bitN d1.power.domains dom then d1
    else if dom < 16 then d1.pairOn dom
    else if dom = 20 then d1.fabricOn
    else d1.domainOn dom
def execDomainCmdOn (r : Route) (dom : Nat) (s : State) : Host.Outcome State Fault Refusal :=
  onReg r 0x006 0x420 (dom % 32 + 32) (·.turnOn (dom % 32)) s

/-- The fabric's domain off: its ports OFF, the router at its reset. -/
def Dev.fabricOff (d : Dev) : Dev :=
  { d with ports := List.replicate 12 Port.off, router := Router.reset
           power := { d.power with domains := if bitN d.power.domains 20 then d.power.domains - 2 ^ 20 else d.power.domains } }

/-- DOMAIN_CMD OFF. -/
def Dev.turnOff (d : Dev) (dom : Nat) : Dev :=
  if 24 ≤ dom then d.domainRefused 2
  else if d.power.phase ≠ .live || !d.mayTurnOff dom then d.domainRefused 1
  else
    let d1 := d.setN 0x006 0x424 0 0
    if !bitN d1.power.domains dom then d1
    else if dom < 16 then d1.pairOff dom
    else if dom = 20 then d1.fabricOff
    else { d1 with power := { d1.power with domains := d1.power.domains - 2 ^ dom } }
def execDomainCmdOff (r : Route) (dom : Nat) (s : State) : Host.Outcome State Fault Refusal :=
  onReg r 0x006 0x420 (dom % 32 + 64) (·.turnOff (dom % 32)) s

/-- REST_CMD ENTER (R535): domains 0 to 20 and 22 off, LPDDR5X in self-refresh; what lies in the domains that turn off is lost (log entry
56 says what the model keeps). -/
def Dev.restEnter (d : Dev) : Dev :=
  if d.power.phase ≠ .live || d.anyBundle || (List.range 16).any (fun p => p ≠ 0 && (d.plot p).st = 1) then d.domainRefused 1
  else
    let d1 := forEach (List.range 16) (d.setN 0x006 0x424 0 0) (fun s k => s.pairOff k)
    let d2 := ((d1.fabricOff).holdHport 0).holdHport 1
    let sleep (c : MemCtl) : MemCtl := if c.populated && c.phy ≠ 3 then { c with phy := 4, quick := false } else c
    { d2 with
      hports := d2.hports.map (fun (h : HPort) => { h with inReset := false })
      xfers := [], arrivals := [], unconf := [], inject := [], eject := [], trackers := []
      regions := d2.regions.map (fun (e : Nat × Region) => (e.1, { e.2 with st := 0, refs := 0 }))
      memctl := d2.memctl.map sleep
      power := { d2.power with phase := .rest, phaseAt := d2.time.elapsed, state := 2, domains := 2 ^ 21 + 2 ^ 23 } }
def execRestEnter (r : Route) (s : State) : Host.Outcome State Fault Refusal := onReg r 0x006 0x428 1 Dev.restEnter s

/-- REST_CMD EXIT (R535, R613): through CALIBRATE to READY. -/
def Dev.restExit (d : Dev) : Dev :=
  if d.power.phase ≠ .rest then d.domainRefused 1
  else
    let d1 := (d.setN 0x006 0x424 0 0).enterCalibrate
    { d1 with power := { d1.power with state := 3 } }
def execRestExit (r : Route) (s : State) : Host.Outcome State Fault Refusal := onReg r 0x006 0x428 2 Dev.restExit s

/-! ### Throttling, supply and heat -/

/-- Sensors and their limits in sixteenths of a degree (R542, R543). -/
def sensorOk (t : Int) : Bool := decide (-640 ≤ t) && decide (t ≤ 2400)

/-- The sensors a module has: those of packages it does not populate are absent (R551). -/
def Module.sensors (m : Module) : Nat :=
  (List.range 48).foldl (fun v k => if 40 ≤ k ∧ k < 44 ∧ !m.populated (4 * (k - 40)) then v else v + 2 ^ k) 0

/-- Is a sensor valid? -/
def Dev.sensorValid (d : Dev) (k : Nat) : Bool := bitN d.modl.sensors k && !bitN d.power.invalid k

/-- The hottest valid sensor and its index (R539, R551); none where no valid sensor has been read. -/
def Dev.hottest (d : Dev) : Option (Nat × Int) :=
  (d.power.temps.filter (fun e => d.sensorValid e.1)).foldl (fun (b : Option (Nat × Int)) e => match b with
    | none => some e
    | some m => if m.2 < e.2 then some e else some m) none

/-- Both sensors of a reticle field's row of pavilions, at columns 0 and 7, are invalid (R543). -/
def Dev.rowBlind (d : Dev) : Bool := (List.range 4).any (fun r => bitN d.power.invalid (8 * r) && bitN d.power.invalid (8 * r + 7))

/-- The thermal hold set; THROTTLE_ACTIVE when it becomes non-zero (R552). -/
def Dev.setHt (d : Dev) (h : Nat) : Dev :=
  let d1 := { d with power := { d.power with ht := h } }
  if d.power.ht = 0 ∧ h ≠ 0 then d1.record 0x007 0 Where.none else d1

/-- A sensor marked invalid (R543). -/
def Dev.markInvalid (d : Dev) (k : Nat) : Dev :=
  if !d.sensorValid k then d
  else
    let d1 := { d with power := { d.power with invalid := d.power.invalid + 2 ^ k } }
    let d2 := d1.raise 0x007 2 ⟨none, none, k, 0, 0⟩
    if d2.rowBlind then d2.setHt 1024 else d2

/-- A reading of a sensor: out of bounds it is marked invalid; an invalid sensor is left out until it recovers. -/
def Dev.sense (d : Dev) (k : Nat) (t : Int) : Dev :=
  if !d.sensorValid k then d
  else if !sensorOk t then d.markInvalid k
  else { d with power := { d.power with temps := d.power.temps.put k t } }

/-- The cap in force in W (R539). -/
def Dev.capW (d : Dev) : Nat := if d.power.win.capped then d.power.win.capW else 250 + 25 * (d.rgN 0x006 0x400 0 % 16)

/-- The thermal hold at the end of a window (R539, R543). -/
def Dev.thermalHold (d : Dev) : Nat :=
  let ht := d.power.ht
  let lim : Int := 16 * d.power.win.throttleC
  if d.rowBlind then 1024
  else match d.hottest with
    | none => ht
    | some (_, t) =>
      if 1680 ≤ t then 1024 else if lim ≤ t then min 1024 (ht + 32) else if t < lim - 48 then ht - 8 else ht

/-- OVER_MAX (R542): entries into 105 degrees C or above. -/
def Dev.overMax (d : Dev) : Dev :=
  let hot := match d.hottest with
    | some (_, t) => decide (1680 ≤ t)
    | none => false
  let d1 := { d with power := { d.power with overMax := hot } }
  if hot && !d.power.overMax then (d1.count 0x007 0x104 1).raise 0x007 1 ⟨none, none, ((d1.hottest).map (·.1)).getD 0, 0, 0⟩ else d1

/-- POWER_WINDOW (R539 to R542): the end of a window of 10,000 ticks, with its average input power in mW and the sensors read. The
settings written since it began take effect from now on. -/
def Dev.powerWindow (d : Dev) (mw : Nat) (temps : List (Nat × Int)) : Dev :=
  let d0 := (forEach temps d (fun s e => s.sense e.1 e.2)).overMax
  let p := d0.power
  let cap := 1000 * d0.capW
  let hp := if cap < mw then min 1024 (p.hp + 32) else if mw + 5000 < cap then p.hp - 8 else p.hp
  let ht := d0.thermalHold
  let hc := if p.warned || p.inputBad then 1024 else 0
  let h := max hp (max ht hc)
  let run := if h = 1024 then p.capRun + 1 else 0
  let k := d0.draw
  let on := bitList p.domains 24
  let meas (s : SMap (Nat × Nat)) (n : Nat) : SMap (Nat × Nat) :=
    let v := (Config.measured 0x006 (0x440 + 4 * n) k.1).toNat
    s.put n (v % 65536, v / 65536)
  let d1 := (k.2).setHt ht
  let d2 := { d1 with power := { d1.power with
    hp := hp, hc := hc, capRun := run, warned := false, inputPower := min 65535 (mw / 100)
    domPower := forEach on d1.power.domPower meas
    win := ⟨bitN (d1.rgN 0x006 0x404 0) 0, bitsN (d1.rgN 0x006 0x408 0) 0 10, bitsN (d1.rgN 0x007 0x404 0) 0 8⟩ } }
  let d3 := (d2.count 0x006 0x100 (if h = 0 then 0 else 1)).count 0x007 0x100 (if ht = 0 then 0 else 1)
  if 100 ≤ run ∧ cap < mw then d3.raise 0x006 3 Where.none else d3

/-- POWER_WINDOW. -/
def execPowerWindow (power : Nat) (temps : List (Nat × Int)) (s : State) : Host.Outcome State Fault Refusal := onDev (·.onHold (·.powerWindow power temps)) s

/-- CURRENT_WARNING (R540): the current hold at 1,024 from the next barrier release. -/
def Dev.currentWarning (d : Dev) (dom : Nat) : Dev :=
  if !bitN d.power.domains dom then d
  else (({ d with power := { d.power with warned := true, hc := 1024 } }).count 0x006 0x104 1).raise 0x006 4 ⟨none, none, dom, 0, 0⟩
def execCurrentWarning (dom : Nat) (s : State) : Host.Outcome State Fault Refusal := onDev (·.onHold (·.currentWarning dom)) s

/-- INPUT_RANGE (R542): below 40 V or above 60 V for 1 ms. -/
def Dev.inputRange (d : Dev) (mv : Nat) : Dev :=
  if inOff mv 40000 60000 || d.power.inputBad then d
  else ({ d with power := { d.power with inputBad := true, hc := 1024, inputVolt := mv % 65536 } }).raise 0x006 0 Where.none
def execInputRange (mv : Nat) (s : State) : Host.Outcome State Fault Refusal := onDev (·.onHold (·.inputRange mv)) s

/-- INPUT_RANGE_END (R542). -/
def Dev.inputRangeEnd (d : Dev) (mv : Nat) : Dev :=
  if !inOff mv 40000 60000 || !d.power.inputBad then d
  else { d with power := { d.power with inputBad := false, hc := if d.power.warned then 1024 else 0, inputVolt := mv } }
def execInputRangeEnd (mv : Nat) (s : State) : Host.Outcome State Fault Refusal := onDev (·.onHold (·.inputRangeEnd mv)) s

/-- A domain's voltage as measured at a fault. -/
def Dev.domVolt (d : Dev) (dom mv : Nat) : Dev :=
  { d with power := { d.power with domPower := d.power.domPower.put dom ((d.power.domPower.get dom (0, 0)).1, mv % 65536) } }

/-- PAIR_SUPPLY_FAULT (R542): class F, both pavilions of the pair fenced. -/
def Dev.pairSupply (d : Dev) (pair mv : Nat) : Dev :=
  if !bitN d.power.domains pair || decide (16 ≤ pair) then d
  else
    let w (n : Nat) : Where := pavWhere n 0 0
    let d1 := (d.domVolt pair mv).recordB 0x006 0 1 .f false (w (2 * pair))
    (d1.consFPav (2 * pair) true (w (2 * pair))).consFPav (2 * pair + 1) true (w (2 * pair + 1))
def execPairSupplyFault (pair mv : Nat) (s : State) : Host.Outcome State Fault Refusal := onDev (·.pairSupply pair mv) s

/-- DOMAIN_SUPPLY_FAULT (R542): class X. -/
def Dev.domainSupply (d : Dev) (dom mv : Nat) : Dev :=
  if !bitN d.power.domains dom || decide (dom < 16) then d else (d.domVolt dom mv).raise 0x006 2 ⟨none, none, dom, 0, 0⟩
def execDomainSupplyFault (dom mv : Nat) (s : State) : Host.Outcome State Fault Refusal := onDev (·.domainSupply dom mv) s

/-- THERM_TRIP (R542, R543): THERM_TRIP_N asserted, every pavilion stops. -/
def Dev.thermTrip (d : Dev) (sensor : Nat) (temp : Int) : Dev :=
  if !d.sensorValid sensor || !sensorOk temp || decide (temp < 1840) then d
  else
    let d1 := (d.sense sensor temp).overMax
    { d1 with power := { d1.power with tripped := true }, pavs := d1.pavs.map Pav.stopIdle }
def execThermTrip (sensor : Nat) (temp : Int) (s : State) : Host.Outcome State Fault Refusal := onDev (·.onHold (·.thermTrip sensor temp)) s

/-- SENSOR_INVALID. -/
def execSensorInvalid (k : Nat) (temp : Int) (s : State) : Host.Outcome State Fault Refusal :=
  onDev (fun d => d.when (!sensorOk temp) (·.onHold (·.markInvalid k))) s

/-- SENSOR_RECOVERY (R543). -/
def Dev.sensorRecovery (d : Dev) (k : Nat) (temp : Int) : Dev :=
  if !sensorOk temp || !bitN d.power.invalid k then d
  else ({ d with power := { d.power with invalid := d.power.invalid - 2 ^ k } }).sense k temp
def execSensorRecovery (k : Nat) (temp : Int) (s : State) : Host.Outcome State Fault Refusal := onDev (·.onHold (·.sensorRecovery k temp)) s

end Sys2Proof.Machine
end

