-- ==== Sys2Proof/Machine/Views.lean ====
section
/-! DEFINITION. What each register of the window reads as: the stored registers, and those that show the state of their block (R35, R36, R90 to R95, R246, R282, R320, R353 to R355, R386, R389, R435, R462, R495, R526, R551, R579, R594, R601, R605, R607, R620, R621). -/
namespace Sys2Proof.Machine

/-- One half of a 64-bit value: the low word at `lo`, the high word above it. -/
def half (lo off v : Nat) : Nat := if off = lo then v % 2 ^ 32 else v / 2 ^ 32 % 2 ^ 32

/-- A truth value as a bit at a position. -/
def bitAt (b : Bool) (k : Nat) : Nat := if b then 2 ^ k else 0

/-- The word of a list of bytes at an offset from its first register. -/
def wordOf (bs : List Byte) (k : Nat) : Nat := leNat ((bs.drop k).take 4)

/-- A bit map of the numbers below `n` that satisfy a predicate. -/
def mapOf (n : Nat) (f : Nat → Bool) : Nat := ((List.range n).filter f).foldl (fun v k => v + 2 ^ k) 0

/-! ### Codes -/

def RunState.code : RunState → Nat
  | .off => 0 | .reset => 1 | .idle => 2 | .running => 3 | .fenced => 4
def LinkState.code : LinkState → Nat
  | .off => 0 | .calibrate => 1 | .train => 2 | .init => 3 | .up => 4 | .held => 5 | .down => 6 | .draining => 7 | .drained => 8 | .failed => 9
def SeqSt.code : SeqSt → Nat
  | .free => 0 | .queued => 1 | .running => 2 | .parked => 3 | .resuming => 4
def ShardSt.code : ShardSt → Nat
  | .empty => 0 | .expected => 1 | .writing => 2 | .done => 3 | .failed => 4 | .mismatch => 5
def JobSt.code : JobSt → Nat
  | .free => 0 | .queued => 1 | .reading => 2 | .done => 3 | .failed => 4

/-! ### Common registers -/

/-- The domain that powers a page's block (R534). The weight tier's page answers while a quadrant is ON. -/
def Dev.pageOn (d : Dev) (page : Nat) : Bool :=
  let on (k : Nat) : Bool := bitN d.power.domains k
  if inOff page 0x010 0x02F then on ((page - 0x010) / 2)
  else if fabricPages.contains page then on 20
  else if memoryPages.contains page then on 21
  else if hostPages.contains page then on 22
  else if page = 0x0A0 then on 16 || on 17 || on 18 || on 19
  else on 23

/-- Does a page hold a bit set in both INT_STATUS and INT_ENABLE (R596, R601)? -/
def Dev.pageAlerts (d : Dev) (page : Nat) : Bool :=
  d.regs.any (fun e => e.1 % 4096 = 0x028 && e.1 / 4096 % 4096 = page &&
    (e.2.toNat &&& d.rgN page 0x02C (e.1 / 4096 / 4096)) ≠ 0)

/-- The common registers that the block's state shows (R594, R597, R598, R630). -/
def Dev.viewCommon (d : Dev) (page off bank : Nat) : Option Nat :=
  let block := (blockOf page).getD 0
  match off with
  | 0x000 => some (page + 2 ^ 16 * block + 2 ^ 24 * (page - block))
  | 0x004 => some (256 + 2 ^ 16 * ((Config.measured block 0x004 0).toNat % 65536))
  | 0x008 => some (bitAt (resetPages.contains page) 0 + bitAt (page ≠ 0x00A) 1 + bitAt (page ≠ 0x00A) 2)
  | 0x014 =>
    let held := d.shownReset page
    some (bitAt (d.pageOn page && !held) 0 + bitAt held 1 + bitAt (d.pageOn page) 2 + bitAt (decide (d.rgN page 0x034 bank ≠ 0)) 3)
  | 0x030 => some (d.rgN page 0x030 0 % 2 + bitAt (resetPages.contains page && d.shownReset page) 8)
  | _ => none

/-! ### The pages -/

/-- DEVICE (R526, R601). -/
def Dev.viewDevice (d : Dev) (off : Nat) : Option Nat :=
  match off with
  | 0x400 => some d.devState
  | 0x404 => some (d.modl.code + 16 * (if d.modl.stepB then 2 else 1) + 256 * d.modl.revision)
  | 0x408 | 0x40C => some (half 0x408 off d.modl.serial.toNat)
  | 0x410 => some d.role
  | 0x428 =>
    let group (lo n k : Nat) : Nat := bitAt ((List.range n).any (fun j => d.pageAlerts (lo + j))) k
    let flat : List Nat := [0x000, 0x001, 0x002, 0x003, 0x004, 0x005, 0x006, 0x007, 0x008, 0x009, 0x00A, 0x050, 0x051, 0x072, 0x073, 0x080, 0x090, 0x0A0]
    some (((List.range 18).zip flat).foldl (fun v e => v + bitAt (d.pageAlerts e.2) e.1) 0 +
      group 0x010 32 18 + group 0x040 12 19 + group 0x060 16 20 + group 0x070 2 21)
  | 0x42C => some (mapOf 32 (fun n => d.pageAlerts (pavPage n)))
  | 0x430 => some (mapOf 12 (fun n => d.pageAlerts (portPage n)) + 2 ^ 12 * mapOf 16 (fun n => d.pageAlerts (mcPage n)) +
      2 ^ 28 * mapOf 2 (fun n => d.pageAlerts (0x070 + n)))
  | 0x82C => some (d.rgN 0x000 0x82C 0 % 2 ^ 24 + bitAt d.recov.following 24)
  | 0x844 => some d.recov.canaryStat
  | _ => none

/-- BELVEDERE (R551). LOAD is a measured value. -/
def Dev.viewBelv (d : Dev) (off : Nat) : Option Nat :=
  match off with
  | 0x400 => some (d.belv.st + 256 * d.belv.cause)
  | 0x40C | 0x410 => some (half 0x40C off d.belv.restartTick.toNat)
  | 0x414 => some d.belv.load
  | 0x41C => some (d.belv.update + 8 * d.belv.activating)
  | _ => none

/-- GATEHOUSE (R246), of the selected context. -/
def Dev.viewGate (d : Dev) (off c : Nat) : Option Nat :=
  let x := d.ctx c
  match off with
  | 0x404 | 0x408 => some (half 0x404 off d.configId)
  | 0x414 => some (x.staged.st + bitAt x.active.isSome 4)
  | 0x418 => some x.rejectCode
  | 0x41C => some x.rejectWhere
  | 0x420 => some x.rejectCycle
  | 0x424 => some (x.set % 64)
  | 0x42C => some (bitAt x.paramReady 0)
  | _ => none

/-- The 64 bytes of a sequence table entry (R392). -/
def SeqEntry.bytes (e : SeqEntry) : List Byte :=
  toBytes 1 e.st.code ++ toBytes 1 e.gen ++ toBytes 1 e.ctx ++
    toBytes 1 (bitAt e.cancelPending 0 + bitAt e.parkPending 1 + bitAt e.tree 2 + bitAt e.heldBudget 3) ++
    toBytes 2 e.account ++ toBytes 2 e.outRing ++ toBytes 8 e.seed ++ toBytes 8 e.deadline ++ toBytes 4 e.position ++ toBytes 4 e.tokensOut ++
    toBytes 4 e.promptLeft ++ toBytes 4 e.maxNew ++ toBytes 8 e.promptAddr ++ toBytes 3 e.head ++ toBytes 3 e.tail ++ toBytes 1 e.retries ++ [0] ++
    toBytes 4 e.reservedPages ++ toBytes 4 e.nextToken

/-- CTX_STATE (R435). -/
def Dev.kioskState (d : Dev) (c : Nat) : Nat :=
  let held := (d.kc c).outFull.isSome
  (if !d.serves c then 0 else if d.ctxRuns c then 2 else if held then 3 else 1) + bitAt held 4 + bitAt (d.compacting c) 5

/-- KIOSK (R435): context, sequence index, account and ring are the selected ones. -/
def Dev.viewKiosk (d : Dev) (off c i a g : Nat) : Option Nat :=
  let x := d.acct a
  match off with
  | 0x408 => some (d.kioskState c)
  | 0x434 => some (d.sliceTicks c).1
  | 0x438 => some (d.sliceTicks c).2
  | 0x450 => some (d.pagesFree (d.ctx c).plot)
  | 0x454 => some (d.pagesReserved (d.ctx c).plot)
  | 0x458 => some (d.pages.filter (fun e => e.2.st = 2 && (d.seq (e.2.seq % 2 ^ 18)).ctx = c && e.2.seq % 2 ^ 18 ≠ 0)).length
  | 0x4C4 => some x.rate
  | 0x4C8 => some x.burst
  | 0x4CC | 0x4D0 => some (half 0x4CC off (patternN 64 x.level))
  | 0x4D4 => some (x.weight + 256 * x.plot + bitAt x.valid 12)
  | 0x4D8 => some (x.promptCost + 2 ^ 16 * x.genCost)
  | 0x4DC | 0x4E0 => some (half 0x4DC off x.service)
  | 0x510 => some (d.ring g).prod
  | 0x514 => some (d.ring g).cons
  | _ => if inOff off 0x474 0x4B0 then some (wordOf (d.seq i).bytes (off - 0x474)) else none

/-- TIME (R386). -/
def Dev.viewTime (d : Dev) (off : Nat) : Option Nat :=
  let t := d.time
  match off with
  | 0x400 | 0x404 => some (half 0x400 off t.count.toNat)
  | 0x408 => some (t.sync + bitAt d.isManager 2 + bitAt t.holdover 3 + 16 * t.upstream.getD 0 + bitAt t.upstream.isSome 8)
  | 0x40C => some (patternN 32 t.offset)
  | 0x410 => some (patternN 32 t.rate)
  | 0x42C => some (t.launch + bitAt t.launchLate 2 + 256 * t.launchCtx)
  | 0x430 | 0x434 => some (half 0x430 off t.launchTick.toNat)
  | _ => if inOff off 0x440 0x46C then
      some (match (d.port ((off - 0x440) / 4)).linkDelay with
        | some v => v % 2 ^ 20 + 2 ^ 31
        | none => 0)
    else none

/-- STEP of a plot (R35). -/
def Dev.viewStep (d : Dev) (off p : Nat) : Option Nat :=
  let sc := d.stepShown p
  match off with
  | 0x400 | 0x404 => some (half 0x400 off (d.stepsDone p).toNat)
  | 0x408 | 0x40C => some (half 0x408 off sc.start.toNat)
  | 0x410 | 0x414 => some (half 0x410 off sc.endTick.toNat)
  | 0x418 => some sc.variant
  | 0x41C => some sc.deadline
  | 0x420 => some sc.lastDur
  | 0x424 => some sc.lastRes.toNat
  | 0x428 => some (if sc.running then sc.group else if (d.runningCtx p).isNone then 0 else (d.groupOf p).foldl (fun m n => m + 2 ^ n) 0)
  | _ => none

/-- POWER (R551). -/
def Dev.viewPower (d : Dev) (off : Nat) : Option Nat :=
  let p := d.power
  let h := d.hold
  let shows (v k : Nat) : Nat := bitAt (decide (v ≠ 0) && decide (v = h)) k
  match off with
  | 0x40C => some (h + shows p.hp 12 + shows p.ht 13 + shows p.hc 14)
  | 0x410 => some p.inputPower
  | 0x414 => some p.inputVolt
  | 0x418 => some d.ledgerLimit
  | 0x41C => some p.domains
  | 0x42C => some p.state
  | _ => if inOff off 0x440 0x49C then
      let e := p.domPower.get ((off - 0x440) / 4) (0, 0)
      some (e.1 + 2 ^ 16 * e.2)
    else none

/-- THERMAL (R551). -/
def Dev.viewThermal (d : Dev) (off : Nat) : Option Nat :=
  match off with
  | 0x400 => some (match d.hottest with
    | some (k, t) => patternN 16 t + 2 ^ 16 * k
    | none => 0)
  | 0x408 | 0x40C => some (half 0x408 off (mapOf 48 d.sensorValid))
  | _ => if inOff off 0x440 0x4FC then some (patternN 16 (d.power.temps.get ((off - 0x440) / 4) 0)) else none

/-- The open SPDM sessions. -/
def Dev.openSess (d : Dev) : Nat := (d.sess.filter (fun e => e.2.cls.isSome)).length

/-- Is a context resident (R473, R478)? -/
def Dev.residentCtx (d : Dev) (c : Nat) : Bool :=
  let x := d.ctx c
  let p := d.plot x.plot
  x.st ≠ 0 && (match p.resident with
    | some r => r = c
    | none => p.running.isNone && p.switching.isNone && ((d.ctxsOf x.plot).head? = some c))

/-- SECURITY (R495): plot, context, measurement register and counter are the selected ones. -/
def State.viewSecurity (s : State) (off p c m k : Nat) : Option Nat :=
  let d := s.dev
  let x := d.plot p
  match off with
  | 0x408 => some (x.st + 16 * x.gen + 256 * (d.key p).gen + 2 ^ 16 * x.cleanAt)
  | 0x420 => some (d.power.cleared + bitAt d.clearRun.isSome 16 + d.rgN 0x008 0x420 0 / 2 ^ 17 * 2 ^ 17)
  | 0x52C => some ((d.ctx c).st + bitAt (d.residentCtx c) 2)
  | 0x5E0 => some (s.nv.keyRevoked % 16 + 16 * d.belv.keyUsed + bitAt s.nv.debugLock 6 + bitAt (decide (d.belv.slot = 1)) 8 + bitAt d.belv.fallback 9)
  | 0x5E8 => some (nthD s.nv.svn k 0 + 256 * (((d.belv.running[k]?).map (·.svn)).getD 0))
  | 0x5EC => some s.nv.delegation.toNat
  | 0x5F0 => some (d.openSess + bitAt d.settled 8)
  | _ => if inOff off 0x5A4 0x5D0 then some (wordOf (nthD d.belv.mrs m (List.replicate 48 0)) (off - 0x5A4)) else none

/-- LOG (R607) as a route sees it. -/
def Dev.viewLog (d : Dev) (off : Nat) (r : Route) : Option Nat :=
  let snap := d.snaps.get r.code []
  match off with
  | 0x400 => some (16384 + bitAt d.log.wrapped 16 + bitAt (decide (d.belv.st = 2)) 17)
  | 0x404 => some d.log.head
  | 0x408 => some d.log.oldest
  | 0x410 => some d.log.queue.length
  | 0x43C => some (bitAt (!snap.isEmpty) 0)
  | _ => if inOff off 0x440 0x47C then some (wordOf snap (off - 0x440)) else none

/-- The contexts a map register shows a route: those of its plot for a TENANT session (R591). -/
def Dev.ctxMap (d : Dev) (g : Rights) (lo : Nat) (f : Ctx → Bool) : Nat :=
  mapOf 32 (fun j => let x := d.ctx (lo + j); x.st = 1 && f x && (g.tenant.isNone || g.readAll || g.tenant = some x.plot))

/-- MODE (R605, R606), of the selected context. -/
def Dev.viewMode (d : Dev) (g : Rights) (off c : Nat) : Option Nat :=
  let x := d.ctx c
  let m := x.modes.toNat
  let k := d.kcfg c
  match off with
  | 0x400 => some (bitAt d.plotsMode 0 + 4 * d.role + bitAt d.power.win.capped 4 + 256 * (d.rgN 0x006 0x400 0 % 16))
  | 0x408 => some (if x.st ≠ 1 then 0 else
      1 + 2 * x.plot + bitAt (bitN m 4) 5 + bitAt (bitN m 5) 6 + 2 ^ 7 * bitsN m 6 2 + bitAt (bitN m 8) 9 + bitAt (bitN k 1) 10 +
        bitAt (bitN k 2) 11 + bitAt (bitN k 3) 12 + bitAt (bitN k 4) 13 + bitAt (bitN k 5) 14 + bitAt (bitN k 6) 15 + bitAt (bitN k 5 && !d.isShadow) 16)
  | 0x40C => some (if x.st ≠ 1 then 0 else match x.active with
      | some b => 1 + bitAt b.multi 1 + bitAt b.usesV 2
      | none => 0)
  | _ =>
    if inOff off 0x440 0x45C then some (d.ctxMap g (8 * (off - 0x440)) (fun y => bitN y.modes.toNat 4))
    else if inOff off 0x460 0x47C then some (d.ctxMap g (8 * (off - 0x460)) (fun _ => true))
    else none

/-- PAVILION (R90 to R92, R389). -/
def Dev.viewPav (d : Dev) (n off : Nat) : Option Nat :=
  let p := d.pav n
  let level (k : Nat) : Nat := (p.fifos.get k []).length
  match off with
  | 0x400 => some (n + 32 * (n % 8) + 256 * (n / 8) + 1024 * (n / 2) + bitAt p.fused 14)
  | 0x404 => some (p.run.code + 16 * (d.pavPlot n).getD 0 + (if p.run = .running then 256 * p.ctx else 0) + bitAt p.stall.isSome 16 + bitAt p.gated 17)
  | 0x408 => some (match p.stall with
    | some s => s.kind + 8 * s.index
    | none => 0)
  | 0x414 => some (p.cycle % 256)
  | 0x418 => some (p.cycle / 256)
  | 0x424 => some (level 0 + 256 * level 1 + 2 ^ 16 * level 2 + 2 ^ 24 * level 3)
  | 0x428 => some (level 4 + 256 * level 5 + 2 ^ 16 * level 6 + 2 ^ 24 * level 7)
  | 0x640 => some ((List.range 8).foldl (fun v k => v + 4 ^ k * (p.inGen.get k 0).toNat) 0)
  | _ => none

/-- FPORT (R353, R355). Received and launched power, signal-to-noise ratio are measured values. -/
def Dev.viewPort (d : Dev) (n off : Nat) : Option Nat :=
  let p := d.port n
  match off with
  | 0x400 => some (p.st.code + 16 * p.cause + 256 * p.txGen + 2 ^ 16 * p.rxGen)
  | 0x408 => some (match p.peer with
    | some (dv, pt) => dv + 2 ^ 12 * pt + 2 ^ 16
    | none => 0)
  | 0x41C => some (min 2048 p.replay.length + bitAt (decide (2048 ≤ p.replay.length)) 16)
  | 0x420 => some (p.txSeq + 2 ^ 16 * p.ackRecv)
  | 0x424 => some (p.rxE + 2 ^ 16 * p.lastAckSent)
  | 0x428 => some p.rtt
  | 0x44C | 0x450 => some (half 0x44C off p.downTick.toNat)
  | 0x670 => some (Config.measured 0x040 0x670 0).toNat
  | _ =>
    if inOff off 0x42C 0x438 then some (nthD p.advH ((off - 0x42C) / 4) 0 + 2 ^ 16 * nthD p.advD ((off - 0x42C) / 4) 0)
    else if inOff off 0x43C 0x448 then some (p.credH ((off - 0x43C) / 4) + 2 ^ 16 * p.credD ((off - 0x43C) / 4))
    else if inOff off 0x610 0x66C then some (if p.st = .off then 0 else (Config.measured (portPage n) off d.free).toNat % 65536)
    else none

/-- ROUTER (R320): the routing entry selected by `sel`. -/
def Dev.viewRouter (d : Dev) (off sel : Nat) : Option Nat :=
  let r := d.router
  let busy (n : Nat) : Bool := decide (2048 ≤ (d.port n).replay.length) || (d.portUp n && (List.range 4).any (fun tc => (d.port n).busyFor tc 64))
  match off with
  | 0x400 => some (r.active + bitAt r.retained 1 + 256 * r.epoch + 2 ^ 16 * r.oldEpoch)
  | 0x408 => some (r.entry (bitsN sel 12 1) (bitsN sel 0 12))
  | 0x418 => some (mapOf 12 d.portUp + 2 ^ 16 * mapOf 12 busy)
  | 0x41C => some r.combineUse
  | _ => none

/-- PARTERRE (R320): the tracker selected. -/
def Dev.viewParterre (d : Dev) (off t : Nat) : Option Nat :=
  let k := d.trackers.get t ⟨0, 0⟩
  match off with
  | 0x40C => some d.horizon
  | 0x434 => some k.cur
  | 0x438 => some k.next
  | 0x43C => some (match d.trkPlot t with
    | some p => (d.stepNo p).toNat % 16 + 16 * p
    | none => 0)
  | _ => none

/-- MEMCTL (R282, R621). -/
def Dev.viewMc (d : Dev) (n off : Nat) : Option Nat :=
  let c := d.mc n
  match off with
  | 0x400 =>
    let own := d.pkgPlot n
    some (bitAt c.populated 0 + bitAt (decide (c.phy = 2)) 1 + 16 * own.getD 0 + bitAt (own.isSome && (d.key (own.getD 0)).loaded) 8)
  | 0x404 => some (bitAt c.doubled 0)
  | 0x600 => some (c.phy + 16 * c.attempts)
  | 0x604 => some (c.chanOk + 16 * c.chanBad)
  | 0x608 => some c.lastMs
  | 0x620 => some (patternN 16 c.temp)
  | 0x670 => some (Config.measured 0x060 0x670 0).toNat
  | _ => if inOff off 0x610 0x61C then some (nthD c.margins ((off - 0x610) / 4) 0).toNat else none

/-- HPORT (R579), of the selected interface and association. -/
def Dev.viewHport (d : Dev) (n off i a : Nat) : Option Nat :=
  let p := d.hport n
  let pt (v : W64) : Nat := if d.ptp.valid then v.toNat else 0
  match off with
  | 0x404 => some (p.up % 16 + 16 * mapOf 4 (fun j => bitN (d.rgN (0x070 + n) 0x40C j) 2) + 256 * (p.fec % 16))
  | 0x428 | 0x42C => some (half 0x428 off (d.modl.macBase + 4 * n + i))
  | 0x470 | 0x474 => (p.sas.find (8 * i + a)).map (fun x => half 0x470 off x.pn)
  | 0x484 | 0x488 => some (if n = 0 then half 0x484 off (pt d.ptp.wallBase) else 0)
  | 0x48C | 0x490 => some (if n = 0 then half 0x48C off (pt d.ptp.countBase) else 0)
  | 0x494 => some (if n = 0 ∧ d.ptp.valid then patternN 32 d.ptp.rate else 0)
  | 0x498 => some (if n = 0 then d.ptp.st else 0)
  | 0x480 => if n = 0 then none else some 0
  | _ => none

/-- GCT (R579), of the selected connection. -/
def Dev.viewGct (d : Dev) (off k : Nat) : Option Nat :=
  let c := d.conn k
  match off with
  | 0x410 => some (bitAt c.open_ 0 + (if c.open_ then 2 * c.prot + 2 ^ 16 * c.window + 2 ^ 24 * c.iface else 0) + 256 * c.gen)
  | 0x414 => some (if c.open_ then c.session else 0)
  | 0x418 => some (Config.measured 0x072 0x418 0).toNat
  | _ => none

/-- ROCE (R579), of the selected queue pair and region. -/
def Dev.viewRoce (d : Dev) (off q m : Nat) : Option Nat :=
  match off with
  | 0x424 => some ((d.qp q).st + 2 ^ 16 * ((d.qp q).rate / 100 % 65536))
  | 0x444 => some ((d.mrs.get m Mr.free).rkey m)
  | _ => none

/-- A page map entry as 64 bits (R270). -/
def PageEntry.bits (e : PageEntry) : Nat :=
  bitAt e.tail 0 + bitAt e.partial_ 1 + bitAt e.poison 2 + 2 ^ 3 * e.next + 2 ^ 27 * e.gen + 2 ^ 33 * seqField e.seq + 2 ^ 57 * e.plot + 2 ^ 61 * e.st

/-- CRYPTO (R282, R462): slot, shard entry, job and publisher slot are the selected ones. -/
def Dev.viewCrypto (d : Dev) (off slot sh job pub : Nat) : Option Nat :=
  match off with
  | 0x404 => some (bitAt (d.key slot).loaded 0 + 256 * (d.key slot).gen)
  | 0x504 => some (match d.shards.find sh with
    | some x => x.st.code + bitAt x.local_ 3 + bitAt x.sweep 4 + 256 * x.plot + 2 ^ 16 * x.cause
    | none => 0)
  | 0x508 | 0x50C => some (match d.shards.find sh with
    | some x => half 0x508 off x.lastSweep.toNat
    | none => 0)
  | 0x55C => some ((d.job job).st.code + bitAt (d.job job).missing 3 + 256 * (d.job job).cause)
  | 0x560 => some (d.job job).tag
  | 0x568 => some (bitAt (d.pubKeys.any (fun k => k.plot = pub % 16 && k.slot = pub / 16 % 4)) 0)
  | 0x56C => some d.shardKeys.length
  | _ => none

/-- A region descriptor as 128 bits (R254). -/
def Region.bits (g : Region) : Nat :=
  g.name + 2 ^ 32 * g.epoch + 2 ^ 48 * g.gen + 2 ^ 52 * g.st + bitAt g.swappable 55 + 2 ^ 56 * g.plot + 2 ^ 64 * g.pavMask + 2 ^ 96 * g.base + 2 ^ 112 * g.len

/-- The value of a register, the store apart, as a route of some rights sees it; none where the stored value is what it reads. -/
def State.view (s : State) (r : Route) (g : Rights) (page off : Nat) : Option Nat :=
  let d := s.dev
  let sel (p o : Nat) : Nat := d.sel r p o
  if off < 0x040 then d.viewCommon page off (d.bank r g page off)
  else if off < 0x400 then none
  else match page with
    | 0x000 => d.viewDevice off
    | 0x001 => d.viewBelv off
    | 0x002 => d.viewGate off (sel 0x002 0x40C % 256)
    | 0x003 => d.viewKiosk off (sel 0x003 0x400 % 256) (sel 0x003 0x470 % 2 ^ 18) (sel 0x003 0x4C0 % 65536) (sel 0x003 0x500 % 32768)
    | 0x004 => d.viewTime off
    | 0x005 => d.viewStep off (d.plotView r g)
    | 0x006 => d.viewPower off
    | 0x007 => d.viewThermal off
    | 0x008 => s.viewSecurity off (g.tenant.getD (sel 0x008 0x404 % 16)) (sel 0x008 0x520 % 256) (sel 0x008 0x5A0 % 16) (sel 0x008 0x5E4 % 8)
    | 0x009 => d.viewLog off r
    | 0x00A => d.viewMode g off (sel 0x00A 0x404 % 256)
    | 0x050 => d.viewRouter off (sel 0x050 0x404)
    | 0x051 => d.viewParterre off (sel 0x051 0x430 % 65536)
    | 0x070 | 0x071 => d.viewHport (page - 0x070) off (sel page 0x408 % 4) (sel page 0x440 % 8)
    | 0x072 => d.viewGct off (sel 0x072 0x40C % 256)
    | 0x073 => d.viewRoce off (sel 0x073 0x400 % 2048) (sel 0x073 0x430 % 4096)
    | 0x080 =>
      if off = 0x414 ∨ off = 0x418 then some (half 0x414 off (d.page (d.rgN 0x080 0x410 0 % 2 ^ 24)).bits) else none
    | 0x090 => d.viewCrypto off (sel 0x090 0x400 % 16) (sel 0x090 0x500 % 16384) (sel 0x090 0x558 % 64) (sel 0x090 0x564 % 64)
    | 0x0A0 =>
      if inOff off 0x404 0x410 then some ((d.region (sel 0x0A0 0x400 % 1024)).bits / 2 ^ (8 * (off - 0x404)) % 2 ^ 32) else none
    | _ =>
      if inOff page 0x010 0x02F then d.viewPav (page - 0x010) off
      else if inOff page 0x040 0x04B then d.viewPort (page - 0x040) off
      else d.viewMc (page - 0x060) off

/-- The bits of a map register that a route sees (R591): a TENANT session sees none that describe an item of another plot. -/
def Dev.tenantMask (d : Dev) (g : Rights) (page off : Nat) : Nat :=
  let all := 2 ^ 32 - 1
  match g.tenant with
  | none => all
  | some p =>
    if g.readAll then all
    else if page = 0x000 && (off = 0x42C || off = 0x848) then mapOf 32 (fun n => d.pavPlot n = some p)
    else if page = 0x000 && off = 0x430 then
      mapOf 32 (fun n => decide (n < 12) || decide (28 ≤ n) || decide (d.pkgPlot (n - 12) = some p))
    else if page = 0x006 && off = 0x41C then mapOf 32 (fun n => decide (16 ≤ n) || decide (d.pavPlot (2 * n) = some p))
    else all

/-- What a register reads as (R9, R10, R95, R582): reserved offsets and WO registers read 0, a selector reads as its route's copy, and a
fused pavilion's page shows only what it is. -/
def State.value (s : State) (r : Route) (g : Rights) (page off : Nat) : Nat :=
  let d := s.dev
  match regRow page off with
  | none => 0
  | some row =>
    if row.acc = .wo then 0
    else if inOff page 0x010 0x02F && (d.pav (page - 0x010)).fused && !(off = 0x000 || off = 0x004 || off = 0x400) then 0
    else if isSel page off then (if page = 0x000 ∧ off = 0x41C then d.plotView r g else d.sel r page off)
    else ((s.view r g page off).getD (d.rgN page off (d.bank r g page off))) &&& row.mask &&& d.tenantMask g page off

end Sys2Proof.Machine
end

