-- ==== Sys2Proof/Machine/HostPorts.lean ====
section
/-! DEFINITION. The host ports (R554 to R557) and PTP (R575): interfaces, receive buffers and PFC, MACsec associations, the wall-clock mapping. -/
namespace Sys2Proof.Machine

/-- The interfaces a port's mode gives it (R554); code 3 is none of the table's. -/
def Dev.interfaces (d : Dev) (n : Nat) : Nat :=
  match d.rgN (0x070 + n) 0x400 0 % 4 with
  | 0 => 1 | 1 => 2 | 2 => 4 | _ => 0

/-- Can a logical interface come up: its port enabled, powered and out of reset, and the interface one of its mode's (R554, R555)? -/
def Dev.interfaceFit (d : Dev) (i : Nat) : Bool :=
  decide (i < 8) && bitN d.power.domains 22 && bitN (d.rgN (0x070 + i / 4) 0x400 0) 3 && decide (i % 4 < d.interfaces (i / 4)) &&
    !bitN (d.rgN (0x070 + i / 4) 0x030 0) 0

/-- HOST_INTERFACE_UP: the link stands, its FEC aligned (R579); the port's partial reset is over with its first link (R598, R619). -/
def Dev.interfaceUp (d : Dev) (i : Nat) : Dev :=
  d.when (d.interfaceFit i) (·.onHport (i / 4) (fun h => { h with
    up := if bitN h.up (i % 4) then h.up else h.up + 2 ^ (i % 4)
    fec := if bitN h.fec (i % 4) then h.fec else h.fec + 2 ^ (i % 4)
    inReset := false }))

/-- HOST_INTERFACE_UP. -/
def execHostInterfaceUp (iface : Nat) (s : State) : Host.Outcome State Fault Refusal := onDev (·.interfaceUp iface) s

/-- PTP_STATUS away from SLAVE (R580). -/
def Dev.ptpSt (d : Dev) (st : Nat) : Dev :=
  let d1 := { d with ptp := { d.ptp with st := st } }
  if d.ptp.st = 3 ∧ st ≠ 3 then d1.record 0x070 3 Where.none else d1

/-- HOST_INTERFACE_DOWN: LINK_DOWN (R580); a clock that ran on the interface listens again (log entry 68). -/
def Dev.interfaceDown (d : Dev) (i : Nat) : Dev :=
  let h := d.hport (i / 4)
  if 8 ≤ i || !bitN h.up (i % 4) then d
  else
    let d1 := d.onHport (i / 4) (fun p => { p with
      up := p.up - 2 ^ (i % 4), fec := if bitN p.fec (i % 4) then p.fec - 2 ^ (i % 4) else p.fec })
    let d2 := if d1.ptp.st ≠ 0 ∧ d1.rgN 0x070 0x480 0 % 8 = i then d1.ptpSt 1 else d1
    d2.record (0x070 + i / 4) 0 Where.none

/-- HOST_INTERFACE_DOWN. -/
def execHostInterfaceDown (iface : Nat) (s : State) : Host.Outcome State Fault Refusal := onDev (·.interfaceDown iface) s

/-! ### Receive (R555 to R557) -/

/-- The bytes of the receive buffer a priority may fill: 1 MiB where it is lossless, else what the lossless shares
leave to all lossy ones together (R556). -/
def Dev.rxRoom (d : Dev) (n prio : Nat) : Nat :=
  let en := d.rgN (0x070 + n) 0x434 0 % 256
  let h := d.hport n
  if bitN en prio then 2 ^ 20 - h.held.get prio 0
  else
    let lossy := (List.range 8).filter (fun k => !bitN en k)
    (2 ^ 22 - 2 ^ 20 * popCount en 8) - lossy.foldl (fun m k => m + h.held.get k 0) 0

/-- A frame put into the buffer of its priority; PFC with quanta 0xFFFF once 768 KiB of a lossless share are held (R556). -/
def Dev.rxStore (d : Dev) (n prio len : Nat) : Dev :=
  let pg := 0x070 + n
  if d.rxRoom n prio < len then d.count pg 0x108 1
  else
    let v := (d.hport n).held.get prio 0 + len
    let d1 := d.onHport n (fun h => { h with held := h.held.put prio v })
    if bitN (d.rgN pg 0x434 0) prio && !bitN (d.hport n).pfcSent prio && decide (768 * 1024 ≤ v) then
      ((d1.onHport n (fun h => { h with pfcSent := h.pfcSent + 2 ^ prio })).emit (.pfc n prio 0xFFFF)).count pg 0x114 1
    else d1

/-- A frame under MACsec by an association, packet number and integrity check (R557): accepted by any installed association unless it is
a replay. The association's number is the next it expects. -/
def Dev.secAccept (d : Dev) (n i : Nat) (sec : Option (Nat × Nat × Bool)) : Option Dev :=
  match sec with
  | none => none
  | some (an, pn, ok) => match (d.hport n).sas.find (8 * i + 4 + an % 4) with
    | none => none
    | some sa =>
      if !ok || pn = 0 || decide (pn + d.rgN (0x070 + n) 0x478 0 < sa.pn) then none
      else some (d.onHport n (fun h => { h with sas := h.sas.put (8 * i + 4 + an % 4) { sa with pn := max sa.pn (pn + 1) } }))

/-- ETH_FRAME_RECEIVE: a frame of `len` bytes from destination address to FCS; VLAN 0 for an untagged one; `known` says that its protocol
and UDP port are the interface's. -/
def Dev.frameIn (d : Dev) (n i len : Nat) (pcp : Option Nat) (dscp vlan : Nat) (known : Bool) (sec : Option (Nat × Nat × Bool)) : Dev :=
  let pg := 0x070 + n
  if !bitN (d.hport n).up i || 2 ≤ n then d
  else
    let d0 := d.count pg 0x100 1
    let cfg := d0.rgN pg 0x40C i
    let d1 := if bitN cfg 2 then d0.secAccept n i sec else some d0
    match d1 with
    | none => (d0.count pg 0x110 1).record pg 2 Where.none
    | some e =>
      if 9216 < len || vlan ≠ bitsN cfg 4 12 || !known then e.count pg 0x10C 1
      else e.rxStore n ((pcp.getD (dscp / 8)) % 8) len

/-- ETH_FRAME_RECEIVE. -/
def execEthFrameReceive (port iface len : Nat) (pcp : Option Nat) (dscp vlan : Nat) (known : Bool) (sec : Option (Nat × Nat × Bool))
    (s : State) : Host.Outcome State Fault Refusal :=
  onDev (·.frameIn port (iface % 4) len pcp dscp vlan known sec) s

/-- The receive buffers of a port drained; a lossless share below 512 KiB that PFC was sent for sends PFC with quanta 0 (R556). -/
def Dev.drainRx (d : Dev) (n : Nat) : Dev :=
  let h := d.hport n
  if h.held.isEmpty && h.pfcSent = 0 then d
  else
    let d1 := d.onHport n (fun p => { p with held := [], pfcSent := 0 })
    forEach (bitList h.pfcSent 8) d1 (fun s k => (s.emit (.pfc n k 0)).count (0x070 + n) 0x114 1)

/-- PFC_RECEIVED (R556): quanta above 0 pause the transmit queue of the priority, quanta 0 let it go on. -/
def Dev.pfcIn (d : Dev) (n prio quanta : Nat) : Dev :=
  let pg := 0x070 + n
  if 2 ≤ n || 8 ≤ prio || !bitN (d.rgN pg 0x434 0) prio then d
  else d.onHport n (fun h =>
    let was := bitN h.paused prio
    { h with paused := if 0 < quanta then (if was then h.paused else h.paused + 2 ^ prio) else if was then h.paused - 2 ^ prio else h.paused })

/-- PFC_RECEIVED. -/
def execPfcReceived (port prio quanta : Nat) (s : State) : Host.Outcome State Fault Refusal := onDev (·.pfcIn port prio quanta) s

/-- ARP_ND_ICMP (R555, R576): kind 0 ARP, 1 IPv6 neighbour discovery, 2 ICMP echo, answered on the interface. -/
def Dev.arpNdIcmp (d : Dev) (i kind : Nat) : Dev :=
  if 2 < kind || 8 < i || (i = 8 && !d.mgmtUp) then d else d.hostSend i 1 (.reply i kind)

/-- ARP_ND_ICMP. -/
def execArpNdIcmp (iface kind : Nat) (s : State) : Host.Outcome State Fault Refusal := onDev (·.arpNdIcmp iface kind) s

/-! ### MACsec (R557, R579): the selected interface, AN and direction -/

/-- The interface a route has selected, and the key of an association of it. -/
def Dev.selIface (d : Dev) (r : Route) (n : Nat) : Nat := d.sel r (0x070 + n) 0x408 % 4
def saKey (i an dir : Nat) : Nat := 8 * i + 4 * (dir % 2) + an % 4

/-- SA_CMD INSTALL: the key of the SAK registers, and NEXT_PN. -/
def Dev.saInstall (d : Dev) (r : Route) (n an dir : Nat) : Dev :=
  let pg := 0x070 + n
  let k := saKey (d.selIface r n) an dir
  let key := (List.range 8).flatMap (fun j => toBytes 4 (d.rgN pg (0x444 + 4 * j) 0))
  d.onHport n (fun h => { h with sas := h.sas.put k ⟨key, d.rg64 pg 0x470 k⟩ })

/-- SA_CMD DELETE: the association goes; a transmit channel that used it uses none. -/
def Dev.saDelete (d : Dev) (r : Route) (n an dir : Nat) : Dev :=
  let i := d.selIface r n
  d.onHport n (fun h => { h with
    sas := h.sas.del (saKey i an dir)
    txAn := if dir % 2 = 0 && h.txAn.find i = some (an % 4) then h.txAn.del i else h.txAn })

/-- SA_CMD USE: transmit changes to an installed association. -/
def Dev.saUse (d : Dev) (r : Route) (n an : Nat) : Dev :=
  let i := d.selIface r n
  d.when ((d.hport n).sas.find (saKey i an 0)).isSome (·.onHport n (fun h => { h with txAn := h.txAn.put i (an % 4) }))

/-- SA_INSTALL. -/
def execSaInstall (r : Route) (port an dir : Nat) (s : State) : Host.Outcome State Fault Refusal :=
  onReg r (0x070 + port % 2) 0x46C (an % 4 + 4 * (dir % 2) + 8) (·.saInstall r (port % 2) an dir) s

/-- SA_DELETE. -/
def execSaDelete (r : Route) (port an dir : Nat) (s : State) : Host.Outcome State Fault Refusal :=
  onReg r (0x070 + port % 2) 0x46C (an % 4 + 4 * (dir % 2) + 16) (·.saDelete r (port % 2) an dir) s

/-- SA_USE. -/
def execSaUse (r : Route) (port an : Nat) (s : State) : Host.Outcome State Fault Refusal :=
  onReg r (0x070 + port % 2) 0x46C (an % 4 + 24) (·.saUse r (port % 2) an) s

/-! ### PTP (R575) -/

/-- PTP_SYNC: the mapping after a Sync, by a clock that is enabled on an interface that is up, while Belvedere runs. -/
def Dev.ptpSync (d : Dev) (ns arrive : W64) (rate : Int) (calibrated : Bool) : Dev :=
  let cfg := d.rgN 0x070 0x480 0
  let i := cfg % 8
  if !bitN cfg 3 || d.belv.st ≠ 0 || !bitN (d.hport (i / 4)).up (i % 4) then d
  else ({ d with ptp := { d.ptp with valid := true, wallBase := ns, countBase := arrive, rate := rate } }).ptpSt (if calibrated then 3 else 2)

/-- PTP_SYNC. -/
def execPtpSync (masterNs arrive : W64) (rate : Int) (calibrated : Bool) (s : State) : Host.Outcome State Fault Refusal :=
  onDev (·.ptpSync masterNs arrive rate calibrated) s

/-- PTP_LOST: a SLAVE that has lost its master listens again; the mapping keeps its last values. -/
def execPtpLost (s : State) : Host.Outcome State Fault Refusal :=
  onDev (fun d => d.when (d.ptp.st = 3 && d.belv.st = 0) (·.ptpSt 1)) s

end Sys2Proof.Machine
end

