-- ==== Sys2Proof/Machine/Window.lean ====
section
/-! DEFINITION. The register window: one read, one write, the messages that carry them, and the command rows that are register accesses (R9 to R12, R563, R564, R582 to R592, R602, R631, R634). -/
namespace Sys2Proof.Machine

/-! ### Reads -/

/-- The value of a 64-bit pair's high word as a route reads it: the word latched with the low one, else the live one (R12; DESIGN CHOICE, log entry 173). -/
def State.readValue (s : State) (r : Route) (g : Rights) (page off : Nat) : Nat :=
  match regRow page off with
  | some row =>
    if row.pair && off ≠ row.lo then ((s.dev.latch.find (2 * selKey r page row.lo)).map (·.toNat)).getD (s.value r g page off)
    else s.value r g page off
  | none => 0

/-- One register read, with what its counters have counted up to now: a counter is cleared, a low word latches its high word, a
high word consumes the latch (R9, R12). -/
def State.readReg (s0 : State) (r : Route) (page off : Nat) : Nat × State :=
  let s := { s0 with dev := s0.dev.settleCounts page }
  let g := s.rights r
  let d := s.dev
  match regRow page off with
  | none => (0, s0)
  | some row =>
    let v := s.readValue r g page off
    let d1 :=
      if row.acc = .rc then d.setN page off (d.bank r g page off) 0
      else if !row.pair then d
      else if off = row.lo then
        { d with latch := d.latch.put (2 * selKey r page row.lo) (BitVec.ofNat 32 (s.value r g page (off + 4))) }
      else { d with latch := d.latch.del (2 * selKey r page row.lo) }
    (v, { s with dev := d1.count 0x000 0x100 1 })

/-- Consecutive registers read. -/
def State.readRegs (s : State) (r : Route) (page off : Nat) : Nat → List Nat × State
  | 0 => ([], s)
  | n + 1 =>
    let a := s.readReg r page off
    let b := a.2.readRegs r page (off + 4) n
    (a.1 :: b.1, b.2)

/-- Does a message stay within one page of the index, its offset aligned (R582, R588)? -/
def msgFits (woff count : Nat) : Bool :=
  decide (woff < 2 ^ 24) && decide (woff % 4 = 0) && decide (0 < count) && decide (woff % 4096 + 4 * count ≤ 4096) && (blockOf (woff / 4096)).isSome

/-- The first status other than OK in a list. -/
def firstStatus (l : List Nat) : Nat := (l.find? (· ≠ 0)).getD 0

/-- A read message: its status and values (R588, R592). -/
def State.readMsg (s : State) (r : Route) (woff count : Nat) : Nat × List Nat × State :=
  let page := woff / 4096
  let st := if !msgFits woff count then 4
    else firstStatus ((List.range count).map (fun k => s.readStatus r page (woff % 4096 + 4 * k)))
  if st = 0 then
    let a := s.readRegs r page (woff % 4096) count
    (0, a.1, a.2)
  else (st, [], { s with dev := (s.dev.count 0x000 0x108 1).record 0x000 0 Where.none })

/-! ### Writes -/

/-- The plain part of a register write: a selector's copy, a staged low word, a stored value (R586, R587). What a page's counters
have counted under the old FREEZE is taken before CTRL changes (R600). -/
def Dev.storeReg (d : Dev) (r : Route) (g : Rights) (page off v : Nat) : Dev :=
  match regRow page off with
  | none => d
  | some row =>
    let b := d.bank r g page off
    let m := v &&& (if off = 0x01C || off = 0x02C then errBits ((blockOf page).getD 0) else row.mask)
    let sak := (page = 0x070 || page = 0x071) && inOff off 0x444 0x460
    if isSel page off then { d with sels := d.sels.put (selKey r page off) (BitVec.ofNat 32 m) }
    else if row.pair && off = row.lo then { d with latch := d.latch.put (2 * selKey r page row.lo + 1) (BitVec.ofNat 32 m) }
    else if row.acc = .wo then (if sak then d.setN page off b m else d)
    else if row.acc ≠ .rw || off = 0x030 then d
    else if row.pair then d.set64 page row.lo b (d.staged r page row.lo + 2 ^ 32 * m)
    else
      (if off = 0x010 then d.settleCounts page else if page = 0x051 && inOff off 0x800 0x9FC then d.noteFence ((off - 0x800) / 4) else d).setN
        page off b m

/-- ROLE written (R378, R485, R602). -/
def Dev.roleWrite (d : Dev) (v : Nat) : Dev :=
  let d1 := d.setN 0x000 0x410 0 (v % 4)
  (d1.mrExtend 10 1 (toBytes 1 d1.role ++ d1.sysDigest)).retime

/-- PORT_ENABLE written (R217, R218): a port that leaves PORT_MAP goes OFF, what waits in its replay buffer is answered. A port that
joins it starts by LINK_CMD ENABLE (R328). -/
def Dev.portEnable (d : Dev) (v : Nat) : Dev :=
  let gone := (List.range 12).filter (fun n => bitN d.portMap n && !bitN v n)
  let d1 := d.setN 0x000 0x414 0 (v % 2 ^ 12)
  let d2 := forEach gone d1 (fun s n => s.portOff n 0)
  if gone.isEmpty then d2 else d2.reselectAll.retime

/-- An account's register written (R407, R435); an account that comes into use starts with SERVICE 0. -/
def Dev.acctWrite (d : Dev) (a off : Nat) : Dev :=
  let w := d.rgN 0x003 off a
  let x := d.acct a
  let y :=
    if off = 0x4C4 then { x with rate := w }
    else if off = 0x4C8 then { x with burst := w }
    else if off = 0x4D0 then { x with level := signedN 64 (d.rg64 0x003 0x4CC a) }
    else if off = 0x4D4 then
      let z := { x with weight := w % 256, plot := bitsN w 8 4, valid := bitN w 12 }
      if z.valid && !x.valid then { z with service := 0, lastTick := d.time.elapsed } else z
    else { x with promptCost := w % 65536, genCost := w / 65536 }
  { d with accts := d.accts.put a y }

/-- INT_ENABLE written (R596): each bit that newly holds in both registers alerts. -/
def Dev.intEnable (d : Dev) (page bank old : Nat) : Dev :=
  let both := d.rgN page 0x028 bank &&& d.rgN page 0x02C bank
  forEach ((bitList both 32).filter (fun k => !bitN old k)) d.alertUpdate (fun s k => s.alertSend page k)

/-- PORT_MODE written (R554): a change of mode, or ENABLE cleared, takes the port's interfaces down. -/
def Dev.portMode (d : Dev) (n old : Nat) : Dev :=
  if d.rgN (0x070 + n) 0x400 0 = old then d
  else forEach (List.range 4) d (fun s i => s.interfaceDown (4 * n + i))

/-- What a register's write does beyond the value it stores; `d0` is the device before the write. -/
def Dev.afterWrite (d : Dev) (d0 : Dev) (r : Route) (g : Rights) (page off : Nat) : Dev :=
  let b := d.bank r g page off
  let v := d.rgN page off b
  if off = 0x02C then d.intEnable page b (d0.rgN page 0x028 b &&& d0.rgN page 0x02C b)
  else match page with
    | 0x000 =>
      if off = 0x410 then (d.setN page off b (d0.rgN page off b)).roleWrite v
      else if off = 0x414 then (d.setN page off b (d0.rgN page off b)).portEnable v
      else if off = 0x820 then d.shadowCfg v
      else if off = 0x82C ∧ v % 2 ^ 24 = 0 ∧ d0.rgN 0x000 0x82C 0 % 2 ^ 24 ≠ 0 then d.record 0x000 22 Where.none
      else d
    | 0x002 => if off = 0x46C then d.mrExtend 10 0 (toBytes 1 d.role ++ d.sysDigest) else d
    | 0x003 =>
      if inOff off 0x4C4 0x4D8 ∧ off ≠ 0x4CC then d.acctWrite b off
      else if off = 0x50C then d.setN page off b (v - 2 ^ 16 * bitsN v 16 4 + 2 ^ 16 * (d.ring b).gen)
      else d
    | 0x008 => if off = 0x404 then d.loadStaged (d.sel r 0x008 0x404 % 16) else d
    | 0x009 => if off = 0x40C then d.logSelect r (d.sel r 0x009 0x40C) else d
    | 0x050 =>
      if off = 0x408 then
        let e := d.sel r 0x050 0x404
        { d with router := { d.router with entries := d.router.entries.put (4096 * bitsN e 12 1 + bitsN e 0 12) v } }
      else d
    | 0x051 => if off = 0x404 then d.retime else d
    | 0x070 | 0x071 =>
      let n := page - 0x070
      if off = 0x400 then d.portMode n (d0.rgN page 0x400 0)
      else if off = 0x474 then
        (match (d.hport n).sas.find b with
         | some sa => d.onHport n (fun h => { h with sas := h.sas.put b { sa with pn := d.rg64 page 0x470 b } })
         | none => d)
      else if off = 0x480 ∧ n = 0 then
        (if bitN v 3 then (if d.ptp.st = 0 ∨ v ≠ d0.rgN page 0x480 0 then d.ptpSt 1 else d) else d.ptpSt 0)
      else d
    | _ => d

/-- A command field's code and the rest of a device's commands as register writes: none where the value names no command (R631). -/
def Dev.command (d : Dev) (r : Route) (g : Rights) (page off v : Nat) : Option Dev :=
  let one (b : Bool) (e : Dev) : Option Dev := if b then some e else none
  let b := d.bank r g page off
  if off = 0x024 then one (bitN v 8) (d.inject_ page b (v % 32))
  else if off = 0x018 then some (d.errClear page b v)
  else if off = 0x028 then some (d.intClear page b v)
  else if off = 0x034 then some (d.lock page b v)
  else if off = 0x030 then
    some (if bitN v 0 then d.resetHold page
      else if inOff page 0x010 0x02F then d.pairReset page
      else if inOff page 0x040 0x04B then d.fportReset (page - 0x040)
      else if inOff page 0x060 0x06F then d.memctlReset (page - 0x060)
      else if page = 0x070 ∨ page = 0x071 then d.hportReset (page - 0x070)
      else if page = 0x003 then d.kioskReset
      else if page = 0x002 then d.gatehouseReset
      else if page = 0x001 then d.belvReset
      else d)
  else match page with
    | 0x000 =>
      if off = 0x424 then one (bitN v 0) d.fullReset
      else if off = 0x808 then one (bitN v 18 ≠ bitN v 19) (d.fateFence (v % 4) (bitsN v 2 16) (bitN v 18))
      else one (off = 0x848) (d.setRg 0x000 0x848 0 (d.rg 0x000 0x848 0 &&& ~~~(BitVec.ofNat 32 v)))
    | 0x001 => one (bitN v 0) (d.when (d.belv.st = 0) (·.belvRestart 4))
    | 0x002 =>
      let c := v % 256
      if off = 0x428 then one (bitN v 8) (d.onCtx c (fun x => { x with paramReady := true }))
      else match bitsN v 8 3 with
        | 1 => some (d.loadActivate c)
        | 2 => some (d.dropStaged c)
        | 3 => some (d.dropActive c)
        | _ => none
    | 0x003 =>
      if off = 0x534 then
        let low := d.staged r 0x003 0x530
        some (d.doorbell (low % 32768) (bitsN low 15 4) (BitVec.ofNat 32 v))
      else match bitsN v 15 2 with
        | 1 => some (d.ringCreate (v % 32768))
        | 2 => some (d.ringDestroy (v % 32768))
        | _ => none
    | 0x004 =>
      if off = 0x428 then one (bitN v 8 ≠ bitN v 9) (if bitN v 8 then d.launchArm (v % 256) else d.launchCancel (v % 256))
      else one (bitN v 0) (d.when (d.time.sync = 0 && d.jumpOk) (·.jumpTo (BitVec.ofNat 64 (d.rg64 0x004 0x470 0))))
    | 0x006 =>
      if off = 0x428 then one (bitN v 0 ≠ bitN v 1) (if bitN v 0 then d.restEnter else d.restExit)
      else match bitsN v 5 2 with
        | 1 => some (d.turnOn (v % 32))
        | 2 => some (d.turnOff (v % 32))
        | _ => none
    | 0x008 =>
      if off = 0x40C then
        (match bitsN v 4 2 with
         | 1 => some (d.plotAssign (v % 16))
         | 2 => some (d.plotRemove (v % 16))
         | _ => none)
      else if off = 0x41C then one (bitN v 16) (d.clearCmd (v % 65536))
      else if off = 0x528 then
        (match bitsN v 8 2 with
         | 1 => some (d.ctxCreate (v % 256))
         | 2 => some (d.ctxDestroy (v % 256))
         | _ => none)
      else one (bitN v 4) (d.calArm (v % 16))
    | 0x009 => one (bitN v 0) d.logClear
    | 0x050 => one (bitN v 8) (d.switchArm (v % 256))
    | 0x051 => one (bitN v 0) d.faddGo
    | 0x070 | 0x071 =>
      match bitsN v 3 2 with
      | 1 => some (d.saInstall r (page - 0x070) (v % 4) (bitsN v 2 1))
      | 2 => some (d.saDelete r (page - 0x070) (v % 4) (bitsN v 2 1))
      | 3 => some (if bitN v 2 then d else d.saUse r (page - 0x070) (v % 4))
      | _ => none
    | 0x073 =>
      let q := d.sel r 0x073 0x400 % 2048
      let m := d.sel r 0x073 0x430 % 4096
      if off = 0x420 then
        (match v % 4 with
         | 1 => some (d.qpConnect q)
         | 2 => some (d.qpReset q)
         | _ => none)
      else match v % 4 with
        | 1 => some (d.mrCreate m)
        | 2 => some { d with mrs := d.mrs.put m { d.mrs.get m Mr.free with valid := false } }
        | _ => none
    | 0x090 =>
      if off = 0x408 then
        (match bitsN v 4 2 with
         | 1 => some (d.keyGenerate (v % 16))
         | 2 => some (d.keyDestroy (v % 16))
         | _ => none)
      else if off = 0x518 then
        (let k := d.draw
         one (bitN v 8) (k.2.manifestCmd (v % 256) (bitN (Config.freeWord k.1).toNat 0)))
      else one (bitN v 0) d.jobSubmit
    | 0x0A0 =>
      match bitsN v 10 2 with
      | 1 => some (d.regionCreate (v % 1024))
      | 2 => some (d.regionFree (v % 1024))
      | 3 => some (d.regionAbandon (v % 1024))
      | _ => none
    | _ =>
      let n := page - 0x040
      match v % 8 with
      | 1 => some (d.linkEnable n)
      | 2 => some ((d.drainPort n).reselectAll.retime)
      | 3 => some (d.undrain n)
      | 4 => some (d.when ((d.port n).st = .up) (·.count page 0x150 1))
      | _ => none

/-- UPDATE_CMD (R550): the lowest bit that is set names the command. -/
def State.updateCmd (s : State) (v : Nat) : Option State :=
  if bitN v 0 then some s.updateActivate
  else if bitN v 1 then some s.updateConfirm
  else if bitN v 2 then some s.updateRevert
  else none

/-- Does a write of a register act (ERR_STATUS and its like, RESET_CTRL, and the WO registers but the staged ones)? -/
def actsOn (row : RegRow) (page off : Nat) : Bool :=
  off = 0x030 || row.acc = .w1c || row.acc = .w1s ||
    (row.acc = .wo && !(row.pair && off = row.lo) && !((page = 0x070 || page = 0x071) && inOff off 0x444 0x460))

/-- One register written, its check passed. A reserved offset, a register that ignores writes and a fused pavilion's page stay (R95); a value that names no command
changes nothing and counts nothing (R9, R10, R631). -/
def State.putReg (s : State) (r : Route) (page off v : Nat) : State :=
  let g := s.rights r
  let d := s.dev
  let counted (e : Dev) : Dev := e.count 0x000 0x104 1
  match regRow page off with
  | none => s
  | some row =>
    if d.fusedPage page then { s with dev := counted d }
    else if page = 0x001 ∧ off = 0x420 then ({ s with dev := counted d }.updateCmd v).getD s
    else if page = 0x008 ∧ off = 0x5EC then ({ s with dev := counted d }).setDelegation v
    else if actsOn row page off then
      (match (counted d).command r g page off v with
       | some e => { s with dev := e }
       | none => s)
    else if row.acc = .ro ∨ row.acc = .rc then { s with dev := counted d }
    else if row.pair ∧ off = row.lo then { s with dev := (counted d).storeReg r g page off v }
    else { s with dev := ((counted d).storeReg r g page off v).afterWrite d r g page off }

/-- Consecutive registers written, in ascending order. -/
def State.putRegs (s : State) (r : Route) (page off : Nat) : List Nat → State
  | [] => s
  | v :: vs => (s.putReg r page off v).putRegs r page (off + 4) vs

/-- The statuses of the registers of a write message, each judged with the plain part of the registers before it in place: a selector
names the items after it, and a high word is judged with its low word (R564, R587). With each goes whether the register's own rule
gives it. -/
def State.checkRegs (s : State) (r : Route) (page off : Nat) : List Nat → List (Nat × Bool)
  | [] => []
  | v :: vs =>
    (if (regRow page off).isNone && (s.rights r).mayWrite page off v then 0 else s.writeStatus r page off v,
      s.accessStatus r page off v = 0) ::
      ({ s with dev := s.dev.storeReg r (s.rights r) page off v }).checkRegs r page (off + 4) vs

/-- A write message: every register checked before any is written (R564, R588). -/
def State.writeMsg (s : State) (r : Route) (woff : Nat) (vals : List Nat) : Nat × State :=
  let page := woff / 4096
  let off := woff % 4096
  if !msgFits woff vals.length then (4, { s with dev := s.dev.refuse 0x000 0x000 4 false })
  else
    let sts := s.checkRegs r page off vals
    match (sts.zip (List.range sts.length)).find? (fun e => e.1.1 ≠ 0) with
    | some e => (e.1.1, { s with dev := s.dev.refuse page (off + 4 * e.2) e.1.1 e.1.2 })
    | none => (0, s.putRegs r page off vals)

/-! ### The command rows that are register accesses -/

/-- REG_WRITE_GENERIC: one register written over a route. -/
def execRegWriteGeneric (r : Route) (page off : Nat) (v : W32) (s : State) : Host.Outcome State Fault Refusal :=
  .next (if s.dev.answers then (s.writeMsg r (4096 * page + off) [v.toNat]).2 else s)

/-- ROLE_WRITE (R602). -/
def execRoleWrite (r : Route) (v : W32) (s : State) : Host.Outcome State Fault Refusal :=
  onReg r 0x000 0x410 v.toNat (·.roleWrite v.toNat) s

/-- PORT_ENABLE_WRITE (R218, R602, R538): of PORT_ENABLE, or, with `budget`, of POWER.BUDGET_CLASS. -/
def execPortEnableWrite (r : Route) (budget : Bool) (v : W32) (s : State) : Host.Outcome State Fault Refusal :=
  if budget then onReg r 0x006 0x400 v.toNat (·.setN 0x006 0x400 0 (v.toNat % 16)) s
  else onReg r 0x000 0x414 v.toNat (·.portEnable v.toNat) s

/-- COUNTER_READ: one register read over a route; the value goes back on it (R9, R11, R600). -/
def State.counterRead (s : State) (r : Route) (page off : Nat) : State :=
  let m := s.readMsg r (4096 * page + off) 1
  match m.2.1 with
  | [v] => { m.2.2 with dev := m.2.2.dev.emit (.readback (4096 * page + off) (BitVec.ofNat 32 v)) }
  | _ => m.2.2

/-- COUNTER_READ. -/
def execCounterRead (r : Route) (page off : Nat) (s : State) : Host.Outcome State Fault Refusal :=
  .next (if s.dev.answers then s.counterRead r page off else s)

/-! ### Parterre space 3 -/

/-- A list of bytes padded with 0 to a multiple of 64 (R589). -/
def pad64 (bs : List Byte) : List Byte := bs ++ List.replicate ((64 - bs.length % 64) % 64) 0

/-- The REG_RESP to a request: a status and values. -/
def Dev.regReply (d : Dev) (p : Packet) (status : Nat) (vals : List Nat) : Dev :=
  let bs := pad64 (toBytes 4 status ++ vals.flatMap (toBytes 4))
  d.post { Packet.blank with
    dest := p.src, src := d.number, mid := p.src, phase := true, tc := 2, typ := 0x0E, epoch := d.router.epoch, tag := p.tag,
    tagGen := p.tagGen, addr := p.addr, len := bs.length, payload := bs }

/-- Is the source of a REG_REQ the manager or the standby manager this device knows (R584)? -/
def Dev.managerSrc (d : Dev) (src : Nat) : Bool :=
  let v := d.rgN 0x000 0x418 0
  (bitN v 12 && src = bitsN v 0 12) || (bitN v 28 && src = bitsN v 16 12)

/-- The 4-byte words of a request's payload from byte 8 on. -/
def Packet.words (p : Packet) (n : Nat) : List Nat := (List.range n).map (fun k => leNat ((p.payload.drop (8 + 4 * k)).take 4))

/-- REG_REQ served (R584, R588, R589). SPACE3_REQUESTS counts every message served, a write that names no command too (log entry 174). -/
def State.regReq (s : State) (p : Packet) : State :=
  let d := s.dev.takeEject p
  let h := leNat (p.payload.take 4)
  let count := h % 128
  let r := Route.space3 p.src
  let woff := gaOff p.addr
  if !d.managerSrc p.src then
    { s with dev := ((d.count 0x000 0x108 1).record 0x000 0 Where.none).regReply p 1 [] }
  else
    let d1 := d.count 0x000 0x10C 1
    let s1 := { s with dev := d1 }
    if gaSpace p.addr ≠ 3 ∨ count = 0 ∨ 64 < count then { s with dev := (d1.refuse 0x000 0x000 4 false).regReply p 4 [] }
    else if h / 512 ≠ 0 ∨ bitN h 7 ∨ leNat ((p.payload.drop 4).take 4) ≠ 0 then { s with dev := d1.regReply p 2 [] }
    else if bitN h 8 then
      let m := s1.writeMsg r woff (p.words count)
      { m.2 with dev := m.2.dev.regReply p m.1 [] }
    else
      let m := s1.readMsg r woff count
      { m.2.2 with dev := m.2.2.dev.regReply p m.1 m.2.1 }

/-- REG_REQ: a packet at its destination. -/
def execRegReq (p : Packet) (s : State) : Host.Outcome State Fault Refusal :=
  .next (if !s.dev.answers || p.typ ≠ 0x0D || p.dest ≠ s.dev.number then s
    else if s.dev.selfFenced && !s.dev.managerSrc p.src then { s with dev := (s.dev.takeEject p).fenceNotice p }
    else s.regReq p)

/-- REG_RESP: an answer to this device's own request; a fenced device, which has none open, drops it with a FENCE_NOTICE (R312). The manager's table of fate tags takes those of a device it has read (R513). -/
def Dev.regResp (d : Dev) (p : Packet) : Dev :=
  if p.typ ≠ 0x0E || p.dest ≠ d.number then d
  else
    let d1 := d.takeEject p
    let w (k : Nat) : Nat := leNat ((p.payload.drop (4 + 4 * k)).take 4)
    if d1.selfFenced then d1.fenceNotice p
    else if d1.isManager && gaSpace p.addr = 3 && gaOff p.addr = 0x800 && leNat (p.payload.take 4) = 0 then
      { d1 with recov := { d1.recov with fate := d1.recov.fate.put p.src [w 0 % 65536, w 0 / 65536, w 1 % 65536, w 1 / 65536] } }
    else d1

/-- REG_RESP. -/
def execRegResp (p : Packet) (s : State) : Host.Outcome State Fault Refusal := onDev (·.regResp p) s

end Sys2Proof.Machine
end

