-- ==== Sys2Proof/Machine/Gct.lean ====
section
/-! DEFINITION. The host command transport GCT (R558 to R570, R615): connections, the judgement of SEQ, the opcodes, alerts. -/
namespace Sys2Proof.Machine

/-- Does GCT run on an interface: a host interface that is up, or the management port, interface 8, which stops while Belvedere is HALTED
(R546, R558)? -/
def Dev.gctUp (d : Dev) (i : Nat) : Bool :=
  d.answers && (if i = 8 then d.belv.st ≠ 2 else decide (i < 8) && bitN (d.hport (i / 4)).up (i % 4))

/-- A response sent on a connection (R558). -/
def Dev.gctSay (d : Dev) (c seq op status : Nat) (payload : List Byte) : Dev :=
  d.hostSend (d.conn c).iface 1 (.gct c seq op status payload)

/-! ### CONNECT -/

/-- May a CONNECT have these parameters (R559)? 0 OK, 1 ACCESS for a session that is not open, 4 RANGE. -/
def Dev.connectStatus (d : Dev) (session prot window maxPay : Nat) : Nat :=
  if 2 < prot || window = 0 || 64 < window || maxPay < 256 || 8192 < maxPay then 4
  else if (prot = 0) ≠ (session = 0) then 2
  else if session ≠ 0 && !((d.sess.find session).any (fun x => x.cls.isSome)) then 1
  else 0

/-- GCT_CONNECT (R559): the lowest free connection number, its next generation, bound to the peer and the interface. -/
def Dev.gctConnect (d : Dev) (i peer nonce session prot window maxPay : Nat) : Dev :=
  let again (e : Nat × Conn) : Bool :=
    e.2.open_ && e.2.peer = peer && e.2.iface = i && e.2.nonce = nonce && decide (d.time.elapsed < e.2.openedAt + ticksS)
  let st := d.connectStatus session prot window maxPay
  if !d.gctUp i then d
  else match d.conns.find? again with
    | some e => d.gctSay e.1 0 0x0001 0 [BitVec.ofNat 8 e.1, BitVec.ofNat 8 e.2.gen]
    | none =>
      if st ≠ 0 then d.hostSend i 1 (.gct 0 0 0x0001 st [])
      else match (List.range 256).find? (fun k => !(d.conn k).open_) with
        | none => d.hostSend i 1 (.gct 0 0 0x0001 3 [])
        | some k =>
          let gen := ((d.conn k).gen + 1) % 256
          (d.setConn k ⟨true, gen, i, peer, nonce, d.time.elapsed, session, prot, window, maxPay, 1, [], false, 0, [], d.time.elapsed⟩).gctSay
            k 0 0x0001 0 [BitVec.ofNat 8 k, BitVec.ofNat 8 gen]

/-- GCT_CONNECT. -/
def execGctConnect (iface peer nonce session prot window maxPay : Nat) (s : State) : Host.Outcome State Fault Refusal :=
  onDev (·.gctConnect iface peer nonce session prot window maxPay) s

/-! ### Messages on a connection -/

/-- The alerts that a cumulative acknowledgement leaves (R561). -/
def Conn.acked (c : Conn) (ack : Nat) : Conn :=
  { c with alerts := c.alerts.filter (fun a => decide (2 ^ 31 ≤ (ack + 2 ^ 32 - a.seq) % 2 ^ 32)) }

/-- A message as it reaches its connection (R559, R562): one from another peer or of another generation is STALE; one that fails its
tag is dropped; any other is a sign of life and acknowledges alerts. None where it goes no further. -/
def Dev.gctTake (d : Dev) (m : GctMsg) : Option Dev × Dev :=
  let c := d.conn m.conn
  if !d.gctUp m.iface then (none, d)
  else if !c.open_ || c.gen ≠ m.gen || c.peer ≠ m.peer || c.iface ≠ m.iface then (none, d.count 0x072 0x10C 1)
  else if c.prot ≠ 0 && !m.tagOk then (none, (d.count 0x072 0x110 1).record 0x072 0 Where.none)
  else
    let e := d.setConn m.conn ({ c with last := d.time.elapsed }.acked m.ack)
    (some e, e)

/-- A response cached and sent, where its connection still stands (R560). -/
def Dev.gctAnswer (d : Dev) (c gen seq op status : Nat) (payload : List Byte) : Dev :=
  let x := d.conn c
  if x.open_ && x.gen = gen then
    let cache := x.cache ++ [⟨seq, op, status, payload⟩]
    (d.setConn c { x with cache := cache.drop (cache.length - 64) }).gctSay c seq op status payload
  else d

/-- A request judged by its SEQ (R560), and, in its turn, executed by `serve`, which answers a status, a payload and a state. A malformed
one is answered BAD_MESSAGE (R569). -/
def State.gctRequest (s : State) (m : GctMsg) (op : Nat) (serve : State → Conn → Nat × List Byte × State) : State :=
  match s.dev.gctTake m with
  | (none, d) => { s with dev := d }
  | (some d, _) =>
    let c := d.conn m.conn
    let diff := (m.seq + 2 ^ 32 - c.expect) % 2 ^ 32
    if diff = 0 then
      let s1 := { s with dev := (d.setConn m.conn { c with expect := (c.expect + 1) % 2 ^ 32 }).count 0x072 0x100 1 }
      let a := if !m.wellFormed || m.session ≠ c.session then (2, [], s1) else serve s1 c
      { a.2.2 with dev := a.2.2.dev.gctAnswer m.conn c.gen m.seq op a.1 a.2.1 }
    else if 2 ^ 32 - 64 ≤ diff then
      match c.cache.find? (fun r => r.seq = m.seq) with
      | some r => { s with dev := (d.count 0x072 0x104 1).gctSay m.conn r.seq r.op r.status r.payload }
      | none => { s with dev := d }
    else if diff < c.window then
      { s with dev := (d.count 0x072 0x108 1).hostSend c.iface 1 (.gctAck m.conn ((c.expect + 2 ^ 32 - 1) % 2 ^ 32)) }
    else { s with dev := d }

/-- The class of a connection's session. -/
def Dev.connClass (d : Dev) (c : Conn) : Option SessCls := (d.sess.find c.session).bind (·.cls)

/-- Does a "Data" opcode's session reach an item (R563): any for OPERATOR, the plot's own for TENANT? -/
def Dev.dataReach (d : Dev) (c : Conn) (own : Plot → Bool) : Bool :=
  match d.connClass c with
  | some (.operator _) => true
  | some (.tenant p) => own (d.plot p)
  | none => false

/-- Is the device in BOOT, or in CALIBRATE (R570, R615)? -/
def Dev.inBoot (d : Dev) : Bool := d.bootOnly
def Dev.inCalibrate (d : Dev) : Bool := !d.power.fatal && d.power.phase = .calibrate

/-- GCT_CLOSE (R559): answered, then closed. -/
def State.gctClose (s : State) (m : GctMsg) : State :=
  let was := s.dev.conn m.conn
  let s1 := s.gctRequest m 0x0002 (fun t _ => (0, [], t))
  let now := s1.dev.conn m.conn
  if now.open_ && now.expect ≠ was.expect && (now.cache.getLast?).any (fun r => r.seq = m.seq && r.op = 0x0002 && r.status = 0) then
    { s1 with dev := s1.dev.closeConn m.conn true }
  else s1

/-- GCT_CLOSE. -/
def execGctClose (m : GctMsg) (s : State) : Host.Outcome State Fault Refusal := .next (s.gctClose m)

/-- GCT_IDLE_TIMEOUT (R559). -/
def Dev.gctIdle (tie : Nat) (d : Dev) (k : Nat) : Dev :=
  let c := d.conn k
  d.when (c.open_ && decide (c.last + ticksS * bitsN (d.rgN 0x072 0x404 0) 0 12 + tie ≤ d.time.elapsed)) (·.closeConn k false)

/-- GCT_IDLE_TIMEOUT. -/
def execGctIdleTimeout (conn : Nat) (s : State) : Host.Outcome State Fault Refusal := onTimer (fun tie d => d.gctIdle tie conn) s

/-- ALERT_SUBSCRIBE (R561, R563): on a connection with a session. -/
def State.alertSubscribe (s : State) (m : GctMsg) (on : Bool) : State :=
  s.gctRequest m 0x0003 (fun t c =>
    if t.dev.inBoot then (3, [], t)
    else if (t.dev.connClass c).isNone then (1, [], t)
    else (0, [], { t with dev := t.dev.onConn m.conn (fun x => { x with sub := on, alerts := if on then x.alerts else [] }) }))

/-- ALERT_SUBSCRIBE. -/
def execAlertSubscribe (m : GctMsg) (on : Bool) (s : State) : Host.Outcome State Fault Refusal := .next (s.alertSubscribe m on)

/-- GCT_REG_READ (R563, R588): up to 256 registers, and never more than MAX_PAYLOAD. -/
def State.gctRegRead (s : State) (m : GctMsg) (off count : Nat) : State :=
  s.gctRequest m 0x0010 (fun t c =>
    if 256 < count || c.maxPay < 4 * count then (4, [], { t with dev := t.dev.refuse 0 0 4 false })
    else
      let a := t.readMsg (.gct m.conn) off count
      (a.1, a.2.1.flatMap (toBytes 4), a.2.2))

/-- GCT_REG_READ. -/
def execGctRegRead (m : GctMsg) (off count : Nat) (s : State) : Host.Outcome State Fault Refusal := .next (s.gctRegRead m off count)

/-- GCT_REG_WRITE (R563, R564): up to 256 registers. -/
def State.gctRegWrite (s : State) (m : GctMsg) (off : Nat) (vals : List W32) : State :=
  s.gctRequest m 0x0011 (fun t _ =>
    if t.dev.inBoot then (3, [], t)
    else if 256 < vals.length then (4, [], { t with dev := t.dev.refuse 0 0 4 false })
    else
      let a := t.writeMsg (.gct m.conn) off (vals.map (·.toNat))
      (a.1, [], a.2))

/-- GCT_REG_WRITE. -/
def execGctRegWrite (m : GctMsg) (off : Nat) (vals : List W32) (s : State) : Host.Outcome State Fault Refusal := .next (s.gctRegWrite m off vals)

/-- A list of truth values as bytes, the first in bit 0 of byte 0. -/
def bitBytes (n : Nat) (l : List Bool) : List Byte :=
  toBytes n ((l.zip (List.range l.length)).foldl (fun v e => v + bitAt e.1 e.2) 0)

/-- The doorbells of a message applied in order; one bit each says whether it was dropped (R565). -/
def Dev.doorbells (d : Dev) : List (Nat × Nat × W32) → List Bool × Dev
  | [] => ([], d)
  | (r, g, i) :: rest =>
    let a := (d.doorbell (r % 32768) (g % 16) i).doorbells rest
    (d.doorbellStale (r % 32768) (g % 16) i :: a.1, a.2)

/-- GCT_DOORBELL (R563, R565, R615). -/
def State.gctDoorbell (s : State) (m : GctMsg) (bells : List (Nat × Nat × W32)) : State :=
  s.gctRequest m 0x0020 (fun t c =>
    let d := t.dev
    if d.inBoot || d.inCalibrate then (3, [], t)
    else if !bells.all (fun b => d.dataReach c (fun p => inRange p.ringRange (b.1 % 32768))) then (1, [], t)
    else if bells.isEmpty || 64 < bells.length then (4, [], t)
    else
      let a := d.doorbells bells
      (0, bitBytes ((bells.length + 7) / 8) a.1, { t with dev := a.2 }))

/-- GCT_DOORBELL. -/
def execGctDoorbell (m : GctMsg) (bells : List (Nat × Nat × W32)) (s : State) : Host.Outcome State Fault Refusal := .next (s.gctDoorbell m bells)

/-- The entries of a patch written in one tick; one truth value each says whether it was refused (R566). -/
def Dev.patches (d : Dev) (c : Nat) : List (Nat × W64) → List Bool × Dev
  | [] => ([], d)
  | (p, v) :: rest =>
    let a := d.patch c .host p v
    let b := a.1.patches c rest
    ((!a.2) :: b.1, b.2)

/-- PARAM_PATCH (R230, R563, R566): OK, or PARTIAL where an entry is refused; the step the entries belong to, and the refused ones. -/
def State.paramPatch (s : State) (m : GctMsg) (ctx : Nat) (entries : List (Nat × W64)) : State :=
  s.gctRequest m 0x0021 (fun t c =>
    let d := t.dev
    if d.inBoot || d.inCalibrate then (3, [], t)
    else if !d.dataReach c (fun p => inRange p.ctxRange ctx) then (1, [], t)
    else if 256 ≤ ctx || entries.isEmpty || 256 < entries.length then (4, [], t)
    else if (d.ctx ctx).st = 0 then (6, [], t)
    else
      let a := d.patches ctx entries
      (if a.1.any id then 7 else 0, toBytes 8 (d.nextStep ctx).toNat ++ bitBytes 32 a.1, { t with dev := a.2 }))

/-- PARAM_PATCH. -/
def execParamPatch (m : GctMsg) (ctx : Nat) (entries : List (Nat × W64)) (s : State) : Host.Outcome State Fault Refusal :=
  .next (s.paramPatch m ctx entries)

/-- PROG_BEGIN (R563, R567, R615). -/
def State.gctProgBegin (s : State) (m : GctMsg) (ctx total : Nat) : State :=
  s.gctRequest m 0x0030 (fun t c =>
    let d := t.dev
    if d.inBoot || d.inCalibrate then (3, [], t)
    else if !d.dataReach c (fun p => inRange p.ctxRange ctx) then (1, [], t)
    else
      let a := d.progBegin ctx total
      (a.2, [], { t with dev := a.1 }))

/-- PROG_BEGIN. -/
def execProgBegin (m : GctMsg) (ctx total : Nat) (s : State) : Host.Outcome State Fault Refusal := .next (s.gctProgBegin m ctx total)

/-- PROG_DATA (R563, R567, R615); the response shows the state of the slot. -/
def State.gctProgData (s : State) (m : GctMsg) (ctx off : Nat) (data : List Byte) : State :=
  s.gctRequest m 0x0031 (fun t c =>
    let d := t.dev
    if d.inBoot || d.inCalibrate then (3, [], t)
    else if !d.dataReach c (fun p => inRange p.ctxRange ctx) then (1, [], t)
    else
      let a := d.progData ctx off data
      (a.2, toBytes 1 (a.1.ctx ctx).staged.st, { t with dev := a.1 }))

/-- PROG_DATA. -/
def execProgData (m : GctMsg) (ctx off : Nat) (data : List Byte) (s : State) : Host.Outcome State Fault Refusal := .next (s.gctProgData m ctx off data)

/-! ### SPDM over GCT (R568): the request codes are those of DSP0274 (PRESUMED, log entry 66) -/

/-- The identity requests, and the others that need no session. -/
def spdmIdentityCodes : List Nat := [0x84, 0xE1, 0xE3, 0x81, 0x82]
def spdmOpenCodes : List Nat := spdmIdentityCodes ++ [0x83, 0xE0, 0xE4, 0xE5]

/-- The state that an SPDM row's meaning answers. -/
def State.after (s : State) (o : Host.Outcome State Fault Refusal) : State :=
  match o with
  | .next t => t
  | _ => s

/-- An SPDM request carried by GCT: those whose answer needs no operand of their own are answered here, the rest by their rows. -/
def State.spdmRequest (s : State) (link session code : Nat) : State :=
  match code with
  | 0x84 => s.after (execSpdmGetVersion link s)
  | 0xE1 => s.after (execSpdmGetCapabilities link s)
  | 0xE3 => s.after (execSpdmNegotiateAlgorithms link s)
  | 0x81 => s.after (execSpdmGetDigests link s)
  | 0x82 => s.after (execSpdmGetCertificate link 0 s)
  | 0x83 => s.after (execSpdmChallenge link s)
  | 0xE0 => s.after (execSpdmGetMeasurements link 0xFF s)
  | 0xE4 => s.after (execSpdmKeyExchange link s)
  | 0xE8 => s.after (execSpdmHeartbeat session s)
  | 0xE9 => s.after (execSpdmKeyUpdate session s)
  | 0xEC => s.after (execSpdmEndSession session s)
  | 0xEA => s.after (execSpdmGetEncapsulatedRequest session s)
  | 0xFF => s.after (execSpdmRespondIfReady link s)
  | 0xE5 | 0xEB | 0xFE => s
  | _ => s.after (execSpdmUnsupported link code s)

/-- GCT_SPDM (R563, R568, R570). -/
def State.gctSpdm (s : State) (m : GctMsg) (code : Nat) : State :=
  s.gctRequest m 0x0040 (fun t c =>
    let d := t.dev
    if d.inBoot && !spdmIdentityCodes.contains code || !d.spdmIdentity then (3, [], t)
    else if (d.connClass c).isNone && !spdmOpenCodes.contains code then (1, [], t)
    else (0, [], t.spdmRequest m.conn c.session code))

/-- GCT_SPDM. -/
def execGctSpdm (m : GctMsg) (code : Nat) (s : State) : Host.Outcome State Fault Refusal := .next (s.gctSpdm m code)

/-! ### Alerts (R561) -/

/-- GCT_ALERT_ACK: a message that carries only an acknowledgement of alerts. -/
def execGctAlertAck (m : GctMsg) (s : State) : Host.Outcome State Fault Refusal := .next { s with dev := (s.dev.gctTake m).2 }

/-- GCT_ALERT_RETX: an alert not acknowledged within RETX_US, doubled with each repeat up to 64 ms, goes out again; when the eighth repeat
is not answered in its time the connection closes. -/
def Dev.alertRetx (tie : Nat) (d : Dev) (k seq : Nat) : Dev :=
  let c := d.conn k
  match c.alerts.find? (fun a => a.seq = seq) with
  | none => d
  | some a =>
    let wait := min (64 * ticksMs) (ticksUs * bitsN (d.rgN 0x072 0x408 0) 0 16 * 2 ^ a.tries)
    if !c.open_ || d.time.elapsed < a.sent + wait + tie then d
    else if 8 ≤ a.tries then d.closeConn k false
    else
      let d1 := d.setConn k { c with alerts := c.alerts.map (fun x => if x.seq = seq then { x with sent := d.time.elapsed, tries := x.tries + 1 } else x) }
      (d1.count 0x072 0x114 1).hostSend c.iface 1 (.gctAlert k a.seq a.page a.bit a.tick)

/-- GCT_ALERT_RETX. -/
def execGctAlertRetx (conn seq : Nat) (s : State) : Host.Outcome State Fault Refusal := onTimer (fun tie d => d.alertRetx tie conn seq) s

end Sys2Proof.Machine
end

