-- ==== Sys2Proof/Machine/Mgmt.lean ====
section
/-! DEFINITION. Belvedere's services: telemetry (R547, R548), Redfish (R577), the SMBus sideband (R578). -/
namespace Sys2Proof.Machine

/-! ### Telemetry -/

/-- The values of a page's registers from 0x400 on, as Belvedere reads them. -/
def State.pageValues (s : State) (page : Nat) (rows : List RegRow) : List W32 :=
  let g := Role.rights .admin false
  (rows.filter (fun r => decide (0x400 ≤ r.lo))).flatMap (fun r =>
    (List.range ((r.hi - r.lo) / 4 + 1)).map (fun k => BitVec.ofNat 32 (s.value (.belvedere .admin) g page (r.lo + 4 * k))))

/-- A telemetry record (R547): the POWER and THERMAL values, and the STEP values of every plot that is not FREE. -/
def State.telemetry (s : State) : List W32 :=
  let d := s.dev
  let stepOf (p : Nat) : List W32 := ((List.range 11).filterMap (fun k => d.viewStep (0x400 + 4 * k) p)).map (BitVec.ofNat 32 ·)
  s.pageValues 0x006 (regRows 0x006) ++ s.pageValues 0x007 (regRows 0x007) ++ d.livePlots.flatMap stepOf

/-- TELEMETRY_PERIOD: every TELEM_PERIOD a record, of which the last 4,096 are kept; under overload the record is skipped. LOAD is a
measured value. -/
def State.telemPeriod (s : State) (overloaded : Bool) : State :=
  let d := s.dev
  if !d.mgmtUp || d.time.elapsed < d.belv.telemAt + ticksMs * bitsN (d.rgN 0x001 0x418 0) 0 16 then s
  else
    let k := d.draw
    let load := (Config.measured 0x001 0x414 k.1).toNat % 101
    let d1 := { k.2 with belv := { d.belv with telemAt := d.time.elapsed, load := load } }
    if overloaded then { s with dev := d1.count 0x001 0x104 1 }
    else
      let rs := d1.belv.telem ++ [⟨d.time.count, s.telemetry⟩]
      { s with dev := { d1 with belv := { d1.belv with telem := rs.drop (rs.length - 4096) } } }

/-- TELEMETRY_PERIOD. -/
def execTelemetryPeriod (overloaded : Bool) (s : State) : Host.Outcome State Fault Refusal :=
  .next (if s.dev.powered then s.telemPeriod overloaded else s)

/-! ### Redfish -/

/-- What a resource shows (R577), its representation as DSP0266 has it left open: 0 ServiceRoot and SessionService, 1 AccountService,
2 CertificateService, 3 Chassis, 4 Managers/Belvedere, 5 Systems/Device, 6 UpdateService, 7 TelemetryService, 8 EventService,
9 ComponentIntegrity. -/
def State.redfishBody (s : State) (resource : Nat) : List Byte :=
  let d := s.dev
  let roleCode (r : Role) : Nat := match r with
    | .admin => 0 | .operator => 1 | .readOnly => 2
  Config.eventBytes (32 + resource) (match resource with
    | 0 => d.rf.flatMap (fun e => toBytes 1 e.1)
    | 1 => s.nv.accounts.flatMap (fun e => toBytes 1 e.1 ++ toBytes 1 (roleCode e.2.role)) ++
        s.nv.anchors.flatMap (fun e => toBytes 1 e.1 ++ toBytes 1 (roleCode e.2.role) ++ e.2.digest)
    | 2 => toBytes 1 (bitAt s.nv.serverCert 0)
    | 3 => toBytes 1 d.modl.code ++ toBytes 8 d.modl.serial.toNat ++
        (s.pageValues 0x006 (regRows 0x006) ++ s.pageValues 0x007 (regRows 0x007)).flatMap (fun v => toBytes 4 v.toNat)
    | 4 => toBytes 1 d.belv.st ++ d.log.entries.flatMap (fun e => e.2.bytes)
    | 5 => toBytes 1 d.devState ++ toBytes 1 (bitAt d.plotsMode 0) ++ d.livePlots.flatMap (fun p => (d.plot p).desc.flatMap (fun v => toBytes 4 v.toNat)) ++
        toBytes 4 s.nv.delegation.toNat
    | 6 => toBytes 1 d.belv.update
    | 7 => d.belv.telem.flatMap (fun t => toBytes 8 t.tick.toNat ++ t.vals.flatMap (fun v => toBytes 4 v.toNat))
    | 8 => toBytes 1 d.rfPush ++ toBytes 1 d.rfSse
    | _ => d.mrValues.flatten)

/-- A role by its code in a request. -/
def roleOfCode (n : Nat) : Option Role :=
  match n with
  | 0 => some .admin | 1 => some .operator | 2 => some .readOnly | _ => none

/-- AccountService written (R493): accounts 0 to 15, and from 16 the 8 operator anchors; no bytes remove one. MR9 is extended (R485). The
sessions that an anchor's removal ends go with it (R492). -/
def State.accountWrite (s : State) (k : Nat) (bytes : List Byte) : Nat × State :=
  let measured (t : State) : State := { t with dev := t.dev.mrExtend 9 2 (toBytes 1 k ++ bytes) }
  let drop (t : State) (a : Nat) : State :=
    { t with dev := forEach ((t.dev.sess.filter (fun e => e.2.cls = some (.operator a))).map (·.1)) t.dev (fun e n => e.endSession n) }
  if k < 16 then
    match bytes with
    | [] => (204, measured { s with nv := { s.nv with accounts := s.nv.accounts.del k } })
    | b :: pw => match roleOfCode b.toNat with
      | some r =>
        if pw.length < 12 then (400, s)
        else (200, measured { s with nv := { s.nv with accounts := s.nv.accounts.put k ⟨true, r, false⟩ } })
      | none => (400, s)
  else if k < 24 then
    match bytes with
    | [] => (204, drop (measured { s with nv := { s.nv with anchors := s.nv.anchors.del (k - 16) } }) (k - 16))
    | b :: dg => match roleOfCode b.toNat with
      | some r =>
        if dg.length ≠ 48 then (400, s)
        else (200, drop (measured { s with nv := { s.nv with anchors := s.nv.anchors.put (k - 16) ⟨dg, r⟩ } }) (k - 16))
      | none => (400, s)
  else (404, s)

/-- A register write that Belvedere makes for a request, its status as a reply (R583). -/
def State.belvWrite (s : State) (role : Role) (woff v : Nat) : Nat × State :=
  let m := s.writeMsg (.belvedere role) woff [v]
  (if m.1 = 0 then 200 else if m.1 = 1 then 403 else if m.1 = 4 then 400 else 409, m.2)

/-- A write to a resource by a role (R577): the reply's code, and the state. -/
def State.redfishWrite (s : State) (session : Nat) (role : Role) (resource arg : Nat) (bytes : List Byte) : Nat × State :=
  let d := s.dev
  let v := leNat (bytes.take 4)
  let put (e : Dev) : Nat × State := (200, { s with dev := e })
  if role = .readOnly ∧ resource ≠ 0 then (403, s)
  else match resource with
    | 0 => (204, { s with dev := { d with rf := d.rf.del session } })
    | 1 => if role = .admin then s.accountWrite arg bytes else (403, s)
    | 2 => if role = .admin then (200, { s with nv := { s.nv with serverCert := true } }) else (403, s)
    | 4 =>
      (match arg with
       | 0 => s.belvWrite role 0x1408 1
       | 1 => s.belvWrite role 0x9414 1
       | _ => (200, s))
    | 5 => if arg = 0 then s.belvWrite role 0x8400 v else if arg = 1 then s.belvWrite role 0x85EC v else (405, s)
    | 6 =>
      (match arg with
       | 0 => (202, s)
       | 1 => s.belvWrite role 0x1420 1
       | 2 => s.belvWrite role 0x1420 2
       | 3 => s.belvWrite role 0x1420 4
       | _ => (400, s))
    | 8 =>
      (match arg with
       | 0 => if d.rfPush < 8 then put { d with rfPush := d.rfPush + 1 } else (400, s)
       | 1 => if d.rfSse < 2 then put { d with rfSse := d.rfSse + 1 } else (400, s)
       | 2 => put { d with rfPush := d.rfPush - 1 }
       | 3 => put { d with rfSse := d.rfSse - 1 }
       | _ => (400, s))
    | _ => (405, s)

/-- A reply on the management port. -/
def State.redfishSay (a : Nat × State) (body : List Byte) : State := { a.2 with dev := a.2.dev.emit (.redfish a.1 body) }

/-- REDFISH_REQUEST (R548, R577): `len` is the body's length, `waiting` the requests that wait. -/
def State.redfish (s : State) (session : Option Nat) (resource : Nat) (write : Bool) (arg : Nat) (bytes : List Byte) (len waiting : Nat) : State :=
  let d := s.dev
  let limit := if resource = 6 then 31 * 2 ^ 20 else 2 ^ 20
  if 32 ≤ waiting ∨ 90 < d.belv.load then State.redfishSay (503, { s with dev := d.count 0x001 0x108 1 }) []
  else if 9 < resource then State.redfishSay (404, s) []
  else if limit < len then State.redfishSay (413, s) []
  else match session.bind (fun n => (d.rf.find n).map (fun x => (n, x))) with
    | none => if resource = 0 && !write && session.isNone then State.redfishSay (200, s) (s.redfishBody 0) else State.redfishSay (401, s) []
    | some (n, x) =>
      let s1 := { s with dev := { d with rf := d.rf.put n { x with last := d.time.elapsed } } }
      if write then State.redfishSay (s1.redfishWrite n x.role resource arg bytes) []
      else State.redfishSay (200, s1) (s1.redfishBody resource)

/-- REDFISH_REQUEST. -/
def execRedfishRequest (session : Option Nat) (resource : Nat) (write : Bool) (arg : Nat) (bytes : List Byte) (len waiting : Nat)
    (s : State) : Host.Outcome State Fault Refusal :=
  .next (if s.dev.powered && s.dev.mgmtUp then s.redfish session resource write arg bytes len waiting else s)

/-- REDFISH_SESSION_TIMEOUT (R577): 30 minutes idle. -/
def Dev.rfTimeout (tie : Nat) (d : Dev) (n : Nat) : Dev :=
  match d.rf.find n with
  | some x => d.when (decide (x.last + 1800 * ticksS + tie ≤ d.time.elapsed)) (fun e => { e with rf := e.rf.del n })
  | none => d

/-- REDFISH_SESSION_TIMEOUT. -/
def execRedfishSessionTimeout (session : Nat) (s : State) : Host.Outcome State Fault Refusal := onTimer (fun tie d => d.rfTimeout tie session) s

/-! ### SMBus (R578): read-only, from BOOT until power-off, after a boot failure too. The order of a block's fields is the table's
(log entry 67). -/

/-- Does the sideband answer? -/
def Dev.smbusUp (d : Dev) : Bool := d.powered && d.power.phase ≠ .rom

/-- The classes of fault that the pages' ERR_STATUS registers show: bit 0 C, 1 D, 2 F, 3 X. -/
def Dev.faultSummary (d : Dev) : Nat :=
  let has (k : FaultClass) : Bool := d.regs.any (fun e => e.1 % 4096 = 0x018 &&
    (bitList e.2.toNat 32).any (fun b => errClass ((blockOf (e.1 / 4096 % 4096)).getD 0xFFF) b = some k))
  bitAt (has .c) 0 + bitAt (has .d) 1 + bitAt (has .f) 2 + bitAt (has .x) 3

/-- A Block Read answered. -/
def State.smbusSay (s : State) (bs : List Byte) : Host.Outcome State Fault Refusal :=
  .next (if s.dev.smbusUp then { s with dev := s.dev.emit (.smbus bs) } else s)

/-- A block of bytes filled with 0 to its length. -/
def block (n : Nat) (bs : List Byte) : List Byte := (bs ++ List.replicate n 0).take n

/-- SMBUS_STATUS: device state, fault classes, TJ_MAX, POWER_STATE. -/
def execSmbusStatus (s : State) : Host.Outcome State Fault Refusal :=
  let d := s.dev
  s.smbusSay (block 8 (toBytes 1 d.devState ++ toBytes 1 d.faultSummary ++ toBytes 2 (((d.viewThermal 0x400).getD 0) % 65536) ++ toBytes 1 d.power.state))

/-- SMBUS_IDENTITY: ordering code, serial number, stepping. -/
def execSmbusIdentity (s : State) : Host.Outcome State Fault Refusal :=
  let m := s.dev.modl
  s.smbusSay (block 32 (toBytes 1 m.code ++ toBytes 8 m.serial.toNat ++ toBytes 1 (if m.stepB then 2 else 1)))

/-- SMBUS_FIRMWARE: running slot, FUSE_STATUS, SVN of components 0 and 1. -/
def execSmbusFirmware (s : State) : Host.Outcome State Fault Refusal :=
  let svn (k : Nat) : Nat := ((s.dev.belv.running[k]?).map (·.svn)).getD 0
  s.smbusSay (block 16 (toBytes 1 s.dev.belv.slot ++ toBytes 4 ((s.viewSecurity 0x5E0 0 0 0 0).getD 0) ++ toBytes 1 (svn 0) ++ toBytes 1 (svn 1)))

/-- The boot result (R483, R578): 0 booting, 1 ok, 2 FALLBACK, 3 BOOT_FAIL. -/
def Dev.bootResult (d : Dev) : Nat :=
  match d.power.phase with
  | .bootFail => 3
  | .calibrate | .live | .rest => if d.belv.fallback then 2 else 1
  | _ => 0

/-- SMBUS_BOOT. -/
def execSmbusBoot (s : State) : Host.Outcome State Fault Refusal := s.smbusSay (block 4 (toBytes 1 s.dev.bootResult))

/-- SMBUS_CERT_DIGEST: SHA-384 of the DeviceID certificate. -/
def execSmbusCertDigest (s : State) : Host.Outcome State Fault Refusal := s.smbusSay (sha384 s.nv.devCert)

/-- SMBUS_ALERT_RESPONSE: while ALERT_N is asserted the device answers with its address, 0x5C. -/
def execSmbusAlertResponse (s : State) : Host.Outcome State Fault Refusal :=
  if s.dev.alertN then s.smbusSay [0x5C] else .next s

end Sys2Proof.Machine
end

