-- ==== Sys2Proof/Machine/Dispatch.lean ====
section
/-! DEFINITION. The dispatcher: one arm for each command, each a direct call of its meaning. -/
namespace Sys2Proof.Machine

/-- The effect of a command on everything but the queue. -/
def exec (i : Instr) (s : State) : Host.Outcome State Fault Refusal :=
  match i with
  | .pwrEnAssert x1 x2 => Sys2Proof.Machine.execPwrEnAssert x1 x2 s
  | .pwrGoodTimeout => Sys2Proof.Machine.execPwrGoodTimeout s
  | .pwrEnDeassert => Sys2Proof.Machine.execPwrEnDeassert s
  | .rstNLow x1 => Sys2Proof.Machine.execRstNLow x1 s
  | .fullReset x1 => Sys2Proof.Machine.execFullReset x1 s
  | .romStage1Check => Sys2Proof.Machine.execRomStage1Check s
  | .componentVerify => Sys2Proof.Machine.execComponentVerify s
  | .readyEntry => Sys2Proof.Machine.execReadyEntry s
  | .memctlTrainAttemptEnd x1 x2 x3 x4 => Sys2Proof.Machine.execMemctlTrainAttemptEnd x1 x2 x3 x4 s
  | .pairInitDone x1 => Sys2Proof.Machine.execPairInitDone x1 s
  | .oscLock x1 => Sys2Proof.Machine.execOscLock x1 s
  | .fllWindow x1 x2 x3 => Sys2Proof.Machine.execFllWindow x1 x2 x3 s
  | .unfence x1 x2 => Sys2Proof.Machine.execUnfence x1 x2 s
  | .issueFill x1 x2 => Sys2Proof.Machine.execIssueFill x1 x2 s
  | .kioskCompose x1 => Sys2Proof.Machine.execKioskCompose x1 s
  | .stepRelease x1 => Sys2Proof.Machine.execStepRelease x1 s
  | .beatRelease x1 => Sys2Proof.Machine.execBeatRelease x1 s
  | .stepEndBarrier x1 => Sys2Proof.Machine.execStepEndBarrier x1 s
  | .stallResume x1 => Sys2Proof.Machine.execStallResume x1 s
  | .stallTimeout x1 => Sys2Proof.Machine.execStallTimeout x1 s
  | .cycleStretch x1 x2 => Sys2Proof.Machine.execCycleStretch x1 x2 s
  | .mm x1 x2 x3 x4 => Sys2Proof.Machine.execMm x1 x2 x3 x4 s
  | .zero x1 x2 => Sys2Proof.Machine.execZero x1 x2 s
  | .drain x1 x2 => Sys2Proof.Machine.execDrain x1 x2 s
  | .chkRd x1 x2 x3 => Sys2Proof.Machine.execChkRd x1 x2 x3 s
  | .ld x1 x2 x3 x4 x5 => Sys2Proof.Machine.execLd x1 x2 x3 x4 x5 s
  | .st x1 x2 x3 => Sys2Proof.Machine.execSt x1 x2 x3 s
  | .gather x1 x2 x3 x4 x5 x6 x7 => Sys2Proof.Machine.execGather x1 x2 x3 x4 x5 x6 x7 s
  | .scatter x1 x2 x3 x4 x5 => Sys2Proof.Machine.execScatter x1 x2 x3 x4 x5 s
  | .perm x1 x2 x3 x4 x5 => Sys2Proof.Machine.execPerm x1 x2 x3 x4 x5 s
  | .xpose x1 x2 x3 x4 => Sys2Proof.Machine.execXpose x1 x2 x3 x4 s
  | .iMov x1 x2 x3 => Sys2Proof.Machine.execIMov x1 x2 x3 s
  | .iAdd x1 x2 x3 x4 => Sys2Proof.Machine.execIAdd x1 x2 x3 x4 s
  | .iMul x1 x2 x3 x4 => Sys2Proof.Machine.execIMul x1 x2 x3 x4 s
  | .xsend x1 x2 x3 x4 => Sys2Proof.Machine.execXsend x1 x2 x3 x4 s
  | .xrecv x1 x2 x3 x4 => Sys2Proof.Machine.execXrecv x1 x2 x3 x4 s
  | .flitArrival x1 x2 => Sys2Proof.Machine.execFlitArrival x1 x2 s
  | .freeEntryReturn x1 x2 => Sys2Proof.Machine.execFreeEntryReturn x1 x2 s
  | .vAdd x1 x2 => Sys2Proof.Machine.execVAdd x1 x2 s
  | .vSub x1 x2 => Sys2Proof.Machine.execVSub x1 x2 s
  | .vMul x1 x2 => Sys2Proof.Machine.execVMul x1 x2 s
  | .vFma x1 x2 => Sys2Proof.Machine.execVFma x1 x2 s
  | .vMin x1 x2 => Sys2Proof.Machine.execVMin x1 x2 s
  | .vMax x1 x2 => Sys2Proof.Machine.execVMax x1 x2 s
  | .vCmp x1 x2 x3 => Sys2Proof.Machine.execVCmp x1 x2 x3 s
  | .vSel x1 x2 => Sys2Proof.Machine.execVSel x1 x2 s
  | .vRot x1 x2 x3 => Sys2Proof.Machine.execVRot x1 x2 x3 s
  | .vCvt x1 x2 => Sys2Proof.Machine.execVCvt x1 x2 s
  | .vRng x1 x2 => Sys2Proof.Machine.execVRng x1 x2 s
  | .vSum x1 x2 => Sys2Proof.Machine.execVSum x1 x2 s
  | .vRmax x1 x2 => Sys2Proof.Machine.execVRmax x1 x2 s
  | .vArgmax x1 x2 => Sys2Proof.Machine.execVArgmax x1 x2 s
  | .vTopk x1 x2 => Sys2Proof.Machine.execVTopk x1 x2 s
  | .vTreemask x1 x2 => Sys2Proof.Machine.execVTreemask x1 x2 s
  | .vSample x1 x2 => Sys2Proof.Machine.execVSample x1 x2 s
  | .sfExp x1 x2 => Sys2Proof.Machine.execSfExp x1 x2 s
  | .sfLog x1 x2 => Sys2Proof.Machine.execSfLog x1 x2 s
  | .sfRsqrt x1 x2 => Sys2Proof.Machine.execSfRsqrt x1 x2 s
  | .sfTanh x1 x2 => Sys2Proof.Machine.execSfTanh x1 x2 s
  | .sfSigm x1 x2 => Sys2Proof.Machine.execSfSigm x1 x2 s
  | .pageIn x1 x2 x3 x4 => Sys2Proof.Machine.execPageIn x1 x2 x3 x4 s
  | .pageOut x1 x2 x3 x4 x5 => Sys2Proof.Machine.execPageOut x1 x2 x3 x4 x5 s
  | .await x1 x2 x3 => Sys2Proof.Machine.execAwait x1 x2 x3 s
  | .fence x1 x2 x3 => Sys2Proof.Machine.execFence x1 x2 x3 s
  | .fput x1 x2 x3 x4 x5 x6 x7 => Sys2Proof.Machine.execFput x1 x2 x3 x4 x5 x6 x7 s
  | .fget x1 x2 x3 x4 x5 => Sys2Proof.Machine.execFget x1 x2 x3 x4 x5 s
  | .fmcast x1 x2 x3 x4 x5 x6 x7 => Sys2Proof.Machine.execFmcast x1 x2 x3 x4 x5 x6 x7 s
  | .fredXw x1 x2 x3 x4 x5 x6 x7 x8 x9 => Sys2Proof.Machine.execFredXw x1 x2 x3 x4 x5 x6 x7 x8 x9 s
  | .fredF x1 x2 x3 x4 x5 x6 => Sys2Proof.Machine.execFredF x1 x2 x3 x4 x5 x6 s
  | .faddI64 x1 x2 x3 x4 x5 => Sys2Proof.Machine.execFaddI64 x1 x2 x3 x4 x5 s
  | .faddXw x1 x2 x3 x4 x5 x6 x7 x8 x9 => Sys2Proof.Machine.execFaddXw x1 x2 x3 x4 x5 x6 x7 x8 x9 s
  | .loop x1 x2 x3 x4 => Sys2Proof.Machine.execLoop x1 x2 x3 x4 s
  | .endloop x1 => Sys2Proof.Machine.execEndloop x1 s
  | .beat x1 x2 => Sys2Proof.Machine.execBeat x1 x2 s
  | .nop x1 => Sys2Proof.Machine.execNop x1 s
  | .pld x1 x2 x3 x4 => Sys2Proof.Machine.execPld x1 x2 x3 x4 s
  | .pred x1 x2 x3 => Sys2Proof.Machine.execPred x1 x2 x3 s
  | .stepEnd x1 => Sys2Proof.Machine.execStepEnd x1 s
  | .timeRd x1 x2 => Sys2Proof.Machine.execTimeRd x1 x2 s
  | .statRd x1 x2 x3 x4 => Sys2Proof.Machine.execStatRd x1 x2 x3 x4 s
  | .stagingKibPlaced x1 x2 => Sys2Proof.Machine.execStagingKibPlaced x1 x2 s
  | .transferComplete x1 x2 => Sys2Proof.Machine.execTransferComplete x1 x2 s
  | .lpddrBurstRead x1 x2 x3 x4 => Sys2Proof.Machine.execLpddrBurstRead x1 x2 x3 x4 s
  | .lpddrBurstWrite x1 x2 => Sys2Proof.Machine.execLpddrBurstWrite x1 x2 s
  | .memctlPatrolScrub x1 x2 x3 => Sys2Proof.Machine.execMemctlPatrolScrub x1 x2 x3 s
  | .phyRecalibration x1 => Sys2Proof.Machine.execPhyRecalibration x1 s
  | .refreshDoubling x1 x2 => Sys2Proof.Machine.execRefreshDoubling x1 x2 s
  | .storeScrubRead x1 x2 x3 => Sys2Proof.Machine.execStoreScrubRead x1 x2 x3 s
  | .wtierScrub x1 x2 x3 => Sys2Proof.Machine.execWtierScrub x1 x2 x3 s
  | .regionCreate x1 x2 => Sys2Proof.Machine.execRegionCreate x1 x2 s
  | .regionFree x1 x2 => Sys2Proof.Machine.execRegionFree x1 x2 s
  | .regionAbandon x1 x2 => Sys2Proof.Machine.execRegionAbandon x1 x2 s
  | .keyGenerate x1 x2 => Sys2Proof.Machine.execKeyGenerate x1 x2 s
  | .keyDestroy x1 x2 => Sys2Proof.Machine.execKeyDestroy x1 x2 s
  | .bundleVerifyDone x1 x2 => Sys2Proof.Machine.execBundleVerifyDone x1 x2 s
  | .loadActivate x1 x2 => Sys2Proof.Machine.execLoadActivate x1 x2 s
  | .loadDiscardStaged x1 x2 => Sys2Proof.Machine.execLoadDiscardStaged x1 x2 s
  | .loadDiscardActive x1 x2 => Sys2Proof.Machine.execLoadDiscardActive x1 x2 s
  | .paramCommit x1 x2 => Sys2Proof.Machine.execParamCommit x1 x2 s
  | .sysDigestWrite x1 x2 => Sys2Proof.Machine.execSysDigestWrite x1 x2 s
  | .packetRoute x1 => Sys2Proof.Machine.execPacketRoute x1 s
  | .combineSend x1 x2 => Sys2Proof.Machine.execCombineSend x1 x2 s
  | .put x1 => Sys2Proof.Machine.execPut x1 s
  | .getReq x1 => Sys2Proof.Machine.execGetReq x1 s
  | .getResp x1 => Sys2Proof.Machine.execGetResp x1 s
  | .completion x1 => Sys2Proof.Machine.execCompletion x1 s
  | .completionTimer x1 x2 => Sys2Proof.Machine.execCompletionTimer x1 x2 s
  | .faddI64Packet x1 => Sys2Proof.Machine.execFaddI64Packet x1 s
  | .xwAdd x1 => Sys2Proof.Machine.execXwAdd x1 s
  | .fAdd x1 => Sys2Proof.Machine.execFAdd x1 s
  | .mcast x1 => Sys2Proof.Machine.execMcast x1 s
  | .nullPacket x1 => Sys2Proof.Machine.execNullPacket x1 s
  | .loadPacket x1 => Sys2Proof.Machine.execLoadPacket x1 s
  | .errorResp x1 => Sys2Proof.Machine.execErrorResp x1 s
  | .fenceNotice x1 => Sys2Proof.Machine.execFenceNotice x1 s
  | .flushNotice x1 => Sys2Proof.Machine.execFlushNotice x1 s
  | .regReq x1 => Sys2Proof.Machine.execRegReq x1 s
  | .regResp x1 => Sys2Proof.Machine.execRegResp x1 s
  | .fenceSet x1 => Sys2Proof.Machine.execFenceSet x1 s
  | .linkMgmt x1 => Sys2Proof.Machine.execLinkMgmt x1 s
  | .xferTimeout x1 => Sys2Proof.Machine.execXferTimeout x1 s
  | .arrivalReap x1 x2 => Sys2Proof.Machine.execArrivalReap x1 x2 s
  | .switchArm x1 x2 => Sys2Proof.Machine.execSwitchArm x1 x2 s
  | .routeSwitch => Sys2Proof.Machine.execRouteSwitch s
  | .bankRetainEnd => Sys2Proof.Machine.execBankRetainEnd s
  | .faddCmd x1 => Sys2Proof.Machine.execFaddCmd x1 s
  | .fenceMapWrite x1 x2 x3 => Sys2Proof.Machine.execFenceMapWrite x1 x2 x3 s
  | .framePacket x1 x2 x3 => Sys2Proof.Machine.execFramePacket x1 x2 x3 s
  | .frameIdle x1 x2 => Sys2Proof.Machine.execFrameIdle x1 x2 s
  | .frameInit x1 x2 x3 => Sys2Proof.Machine.execFrameInit x1 x2 x3 s
  | .frameInitAck x1 x2 x3 => Sys2Proof.Machine.execFrameInitAck x1 x2 x3 s
  | .ackTimer x1 => Sys2Proof.Machine.execAckTimer x1 s
  | .replayTimer x1 => Sys2Proof.Machine.execReplayTimer x1 s
  | .lockLoss x1 x2 => Sys2Proof.Machine.execLockLoss x1 x2 s
  | .graceExpiry x1 => Sys2Proof.Machine.execGraceExpiry x1 s
  | .bringupPhaseDone x1 x2 => Sys2Proof.Machine.execBringupPhaseDone x1 x2 s
  | .bringupPhaseTimeout x1 => Sys2Proof.Machine.execBringupPhaseTimeout x1 s
  | .initRepeat x1 => Sys2Proof.Machine.execInitRepeat x1 s
  | .linkEnable x1 x2 => Sys2Proof.Machine.execLinkEnable x1 x2 s
  | .linkDrain x1 x2 => Sys2Proof.Machine.execLinkDrain x1 x2 s
  | .linkUndrain x1 x2 => Sys2Proof.Machine.execLinkUndrain x1 x2 s
  | .linkRecalibrate x1 x2 => Sys2Proof.Machine.execLinkRecalibrate x1 x2 s
  | .drainComplete x1 => Sys2Proof.Machine.execDrainComplete x1 s
  | .fecAlarmWindow x1 x2 x3 => Sys2Proof.Machine.execFecAlarmWindow x1 x2 x3 s
  | .timeExchange x1 => Sys2Proof.Machine.execTimeExchange x1 s
  | .timePacket x1 x2 x3 => Sys2Proof.Machine.execTimePacket x1 x2 x3 s
  | .exchangeLost x1 => Sys2Proof.Machine.execExchangeLost x1 s
  | .resetNotice x1 x2 => Sys2Proof.Machine.execResetNotice x1 x2 s
  | .readyNotice x1 x2 => Sys2Proof.Machine.execReadyNotice x1 x2 s
  | .handshakeTimeout x1 x2 => Sys2Proof.Machine.execHandshakeTimeout x1 x2 s
  | .refLoss => Sys2Proof.Machine.execRefLoss s
  | .refReturn => Sys2Proof.Machine.execRefReturn s
  | .holdoverExpiry => Sys2Proof.Machine.execHoldoverExpiry s
  | .timePllUnlock => Sys2Proof.Machine.execTimePllUnlock s
  | .launchArm x1 x2 => Sys2Proof.Machine.execLaunchArm x1 x2 s
  | .launchCancel x1 x2 => Sys2Proof.Machine.execLaunchCancel x1 x2 s
  | .launch => Sys2Proof.Machine.execLaunch s
  | .timeJumpCmd x1 => Sys2Proof.Machine.execTimeJumpCmd x1 s
  | .ringDoorbell x1 x2 x3 x4 => Sys2Proof.Machine.execRingDoorbell x1 x2 x3 x4 s
  | .cmdSubmit x1 => Sys2Proof.Machine.execCmdSubmit x1 s
  | .cmdCancel x1 => Sys2Proof.Machine.execCmdCancel x1 s
  | .cmdPark x1 => Sys2Proof.Machine.execCmdPark x1 s
  | .cmdResume x1 => Sys2Proof.Machine.execCmdResume x1 s
  | .commit x1 => Sys2Proof.Machine.execCommit x1 s
  | .mirrorFailed x1 => Sys2Proof.Machine.execMirrorFailed x1 s
  | .idleCommit x1 => Sys2Proof.Machine.execIdleCommit x1 s
  | .compactionDone x1 => Sys2Proof.Machine.execCompactionDone x1 s
  | .remoteParkDone x1 x2 => Sys2Proof.Machine.execRemoteParkDone x1 x2 s
  | .resumeFetchDone x1 x2 => Sys2Proof.Machine.execResumeFetchDone x1 x2 s
  | .inboxRead x1 x2 x3 => Sys2Proof.Machine.execInboxRead x1 x2 x3 s
  | .remoteParkExpiry x1 x2 => Sys2Proof.Machine.execRemoteParkExpiry x1 x2 s
  | .ringCreate x1 x2 => Sys2Proof.Machine.execRingCreate x1 x2 s
  | .ringDestroy x1 x2 => Sys2Proof.Machine.execRingDestroy x1 x2 s
  | .manifestCmd x1 x2 x3 => Sys2Proof.Machine.execManifestCmd x1 x2 x3 s
  | .jobSubmit x1 => Sys2Proof.Machine.execJobSubmit x1 s
  | .jobStart x1 => Sys2Proof.Machine.execJobStart x1 s
  | .jobComplete x1 => Sys2Proof.Machine.execJobComplete x1 s
  | .shardReadbackDone x1 => Sys2Proof.Machine.execShardReadbackDone x1 s
  | .weightSweep x1 => Sys2Proof.Machine.execWeightSweep x1 s
  | .plotAssign x1 x2 => Sys2Proof.Machine.execPlotAssign x1 x2 s
  | .plotAssignDone x1 => Sys2Proof.Machine.execPlotAssignDone x1 s
  | .plotRemove x1 x2 => Sys2Proof.Machine.execPlotRemove x1 x2 s
  | .plotRemoveFinal x1 => Sys2Proof.Machine.execPlotRemoveFinal x1 s
  | .plotFree x1 => Sys2Proof.Machine.execPlotFree x1 s
  | .clearCmd x1 x2 => Sys2Proof.Machine.execClearCmd x1 x2 s
  | .clearDone x1 => Sys2Proof.Machine.execClearDone x1 s
  | .ctxCreate x1 x2 => Sys2Proof.Machine.execCtxCreate x1 x2 s
  | .ctxDestroy x1 x2 => Sys2Proof.Machine.execCtxDestroy x1 x2 s
  | .calArm x1 x2 => Sys2Proof.Machine.execCalArm x1 x2 s
  | .calendarSwitch x1 => Sys2Proof.Machine.execCalendarSwitch x1 s
  | .sliceStart x1 x2 => Sys2Proof.Machine.execSliceStart x1 x2 s
  | .contextRestoreDone x1 x2 => Sys2Proof.Machine.execContextRestoreDone x1 x2 s
  | .svnCommit x1 => Sys2Proof.Machine.execSvnCommit x1 s
  | .spdmGetVersion x1 => Sys2Proof.Machine.execSpdmGetVersion x1 s
  | .spdmGetCapabilities x1 => Sys2Proof.Machine.execSpdmGetCapabilities x1 s
  | .spdmNegotiateAlgorithms x1 => Sys2Proof.Machine.execSpdmNegotiateAlgorithms x1 s
  | .spdmGetDigests x1 => Sys2Proof.Machine.execSpdmGetDigests x1 s
  | .spdmGetCertificate x1 x2 => Sys2Proof.Machine.execSpdmGetCertificate x1 x2 s
  | .spdmChallenge x1 => Sys2Proof.Machine.execSpdmChallenge x1 s
  | .spdmGetMeasurements x1 x2 => Sys2Proof.Machine.execSpdmGetMeasurements x1 x2 s
  | .spdmKeyExchange x1 => Sys2Proof.Machine.execSpdmKeyExchange x1 s
  | .spdmFinish x1 x2 x3 x4 => Sys2Proof.Machine.execSpdmFinish x1 x2 x3 x4 s
  | .spdmHeartbeat x1 => Sys2Proof.Machine.execSpdmHeartbeat x1 s
  | .heartbeatTimeout x1 => Sys2Proof.Machine.execHeartbeatTimeout x1 s
  | .spdmKeyUpdate x1 => Sys2Proof.Machine.execSpdmKeyUpdate x1 s
  | .spdmEndSession x1 => Sys2Proof.Machine.execSpdmEndSession x1 s
  | .weightKey x1 x2 x3 x4 x5 x6 x7 => Sys2Proof.Machine.execWeightKey x1 x2 x3 x4 x5 x6 x7 s
  | .spdmRespondIfReady x1 => Sys2Proof.Machine.execSpdmRespondIfReady x1 s
  | .spdmGetEncapsulatedRequest x1 => Sys2Proof.Machine.execSpdmGetEncapsulatedRequest x1 s
  | .spdmDeliverEncapsulatedResponse x1 => Sys2Proof.Machine.execSpdmDeliverEncapsulatedResponse x1 s
  | .spdmUnsupported x1 x2 => Sys2Proof.Machine.execSpdmUnsupported x1 x2 s
  | .mgmtLogin x1 x2 x3 x4 => Sys2Proof.Machine.execMgmtLogin x1 x2 x3 x4 s
  | .loginLockExpiry x1 => Sys2Proof.Machine.execLoginLockExpiry x1 s
  | .delegationWrite x1 x2 => Sys2Proof.Machine.execDelegationWrite x1 x2 s
  | .plotSelWrite x1 x2 => Sys2Proof.Machine.execPlotSelWrite x1 x2 s
  | .bellAbort x1 x2 => Sys2Proof.Machine.execBellAbort x1 x2 s
  | .bellVerdict x1 => Sys2Proof.Machine.execBellVerdict x1 s
  | .verdictTimeout x1 => Sys2Proof.Machine.execVerdictTimeout x1 s
  | .fateFenceSet x1 x2 x3 => Sys2Proof.Machine.execFateFenceSet x1 x2 x3 s
  | .fateFenceClear x1 x2 x3 => Sys2Proof.Machine.execFateFenceClear x1 x2 x3 s
  | .canaryInterval => Sys2Proof.Machine.execCanaryInterval s
  | .shadowCfgWrite x1 x2 => Sys2Proof.Machine.execShadowCfgWrite x1 x2 s
  | .shadowStart => Sys2Proof.Machine.execShadowStart s
  | .promoteRelease => Sys2Proof.Machine.execPromoteRelease s
  | .logIntake => Sys2Proof.Machine.execLogIntake s
  | .logEntryLost x1 => Sys2Proof.Machine.execLogEntryLost x1 s
  | .errInject x1 x2 x3 => Sys2Proof.Machine.execErrInject x1 x2 x3 s
  | .errStatusClear x1 x2 x3 => Sys2Proof.Machine.execErrStatusClear x1 x2 x3 s
  | .intStatusClear x1 x2 x3 => Sys2Proof.Machine.execIntStatusClear x1 x2 x3 s
  | .lockWrite x1 x2 x3 => Sys2Proof.Machine.execLockWrite x1 x2 x3 s
  | .counterRead x1 x2 x3 => Sys2Proof.Machine.execCounterRead x1 x2 x3 s
  | .resetHold x1 x2 => Sys2Proof.Machine.execResetHold x1 x2 s
  | .pairReset x1 x2 => Sys2Proof.Machine.execPairReset x1 x2 s
  | .fportReset x1 x2 => Sys2Proof.Machine.execFportReset x1 x2 s
  | .hportReset x1 x2 => Sys2Proof.Machine.execHportReset x1 x2 s
  | .memctlReset x1 x2 => Sys2Proof.Machine.execMemctlReset x1 x2 s
  | .kioskReset x1 => Sys2Proof.Machine.execKioskReset x1 s
  | .gatehouseReset x1 => Sys2Proof.Machine.execGatehouseReset x1 s
  | .belvedereReset x1 => Sys2Proof.Machine.execBelvedereReset x1 s
  | .domainCmdOn x1 x2 => Sys2Proof.Machine.execDomainCmdOn x1 x2 s
  | .domainCmdOff x1 x2 => Sys2Proof.Machine.execDomainCmdOff x1 x2 s
  | .restEnter x1 => Sys2Proof.Machine.execRestEnter x1 s
  | .restExit x1 => Sys2Proof.Machine.execRestExit x1 s
  | .powerWindow x1 x2 => Sys2Proof.Machine.execPowerWindow x1 x2 s
  | .currentWarning x1 => Sys2Proof.Machine.execCurrentWarning x1 s
  | .inputRange x1 => Sys2Proof.Machine.execInputRange x1 s
  | .conversionStop x1 => Sys2Proof.Machine.execConversionStop x1 s
  | .pairSupplyFault x1 x2 => Sys2Proof.Machine.execPairSupplyFault x1 x2 s
  | .domainSupplyFault x1 x2 => Sys2Proof.Machine.execDomainSupplyFault x1 x2 s
  | .thermTrip x1 x2 => Sys2Proof.Machine.execThermTrip x1 x2 s
  | .sensorInvalid x1 x2 => Sys2Proof.Machine.execSensorInvalid x1 x2 s
  | .belvedereWatchdog => Sys2Proof.Machine.execBelvedereWatchdog s
  | .belvedereSramEcc x1 => Sys2Proof.Machine.execBelvedereSramEcc x1 s
  | .belvedereRestart x1 => Sys2Proof.Machine.execBelvedereRestart x1 s
  | .telemetryPeriod x1 => Sys2Proof.Machine.execTelemetryPeriod x1 s
  | .slotImageWrite x1 x2 => Sys2Proof.Machine.execSlotImageWrite x1 x2 s
  | .updateActivate x1 => Sys2Proof.Machine.execUpdateActivate x1 s
  | .updateConfirm x1 => Sys2Proof.Machine.execUpdateConfirm x1 s
  | .updateRevert x1 => Sys2Proof.Machine.execUpdateRevert x1 s
  | .confirmWindowExpiry => Sys2Proof.Machine.execConfirmWindowExpiry s
  | .gctConnect x1 x2 x3 x4 x5 x6 x7 => Sys2Proof.Machine.execGctConnect x1 x2 x3 x4 x5 x6 x7 s
  | .gctClose x1 => Sys2Proof.Machine.execGctClose x1 s
  | .gctIdleTimeout x1 => Sys2Proof.Machine.execGctIdleTimeout x1 s
  | .alertSubscribe x1 x2 => Sys2Proof.Machine.execAlertSubscribe x1 x2 s
  | .gctRegRead x1 x2 x3 => Sys2Proof.Machine.execGctRegRead x1 x2 x3 s
  | .gctRegWrite x1 x2 x3 => Sys2Proof.Machine.execGctRegWrite x1 x2 x3 s
  | .gctDoorbell x1 x2 => Sys2Proof.Machine.execGctDoorbell x1 x2 s
  | .paramPatch x1 x2 x3 => Sys2Proof.Machine.execParamPatch x1 x2 x3 s
  | .progBegin x1 x2 x3 => Sys2Proof.Machine.execProgBegin x1 x2 x3 s
  | .progData x1 x2 x3 x4 => Sys2Proof.Machine.execProgData x1 x2 x3 x4 s
  | .gctSpdm x1 x2 => Sys2Proof.Machine.execGctSpdm x1 x2 s
  | .gctAlertAck x1 => Sys2Proof.Machine.execGctAlertAck x1 s
  | .gctAlertRetx x1 x2 => Sys2Proof.Machine.execGctAlertRetx x1 x2 s
  | .rdmaReadRequest x1 x2 x3 x4 x5 x6 => Sys2Proof.Machine.execRdmaReadRequest x1 x2 x3 x4 x5 x6 s
  | .rdmaWriteRequest x1 x2 x3 x4 x5 x6 => Sys2Proof.Machine.execRdmaWriteRequest x1 x2 x3 x4 x5 x6 s
  | .rdmaReadResponse x1 x2 x3 x4 x5 => Sys2Proof.Machine.execRdmaReadResponse x1 x2 x3 x4 x5 s
  | .rdmaAck x1 x2 => Sys2Proof.Machine.execRdmaAck x1 x2 s
  | .rdmaAckTimeout x1 => Sys2Proof.Machine.execRdmaAckTimeout x1 s
  | .cnpReceived x1 => Sys2Proof.Machine.execCnpReceived x1 s
  | .dcqcnTimer x1 => Sys2Proof.Machine.execDcqcnTimer x1 s
  | .qpConnect x1 x2 => Sys2Proof.Machine.execQpConnect x1 x2 s
  | .qpReset x1 x2 => Sys2Proof.Machine.execQpReset x1 x2 s
  | .mrCreate x1 x2 => Sys2Proof.Machine.execMrCreate x1 x2 s
  | .mrDestroy x1 x2 => Sys2Proof.Machine.execMrDestroy x1 x2 s
  | .saInstall x1 x2 x3 x4 => Sys2Proof.Machine.execSaInstall x1 x2 x3 x4 s
  | .saDelete x1 x2 x3 x4 => Sys2Proof.Machine.execSaDelete x1 x2 x3 x4 s
  | .saUse x1 x2 x3 => Sys2Proof.Machine.execSaUse x1 x2 x3 s
  | .ethFrameReceive x1 x2 x3 x4 x5 x6 x7 x8 => Sys2Proof.Machine.execEthFrameReceive x1 x2 x3 x4 x5 x6 x7 x8 s
  | .pfcReceived x1 x2 x3 => Sys2Proof.Machine.execPfcReceived x1 x2 x3 s
  | .arpNdIcmp x1 x2 => Sys2Proof.Machine.execArpNdIcmp x1 x2 s
  | .ptpSync x1 x2 x3 x4 => Sys2Proof.Machine.execPtpSync x1 x2 x3 x4 s
  | .redfishRequest x1 x2 x3 x4 x5 x6 x7 => Sys2Proof.Machine.execRedfishRequest x1 x2 x3 x4 x5 x6 x7 s
  | .smbusStatus => Sys2Proof.Machine.execSmbusStatus s
  | .smbusIdentity => Sys2Proof.Machine.execSmbusIdentity s
  | .smbusFirmware => Sys2Proof.Machine.execSmbusFirmware s
  | .smbusBoot => Sys2Proof.Machine.execSmbusBoot s
  | .smbusCertDigest => Sys2Proof.Machine.execSmbusCertDigest s
  | .smbusAlertResponse => Sys2Proof.Machine.execSmbusAlertResponse s
  | .logEntrySel x1 x2 => Sys2Proof.Machine.execLogEntrySel x1 x2 s
  | .logClear x1 => Sys2Proof.Machine.execLogClear x1 s
  | .roleWrite x1 x2 => Sys2Proof.Machine.execRoleWrite x1 x2 s
  | .portEnableWrite x1 x2 x3 => Sys2Proof.Machine.execPortEnableWrite x1 x2 x3 s
  | .regWriteGeneric x1 x2 x3 x4 => Sys2Proof.Machine.execRegWriteGeneric x1 x2 x3 x4 s
  | .programImageDmaLoad x1 x2 x3 => Sys2Proof.Machine.execProgramImageDmaLoad x1 x2 x3 s
  | .keyRevocation x1 x2 x3 => Sys2Proof.Machine.execKeyRevocation x1 x2 x3 s
  | .hostInterfaceDown x1 => Sys2Proof.Machine.execHostInterfaceDown x1 s
  | .hostInterfaceUp x1 => Sys2Proof.Machine.execHostInterfaceUp x1 s
  | .ptpLost => Sys2Proof.Machine.execPtpLost s
  | .redfishSessionTimeout x1 => Sys2Proof.Machine.execRedfishSessionTimeout x1 s
  | .belvedereRestartDone x1 => Sys2Proof.Machine.execBelvedereRestartDone x1 s
  | .inputRangeEnd x1 => Sys2Proof.Machine.execInputRangeEnd x1 s
  | .sensorRecovery x1 x2 => Sys2Proof.Machine.execSensorRecovery x1 x2 s

end Sys2Proof.Machine
end

