-- ==== Sys2Proof/Machine/Ticks.lean ====
section
/-! DEFINITION. The passing of one tick of the time domain (R372), which is what the block does while no command waits (log entry 1). -/
namespace Sys2Proof.Machine

/-- The counters of a fabric port that count ticks (R355): with the replay buffer full, and with a class short of credits; what waits
at the port goes out where there is room. -/
def Dev.tickPort (d : Dev) (n : Nat) : Dev :=
  let p := d.port n
  let busy := decide (2048 ≤ p.replay.length)
  let short := p.st = .up && (List.range 4).any (fun tc => decide (p.credH tc < 1) || decide (p.credD tc < 1))
  ((d.count (portPage n) 0x130 (if busy then 1 else 0)).count (portPage n) 0x134 (if short then 1 else 0)).sendWaiting n

/-- One tick of a device with power: the elapsed time and, once the time PLL has locked, the time counter advance by 1 (R372); milliseconds of
holdover are counted (R388); the host ports pass on what their receive buffers hold (R556); what commands left for the end of the
old tick happens (R257, R277), ALERT_N deasserts where no bit holds it (R596), and corrected tier words are written back (R260). -/
def Dev.tick (d : Dev) : Dev :=
  let t := d.time
  let d1 := { d.endTick.alertDrop with time := { t with elapsed := t.elapsed + 1, count := if t.everLocked then t.count + 1 else t.count } }
  let d2 := forEach (List.range 12) d1 Dev.tickPort
  let d3 := d2.count 0x004 0x110 (if t.holdover && (t.elapsed + 1 - t.holdSince) % ticksMs = 0 then 1 else 0)
  forEach (List.range 32) (forEach (List.range 2) d3 Dev.drainRx) Dev.writeBack

/-- One tick: without power only the time that the carrier's own limits count passes (R611, R617). -/
def State.tick (s : State) : State :=
  if s.dev.powered then { s with dev := s.dev.tick }
  else { s with dev := { s.dev with time := { s.dev.time with elapsed := s.dev.time.elapsed + 1 } } }

end Sys2Proof.Machine
end

