-- ==== Sys2Proof/Safety.lean ====
section
/-! DEFINITION. What counts as a safe run: the fuses stay legal and are never cleared (R480, R484), memories keep their canonical form, an answer is a next state. -/
namespace Sys2Proof.Machine

/-- The fuses in a legal state (R480): eight thermometer counters of 0 to 64, four revocation bits, and a signing key
that is not revoked. -/
def NonVol.fusesOk (nv : NonVol) : Bool :=
  nv.svn.length = 8 && nv.svn.all (fun v => decide (v ≤ 64)) && decide (nv.keyRevoked < 15)

/-- The invariant of the fuses. -/
def State.fusesOk (s : State) : Prop := s.nv.fusesOk = true

/-- No fuse of `a` is cleared in `b` (R480): the device secret and the key hashes are the same, no counter is less, no
revocation is taken back. -/
def NonVol.fusesKept (a b : NonVol) : Prop :=
  b.uds = a.uds ∧ b.keyHash = a.keyHash ∧ b.debugLock = a.debugLock ∧
    (∀ k, k < 8 → nthD a.svn k 0 ≤ nthD b.svn k 0) ∧ (∀ k, k < 4 → bitN a.keyRevoked k = true → bitN b.keyRevoked k = true)

/-- Is an outcome a next state? -/
def Safe (o : Host.Outcome State Fault Refusal) : Prop := ∃ t, o = .next t

/-- The memories of a pavilion are in canonical form. -/
def Pav.memOk (p : Pav) : Bool := p.sregs.wf && p.store.wf && p.tier.wf

/-- The memories of the device are in canonical form. -/
def Dev.memOk (d : Dev) : Bool := d.lpddr.wf && d.pavs.all Pav.memOk && d.backing.all (fun e => e.2.2.wf)

/-! ### Issue and results of a pavilion, as statements speak of them -/

/-- The device with the pavilion of an issue brought to the issue cycle (R13), and the slot marked as issued. -/
def Dev.atIssue (d : Dev) (i : Issue) : Dev := (d.reach i.pav i.cycle).1.markIssued i

/-- May an instruction issue and act: the device has power, the pavilion exists and comes to the issue cycle, the running plan holds
the instruction there, the guard holds, no loop pass is past its activity bound, and no comparison that has failed falls in this cycle (R13,
R141, R151, R199, R211)? -/
def Dev.issues (d : Dev) (i : Issue) (op : PlanOp) : Bool :=
  d.powered && decide (i.pav < min 32 (d.atIssue i).pavs.length) && (d.reach i.pav i.cycle).2 && (d.reach i.pav i.cycle).1.planned i op &&
    !(d.atIssue i).killed i op && ((d.atIssue i).pav i.pav).checks.all (fun k => decide (i.cycle < k.1))

/-- The pavilion as instructions of the issue cycle read it: every result landed that is readable in that cycle (R66). -/
def Dev.issuePav (d : Dev) (i : Issue) : Pav := ((d.atIssue i).pav i.pav).settle i.cycle

/-- The pavilion of an issue with every result landed that is readable `l` cycles after the issue (R66). -/
def State.issueAfter (t : State) (i : Issue) (l : Nat) : Pav := (t.dev.pav i.pav).settle (i.cycle + l)

/-- The pavilion of an issue in the issue cycle. -/
def Dev.pavAt (d : Dev) (i : Issue) : Pav := (d.atIssue i).pav i.pav

/-- What a plan can read of a pavilion: stream, index, predicate and accumulator registers, rendezvous counters, working
store and weight tier. -/
def Pav.visible (p : Pav) : Mem × SMap W64 × SMap Bool × SMap AccRow × SMap W32 × Mem × Mem :=
  (p.sregs, p.idx, p.preds, p.acc, p.ctrs, p.store, p.tier)

/-- An instruction issued by `i` from device `d` leaves the effects `es` in its pavilion, all readable from `l` cycles
after the issue, and changes nothing else that a plan reads. -/
def Leaves (t : State) (d : Dev) (i : Issue) (l : Nat) (es : List Effect) : Prop :=
  (t.issueAfter i l).visible = (es.foldl Pav.land ((d.issuePav i).settle (i.cycle + l))).visible

/-- The step of an issue's plot carries the mark of a V-marked instruction (R53). -/
def VarMarked (t : State) (d : Dev) (i : Issue) : Prop := (t.dev.step (d.pavAt i).plot).varExec = true

/-- A device register of the window as its store holds it: page, offset, item. -/
def State.reg (s : State) (page off bank : Nat) : Nat := s.dev.rgN page off bank

/-! ### What a command may change -/

/-- The device without what the record of a fault may change (R502, R595, R596): registers, ALERT_N, the log, and the
connections and ports that carry an alert. -/
def hush (d : Dev) : Dev := { d with regs := [], alertN := false, log := Log.empty, conns := [], hports := [], out := [] }

/-- From `s` to `t` a command has changed nothing but what `f` copies from the new device, and what a record of a fault
may change. -/
def Changes (s t : State) (f : Dev → Dev → Dev) : Prop :=
  t.nv = s.nv ∧ t.pending = s.pending ∧ hush t.dev = hush (f s.dev t.dev)

/-- The registers of every page but those listed are as they were. -/
def RegsKept (s t : State) (pages : List Nat) : Prop :=
  ∀ pg off bank, pg < 4096 → off < 4096 → pages.contains pg = false → t.reg pg off bank = s.reg pg off bank

/-- A page counter advanced by `n`: it stands still while CTRL.FREEZE of its page is 1, and saturates (R9, R594, R600). -/
def Counts (s t : State) (page off n : Nat) : Prop :=
  t.reg page off 0 = if bitN (s.reg page 0x010 0) 0 then s.reg page off 0 else min (2 ^ 32 - 1) (s.reg page off 0 + n)

/-- The check of a register write passes and the write acts (R95, R583 to R592, R634): the window answers, the write has status OK, and
the page is not that of a fused pavilion. -/
def State.admits (s : State) (r : Route) (page off v : Nat) : Prop :=
  s.dev.answers = true ∧ s.writeStatus r page off v = 0 ∧ s.dev.fusedPage page = false

end Sys2Proof.Machine
end

