-- ==== Sys2Proof/WellFormed.lean ====
section
/-! DEFINITION. Well-formed commands: what the hardware can be handed at all. Each check is named; the meanings are total on every term. -/
namespace Sys2Proof

open Machine

/-- A number below a bound: the count of the items the spec gives the device (R5, R6, R322, R394, R473, R572, R573, R582). -/
def below (n bound : Nat) : Bool := decide (n < bound)

/-- A route into the window (R583): a GCT connection is 0 to 255 (R558), a device 0 to 4,095 (R284). -/
def routeOk : Route → Bool
  | .gct c => below c 256
  | .space3 src => below src 4096
  | .belvedere _ => true

/-- An issued instruction stands in one of the 32 pavilions (R5). -/
def issueOk (i : Issue) : Bool := below i.pav 32

/-- An offset within a page, 4-byte aligned (R582). -/
def offOk (off : Nat) : Bool := below off 4096 && decide (off % 4 = 0)

/-- The envelope's fields fit the header (R558). -/
def gctMsgOk (m : GctMsg) : Bool :=
  below m.conn 256 && below m.gen 256 && below m.iface 9 && below m.session (2 ^ 32) && below m.seq (2 ^ 32) && below m.ack (2 ^ 32)

/-- A packet's fields fit its header, and its payload is at most 448 bytes (R292). -/
def packetOk (p : Packet) : Bool :=
  below p.dest 4096 && below p.src 4096 && below p.mid 4096 && below p.tc 4 && below p.typ 32 && below p.plot 16 && below p.addr (2 ^ 64) &&
    below p.hops 128 && below p.epoch 256 && below p.tag 65536 && below p.tagGen 16 && below p.pseq 65536 && below p.tracker 65536 &&
    below p.stepGen 16 && below p.plotGen 16 && below p.len 512 && below p.pcount 65536 && below p.contrib 8192 && below p.xwn 4 &&
    decide (-512 ≤ p.win) && decide (p.win ≤ 511) && below p.aux 16 && below p.tree 64 && decide (p.payload.length ≤ 448)

/-- A well-formed command. -/
def Instr.wellFormed (i : Instr) : Bool :=
  match i with
  | .pwrEnAssert _ _ => true
  | .pwrGoodTimeout => true
  | .pwrEnDeassert => true
  | .rstNLow _ => true
  | .fullReset r => routeOk r
  | .romStage1Check => true
  | .componentVerify => true
  | .readyEntry => true
  | .memctlTrainAttemptEnd m _ _ _ => below m 16
  | .pairInitDone pair => below pair 16
  | .oscLock pav => below pav 32
  | .fllWindow pav _ _ => below pav 32
  | .unfence r pav => routeOk r && below pav 32
  | .issueFill ctx _ => below ctx 256
  | .kioskCompose ctx => below ctx 256
  | .stepRelease ctx => below ctx 256
  | .beatRelease plot => below plot 16
  | .stepEndBarrier plot => below plot 16
  | .stallResume pav => below pav 32
  | .stallTimeout pav => below pav 32
  | .cycleStretch pav _ => below pav 32
  | .mm i _ _ _ => issueOk i
  | .zero i _ => issueOk i
  | .drain i _ => issueOk i
  | .chkRd i _ _ => issueOk i
  | .ld i _ _ _ _ => issueOk i
  | .st i _ _ => issueOk i
  | .gather i _ _ _ _ _ _ => issueOk i
  | .scatter i _ _ _ _ => issueOk i
  | .perm i _ _ _ _ => issueOk i
  | .xpose i _ _ _ => issueOk i
  | .iMov i _ _ => issueOk i
  | .iAdd i _ _ _ => issueOk i
  | .iMul i _ _ _ => issueOk i
  | .xsend i x _ _ => issueOk i && below x 8
  | .xrecv i x _ _ => issueOk i && below x 8
  | .flitArrival pav x => below pav 32 && below x 8
  | .freeEntryReturn pav x => below pav 32 && below x 8
  | .vAdd i _ => issueOk i
  | .vSub i _ => issueOk i
  | .vMul i _ => issueOk i
  | .vFma i _ => issueOk i
  | .vMin i _ => issueOk i
  | .vMax i _ => issueOk i
  | .vCmp i _ _ => issueOk i
  | .vSel i _ => issueOk i
  | .vRot i _ _ => issueOk i
  | .vCvt i _ => issueOk i
  | .vRng i _ => issueOk i
  | .vSum i _ => issueOk i
  | .vRmax i _ => issueOk i
  | .vArgmax i _ => issueOk i
  | .vTopk i _ => issueOk i
  | .vTreemask i _ => issueOk i
  | .vSample i _ => issueOk i
  | .sfExp i _ => issueOk i
  | .sfLog i _ => issueOk i
  | .sfRsqrt i _ => issueOk i
  | .sfTanh i _ => issueOk i
  | .sfSigm i _ => issueOk i
  | .pageIn i _ _ _ => issueOk i
  | .pageOut i _ _ _ _ => issueOk i
  | .await i _ _ => issueOk i
  | .fence i _ _ => issueOk i
  | .fput i _ _ _ _ _ _ => issueOk i
  | .fget i _ _ _ _ => issueOk i
  | .fmcast i _ _ _ _ _ _ => issueOk i
  | .fredXw i _ _ _ _ _ _ _ _ => issueOk i
  | .fredF i _ _ _ _ _ => issueOk i
  | .faddI64 i _ _ _ _ => issueOk i
  | .faddXw i _ _ _ _ _ _ _ _ => issueOk i
  | .loop i _ _ _ => issueOk i
  | .endloop i => issueOk i
  | .beat i _ => issueOk i
  | .nop i => issueOk i
  | .pld i _ _ _ => issueOk i
  | .pred i _ _ => issueOk i
  | .stepEnd i => issueOk i
  | .timeRd i _ => issueOk i
  | .statRd i _ _ _ => issueOk i
  | .stagingKibPlaced _ _ => true
  | .transferComplete _ _ => true
  | .lpddrBurstRead _ _ _ _ => true
  | .lpddrBurstWrite _ _ => true
  | .memctlPatrolScrub _ _ _ => true
  | .phyRecalibration m => below m 16
  | .refreshDoubling m _ => below m 16
  | .storeScrubRead pav line _ => below pav 32 && below line 524288
  | .wtierScrub pav line _ => below pav 32 && below line 6291456
  | .regionCreate r idx => routeOk r && below idx 1024
  | .regionFree r idx => routeOk r && below idx 1024
  | .regionAbandon r idx => routeOk r && below idx 1024
  | .keyGenerate r slot => routeOk r && below slot 16
  | .keyDestroy r slot => routeOk r && below slot 16
  | .bundleVerifyDone ctx _ => below ctx 256
  | .loadActivate r ctx => routeOk r && below ctx 256
  | .loadDiscardStaged r ctx => routeOk r && below ctx 256
  | .loadDiscardActive r ctx => routeOk r && below ctx 256
  | .paramCommit r ctx => routeOk r && below ctx 256
  | .sysDigestWrite r _ => routeOk r
  | .packetRoute _ => true
  | .combineSend _ _ => true
  | .put p => packetOk p
  | .getReq p => packetOk p
  | .getResp p => packetOk p
  | .completion p => packetOk p
  | .completionTimer src tag => below src 4096 && below tag 65536
  | .faddI64Packet p => packetOk p
  | .xwAdd p => packetOk p
  | .fAdd p => packetOk p
  | .mcast p => packetOk p
  | .nullPacket p => packetOk p
  | .loadPacket p => packetOk p
  | .errorResp p => packetOk p
  | .fenceNotice p => packetOk p
  | .flushNotice p => packetOk p
  | .regReq p => packetOk p
  | .regResp p => packetOk p
  | .fenceSet p => packetOk p
  | .linkMgmt p => packetOk p
  | .xferTimeout _ => true
  | .arrivalReap src tag => below src 4096 && below tag 65536
  | .switchArm r epoch => routeOk r && below epoch 256
  | .routeSwitch => true
  | .bankRetainEnd => true
  | .faddCmd r => routeOk r
  | .fenceMapWrite r k _ => routeOk r && below k 128
  | .framePacket port _ p => below port 12 && packetOk p
  | .frameIdle port _ => below port 12
  | .frameInit port _ _ => below port 12
  | .frameInitAck port _ _ => below port 12
  | .ackTimer port => below port 12
  | .replayTimer port => below port 12
  | .lockLoss port _ => below port 12
  | .graceExpiry port => below port 12
  | .bringupPhaseDone port _ => below port 12
  | .bringupPhaseTimeout port => below port 12
  | .initRepeat port => below port 12
  | .linkEnable r port => routeOk r && below port 12
  | .linkDrain r port => routeOk r && below port 12
  | .linkUndrain r port => routeOk r && below port 12
  | .linkRecalibrate r port => routeOk r && below port 12
  | .drainComplete port => below port 12
  | .fecAlarmWindow port _ _ => below port 12
  | .timeExchange port => below port 12
  | .timePacket port _ _ => below port 12
  | .exchangeLost port => below port 12
  | .resetNotice pav x => below pav 32 && below x 8
  | .readyNotice pav x => below pav 32 && below x 8
  | .handshakeTimeout pav x => below pav 32 && below x 8
  | .refLoss => true
  | .refReturn => true
  | .holdoverExpiry => true
  | .timePllUnlock => true
  | .launchArm r ctx => routeOk r && below ctx 256
  | .launchCancel r ctx => routeOk r && below ctx 256
  | .launch => true
  | .timeJumpCmd r => routeOk r
  | .ringDoorbell r ring _ _ => routeOk r && below ring 32768
  | .cmdSubmit ring => below ring 32768
  | .cmdCancel ring => below ring 32768
  | .cmdPark ring => below ring 32768
  | .cmdResume ring => below ring 32768
  | .commit ctx => below ctx 256
  | .mirrorFailed ring => below ring 32768
  | .idleCommit ctx => below ctx 256
  | .compactionDone ctx => below ctx 256
  | .remoteParkDone ctx seq => below ctx 256 && below seq 262144
  | .resumeFetchDone ctx seq => below ctx 256 && below seq 262144
  | .inboxRead ctx ring _ => below ctx 256 && below ring 32768
  | .remoteParkExpiry plot dev => below plot 16 && below dev 4096
  | .ringCreate r ring => routeOk r && below ring 32768
  | .ringDestroy r ring => routeOk r && below ring 32768
  | .manifestCmd r ctx _ => routeOk r && below ctx 256
  | .jobSubmit r => routeOk r
  | .jobStart job => below job 64
  | .jobComplete job => below job 64
  | .shardReadbackDone entry => below entry 16384
  | .weightSweep entry => below entry 16384
  | .plotAssign r p => routeOk r && below p 16
  | .plotAssignDone p => below p 16
  | .plotRemove r p => routeOk r && below p 16
  | .plotRemoveFinal p => below p 16
  | .plotFree p => below p 16
  | .clearCmd r _ => routeOk r
  | .clearDone _ => true
  | .ctxCreate r ctx => routeOk r && below ctx 256
  | .ctxDestroy r ctx => routeOk r && below ctx 256
  | .calArm r p => routeOk r && below p 16
  | .calendarSwitch p => below p 16
  | .sliceStart p ctx => below p 16 && below ctx 256
  | .contextRestoreDone p _ => below p 16
  | .svnCommit r => routeOk r
  | .spdmGetVersion _ => true
  | .spdmGetCapabilities _ => true
  | .spdmNegotiateAlgorithms _ => true
  | .spdmGetDigests _ => true
  | .spdmGetCertificate _ slot => below slot 8
  | .spdmChallenge _ => true
  | .spdmGetMeasurements _ _ => true
  | .spdmKeyExchange _ => true
  | .spdmFinish _ _ _ _ => true
  | .spdmHeartbeat _ => true
  | .heartbeatTimeout _ => true
  | .spdmKeyUpdate _ => true
  | .spdmEndSession _ => true
  | .weightKey _ _ plot slot _ _ _ => below plot 256 && below slot 256
  | .spdmRespondIfReady _ => true
  | .spdmGetEncapsulatedRequest _ => true
  | .spdmDeliverEncapsulatedResponse _ => true
  | .spdmUnsupported _ _ => true
  | .mgmtLogin _ _ _ _ => true
  | .loginLockExpiry _ => true
  | .delegationWrite r _ => routeOk r
  | .plotSelWrite r p => routeOk r && below p 16
  | .bellAbort port p => below port 12 && packetOk p
  | .bellVerdict p => packetOk p
  | .verdictTimeout ctx => below ctx 256
  | .fateFenceSet r _ _ => routeOk r
  | .fateFenceClear r _ _ => routeOk r
  | .canaryInterval => true
  | .shadowCfgWrite r _ => routeOk r
  | .shadowStart => true
  | .promoteRelease => true
  | .logIntake => true
  | .logEntryLost _ => true
  | .errInject r page bit => routeOk r && below page 4096 && below bit 32
  | .errStatusClear r page _ => routeOk r && below page 4096
  | .intStatusClear r page _ => routeOk r && below page 4096
  | .lockWrite r page _ => routeOk r && below page 4096
  | .counterRead r page off => routeOk r && below page 4096 && offOk off
  | .resetHold r page => routeOk r && below page 4096
  | .pairReset r page => routeOk r && below page 4096
  | .fportReset r port => routeOk r && below port 12
  | .hportReset r port => routeOk r && below port 2
  | .memctlReset r m => routeOk r && below m 16
  | .kioskReset r => routeOk r
  | .gatehouseReset r => routeOk r
  | .belvedereReset r => routeOk r
  | .domainCmdOn r dom => routeOk r && below dom 32
  | .domainCmdOff r dom => routeOk r && below dom 32
  | .restEnter r => routeOk r
  | .restExit r => routeOk r
  | .powerWindow _ _ => true
  | .currentWarning dom => below dom 32
  | .inputRange _ => true
  | .conversionStop _ => true
  | .pairSupplyFault pair _ => below pair 16
  | .domainSupplyFault dom _ => below dom 32
  | .thermTrip sensor _ => below sensor 48
  | .sensorInvalid k _ => below k 48
  | .belvedereWatchdog => true
  | .belvedereSramEcc _ => true
  | .belvedereRestart r => routeOk r
  | .telemetryPeriod _ => true
  | .slotImageWrite r _ => routeOk r
  | .updateActivate r => routeOk r
  | .updateConfirm r => routeOk r
  | .updateRevert r => routeOk r
  | .confirmWindowExpiry => true
  | .gctConnect iface _ _ _ _ _ _ => below iface 9
  | .gctClose m => gctMsgOk m
  | .gctIdleTimeout conn => below conn 256
  | .alertSubscribe m _ => gctMsgOk m
  | .gctRegRead m off _ => gctMsgOk m && below off 16777216
  | .gctRegWrite m off _ => gctMsgOk m && below off 16777216
  | .gctDoorbell m _ => gctMsgOk m
  | .paramPatch m ctx _ => gctMsgOk m && below ctx 256
  | .progBegin m ctx _ => gctMsgOk m && below ctx 256
  | .progData m ctx _ _ => gctMsgOk m && below ctx 256
  | .gctSpdm m _ => gctMsgOk m
  | .gctAlertAck m => gctMsgOk m
  | .gctAlertRetx conn _ => below conn 256
  | .rdmaReadRequest qp _ _ _ _ _ => below qp 2048
  | .rdmaWriteRequest qp _ _ _ _ _ => below qp 2048
  | .rdmaReadResponse qp _ _ _ _ => below qp 2048
  | .rdmaAck qp _ => below qp 2048
  | .rdmaAckTimeout qp => below qp 2048
  | .cnpReceived qp => below qp 2048
  | .dcqcnTimer qp => below qp 2048
  | .qpConnect r qp => routeOk r && below qp 2048
  | .qpReset r qp => routeOk r && below qp 2048
  | .mrCreate r mr => routeOk r && below mr 4096
  | .mrDestroy r mr => routeOk r && below mr 4096
  | .saInstall r port an dir => routeOk r && below port 2 && below an 4 && below dir 2
  | .saDelete r port an dir => routeOk r && below port 2 && below an 4 && below dir 2
  | .saUse r port an => routeOk r && below port 2 && below an 4
  | .ethFrameReceive port iface _ _ _ _ _ _ => below port 2 && below iface 4
  | .pfcReceived port prio _ => below port 2 && below prio 8
  | .arpNdIcmp iface _ => below iface 9
  | .ptpSync _ _ _ _ => true
  | .redfishRequest _ _ _ _ _ _ _ => true
  | .smbusStatus => true
  | .smbusIdentity => true
  | .smbusFirmware => true
  | .smbusBoot => true
  | .smbusCertDigest => true
  | .smbusAlertResponse => true
  | .logEntrySel r _ => routeOk r
  | .logClear r => routeOk r
  | .roleWrite r _ => routeOk r
  | .portEnableWrite r _ _ => routeOk r
  | .regWriteGeneric r page off _ => routeOk r && below page 4096 && offOk off
  | .programImageDmaLoad ctx _ _ => below ctx 256
  | .keyRevocation k signer _ => below k 4 && below signer 4
  | .hostInterfaceDown iface => below iface 8
  | .hostInterfaceUp iface => below iface 8
  | .ptpLost => true
  | .redfishSessionTimeout _ => true
  | .belvedereRestartDone _ => true
  | .inputRangeEnd _ => true
  | .sensorRecovery k _ => below k 48

end Sys2Proof
end

