-- ==== Sys2Proof/Certificates/Slice0/Obligations.lean ====
section
/-! DEFINITION. The statements about the model, one `def Obligations.<Name> : Prop` each. -/
open Sys2Proof Sys2Proof.Machine

/-! ### Instructions of the plan (R138 to R209). `s.dev.issuePav i` is the pavilion as an instruction of the issue cycle
reads it; `Leaves t s.dev i l es` says what is readable `l` cycles after the issue, and that nothing else a plan reads
has changed. -/

/-- R66, R144, R162, R201, R202, R204: an index, predicate, parameter, time or statistics instruction leaves its result in
the one register or line it names, readable after its latency. -/
def Obligations.ScalarResultReadableAtLatency : Prop :=
  ∀ (s : State) (i : Issue),
    (∀ d src, s.dev.issues i (.iMov d src) = true →
      ∃ t, exec (.iMov i d src) s = .next t ∧
        Leaves t s.dev i (match src with | .param _ => 2 | _ => 1)
          [.idx d (movValue ((s.dev.atIssue i).env i.pav) (s.dev.issuePav i) src)]) ∧
    (∀ d a b, s.dev.issues i (.iAdd d a b) = true →
      ∃ t, exec (.iAdd i d a b) s = .next t ∧
        Leaves t s.dev i 1 [.idx d ((s.dev.issuePav i).ireg a + idxOperand (s.dev.issuePav i) b)]) ∧
    (∀ d a b, s.dev.issues i (.iMul d a b) = true →
      ∃ t, exec (.iMul i d a b) s = .next t ∧
        Leaves t s.dev i 3 [.idx d ((s.dev.issuePav i).ireg a * idxOperand (s.dev.issuePav i) b)]) ∧
    (∀ q o, s.dev.issues i (.pred q o) = true →
      ∃ t, exec (.pred i q o) s = .next t ∧
        Leaves t s.dev i 1 [.pred q (predValue ((s.dev.atIssue i).env i.pav) (s.dev.issuePav i) o)]) ∧
    (∀ dst src n, s.dev.issues i (.pld dst src n) = true →
      ∃ t, exec (.pld i dst src n) s = .next t ∧
        Leaves t s.dev i 2 [.bytes dst.byte (((List.range n).flatMap (fun k => toBytes 8
          (((s.dev.atIssue i).env i.pav).param (src.p + (s.dev.issuePav i).idxOpt src.idx + k))) ++ zeros 64).take 64)]) ∧
    (∀ dst, s.dev.issues i (.timeRd dst) = true →
      ∃ t, exec (.timeRd i dst) s = .next t ∧ VarMarked t s.dev i ∧
        Leaves t s.dev i 3 [.bytes dst.byte ((toBytes 8 (s.dev.atIssue i).time.count.toNat ++ zeros 64).take 64)]) ∧
    (∀ dst off, s.dev.issues i (.statRd dst .pavilion off) = true →
      ∃ t, exec (.statRd i dst .pavilion off) s = .next t ∧ VarMarked t s.dev i ∧
        Leaves t s.dev i 3 [.bytes dst.byte ((toBytes 4 ((s.dev.atIssue i).rgN (pavPage i.pav) off 0) ++ zeros 64).take 64)]) ∧
    (∀ dst off, s.dev.issues i (.statRd dst .step off) = true →
      ∃ t, exec (.statRd i dst .step off) s = .next t ∧ VarMarked t s.dev i ∧
        Leaves t s.dev i 3 [.bytes dst.byte ((toBytes 4 ((s.dev.atIssue i).rgN 0x005 off (s.dev.pavAt i).plot) ++ zeros 64).take 64)])

/-- The device in which an instruction that reads the working store finds its upset words. -/
def storeHit (s : State) (i : Issue) (hits : Hits) : Dev := s.dev.onPav i.pav (·.storeHits hits)

/-- R144, R157, R158, R160, R161: loads and stores move their bytes between the working store and the stream registers, and
the shuffles permute and transpose a register, each readable after its latency. -/
def Obligations.MovesLeaveTheirBytesAtLatency : Prop :=
  ∀ (s : State) (i : Issue),
    (∀ dst src w hits, (storeHit s i hits).issues i (.ld dst src w) = true →
      ((storeHit s i hits).atIssue i).waitBlock i.pav w = none →
      storeEvents ((storeHit s i hits).issuePav i) (((storeHit s i hits).issuePav i).wsAddr src) 1024 = [] →
      ∃ t, exec (.ld i dst src w hits) s = .next t ∧ Leaves t (storeHit s i hits) i 4
        [.bytes dst.byte (((storeHit s i hits).issuePav i).store.bytes (((storeHit s i hits).issuePav i).wsAddr src) 1024)]) ∧
    (∀ dst src, s.dev.issues i (.st dst src) = true →
      ∃ t, exec (.st i dst src) s = .next t ∧ Leaves t s.dev i 3
        [.store ((s.dev.issuePav i).wsAddr dst) ((s.dev.issuePav i).sbytes src.byte 1024)]) ∧
    (∀ dst base span idx w hits, (storeHit s i hits).issues i (.gather dst base span idx w) = true →
      ((storeHit s i hits).atIssue i).waitBlock i.pav w = none →
      ((List.range 16).flatMap (fun k => storeEvents ((storeHit s i hits).issuePav i)
        (spanOff ((storeHit s i hits).issuePav i) base span idx k) 64)) = [] →
      ∃ t, exec (.gather i dst base span idx w hits) s = .next t ∧ Leaves t (storeHit s i hits) i 5
        [.bytes dst.byte ((List.range 16).flatMap (fun k => ((storeHit s i hits).issuePav i).store.bytes
          (spanOff ((storeHit s i hits).issuePav i) base span idx k) 64))]) ∧
    (∀ base span idx src, s.dev.issues i (.scatter base span idx src) = true →
      ∃ t, exec (.scatter i base span idx src) s = .next t ∧ Leaves t s.dev i 3
        ((List.range 16).map (fun k => .store (spanOff (s.dev.issuePav i) base span idx k)
          ((s.dev.issuePav i).sbytes (src.byte + 64 * k) 64)))) ∧
    (∀ dst src map elt, s.dev.issues i (.perm dst src map elt) = true →
      ∃ t, exec (.perm i dst src map elt) s = .next t ∧ Leaves t s.dev i 3
        [.bytes (2048 * dst) ((List.range (2048 / elt)).flatMap (fun k =>
          (s.dev.issuePav i).sbytes (2048 * src + elt * (leNat ((s.dev.issuePav i).sbytes (2048 * map + 2 * k) 2) % (2048 / elt))) elt))]) ∧
    (∀ dst src elt, s.dev.issues i (.xpose dst src elt) = true →
      ∃ t, exec (.xpose i dst src elt) s = .next t ∧ Leaves t s.dev i (if elt = 8 then 8 else 10)
        [.bytes (2048 * dst) ((List.range 64).flatMap (fun j => (List.range 64).flatMap (fun r =>
          (s.dev.issuePav i).sbytes (2048 * src + 64 * r * (elt / 8) + j * (elt / 8)) (elt / 8))))])

/-- The row result of the first activation row of an mm with a tile record. -/
def firstMulRow (o : MmArgs) (tile : Mem) (p : Pav) : RowResult :=
  if o.wfmt.is16 then halfMulRow o tile p.sregs o.act.byte [] else mxMulRow o tile p.sregs o.act.byte []

/-- R107, R108, R113, R144, R149 to R156: the first row of an mm adds its terms to its accumulator row after 6 cycles (7 for
BF16 and FP16); zero clears every row it names in the next cycle and no other row; the first row of a drain is converted
once and written after 9 cycles under LC1, 8 under LC2; chk.rd leaves the checksum columns of its rows after 4. -/
def Obligations.BedInstructionsLeaveTheirRows : Prop :=
  ∀ (s : State) (i : Issue) (bed : Nat), i.slot = .bed bed →
    (∀ o, s.dev.issues i (.mm o) = true → (s.dev.issuePav i).tierBad = [] → (s.dev.issuePav i).tierSoft = [] →
      (firstMulRow o ((s.dev.issuePav i).loadTile bed i.cycle o).1 (s.dev.issuePav i)).ok = true →
      ∃ t, exec (.mm i o [] []) s = .next t ∧ Leaves t s.dev i (if o.wfmt.is16 then 7 else 6)
        [.acc bed (64 * o.acc.grp + o.acc.j0)
          (firstMulRow o ((s.dev.issuePav i).loadTile bed i.cycle o).1 (s.dev.issuePav i)).cs
          (firstMulRow o ((s.dev.issuePav i).loadTile bed i.cycle o).1 (s.dev.issuePav i)).chk]) ∧
    (∀ acc, s.dev.issues i (.zero acc) = true → acc.grp < 4 → acc.j0 ≤ acc.j1 → acc.j1 < 64 →
      ∃ t, exec (.zero i acc) s = .next t ∧
        (∀ j, acc.j0 ≤ j → j ≤ acc.j1 → (t.issueAfter i 1).accRow bed (64 * acc.grp + j) = AccRow.zero) ∧
        (∀ b r, r < 256 → (b ≠ bed ∨ r < 64 * acc.grp + acc.j0 ∨ 64 * acc.grp + acc.j1 < r) →
          (t.issueAfter i 1).accRow b r = ((s.dev.issuePav i).settle (i.cycle + 1)).accRow b r)) ∧
    (∀ o, s.dev.issues i (.drain o) = true →
      ((s.dev.issuePav i).accRow bed (64 * o.acc.grp + o.acc.j0 + 0)).els.all AccEl.resOk = true →
      (drainEffects ((s.dev.atIssue i).env i.pav) (s.dev.issuePav i) bed
        (match o.sr with | some r => (s.dev.issuePav i).idxOpt r.idx | none => 0) o 0).2 = 0 →
      ∃ t, exec (.drain i o) s = .next t ∧
        Leaves t s.dev i (match ((s.dev.atIssue i).env i.pav).lc with | .lc1 => 9 | .lc2 => 8)
          (drainEffects ((s.dev.atIssue i).env i.pav) (s.dev.issuePav i) bed
            (match o.sr with | some r => (s.dev.issuePav i).idxOpt r.idx | none => 0) o 0).1) ∧
    (∀ acc dst, s.dev.issues i (.chkRd acc dst) = true →
      (∀ k, k < acc.j1 - acc.j0 + 1 →
        ((s.dev.issuePav i).accRow bed (64 * acc.grp + acc.j0 + k)).els.all AccEl.resOk = true) →
      ∃ t, exec (.chkRd i acc dst) s = .next t ∧ Leaves t s.dev i 4
        [.bytes dst.byte ((List.range (acc.j1 - acc.j0 + 1)).flatMap (fun k =>
          toBytes 16 ((s.dev.issuePav i).accRow bed (64 * acc.grp + acc.j0 + k)).chk.toNat))])

/-- Element `k` of a vector operand of `es`-byte elements; 0 where the form has no such operand. -/
def elemAt (p : Pav) (l : Option LineRef) (es k : Nat) : Nat :=
  match l with
  | some r => leNat (p.sbytes (r.byte + k * es) es)
  | none => 0

/-- The elements of the first chunk of a vector operand. -/
def firstChunk (o : LaneArgs) : Nat := min 1024 o.len / o.ty.bytes

/-- The bytes of the first chunk of an element-wise operation (R174): element k depends on element k of a, on the element of
b that its row meets (R175), and on element k of c, and on nothing else. -/
def laneBytes (p : Pav) (op : LaneOp) (o : LaneArgs) : List Byte :=
  (List.range (firstChunk o)).flatMap (fun k => toBytes o.ty.bytes (lane op o.ty (elemAt p (some o.a) o.ty.bytes k)
    (elemAt p o.b o.ty.bytes (match o.rowlen with | some r => k / r | none => k)) (elemAt p o.c o.ty.bytes k)))

/-- R128, R144, R172 to R175: each lane-array instruction leaves the elements of its first chunk after its latency: 3 cycles,
4 for v.fma, 2 for v.rot, which rotates within the chunk. -/
def Obligations.LaneArrayLeavesItsElements : Prop :=
  ∀ (s : State) (i : Issue) (o : LaneArgs),
    (s.dev.issues i (.lane .add o) = true → ∃ t, exec (.vAdd i o) s = .next t ∧
      Leaves t s.dev i 3 [.bytes o.dst.byte (laneBytes (s.dev.issuePav i) .add o)]) ∧
    (s.dev.issues i (.lane .sub o) = true → ∃ t, exec (.vSub i o) s = .next t ∧
      Leaves t s.dev i 3 [.bytes o.dst.byte (laneBytes (s.dev.issuePav i) .sub o)]) ∧
    (s.dev.issues i (.lane .mul o) = true → ∃ t, exec (.vMul i o) s = .next t ∧
      Leaves t s.dev i 3 [.bytes o.dst.byte (laneBytes (s.dev.issuePav i) .mul o)]) ∧
    (s.dev.issues i (.lane .fma o) = true → ∃ t, exec (.vFma i o) s = .next t ∧
      Leaves t s.dev i 4 [.bytes o.dst.byte (laneBytes (s.dev.issuePav i) .fma o)]) ∧
    (s.dev.issues i (.lane .min o) = true → ∃ t, exec (.vMin i o) s = .next t ∧
      Leaves t s.dev i 3 [.bytes o.dst.byte (laneBytes (s.dev.issuePav i) .min o)]) ∧
    (s.dev.issues i (.lane .max o) = true → ∃ t, exec (.vMax i o) s = .next t ∧
      Leaves t s.dev i 3 [.bytes o.dst.byte (laneBytes (s.dev.issuePav i) .max o)]) ∧
    (∀ c, s.dev.issues i (.lane (.cmp c) o) = true → ∃ t, exec (.vCmp i c o) s = .next t ∧
      Leaves t s.dev i 3 [.bytes o.dst.byte (laneBytes (s.dev.issuePav i) (.cmp c) o)]) ∧
    (s.dev.issues i (.lane .sel o) = true → ∃ t, exec (.vSel i o) s = .next t ∧
      Leaves t s.dev i 3 [.bytes o.dst.byte (laneBytes (s.dev.issuePav i) .sel o)]) ∧
    (∀ amt, s.dev.issues i (.lane (.rot amt) o) = true → ∃ t, exec (.vRot i amt o) s = .next t ∧
      Leaves t s.dev i 2 [.bytes o.dst.byte ((List.range (firstChunk o)).flatMap (fun (k : Nat) => toBytes o.ty.bytes
        (lane (.rot amt) o.ty (elemAt (s.dev.issuePav i) (some o.a) o.ty.bytes
          (((k : Int) - signedN 64 (((s.dev.issuePav i).idxImm amt % 2 ^ 64).toNat)) % (firstChunk o : Int)).toNat) 0 0)))])

/-- R129, R144, R173, R177, R178: the first row of a reduction is read in the issue cycle, and its result stands at the
destination after the row's chunks and the latency: the balanced pairwise sum, the maximum, the index of the greatest
element, the k greatest elements with their indexes. -/
def Obligations.ReductionsLeaveTheirFirstRow : Prop :=
  ∀ (s : State) (i : Issue) (o : RedArgs), 0 < o.rows → 0 < o.rowBytes →
    (s.dev.issues i (.red .sum o) = true → ∃ t, exec (.vSum i o) s = .next t ∧
      Leaves t s.dev i (ceilDiv o.rowBytes 1024 + 7)
        [.bytes o.dst.byte (toBytes 4 (VTy.fp32.round (fp32 (pairSum o.n (redEls (s.dev.issuePav i) o 0)))))]) ∧
    (s.dev.issues i (.red .rmax o) = true → ∃ t, exec (.vRmax i o) s = .next t ∧
      Leaves t s.dev i (ceilDiv o.rowBytes 1024 + 7)
        [.bytes o.dst.byte (toBytes 4 ((redEls (s.dev.issuePav i) o 0).tail.foldl fp32Max
          (fp32Max ((redEls (s.dev.issuePav i) o 0).headD 0) ((redEls (s.dev.issuePav i) o 0).headD 0))))]) ∧
    (s.dev.issues i (.red .argmax o) = true → ∃ t, exec (.vArgmax i o) s = .next t ∧
      Leaves t s.dev i (ceilDiv o.rowBytes 1024 + 8)
        [.bytes o.dst.byte (toBytes 4 ((((rankRow (redEls (s.dev.issuePav i) o 0)).headD (0, 0)).2 +
          ((s.dev.issuePav i).idxImm o.base % 2 ^ 32).toNat) % 2 ^ 32))]) ∧
    (s.dev.issues i (.topk o) = true → ∃ t, exec (.vTopk i o) s = .next t ∧
      Leaves t s.dev i (ceilDiv o.rowBytes 1024 + (match ((s.dev.atIssue i).env i.pav).lc with | .lc1 => 39 | .lc2 => 35))
        [.bytes o.dst.byte
          (((rankRow (redEls (s.dev.issuePav i) o 0)).take o.k).flatMap (fun x => toBytes 4 (VTy.fp32.round (fp32 x.1))) ++
           ((rankRow (redEls (s.dev.issuePav i) o 0)).take o.k).flatMap (fun x =>
             toBytes 4 (x.2 + ((s.dev.issuePav i).idxImm o.base % 2 ^ 32).toNat)))])

/-- The seed of v.rng in the issue cycle: a live parameter, or the next word of the entropy source. -/
def rngSeed (s : State) (i : Issue) (o : RngArgs) : Nat :=
  match o.seed with
  | .param q => ((s.dev.atIssue i).env i.pav).param q
  | .entropy => (Sys2Proof.Config.entropy (s.dev.atIssue i).free).toNat

/-- The position of v.rng in the issue cycle. -/
def rngPos (s : State) (i : Issue) (o : RngArgs) : Nat :=
  match o.pos with
  | .param q => ((s.dev.atIssue i).env i.pav).param q
  | .idx k => ((s.dev.issuePav i).ireg k).toNat

/-- R123, R127, R144, R176, R181 to R183: the first chunk of v.cvt is converted once; v.rng leaves the draws of kind 4 under its
seed and position; v.sample leaves the token of the candidate that the draw of kind 2 picks from the row's weights, its probability and
the degenerate mark, under which the candidate is the first and the probability 0. -/
def Obligations.ConvertDrawAndSample : Prop :=
  ∀ (s : State) (i : Issue),
    (∀ o, s.dev.issues i (.cvt o) = true →
      (cvtEffects ((s.dev.atIssue i).env i.pav) (s.dev.issuePav i)
        (match o.sr with | some r => (s.dev.issuePav i).idxOpt r.idx | none => 0) o 0).2 = 0 →
      ∃ t, exec (.vCvt i o) s = .next t ∧ Leaves t s.dev i 4
        (cvtEffects ((s.dev.atIssue i).env i.pav) (s.dev.issuePav i)
          (match o.sr with | some r => (s.dev.issuePav i).idxOpt r.idx | none => 0) o 0).1) ∧
    (∀ o : RngArgs, s.dev.issues i (.rng o) = true →
      ∃ t, exec (.vRng i o) s = .next t ∧ (o.seed = .entropy → VarMarked t s.dev i) ∧ Leaves t s.dev i 12
        [.bytes o.dst.byte ((List.range (min 1024 o.len / 4)).flatMap (fun k => toBytes 4
          (let w := draw 4 0 0 (rngSeed s i o) (rngPos s i o)
            ((((s.dev.issuePav i).idxImm o.d0 % 2 ^ 64).toNat + k) % 2 ^ 34)
           if o.f32 then uniform w else w)))]) ∧
    (∀ o : SampleArgs, 0 < o.rows → 0 < o.k → s.dev.issues i (.sample o) = true →
      let env := (s.dev.atIssue i).env i.pav
      let p := s.dev.issuePav i
      let ws := (List.range o.k).map (fun k => sampleWeight (elemAt p (some o.w) 4 k))
      let u := uniform (draw 2 0 (env.node (o.key + 1)) (env.param o.key) (env.param (o.key + 1)) 0)
      let r := samplePick o.k (env.param (o.key + 2) % 2 ^ 32) u ws
      r.1 < o.k ∧ r.2.2 ≤ 1 ∧ (r.2.2 = 1 → r.1 = 0 ∧ r.2.1 = 0) ∧
      ∃ t, exec (.vSample i o) s = .next t ∧ Leaves t s.dev i 20
        [.bytes o.dst.byte (p.sbytes (o.cand.byte + 4 * o.k + 4 * r.1) 4 ++ toBytes 4 r.2.1 ++ toBytes 4 r.2.2 ++ zeros 4)])

/-- The mask row of v.treemask for node `r` (R180). -/
def maskRow (o : TreeArgs) (par ds : List Nat) (n r : Nat) : List Byte :=
  match o.fmt with
  | .fp32 => (List.range 64).flatMap (fun j => toBytes 4 (if treeAllowed par ds n r j then 0 else 0xFF800000))
  | .bf16 => (List.range 64).flatMap (fun j => toBytes 2 (if treeAllowed par ds n r j then 0 else 0xFF80))
  | .bit => toBytes 8 ((List.range 64).foldl (fun m j => if treeAllowed par ds n r j then m + 2 ^ j else m) 0)

/-- R144, R173, R179, R180, R184: a special-function instruction leaves the results of its first 256 source bytes, narrowed to the
target type, after the latency of its operation; with nothing else under way, v.treemask leaves the mask rows in pieces of 1,024 bytes,
and the validity word where one is named. -/
def Obligations.SpecialFunctionsAndTreemask : Prop :=
  ∀ (s : State) (i : Issue),
    (∀ o : SfArgs,
      let out (op : SfOp) : Effect := .bytes o.dst.byte ((List.range (min 256 o.len / o.ty.bytes)).flatMap (fun k =>
        toBytes (o.tto.getD o.ty).bytes (narrow (o.tto.getD o.ty)
          (sfResult op (widen o.ty (elemAt (s.dev.issuePav i) (some o.src) o.ty.bytes k))))))
      (s.dev.issues i (.sf .exp o) = true → ∃ t, exec (.sfExp i o) s = .next t ∧
        Leaves t s.dev i (match ((s.dev.atIssue i).env i.pav).lc with | .lc1 => 14 | .lc2 => 12) [out .exp]) ∧
      (s.dev.issues i (.sf .log o) = true → ∃ t, exec (.sfLog i o) s = .next t ∧ Leaves t s.dev i 14 [out .log]) ∧
      (s.dev.issues i (.sf .rsqrt o) = true → ∃ t, exec (.sfRsqrt i o) s = .next t ∧ Leaves t s.dev i 10 [out .rsqrt]) ∧
      (s.dev.issues i (.sf .tanh o) = true → ∃ t, exec (.sfTanh i o) s = .next t ∧ Leaves t s.dev i 16 [out .tanh]) ∧
      (s.dev.issues i (.sf .sigm o) = true → ∃ t, exec (.sfSigm i o) s = .next t ∧ Leaves t s.dev i 16 [out .sigm])) ∧
    (∀ o : TreeArgs, 0 < o.rows → s.dev.issues i (.treemask o) = true → (s.dev.issuePav i).pend = [] →
      let par := ((s.dev.issuePav i).sbytes o.par.byte 64).map (·.toNat)
      let n := ((s.dev.issuePav i).idxImm o.n).toNat
      let ds := treeDepths par n
      let all := (List.range o.rows).flatMap (maskRow o par ds n)
      let word := toBytes 8 ((List.range 64).foldl (fun m k => if nthD ds k 0 != 0 then m + 2 ^ k else m) 0)
      ∃ t, exec (.vTreemask i o) s = .next t ∧ Leaves t s.dev i (ceilDiv (o.rows * o.rowBytes) 1024 + 5)
        ((List.range (pieces 1024 all).length).map (fun k => .bytes (o.dst.byte + 1024 * k) (nthD (pieces 1024 all) k [])) ++
          (match o.vld with | some l => [.bytes l.byte word] | none => [])))

/-- R19, R193, R194, R199, R200, R203: nop, beat, an await whose level is reached and a fence whose count has arrived change
nothing but the cycle reached; loop opens a frame whose counter reads 0 from the next cycle; endloop starts the next pass
or ends the loop; step.end with no transfer of the pavilion open ends its plan. -/
def Obligations.ControlInstructionsComplete : Prop :=
  ∀ (s : State) (i : Issue),
    (s.dev.issues i .nop = true → exec (.nop i) s = .next { s with dev := s.dev.atIssue i }) ∧
    (∀ k, s.dev.issues i (.beat k) = true → exec (.beat i k) s = .next { s with dev := s.dev.atIssue i }) ∧
    (∀ k l, s.dev.issues i (.await k l) = true → levelMet ((s.dev.pavAt i).level l) ((s.dev.pavAt i).ctr k) = true →
      exec (.await i k l) s = .next { s with dev := s.dev.atIssue i }) ∧
    (∀ k c, s.dev.issues i (.fence k c) = true → c ≤ ((s.dev.atIssue i).tracker k).cur →
      exec (.fence i k c) s = .next { s with dev := s.dev.atIssue i }) ∧
    (∀ n act ctr, s.dev.issues i (.loop n act ctr) = true →
      ∃ t, exec (.loop i n act ctr) s = .next t ∧
        (t.dev.pav i.pav).loops =
          ⟨i.cycle, n, act.map (fun x => ((s.dev.pavAt i).idxImm x).toNat), ctr, 0⟩ :: (s.dev.pavAt i).loops ∧
        (∀ j, ctr = some j → (t.issueAfter i 1).ireg j = 0)) ∧
    (∀ f rest, s.dev.issues i .endloop = true → (s.dev.pavAt i).loops = f :: rest →
      ∃ t, exec (.endloop i) s = .next t ∧
        (f.n ≤ f.pass + 1 → (t.dev.pav i.pav).loops = rest) ∧
        (f.pass + 1 < f.n → (t.dev.pav i.pav).loops = { f with pass := f.pass + 1 } :: rest ∧
          (∀ j, f.ctr = some j → (t.issueAfter i 1).ireg j = BitVec.ofNat 64 (f.pass + 1)))) ∧
    (s.dev.issues i .stepEnd = true → (s.dev.atIssue i).openPlan i.pav = false →
      ∃ t, exec (.stepEnd i) s = .next t ∧ (t.dev.pav i.pav).ended = true ∧
        (t.dev.pav i.pav).visible = (s.dev.pavAt i).visible)

/-- R23, R27, R84, R163, R164, R369: xsend puts one stamped flit on its wire and takes one free entry; xrecv takes the head
flit, readable after 2 cycles, and frees the entry; a flit of the accepted generation enters the FIFO it arrives at, and one of
another generation is discarded; an entry that comes back adds one to the sender's count. -/
def Obligations.FlitsCrossOneByOne : Prop :=
  ∀ (s : State) (i : Issue) (x : Nat),
    (∀ src, s.dev.issues i (.xsend x src none) = true → (s.dev.pavAt i).free x ≠ 0 →
      ∃ t, exec (.xsend i x src none) s = .next t ∧
        (t.dev.pav i.pav).wires.get x [] =
          (s.dev.pavAt i).wires.get x [] ++ [⟨(s.dev.pavAt i).flitOf src, (s.dev.pavAt i).outGen.get x 0⟩] ∧
        (t.dev.pav i.pav).free x = (s.dev.pavAt i).free x - 1 ∧ (t.dev.pav i.pav).visible = (s.dev.pavAt i).visible) ∧
    (∀ dst f rest, s.dev.issues i (.xrecv x dst none) = true → (s.dev.pavAt i).fifos.get x [] = f :: rest →
      ∃ t, exec (.xrecv i x dst none) s = .next t ∧
        (t.dev.pav i.pav).fifos.get x [] = rest ∧ (t.dev.pav i.pav).freed.get x 0 = (s.dev.pavAt i).freed.get x 0 + 1 ∧
        Leaves t s.dev i 2 [.bytes dst.byte (toBytes 256 f.toNat)]) ∧
    (∀ n q f rest, s.dev.powered = true → n < s.dev.pavs.length → q < s.dev.pavs.length → q ≠ n → neighbour n x = some q →
      (s.dev.pav q).wires.get (facing x) [] = f :: rest → s.dev.throughOf n x = none →
      ∃ t, exec (.flitArrival n x) s = .next t ∧ (t.dev.pav q).wires.get (facing x) [] = rest ∧
        (f.gen = (s.dev.pav n).inGen.get x 0 → (t.dev.pav n).fifos.get x [] = (s.dev.pav n).fifos.get x [] ++ [f.data]) ∧
        (f.gen ≠ (s.dev.pav n).inGen.get x 0 → (t.dev.pav n).fifos = (s.dev.pav n).fifos)) ∧
    (∀ n q y, s.dev.powered = true → n < s.dev.pavs.length → q < s.dev.pavs.length → q ≠ n →
      s.dev.routeEnd 32 n x = some (q, y) → (s.dev.pav q).freed.get y 0 ≠ 0 →
      ∃ t, exec (.freeEntryReturn n x) s = .next t ∧
        (t.dev.pav q).freed.get y 0 = (s.dev.pav q).freed.get y 0 - 1 ∧
        (t.dev.pav n).free x = min 16 ((s.dev.pav n).free x + 1))

/-- R23 to R25, R32, R94, R193, R368: an await whose level is not reached stops the clock with the instruction held; when the
level is reached the clock starts again with nothing held and the lost ticks are charged; a stall that has reached its
timeout, still blocked, abandons the step: it no longer runs and its outputs are withheld. -/
def Obligations.StallsHoldResumeAndTimeOut : Prop :=
  ∀ (s : State),
    (∀ (i : Issue) k l, s.dev.issues i (.await k l) = true →
      levelMet ((s.dev.pavAt i).level l) ((s.dev.pavAt i).ctr k) = false →
      ∃ t, exec (.await i k l) s = .next t ∧ (t.dev.pav i.pav).held = [⟨i, .await k l, [], false⟩] ∧
        (t.dev.pav i.pav).visible = (s.dev.pavAt i).visible ∧
        ∃ st, (t.dev.pav i.pav).stall = some st ∧ st.kind = 4 ∧ st.index = 0 ∧
          st.limit = (s.dev.atIssue i).time.elapsed + (s.dev.atIssue i).stallTicks) ∧
    (∀ n st (i : Issue) k l cnt, s.dev.powered = true → n < s.dev.pavs.length → i.pav = n →
      (s.dev.pav n).stall = some st → (s.dev.pav n).held = [⟨i, .await k l, [], cnt⟩] →
      levelMet ((s.dev.pav n).level l) ((s.dev.pav n).ctr k) = true →
      ∃ t, exec (.stallResume n) s = .next t ∧ (t.dev.pav n).stall = none ∧ (t.dev.pav n).held = [] ∧
        (t.dev.pav n).visible = (s.dev.pav n).visible ∧
        (st.cat = .fabric → (t.dev.pav n).lost.fabric = (s.dev.pav n).lost.fabric + (s.dev.time.elapsed - st.sinceEl))) ∧
    (∀ n st, s.dev.powered = true → (s.dev.pav n).stall = some st → st.limit + s.tie ≤ s.dev.time.elapsed →
      (s.dev.heldBlock n).isSome = true → (s.dev.step (s.dev.pav n).plot).running = true →
      ∃ t, exec (.stallTimeout n) s = .next t ∧ (t.dev.step (s.dev.pav n).plot).running = false ∧
        (t.dev.step (s.dev.pav n).plot).abandoned = true ∧ (t.dev.step (s.dev.pav n).plot).withheld = true)

/-- A transfer of a plan stands open with a tag, its done counter, its place and its length. -/
def OpenXfer (t : State) (pav : Nat) (kind : XferKind) (done loc len addr : Nat) : Prop :=
  ∃ x ∈ t.dev.xfers, x.owner = .plan pav ∧ x.kind = kind ∧ x.plan = true ∧ x.done = some done ∧ x.loc = loc ∧
    x.len = len ∧ x.addr = addr

/-- R185 to R198, R287: each transfer instruction opens one transfer with its done counter, its place in the working store, its
length and its address, and leaves every register and store that a plan reads as it was. The device is not a shadow that
follows, and the bytes that a send reads hold no upset word (R76). -/
def Obligations.TransferInstructionsOpenATransfer : Prop :=
  ∀ (s : State) (i : Issue) (w : DoneBy), (s.dev.atIssue i).isShadow = false →
    (∀ dst pg, s.dev.issues i (.pageIn dst pg w) = true → ((s.dev.atIssue i).pageWalk i.pav pg).2.1 = 0 →
      ∃ t, exec (.pageIn i dst pg w) s = .next t ∧ (t.dev.pav i.pav).visible = (s.dev.pavAt i).visible ∧
        OpenXfer t i.pav .pageIn w.done (i.pav * 2 ^ 25 + dst) (32768 * pg.n)
          ((s.dev.atIssue i).number * 2 ^ 52 + i.pav * 2 ^ 25 + dst)) ∧
    (∀ src pg off len, s.dev.issues i (.pageOut src pg (some (off, len)) w) = true →
      ((s.dev.atIssue i).pageWalk i.pav pg).2.1 = 0 →
      ∃ t, exec (.pageOut i src pg (some (off, len)) w) s = .next t ∧ (t.dev.pav i.pav).visible = (s.dev.pavAt i).visible ∧
        OpenXfer t i.pav .pageOut w.done (i.pav * 2 ^ 25 + src) len ((s.dev.pavAt i).idxImm off).toNat) ∧
    (∀ src pg, s.dev.issues i (.pageOut src pg none w) = true → ((s.dev.atIssue i).pageWalk i.pav pg).2.1 = 0 →
      ∃ t, exec (.pageOut i src pg none w) s = .next t ∧ (t.dev.pav i.pav).visible = (s.dev.pavAt i).visible ∧
        OpenXfer t i.pav .pageOut w.done (i.pav * 2 ^ 25 + src) (32768 * pg.n) 0) ∧
    (∀ tgt src len trk tc0, s.dev.issues i (.fput tgt src len trk tc0 w) = true →
      storeEvents (s.dev.pavAt i) src len = [] →
      ∃ t, exec (.fput i tgt src len trk tc0 w) s = .next t ∧ (t.dev.pav i.pav).visible = (s.dev.pavAt i).visible ∧
        OpenXfer t i.pav .put w.done (i.pav * 2 ^ 25 + src) len ((s.dev.atIssue i).gaOf i.pav tgt)) ∧
    (∀ from_ dst len, s.dev.issues i (.fget from_ dst len w) = true →
      ∃ t, exec (.fget i from_ dst len w) s = .next t ∧ (t.dev.pav i.pav).visible = (s.dev.pavAt i).visible ∧
        OpenXfer t i.pav .get w.done (i.pav * 2 ^ 25 + dst) len ((s.dev.atIssue i).gaOf i.pav from_)) ∧
    (∀ grp src len off trk g b, s.dev.issues i (.fmcast grp src len off trk w) = true →
      (s.dev.atIssue i).bodyOf (s.dev.pavAt i).plot = some b → b.groups.find? (fun x => x.id = grp) = some g →
      storeEvents (s.dev.pavAt i) src len = [] →
      ∃ t, exec (.fmcast i grp src len off trk w) s = .next t ∧ (t.dev.pav i.pav).visible = (s.dev.pavAt i).visible ∧
        OpenXfer t i.pav .mcast w.done (i.pav * 2 ^ 25 + src) len off) ∧
    (∀ n dst src cmp el win trk, s.dev.issues i (.fredXw n dst src cmp el win trk w) = true →
      storeEvents (s.dev.pavAt i) src (el * (n.bits / 8)) = [] → storeEvents (s.dev.pavAt i) cmp (el * 2) = [] →
      ∃ t, exec (.fredXw i n dst src cmp el win trk w) s = .next t ∧ (t.dev.pav i.pav).visible = (s.dev.pavAt i).visible ∧
        OpenXfer t i.pav .red w.done (i.pav * 2 ^ 25 + src) (el * (n.bits / 8) + el * 2)
          ((s.dev.atIssue i).redTarget i.pav dst).1) ∧
    (∀ dst src el trk, s.dev.issues i (.fredF dst src el trk w) = true →
      storeEvents (s.dev.pavAt i) src (4 * el) = [] →
      ∃ t, exec (.fredF i dst src el trk w) s = .next t ∧ VarMarked t s.dev i ∧
        (t.dev.pav i.pav).visible = (s.dev.pavAt i).visible ∧
        OpenXfer t i.pav .red w.done (i.pav * 2 ^ 25 + src) (4 * el) ((s.dev.atIssue i).redTarget i.pav dst).1) ∧
    (∀ tgt val trk, s.dev.issues i (.faddI64 tgt val trk w) = true →
      ∃ t, exec (.faddI64 i tgt val trk w) s = .next t ∧ (t.dev.pav i.pav).visible = (s.dev.pavAt i).visible ∧
        OpenXfer t i.pav .fadd w.done (i.pav * 2 ^ 25) 64 ((s.dev.atIssue i).gaOf i.pav tgt)) ∧
    (∀ n tgt src cmp el win trk, s.dev.issues i (.faddXw n tgt src cmp el win trk w) = true →
      storeEvents (s.dev.pavAt i) src (el * (n.bits / 8)) = [] → storeEvents (s.dev.pavAt i) cmp (el * 2) = [] →
      ∃ t, exec (.faddXw i n tgt src cmp el win trk w) s = .next t ∧ (t.dev.pav i.pav).visible = (s.dev.pavAt i).visible ∧
        OpenXfer t i.pav .red w.done (i.pav * 2 ^ 25 + src) (el * (n.bits / 8) + el * 2) ((s.dev.atIssue i).gaOf i.pav tgt))

/-! ### Memory (R74, R186, R252 to R283) -/

/-- R74, R75, R186, R188, R269: a KiB placed stands in the staging buffer, and the buffer's counter advances when it is the next of the
fill sequence; one that would reach past the buffer is dropped and fails the transfer; a transfer that has moved everything closes and adds one to its done counter; a failed one closes too, counts, and
the outputs of the step that issued it are withheld. -/
def Obligations.StagingFillsAndTransfersComplete : Prop :=
  ∀ (s : State) (k : Nat) (x : Xfer), s.dev.powered = true → s.dev.xfer k = some x → x.pav < s.dev.pavs.length →
    (∀ kib b st, x.fills = true → x.err = none → x.placed.contains kib = false → 1024 * kib < x.len →
      (∀ u, u < ceilDiv (min 1024 (x.len - 1024 * kib)) 64 → x.gotBursts.contains (16 * kib + u) = true) →
      s.dev.stagingAt x.pav x.off = some (b, st) →
      x.off + 1024 * kib + min 1024 (x.len - 1024 * kib) ≤ st.off + 1024 * st.kib →
      ∃ t, exec (.stagingKibPlaced k kib) s = .next t ∧
        (t.dev.pav x.pav).store = (s.dev.pav x.pav).store.store (x.off + 1024 * kib)
          (x.got.bytes (1024 * kib) (min 1024 (x.len - 1024 * kib))) ∧
        (((s.dev.pav x.pav).fillSeq b).placed = [] →
          ((s.dev.pav x.pav).fillSeq b).base k = some (((s.dev.pav x.pav).fillSeq b).counted - kib) →
          kib ≤ ((s.dev.pav x.pav).fillSeq b).counted →
          (t.dev.pav x.pav).ctr st.ctr = (s.dev.pav x.pav).ctr st.ctr + 1) ∧
        Changes s t (fun d e => { d with pavs := e.pavs, xfers := e.xfers })) ∧
    (∀ kib b st, x.fills = true → x.err = none → x.placed.contains kib = false → 1024 * kib < x.len →
      (∀ u, u < ceilDiv (min 1024 (x.len - 1024 * kib)) 64 → x.gotBursts.contains (16 * kib + u) = true) →
      s.dev.stagingAt x.pav x.off = some (b, st) →
      st.off + 1024 * st.kib < x.off + 1024 * kib + min 1024 (x.len - 1024 * kib) →
      ∃ t, exec (.stagingKibPlaced k kib) s = .next t ∧ t.dev.xfer k = some { x with err := some 0x0A } ∧
        Changes s t (fun d e => { d with xfers := e.xfers })) ∧
    (∀ cause, x.owner.faults = true → x.err = none → x.complete = true →
      ¬(cause = 0x0B ∧ (x.kind = .pageIn ∨ x.kind = .pageOut)) →
      ∃ t, exec (.transferComplete k cause) s = .next t ∧
        t.dev.xfers = s.dev.xfers.filter (fun y => y.serial != x.serial) ∧
        (∀ c, x.done = some c → (t.dev.pav x.pav).ctr c = (s.dev.pav x.pav).ctr c + 1) ∧
        Changes s t (fun d e => { d with pavs := e.pavs, xfers := e.xfers })) ∧
    (∀ cause c, x.owner.faults = true → x.err = some c → c ≠ 0 → (s.dev.step x.plot).running = true →
      ∃ t, exec (.transferComplete k cause) s = .next t ∧ (t.dev.step x.plot).withheld = true)

/-- R192, R265, R267, R268, R275, R277, R282, R283: a burst read within the retry limit under a live key stands decrypted in its
transfer; one past the limit fails the transfer and is marked; a burst written leaves the other bursts alone; the patrol scrub counts
the bursts it reads and corrects. -/
def Obligations.BurstsMoveAndScrub : Prop :=
  ∀ (s : State) (burst k fails u : Nat) (corrected : Bool), s.dev.powered = true → s.dev.mcServes (burst / 2 ^ 29) = true →
    (∀ x, s.dev.xfer k = some x → (x.kind = .pageIn ∨ x.kind = .inputFill) → x.unitsIn burst = [u] →
      x.gotBursts.contains u = false → s.dev.keyStale x (64 * burst) = false →
      fails ≤ bitsN (s.reg (mcPage (burst / 2 ^ 29)) 0x40C 0) 0 2 → s.dev.dramBad.contains burst = false →
      ∃ t, exec (.lpddrBurstRead burst (some k) fails corrected) s = .next t ∧
        t.dev.xfer k = some { x with got := x.got.store (64 * u) (s.dev.lpRead (64 * burst) 64), gotBursts := x.gotBursts ++ [u] } ∧
        Changes s t (fun d e => { d with xfers := e.xfers, memctl := e.memctl })) ∧
    (∀ x, s.dev.xfer k = some x → (x.kind = .pageIn ∨ x.kind = .inputFill) → x.unitsIn burst = [u] →
      bitsN (s.reg (mcPage (burst / 2 ^ 29)) 0x40C 0) 0 2 < fails →
      ∃ t, exec (.lpddrBurstRead burst (some k) fails corrected) s = .next t ∧
        t.dev.xfer k = some (x.fail 0x08) ∧ burst ∈ t.dev.dramBad) ∧
    (∀ x, s.dev.xfer k = some x → x.kind = .pageOut → x.addr % 64 = 0 → x.unitsIn burst = [u] → x.placed.contains u = false →
      s.dev.keyStale x (64 * burst) = false → storeEvents (s.dev.pav x.pav) (x.off + 64 * u) 64 = [] →
      ∃ t, exec (.lpddrBurstWrite burst k) s = .next t ∧
        t.dev.xfer k = some { x with placed := x.placed ++ [u] } ∧
        (∀ a, a / 64 ≠ burst → t.dev.lpddr.read a = s.dev.lpddr.read a) ∧
        Changes s t (fun d e => { d with
          xfers := e.xfers, lpddr := e.lpddr, burstKey := e.burstKey, dramBad := e.dramBad, memctl := e.memctl })) ∧
    (s.dev.backgroundTurn (burst / 2 ^ 29) = true → fails ≤ bitsN (s.reg (mcPage (burst / 2 ^ 29)) 0x40C 0) 0 2 → s.dev.dramBad.contains burst = false →
      bitsN (s.reg (mcPage (burst / 2 ^ 29)) 0x408 0) 0 8 ≠ 0 →
      ∃ t, exec (.memctlPatrolScrub burst fails corrected) s = .next t ∧
        Counts s t (mcPage (burst / 2 ^ 29)) 0x118 1 ∧ Counts s t (mcPage (burst / 2 ^ 29)) 0x11C (if corrected then 1 else 0) ∧
        Changes s t (fun d e => { d with memctl := e.memctl }))

/-- R76, R260, R261, R262, R266, R621: the store scrubber writes a line's corrected words back; the weight-tier sweep goes on to the next
line, its corrected words wait for write-back, and the write-back gives them fresh check bits; a controller doubles its refresh above 85
degrees C and returns to normal at or below; a PHY's recalibration changes nothing. -/
def Obligations.ScrubsAndRefresh : Prop :=
  ∀ (s : State), s.dev.powered = true →
    (∀ n line hits, n < s.dev.pavs.length → (s.dev.pav n).run ≠ .off → (s.dev.pav n).fused = false →
      (∀ w, w ∈ (((s.dev.pav n).storeHits (hits.filter (fun h => (lineWords line).contains h.1))).storeBad) → w ∉ lineWords line) →
      ∃ t, exec (.storeScrubRead n line hits) s = .next t ∧
        (∀ w, w ∈ lineWords line → w ∉ (t.dev.pav n).storeSoft) ∧ (t.dev.pav n).store = (s.dev.pav n).store ∧
        Changes s t (fun d e => { d with pavs := e.pavs })) ∧
    (∀ n hits, n < s.dev.pavs.length → (s.dev.pav n).fused = false → bitN (s.reg 0x0A0 0x434 0) 0 = true →
      bitN s.dev.power.domains (n / 2) = true →
      let line := (s.dev.pav n).sweepLine
      let q := (s.dev.pav n).tierHits (hits.filter (fun h => (lineWords line).contains h.1))
      (∀ w, w ∈ q.tierBad → w ∉ lineWords line) →
      ∃ t, exec (.wtierScrub n line hits) s = .next t ∧ (t.dev.pav n).sweepLine = (if line + 1 = 6291456 then 0 else line + 1) ∧
        (∀ w, w ∈ lineWords line → w ∈ q.tierSoft → w ∈ (t.dev.pav n).scrubQ) ∧ (t.dev.pav n).tier = (s.dev.pav n).tier ∧
        Changes s t (fun d e => { d with pavs := e.pavs })) ∧
    (∀ n, n < s.dev.pavs.length → ((s.dev.writeBack n).pav n).scrubQ = [] ∧
      ((s.dev.writeBack n).pav n).tierSoft = (s.dev.pav n).tierSoft.filter (fun w => !(s.dev.pav n).scrubQ.contains w) ∧
      ((s.dev.writeBack n).pav n).tier = (s.dev.pav n).tier) ∧
    (∀ m temp, s.dev.packageOk m = true → m < s.dev.memctl.length →
      ∃ t, exec (.refreshDoubling m temp) s = .next t ∧
        t.dev.mc m = { s.dev.mc m with temp := temp, doubled := decide (85 * 16 < temp) } ∧
        Changes s t (fun d e => { d with memctl := e.memctl })) ∧
    (∀ m, exec (.phyRecalibration m) s = .next s)

/-- R254 to R259, R282: CREATE takes the staged descriptor into a FREE entry, LOADING, with the next generation; FREE of a region
that is not LOADING or IN_USE waits for the end of its tick, and then frees it with the shards that name it; ABANDON turns LOADING into FAILED; a refused command changes no region
and shows its code. -/
def Obligations.RegionCommands : Prop :=
  ∀ (s : State) (r : Route) (k : Nat), k < 1024 →
    (s.admits r 0x0A0 0x424 (k + 2 ^ 10) → s.dev.regionCheck k s.dev.regionStage.1 s.dev.regionStage.2 = 0 →
      ∃ t, exec (.regionCreate r k) s = .next t ∧
        t.dev.region k = { s.dev.regionStage.1 with gen := ((s.dev.region k).gen + 1) % 16 } ∧ (t.dev.region k).st = 1 ∧
        (∀ j, j ≠ k → t.dev.region j = s.dev.region j) ∧ t.reg 0x0A0 0x428 0 = 0 ∧
        (∀ n, n < 32 → bitN s.dev.regionStage.1.pavMask n = true → (k, n) ∉ t.dev.inPlace) ∧
        Changes s t (fun d e => { d with regions := e.regions, inPlace := e.inPlace })) ∧
    (s.admits r 0x0A0 0x424 (k + 2 ^ 10) → s.dev.regionCheck k s.dev.regionStage.1 s.dev.regionStage.2 ≠ 0 →
      ∃ t, exec (.regionCreate r k) s = .next t ∧ t.dev.regions = s.dev.regions ∧
        Changes s t (fun d _ => d)) ∧
    (s.admits r 0x0A0 0x424 (k + 2 ^ 11) → ((s.dev.region k).st = 2 ∨ (s.dev.region k).st = 4) →
      ∃ t, exec (.regionFree r k) s = .next t ∧ t.dev.tickEnd = s.dev.tickEnd ++ [.freeRegion k] ∧
        Changes s t (fun d e => { d with tickEnd := e.tickEnd })) ∧
    (s.dev.tickEnd = [.freeRegion k] → ((s.dev.region k).st = 2 ∨ (s.dev.region k).st = 4) →
      s.dev.endTick.region k = { s.dev.region k with st := 0 } ∧ (∀ j, j ≠ k → s.dev.endTick.region j = s.dev.region j) ∧
        s.dev.endTick.rgN 0x0A0 0x428 0 = 0 ∧
        ∀ e, e ∈ s.dev.endTick.shards ↔ e ∈ s.dev.shards ∧ ¬(e.2.local_ = true ∧ e.2.plot = (s.dev.region k).plot ∧
          e.2.name = (s.dev.region k).name ∧ e.2.epoch = (s.dev.region k).epoch)) ∧
    (s.admits r 0x0A0 0x424 (k + 2 ^ 11) → ((s.dev.region k).st = 0 ∨ (s.dev.region k).st = 1 ∨ (s.dev.region k).st = 3) →
      ∃ t, exec (.regionFree r k) s = .next t ∧ Changes s t (fun d _ => d)) ∧
    (s.admits r 0x0A0 0x424 (k + 3 * 2 ^ 10) → (s.dev.region k).st = 1 →
      ∃ t, exec (.regionAbandon r k) s = .next t ∧ t.dev.region k = { s.dev.region k with st := 4 } ∧
        (∀ j, j ≠ k → t.dev.region j = s.dev.region j) ∧ t.reg 0x0A0 0x428 0 = 0 ∧
        Changes s t (fun d e => { d with regions := e.regions })) ∧
    (s.admits r 0x0A0 0x424 (k + 3 * 2 ^ 10) → (s.dev.region k).st ≠ 1 →
      ∃ t, exec (.regionAbandon r k) s = .next t ∧ Changes s t (fun d _ => d))

/-- R276, R277: GENERATE loads a new key pair, eight words of the entropy source, into an EMPTY slot; DESTROY of a LOADED one takes
effect as its tick ends: the slot is EMPTY, its key bytes are 0, its generation has advanced; on a slot in the other state each changes
no key and shows NOT_EMPTY or NOT_LOADED. -/
def Obligations.KeySlotCommands : Prop :=
  ∀ (s : State) (r : Route) (k : Nat), k < 16 →
    (s.admits r 0x090 0x408 (k + 16) → (s.dev.key k).loaded = false →
      ∃ t, exec (.keyGenerate r k) s = .next t ∧ 
        t.dev.key k = ⟨true, (s.dev.key k).gen, s.dev.free + 1,
          (List.range 8).flatMap (fun j => toBytes 8 (Sys2Proof.Config.entropy (s.dev.free + j)).toNat)⟩ ∧
        (∀ j, j ≠ k → t.dev.key j = s.dev.key j) ∧ t.reg 0x090 0x40C 0 = 0 ∧
        Changes s t (fun d e => { d with keys := e.keys, free := e.free })) ∧
    (s.admits r 0x090 0x408 (k + 16) → (s.dev.key k).loaded = true →
      ∃ t, exec (.keyGenerate r k) s = .next t ∧ Changes s t (fun d _ => d)) ∧
    (s.admits r 0x090 0x408 (k + 32) → (s.dev.key k).loaded = true →
      ∃ t, exec (.keyDestroy r k) s = .next t ∧ t.dev.tickEnd = s.dev.tickEnd ++ [.killKey k] ∧ t.reg 0x090 0x40C 0 = 0 ∧
        Changes s t (fun d e => { d with tickEnd := e.tickEnd })) ∧
    (s.dev.tickEnd = [.killKey k] →
      s.dev.endTick.key k = ⟨false, ((s.dev.key k).gen + 1) % 256, 0, zeros 64⟩ ∧
        ∀ j, j ≠ k → s.dev.endTick.key j = s.dev.key j) ∧
    (s.admits r 0x090 0x408 (k + 32) → (s.dev.key k).loaded = false →
      ∃ t, exec (.keyDestroy r k) s = .next t ∧ Changes s t (fun d _ => d))

/-! ### Steps, oscillators, crossings (R13 to R34, R226, R357 to R371, R512) -/

/-- R15, R16, R18, R20, R34, R143, R316, R360 to R362, R398, R539: a release starts the group's pavilions at cycle 0 with their
accumulators and weight tiers kept, and turns the plot's trackers; the barrier releases the next beat and adds the power controller's
hold; a step whose last beat every pavilion has retired ends, its context counts it, its group is IDLE; a cycle with a margin at or
below the warning level stretches the next, by one more unstretched period, and the stretch counts in the beat of the stretched cycle. -/
def Obligations.StepsStartBeatAndEnd : Prop :=
  ∀ (s : State), s.dev.powered = true →
    (∀ c b set vn v vals img, s.dev.canRelease c = some (b, set, vn, v, vals, img) → s.dev.turnOf c = true →
      s.dev.sliceFits c v.deadline = true →
      (b.multi = false ∨ (s.dev.taking c = false ∧ (s.dev.ctx c).launch.isSome = true)) →
      (s.dev.ctx c).withholdNext = [] →
      let p := (s.dev.ctx c).plot
      ∃ t, exec (.stepRelease c) s = .next t ∧
        (t.dev.step p).running = true ∧ (t.dev.step p).ctx = c ∧ (t.dev.step p).variant = vn ∧ (t.dev.step p).beats = v.beats ∧
        (t.dev.step p).deadline = v.deadline ∧ (t.dev.step p).start = s.dev.time.count ∧ (t.dev.step p).beat = 0 ∧
        (t.dev.step p).withheld = false ∧ (t.dev.kc c).phase = .released ∧ (t.dev.plot p).resident = some c ∧
        (∀ n, n < 32 → n < s.dev.pavs.length → bitN (s.dev.plot p).pairs (n / 2) = true → (s.dev.pav n).run = .idle →
          s.dev.oscState n = 2 → (t.dev.pav n).run = .running ∧ (t.dev.pav n).cycle = 0 ∧ (t.dev.pav n).sregs = [] ∧
          (t.dev.pav n).idx = [] ∧ (t.dev.pav n).preds = [] ∧ (t.dev.pav n).acc = (s.dev.pav n).acc ∧
          (t.dev.pav n).tier = (s.dev.pav n).tier) ∧
        (∀ k, inRange (s.dev.plot p).trkRange k = true →
          t.dev.trackers.get k ⟨0, 0⟩ = ⟨(s.dev.trackers.get k ⟨0, 0⟩).next, 0⟩)) ∧
    (∀ p, (s.dev.step p).running = true → (s.dev.step p).beat + 1 < (s.dev.step p).beats →
      (∀ n, n < 32 → bitN (s.dev.step p).group n = true → s.dev.marked p n = true) →
      ∃ t, exec (.beatRelease p) s = .next t ∧
        t.dev.step p = { s.dev.step p with
          beat := (s.dev.step p).beat + 1
          throttle := (s.dev.step p).throttle + s.dev.releaseHold } ∧
        (s.dev.power.holds = [] → s.dev.releaseHold = max s.dev.power.hp (max s.dev.power.ht s.dev.power.hc)) ∧
        (∀ n, (t.dev.pav n).visible = (s.dev.pav n).visible) ∧
        Changes s t (fun d e => { d with pavs := e.pavs, steps := e.steps })) ∧
    (∀ p, (s.dev.step p).running = true → (s.dev.step p).beat + 1 = (s.dev.step p).beats →
      (∀ n, n < 32 → bitN (s.dev.step p).group n = true → s.dev.retired p n = true) →
      ∃ t, exec (.stepEndBarrier p) s = .next t ∧
        (t.dev.step p).running = false ∧ (t.dev.step p).abandoned = false ∧ (t.dev.step p).endTick = s.dev.time.count ∧
        (t.dev.step p).lastDur = min (s.dev.time.count - (s.dev.step p).start).toNat (2 ^ 32 - 1) ∧
        (t.dev.ctx (s.dev.step p).ctx).steps = (s.dev.ctx (s.dev.step p).ctx).steps + 1 ∧
        ∃ e, (t.dev.ctx (s.dev.step p).ctx).ended = some e ∧ e.number = (s.dev.ctx (s.dev.step p).ctx).steps + 1 ∧
          e.variant = (s.dev.step p).variant ∧ e.endTick = s.dev.time.count) ∧
    (∀ n margins, n < s.dev.pavs.length → (s.dev.pav n).run = .running → (s.dev.pav n).stall = none → (s.dev.pav n).gated = false →
      margins.length = 8 →
      ∃ t, exec (.cycleStretch n margins) s = .next t ∧
        ((∀ m, m ∈ margins → bitsN (s.reg (pavPage n) 0x60C 0) 0 6 < min m 63) →
          (t.dev.pav n).slowPeriod = false ∧ (t.dev.pav n).stretched = (s.dev.pav n).stretched) ∧
        ((∃ m, m ∈ margins ∧ min m 63 ≤ bitsN (s.reg (pavPage n) 0x60C 0) 0 6) →
          (t.dev.pav n).slowPeriod = true ∧
          ((s.dev.pav n).cycle % 256 ≠ 255 → (t.dev.pav n).stretched = (s.dev.pav n).stretched + 1) ∧
          ((s.dev.pav n).cycle % 256 = 255 → (t.dev.pav n).stretched = (s.dev.pav n).stretched ∧ (t.dev.pav n).carryStretch = 1) ∧
          (t.dev.pav n).lost.stretch = (s.dev.pav n).lost.stretch + 1 ∧
          (t.dev.pav n).lost.stretchFs = (s.dev.pav n).lost.stretchFs + s.reg (pavPage n) 0x604 0) ∧
        Changes s t (fun d e => { d with pavs := e.pavs }))

/-- R226, R252, R357 to R359, R366, R367, R369 to R371, R512: an oscillator in ACQUIRE locks and its pavilion goes IDLE out of reset,
unless a far side reset beside it is still to report;
a window beyond 2,000 ppm counts, four in a row or a lost period fence the pavilion; UNFENCE returns one whose pair was reset and
whose oscillator is locked; the Gatehouse fills a bank for the next set; a side in reset is taken notice of, its FIFO flushed and its
generation advanced, and taken up again with 16 free entries; an unanswered handshake counts as a reset. -/
def Obligations.OscillatorsAndCrossingResets : Prop :=
  ∀ (s : State) (n : Nat), s.dev.powered = true → n < s.dev.pavs.length → n < 32 →
    ((s.dev.pav n).fused = false → s.dev.oscState n = 1 → bitN (s.reg (pavPage n) 0x030 0) 0 = false →
      ∃ t, exec (.oscLock n) s = .next t ∧ t.dev.oscState n = 2 ∧ t.reg (pavPage n) 0x604 0 = 666667 ∧
        (t.dev.pav n).lockedOnce = true ∧
        (t.dev.pav n).run = (if (s.dev.pav n).run = .reset ∧ bitN s.dev.power.initLeft (n / 2) = false ∧
          (s.dev.pav n).awaits.all (fun x => (outerSides n).any (fun e => e.1 = x && s.dev.oscState e.2 = 2)) = true then .idle else (s.dev.pav n).run) ∧
        Changes s t (fun d e => { d with pavs := e.pavs })) ∧
    (∀ ppm periods, (s.dev.pav n).fused = false → (s.dev.oscState n = 1 ∨ s.dev.oscState n = 2) →
      ¬(s.dev.oscState n = 2 ∧ (periods = false ∨ (2000 < ppm.natAbs ∧ 3 ≤ (s.dev.pav n).oscBadWindows))) →
      ∃ t, exec (.fllWindow n ppm periods) s = .next t ∧ t.dev.oscState n = s.dev.oscState n ∧
        (t.dev.pav n).oscBadWindows = (if 2000 < ppm.natAbs then (s.dev.pav n).oscBadWindows + 1 else 0) ∧
        Changes s t (fun d e => { d with pavs := e.pavs })) ∧
    (∀ ppm periods, (s.dev.pav n).fused = false → s.dev.oscState n = 2 → (s.dev.pav n).run ≠ .off →
      (periods = false ∨ (2000 < ppm.natAbs ∧ 3 ≤ (s.dev.pav n).oscBadWindows)) →
      ∃ t, exec (.fllWindow n ppm periods) s = .next t ∧ (t.dev.pav n).run = .fenced) ∧
    (∀ r, (s.rights r).manage = true → (s.dev.pav n).run = .fenced → s.dev.oscState n = 2 → (s.dev.pav n).lockedOnce = true →
      ∃ t, exec (.unfence r n) s = .next t ∧ (t.dev.pav n).run = .idle ∧
        Changes s t (fun d e => { d with pavs := e.pavs, ctxs := e.ctxs })) ∧
    (∀ c b set key, s.dev.nextBundle c = some (b, set, key) → n ∈ s.dev.groupOf (s.dev.ctx c).plot →
      (s.dev.pav n).banks.length = 2 →
      ∃ t, exec (.issueFill c true) s = .next t ∧ (t.dev.pav n).banks.contains (some (c, key)) = true ∧
        (t.dev.ctx c).imageEcc = false ∧ Changes s t (fun d e => { d with pavs := e.pavs, ctxs := e.ctxs })) ∧
    (∀ c b set key, s.dev.nextBundle c = some (b, set, key) →
      ∃ t, exec (.issueFill c false) s = .next t ∧ (t.dev.ctx c).imageEcc = true) ∧
    (∀ x q, neighbour n x = some q → q < s.dev.pavs.length → s.dev.acks n = true →
      ((s.dev.pav q).hsOpen.find (2 * facing x)).isSome = true →
      ∃ t, exec (.resetNotice n x) s = .next t ∧
        (t.dev.pav q).hsOpen.find (2 * facing x) =
          (if (s.dev.pav q).hsMore.get (2 * facing x) 0 = 0 then none else some s.dev.time.elapsed) ∧
        (t.dev.pav n).fifos.get x [] = [] ∧ (t.dev.pav n).free x = 0 ∧ x ∈ (t.dev.pav n).cut ∧
        (t.dev.pav n).inGen.get x 0 = (s.dev.pav n).inGen.get x 0 + 1 ∧
        Changes s t (fun d e => { d with pavs := e.pavs })) ∧
    (∀ x q, neighbour n x = some q → q < s.dev.pavs.length → s.dev.acks n = true → bitN (s.reg (pavPage n) 0x644 0) x = true →
      s.dev.oscState q = 2 → ((s.dev.pav q).hsOpen.find (2 * facing x + 1)).isSome = true →
      (s.dev.pav q).hsOpen.find (2 * facing x) = none →
      ∃ t, exec (.readyNotice n x) s = .next t ∧ (t.dev.pav n).free x = 16 ∧
        (t.dev.pav q).outGen.get (facing x) 0 = (s.dev.pav n).inGen.get x 0 ∧
        (t.dev.pav n).outGen.get x 0 = (s.dev.pav q).inGen.get (facing x) 0 ∧ x ∉ (t.dev.pav n).cut ∧ x ∉ (t.dev.pav n).awaits ∧
        t.reg (pavPage n) 0x644 0 = s.reg (pavPage n) 0x644 0 - 2 ^ x ∧ Changes s t (fun d e => { d with pavs := e.pavs })) ∧
    (∀ x q since, neighbour n x = some q → (s.dev.pav n).hsOpen.find (2 * x) = some since →
      since + s.dev.stallTicks + s.tie ≤ s.dev.time.elapsed →
      ∃ t, exec (.handshakeTimeout n x) s = .next t ∧
        (t.dev.pav n).hsOpen.find (2 * x) = (if (s.dev.pav n).hsMore.get (2 * x) 0 = 0 then none else some s.dev.time.elapsed) ∧
        (t.dev.pav n).inGen.get x 0 = (s.dev.pav n).inGen.get x 0 + 1)

/-! ### The Gatehouse (R223 to R231, R246, R256 to R258) and the Kiosk (R390 to R434) -/

/-- R222 to R225, R231, R243, R246, R258, R479: a bundle that passes every check is VERIFIED, another REJECTED with its first code;
ACTIVATE puts it into an empty active slot, or leaves it waiting for the next release; DISCARD empties a slot; PARAM_READY is set; the
system digest takes its 48 bytes; an image read whole is given to the walker. -/
def Obligations.GatehouseCommands : Prop :=
  ∀ (s : State) (r : Route) (c : Nat), c < 256 →
    (∀ body, s.dev.powered = true → (s.dev.ctx c).staged.st = 2 → bitN (s.reg 0x002 0x030 0) 0 = false →
      let img := s.dev.lpRead (s.dev.imageArea c).1 (s.dev.ctx c).staged.recvd
      ∃ t, exec (.bundleVerifyDone c body) s = .next t ∧
        (s.dev.verdict c (s.dev.ctx c).staged.recvd img ⟨parseHdr img, body⟩ = none →
          (t.dev.ctx c).staged.st = 3 ∧ (t.dev.ctx c).staged.bundle = some ⟨parseHdr img, body⟩ ∧ (t.dev.ctx c).rejectCode = 0) ∧
        (∀ x, s.dev.verdict c (s.dev.ctx c).staged.recvd img ⟨parseHdr img, body⟩ = some x →
          (t.dev.ctx c).staged.st = 4 ∧ (t.dev.ctx c).rejectCode = x.code) ∧
        (t.dev.ctx c).active = (s.dev.ctx c).active ∧ Changes s t (fun d e => { d with ctxs := e.ctxs, regions := e.regions })) ∧
    (∀ b, s.admits r 0x002 0x410 (c + 256) → (s.dev.ctx c).staged.bundle = some b → (s.dev.ctx c).active = none →
      ∃ t, exec (.loadActivate r c) s = .next t ∧ (t.dev.ctx c).active = some b ∧ (t.dev.ctx c).staged = Staged.empty ∧
        (t.dev.ctx c).launch = none) ∧
    (∀ b a, s.admits r 0x002 0x410 (c + 256) → (s.dev.ctx c).staged.bundle = some b → (s.dev.ctx c).active = some a →
      bitN (s.dev.ctx c).modes.toNat 8 = true →
      ∃ t, exec (.loadActivate r c) s = .next t ∧ (t.dev.ctx c).active = some a ∧ (t.dev.ctx c).staged.st = 5 ∧
        (t.dev.ctx c).staged.bundle = some b) ∧
    (s.admits r 0x002 0x410 (c + 2 * 256) →
      ∃ t, exec (.loadDiscardStaged r c) s = .next t ∧ (t.dev.ctx c).staged = Staged.empty ∧
        (t.dev.ctx c).active = (s.dev.ctx c).active ∧
        (∀ p k, p ∈ t.dev.pavs → 128 ≤ k → some (c, k) ∉ p.banks) ∧
        Changes s t (fun d e => { d with ctxs := e.ctxs, regions := e.regions, pavs := e.pavs })) ∧
    (∀ a, s.admits r 0x002 0x410 (c + 3 * 256) → (s.dev.ctx c).active = some a →
      ∃ t, exec (.loadDiscardActive r c) s = .next t ∧ (t.dev.ctx c).active = none ∧ (t.dev.ctx c).launch = none ∧
        (t.dev.ctx c).staged = (s.dev.ctx c).staged ∧ (t.dev.kc c).phase = .open_ ∧
        Changes s t (fun d e => { d with ctxs := e.ctxs, regions := e.regions, pavs := e.pavs, kctx := e.kctx })) ∧
    (s.admits r 0x002 0x428 (c + 256) →
      ∃ t, exec (.paramCommit r c) s = .next t ∧ t.dev.ctx c = { s.dev.ctx c with paramReady := true } ∧
        (∀ j, j ≠ c → t.dev.ctx j = s.dev.ctx j) ∧ Changes s t (fun d e => { d with ctxs := e.ctxs })) ∧
    (∀ digest, s.admits r 0x002 0x440 (leNat (digest.take 4)) →
      ∃ t, exec (.sysDigestWrite r digest) s = .next t ∧
        (∀ k, k < 12 → t.reg 0x002 (0x440 + 4 * k) 0 = leNat ((digest.drop (4 * k)).take 4)) ∧
        Changes s t (fun d e => { d with belv := e.belv })) ∧
    (∀ addr data, s.dev.powered = true → (s.dev.ctx c).st ≠ 0 → (s.dev.plot (s.dev.ctx c).plot).st ≠ 2 → 256 ≤ data.length → data.length ≤ 2 ^ 30 →
      data.length ≤ (s.dev.imageArea c).2 →
      ∃ t, exec (.programImageDmaLoad c addr data) s = .next t ∧ (t.dev.ctx c).staged.st = 2 ∧
        (t.dev.ctx c).staged.recvd = data.length ∧ (t.dev.ctx c).active = (s.dev.ctx c).active)

/-- The state in which a doorbell's low word has been staged (R435, R587). -/
def bellStaged (s : State) (r : Route) (ring gen : Nat) : State :=
  let low : W32 := BitVec.ofNat 32 (ring % 32768 + 32768 * (gen % 16))
  { s with dev := { s.dev with latch := s.dev.latch.put (2 * selKey r 0x003 0x530 + 1) low } }

/-- R394, R395, R419, R435, R436: a doorbell moves the producer of a SUBMIT ring or the consumer of an OUTPUT ring, and a stale one
moves neither; CREATE starts a free ring with the next generation, DESTROY ends one; a failed mirror write clears MIRROR and drops the
ring's writes. -/
def Obligations.RingCommands : Prop :=
  ∀ (s : State) (r : Route) (n : Nat), n < 32768 →
    (∀ gen index, gen < 16 → (bellStaged s r n gen).admits r 0x003 0x534 index.toNat →
      ∃ t, exec (.ringDoorbell r n gen index) s = .next t ∧
        (s.dev.doorbellStale n gen index = false → s.dev.ringKind n = 1 → t.dev.ring n = { s.dev.ring n with prod := index.toNat }) ∧
        (s.dev.doorbellStale n gen index = false → s.dev.ringKind n = 2 → t.dev.ring n = { s.dev.ring n with cons := index.toNat }) ∧
        (s.dev.doorbellStale n gen index = true → t.dev.ring n = s.dev.ring n) ∧ (∀ j, j ≠ n → t.dev.ring j = s.dev.ring j) ∧
        Changes s t (fun d e => { d with rings := e.rings, latch := e.latch, kctx := e.kctx })) ∧
    (∀ off, s.admits r 0x003 0x528 (n + 2 ^ 15) → (s.dev.ring n).inUse = false →
      ((s.dev.ringKind n = 2 ∧ 8 ≤ bitsN (s.reg 0x003 0x50C n) 0 5 ∧ bitsN (s.reg 0x003 0x50C n) 0 5 ≤ 16) ∨
        ((s.dev.ringKind n = 1 ∨ s.dev.ringKind n = 3) ∧ 4 ≤ bitsN (s.reg 0x003 0x50C n) 0 5 ∧
          bitsN (s.reg 0x003 0x50C n) 0 5 ≤ 12)) →
      s.dev.localMem (s.dev.rg64 0x003 0x504 n) = some off → off % 4096 = 0 →
      (s.dev.plot (s.dev.ctx (s.dev.ringCtx n)).plot).inSystem off
        ((if s.dev.ringKind n = 2 then 16 else 64) * 2 ^ bitsN (s.reg 0x003 0x50C n) 0 5) = true →
      (s.dev.ctx (s.dev.ringCtx n)).st ≠ 0 → s.dev.ringPlot n = some (s.dev.ctx (s.dev.ringCtx n)).plot →
      ∃ t, exec (.ringCreate r n) s = .next t ∧ t.dev.ring n = ⟨true, ((s.dev.ring n).gen + 1) % 16, 0, 0⟩ ∧
        t.reg 0x003 0x52C 0 = 0 ∧ bitsN (t.reg 0x003 0x50C n) 16 4 = ((s.dev.ring n).gen + 1) % 16 ∧
        (∀ j, j ≠ n → t.dev.ring j = s.dev.ring j) ∧ Changes s t (fun d e => { d with rings := e.rings })) ∧
    (s.admits r 0x003 0x528 (n + 2 ^ 15) → (s.dev.ring n).inUse = true →
      ∃ t, exec (.ringCreate r n) s = .next t ∧ t.reg 0x003 0x52C 0 = 2 ∧ Changes s t (fun d _ => d)) ∧
    (s.admits r 0x003 0x528 (n + 2 ^ 16) → (s.dev.ring n).inUse = true →
      (s.dev.ringKind n = 2 → ∀ e, e ∈ s.dev.seqs → e.2.st = .free ∨ e.2.outRing ≠ n) →
      ∃ t, exec (.ringDestroy r n) s = .next t ∧ t.dev.ring n = { s.dev.ring n with inUse := false } ∧
        t.reg 0x003 0x52C 0 = 0 ∧ (∀ j, j ≠ n → t.dev.ring j = s.dev.ring j) ∧ Changes s t (fun d e => { d with rings := e.rings })) ∧
    (s.dev.powered = true → bitN (s.reg 0x003 0x50C n) 20 = true →
      s.dev.qps.any (fun e => e.2.ops.any (fun o => o.write && o.ring = n)) = true →
      ∃ t, exec (.mirrorFailed n) s = .next t ∧ bitN (t.reg 0x003 0x50C n) 20 = false ∧
        (∀ e, e ∈ t.dev.qps → ∀ o, o ∈ e.2.ops → o.write = true → o.ring ≠ n) ∧ Changes s t (fun d e => { d with qps := e.qps }))

/-- A record without a token (R416, R417): ring, request, status, TOKEN 0 and the flag that there is none; its POSITION and LOGPROB
are free values (log entry 164). -/
def IsResult (r : KRec) (ring idx gen status : Nat) : Prop :=
  r.ring = ring ∧ r.idx = idx ∧ r.gen = gen ∧ r.status = status ∧ r.token = 0 ∧ r.flags = 16

/-- R391 to R397, R410, R416, R417, R429, R430: the Kiosk takes the next entry of a SUBMIT ring. A good SUBMIT makes its free entry
QUEUED with the entry's fields; CANCEL marks its request; PARK marks a RUNNING one; RESUME of a PARKED one waits for the next compose;
a handle of another generation is answered STALE_HANDLE, a bad command BAD_COMMAND. -/
def Obligations.KioskTakesCommands : Prop :=
  ∀ (s : State) (n : Nat) (bs : List Byte), s.dev.powered = true → s.dev.nextCmd n = some bs →
    let c := s.dev.ringCtx n
    let i := fieldOf bs 4 4 % 2 ^ 18
    let gen := fieldOf bs 4 4 / 2 ^ 18 % 64
    (fieldOf bs 0 1 = 1 → s.dev.cmdBad c bs = false → s.dev.submitBad c bs = false → (s.dev.ctx c).noVariant = false →
      ∃ t, exec (.cmdSubmit n) s = .next t ∧
        t.dev.seq i = { SeqEntry.free with
          st := .queued, gen := gen, ctx := c, tree := bitN (fieldOf bs 0x3C 4) 0, account := fieldOf bs 0x28 2
          outRing := fieldOf bs 0x2A 2, seed := fieldOf bs 8 8, deadline := fieldOf bs 0x20 8, promptLeft := fieldOf bs 0x18 4
          maxNew := fieldOf bs 0x1C 4, promptAddr := fieldOf bs 0x10 8 } ∧
        (∀ j, j ≠ i → t.dev.seq j = s.dev.seq j) ∧ (t.dev.ring n).cons = ((s.dev.ring n).cons + 1) % 2 ^ 32 ∧
        Changes s t (fun d e => { d with
          seqs := e.seqs, rings := e.rings, lpddr := e.lpddr, burstKey := e.burstKey, dramBad := e.dramBad, kctx := e.kctx })) ∧
    (fieldOf bs 0 1 = 1 → (s.dev.cmdBad c bs = true ∨ s.dev.submitBad c bs = true) →
      ∃ t, exec (.cmdSubmit n) s = .next t ∧ t.dev.seqs = s.dev.seqs ∧
        (∃ ring r, (t.dev.kc c).waiting = (s.dev.kc c).waiting ++ [r] ∧ IsResult r ring i gen 0x14) ∧
        (t.dev.ring n).cons = ((s.dev.ring n).cons + 1) % 2 ^ 32 ∧
        Changes s t (fun d e => { d with rings := e.rings, kctx := e.kctx })) ∧
    (fieldOf bs 0 1 = 2 → s.dev.cmdBad c bs = false → (s.dev.seq i).gen = gen → (s.dev.seq i).st ≠ .free →
      ∃ t, exec (.cmdCancel n) s = .next t ∧ t.dev.seq i = { s.dev.seq i with cancelPending := true } ∧
        (t.dev.kc c).cmds = (s.dev.kc c).cmds ++ [⟨.cancel, i, gen, s.dev.time.count, 0, 0, 0, 0, 0⟩] ∧
        Changes s t (fun d e => { d with seqs := e.seqs, rings := e.rings, kctx := e.kctx })) ∧
    (fieldOf bs 0 1 = 2 → s.dev.cmdBad c bs = false → (s.dev.seq i).gen ≠ gen →
      ∃ t, exec (.cmdCancel n) s = .next t ∧ t.dev.seqs = s.dev.seqs ∧
        ∃ r, (t.dev.kc c).waiting = (s.dev.kc c).waiting ++ [r] ∧ IsResult r (s.dev.seq i).outRing i gen 0x11) ∧
    (fieldOf bs 0 1 = 3 → s.dev.cmdBad c bs = false → (s.dev.seq i).gen = gen → (s.dev.seq i).st = .running →
      1 ≤ fieldOf bs 0x34 4 → fieldOf bs 0x34 4 ≤ 86400000 →
      ∃ t, exec (.cmdPark n) s = .next t ∧ t.dev.seq i = { s.dev.seq i with parkPending := true } ∧
        (t.dev.kc c).cmds = (s.dev.kc c).cmds ++ [⟨.park, i, gen, s.dev.time.count, 0, 0, 0, 0, fieldOf bs 0x34 4⟩] ∧
        Changes s t (fun d e => { d with seqs := e.seqs, rings := e.rings, kctx := e.kctx })) ∧
    (fieldOf bs 0 1 = 4 → s.dev.cmdBad c bs = false → (s.dev.seq i).gen = gen → (s.dev.seq i).st = .parked →
      1 ≤ fieldOf bs 0x18 4 → fieldOf bs 0x18 4 ≤ 2 ^ 24 → 1 ≤ fieldOf bs 0x1C 4 → fieldOf bs 0x1C 4 ≤ 2 ^ 24 →
      s.dev.promptOk c (fieldOf bs 0x10 8) (fieldOf bs 0x18 4) = true →
      ∃ t, exec (.cmdResume n) s = .next t ∧ t.dev.seqs = s.dev.seqs ∧
        (t.dev.kc c).cmds = (s.dev.kc c).cmds ++ [⟨.resume, i, gen, s.dev.time.count, fieldOf bs 0x10 8, fieldOf bs 0x18 4,
          fieldOf bs 0x1C 4, fieldOf bs 0x20 8, 0⟩] ∧
        Changes s t (fun d e => { d with rings := e.rings, kctx := e.kctx }))

/-- R273, R398, R400, R410, R412, R414, R418, R426, R439: a compose that finds a batch some variant covers puts the context into
COMPOSED with that batch and variant; a commit point opens the context again and takes the step's end tick, and after a withheld step
each RUNNING request of the batch counts a retry; an idle commit writes what waits; compaction ends with no move left. -/
def Obligations.ComposeAndCommitPoints : Prop :=
  ∀ (s : State) (c : Nat), s.dev.powered = true →
    (∀ b set key l vn v, s.dev.serves c = true → s.dev.follows c = false → s.dev.isShadow = false → (s.dev.ctx c).st = 1 →
      (s.dev.plot (s.dev.ctx c).plot).st = 1 → (s.dev.kc c).phase = .open_ → s.dev.ctxRuns c = false → (s.dev.ctx c).ended = none →
      (s.dev.kc c).resetWanted = false → bitN (s.reg 0x003 0x030 0) 0 = false →
      (s.dev.pinSwitch c).nextBundle c = some (b, set, key) →
      let vs := (b.set set).getD []
      let d := ((s.dev.pinSwitch c).admission c b.body vs).holdBudget c
      let d1 := forEach l d (fun e x => e.allocBlocks x.1 (x.2 - (e.seqPages x.1).length) b.body.streams)
      fitBatch vs (vs.foldl (fun m x => max m x.batchMax) 0 + 1)
        (d.takeBatch b.body (vs.foldl (fun m x => max m x.batchMax) 0) (vs.foldl (fun m x => max m x.pageMax) 0) (d.runnable c))
        = some (l, vn, v) →
      (d1.patchAll c (b.body.recipes.flatMap (d1.recipeWrites b.body (l.map (·.1))))).2 = none →
      ∃ t, exec (.kioskCompose c) s = .next t ∧ (t.dev.kc c).phase = .composed ∧ (t.dev.kc c).variant = vn ∧
        (t.dev.kc c).batch.map (·.seq) = l.map (·.1)) ∧
    (∀ e b, (s.dev.ctx c).ended = some e → (s.dev.ctx c).active = some b → s.dev.follows c = false → s.dev.isShadow = false →
      s.dev.ctxRuns c = false → s.dev.power.fatal = false →
      (e.withheld = true ∨ (s.dev.ctx c).launch = none ∨
        (s.dev.followersOf c).all (fun f => (s.dev.ctx c).verdicts.contains (4096 * e.number.toNat + f)) = true) →
      ∃ t, exec (.commit c) s = .next t ∧ (t.dev.ctx c).ended = none ∧ (t.dev.kc c).phase = .open_ ∧ (t.dev.kc c).batch = [] ∧
        (t.dev.kc c).commitTick = e.endTick ∧
        (e.withheld = true → ∀ x, (s.dev.kc c).batch = [x] → (s.dev.seq x.seq).st = .running →
          t.dev.seq x.seq = { s.dev.seq x.seq with retries := min 255 ((s.dev.seq x.seq).retries + 1) })) ∧
    (∀ n, s.dev.serves c = true → s.dev.follows c = false → s.dev.isShadow = false → s.dev.ctxRuns c = false →
      s.dev.power.fatal = false → (s.dev.ctx c).ended = none → (s.dev.kc c).phase ≠ .released → s.dev.outRings c = [n] → s.dev.ringRoom n 258 = true →
      (∀ e, e ∈ s.dev.seqs → e.2.ctx ≠ c) → (s.dev.kc c).waiting ≠ [] → (s.dev.kc c).waiting.length ≤ 256 →
      ∃ t, exec (.idleCommit c) s = .next t ∧ (t.dev.kc c).waiting = [] ∧
        (t.dev.ring n).cons = (s.dev.ring n).cons ∧
        (∃ pad, pad < 2 + (s.dev.kc c).waiting.length ∧
          (t.dev.ring n).prod = ((s.dev.ring n).prod + pad + (2 + (s.dev.kc c).waiting.length)) % 2 ^ 32)) ∧
    ((s.dev.kc c).moves ≠ [] →
      ∃ t, exec (.compactionDone c) s = .next t ∧ (t.dev.kc c).moves = [])

/-- R429 to R433: when the copies of a park have ended the request's pages stand in the park region and its local pages are FREE;
when the fetch back has ended the request is RUNNING; an inbox entry is taken once, and a park marks FREE pages REMOTE; an expired
hold is dropped. -/
def Obligations.RemoteParksAndInbox : Prop :=
  ∀ (s : State) (c i : Nat), s.dev.powered = true →
    (∀ p, s.dev.copyOf c i false = some p → p.failed = false →
      ∃ t, exec (.remoteParkDone c i) s = .next t ∧ (t.dev.kc c).parkedAt.get i [] = p.remote ∧
        (∀ n, n ∈ p.local_ → s.dev.packageOk (n / 2 ^ 20) = true → (t.dev.page n).st = 0) ∧
        t.dev.seq i = { s.dev.seq i with head := 0, tail := 0 } ∧
        ∃ r, (t.dev.kc c).waiting = (s.dev.kc c).waiting ++ [r] ∧ IsResult r (s.dev.seq i).outRing i (s.dev.seq i).gen 0x12) ∧
    (∀ p, s.dev.copyOf c i true = some p → p.failed = false →
      ∃ t, exec (.resumeFetchDone c i) s = .next t ∧ t.dev.seq i = { s.dev.seq i with st := .running } ∧
        (t.dev.kc c).parkedAt.find i = none ∧
        ∃ r, (t.dev.kc c).waiting = (s.dev.kc c).waiting ++ [r] ∧ IsResult r (s.dev.seq i).outRing i (s.dev.seq i).gen 0x13) ∧
    (∀ n m, s.dev.isRing n 3 c = true → s.dev.serves c = true →
      ∃ t, exec (.inboxRead c n m) s = .next t ∧
        t.dev.ring n = { s.dev.ring n with prod := ((s.dev.ring n).cons + 1) % 2 ^ 32, cons := ((s.dev.ring n).cons + 1) % 2 ^ 32 } ∧
        (∀ p dev pages expiry, m = .park p dev pages expiry →
          (∀ g, g ∈ pages → (s.dev.page g).st = 0 → s.dev.packageOk (g / 2 ^ 20) = true → (t.dev.page g).st = 3) ∧
          t.dev.remote = s.dev.remote ++ [⟨p, dev, pages.filter (fun g => (s.dev.page g).st = 0), expiry⟩]) ∧
        (∀ p dev pages, m = .release p dev pages →
          ∀ g, g ∈ pages → (s.dev.page g).st = 3 → s.dev.packageOk (g / 2 ^ 20) = true → (t.dev.page g).st = 0)) ∧
    (∀ plot dev, ∃ t, exec (.remoteParkExpiry plot dev) s = .next t ∧
      (∀ h, h ∈ t.dev.remote ↔ h ∈ s.dev.remote ∧ ¬(h.plot = plot ∧ h.dev = dev ∧ h.expiry + s.dev.xferTicks + s.tie ≤ s.dev.now)) ∧
      Changes s t (fun d e => { d with remote := e.remote, pages := e.pages, pageBad := e.pageBad }))

/-! ### The Parterre (R284 to R321) -/

/-- A packet of a type waits at its destination and passes every check of R286, R312, R315 and R316; `next` says into which count of
its tracker it falls. -/
def Admitted (d : Dev) (typ : Nat) (p : Packet) (next : Bool) : Prop :=
  p.typ = typ ∧ p.dest = d.number ∧ d.arrivalRoom p = true ∧ (d.selfFenced = false ∨ d.ofOwn p = true) ∧
    (d.plot p.plot).gen = p.plotGen ∧ d.packetStatus p = 0 ∧ d.stepGen p = some next

/-- R74, R132, R171, R198, R285, R288, R291, R302, R313, R315 to R317, R450: a packet that passes its checks is placed: data in LPDDR5X
or in a declared staging buffer, a fetch-add at its word modulo 2^64, XW and FP32 values added to their elements, load data in the weight
tier of its shard; a read is answered with the bytes at its address; a null packet places nothing and counts. -/
def Obligations.PacketsArePlaced : Prop :=
  ∀ (s : State) (p : Packet) (next : Bool), s.dev.powered = true →
    (∀ typ c, (typ = 0x00 ∧ c = Instr.put p) ∨ (typ = 0x07 ∧ c = Instr.mcast p) → Admitted s.dev typ p next →
      ∃ t, exec c s = .next t ∧
        (gaSpace p.addr = 2 → t.dev.lpddr = (s.dev.lpWrite (gaOff p.addr) p.payload).lpddr ∧
          ∀ a, a / 64 < gaOff p.addr / 64 ∨ (gaOff p.addr + p.payload.length + 63) / 64 ≤ a / 64 →
            t.dev.lpddr.read a = s.dev.lpddr.read a) ∧
        (gaSpace p.addr ≠ 2 → gaOff p.addr / 2 ^ 25 < s.dev.pavs.length →
          (t.dev.pav (gaOff p.addr / 2 ^ 25)).store =
            (s.dev.pav (gaOff p.addr / 2 ^ 25)).store.store (gaOff p.addr % 2 ^ 25) p.payload) ∧
        (p.trkValid = true → p.pcount ≤ 1 → next = false →
          (t.dev.tracker p.tracker).cur = ((s.dev.tracker p.tracker).cur + 1) % 2 ^ 32)) ∧
    (Admitted s.dev 0x01 p next → s.dev.badAt p (p.len * p.pcount) = none → p.src ≠ s.dev.number →
      ∃ t, exec (.getReq p) s = .next t ∧ (∀ q, q ∈ s.dev.inject → q ∈ t.dev.inject) ∧
        (∀ k, k < p.pcount → ∃ q, q ∈ t.dev.inject ∧ q.typ = 0x02 ∧ q.dest = p.src ∧ q.tag = p.tag ∧ q.tagGen = p.tagGen ∧
          q.pseq = p.pseq + k ∧ q.payload = s.dev.spaceBytes (gaSpace p.addr) (gaOff p.addr + p.len * k) p.len)) ∧
    (Admitted s.dev 0x04 p next → s.dev.badAt p 8 = none →
      ∃ t, exec (.faddI64Packet p) s = .next t ∧
        t.dev.lpddr = (s.dev.lpWrite (gaOff p.addr)
          (toBytes 8 ((s.dev.lpNat (gaOff p.addr) 8 + leNat (p.payload.take 8)) % 2 ^ 64))).lpddr ∧
        (p.plan = false → p.src ≠ s.dev.number → ∃ q, q ∈ t.dev.inject ∧ q.typ = 0x02 ∧ q.dest = p.src ∧ q.tag = p.tag ∧
          q.payload = toBytes 8 (s.dev.lpNat (gaOff p.addr) 8) ++ List.replicate 56 0)) ∧
    (∀ n r i, Admitted s.dev 0x05 p next → xwnOf p.xwn = some n →
      s.dev.redOf p.plot (gaOff p.addr) (some n) p.win (p.xwValues n).length = some (r, i) →
      s.dev.badAt p ((p.xwValues n).length * (n.bits / 8)) = none → r.pav < s.dev.pavs.length →
      ∃ t, exec (.xwAdd p) s = .next t ∧
        (t.dev.pav r.pav).store = (forEach ((List.range (p.xwValues n).length).zip (p.xwValues n)) (s.dev.pav r.pav)
          (fun q e => q.xwAddAt r n (i + e.1) e.2.1 e.2.2)).store) ∧
    (∀ r i, Admitted s.dev 0x06 p next →
      s.dev.redOf p.plot (gaOff p.addr) none 0 ((pieces 4 p.payload).map leNat).length = some (r, i) →
      s.dev.badAt p (4 * ((pieces 4 p.payload).map leNat).length) = none → r.pav < s.dev.pavs.length →
      ∃ t, exec (.fAdd p) s = .next t ∧
        (t.dev.pav r.pav).store = (forEach ((List.range ((pieces 4 p.payload).map leNat).length).zip ((pieces 4 p.payload).map leNat))
          (s.dev.pav r.pav) (fun q e => q.fAddAt r (i + e.1) e.2)).store) ∧
    (Admitted s.dev 0x08 p next →
      ∃ t, exec (.nullPacket p) s = .next t ∧ t.dev.pavs = s.dev.pavs ∧ t.dev.lpddr = s.dev.lpddr ∧
        (p.trkValid = true → t.dev.tracker p.tracker =
          if next then { s.dev.tracker p.tracker with next := ((s.dev.tracker p.tracker).next + 1) % 2 ^ 32 }
          else { s.dev.tracker p.tracker with cur := ((s.dev.tracker p.tracker).cur + 1) % 2 ^ 32 })) ∧
    (∀ k x, Admitted s.dev 0x09 p next → s.dev.shardOf p = some (k, x) → s.dev.loadRegion x p.aux = true →
      x.pav < s.dev.pavs.length →
      ∃ t, exec (.loadPacket p) s = .next t ∧
        (t.dev.pav x.pav).tier = (s.dev.pav x.pav).tier.store (gaOff p.addr % 2 ^ 29) p.payload ∧
        (∃ y, t.dev.shards.find k = some y ∧ y.st = .writing ∧ y.name = x.name ∧ y.digest = x.digest))

/-- R286, R289, R294, R312, R316: a packet that a check refuses places nothing, whatever its type: an ERROR_RESP with the status goes
to its origin; one of another generation of its plot, or whose step generation is neither this step's nor the next, is dropped; a fenced
device answers with a FENCE_NOTICE. -/
def Obligations.RefusedPacketsPlaceNothing : Prop :=
  ∀ (s : State) (p : Packet) (typ : Nat) (c : Instr), s.dev.powered = true →
    (typ, c) ∈ [(0x00, Instr.put p), (0x01, .getReq p), (0x04, .faddI64Packet p), (0x05, .xwAdd p), (0x06, .fAdd p), (0x07, .mcast p),
      (0x08, .nullPacket p), (0x09, .loadPacket p)] →
    p.typ = typ → p.dest = s.dev.number → s.dev.arrivalRoom p = true →
    ((s.dev.selfFenced = true ∧ s.dev.ofOwn p = false) ∨ (s.dev.plot p.plot).gen ≠ p.plotGen ∨ s.dev.packetStatus p ≠ 0 ∨
      s.dev.stepGen p = none) →
    ∃ t, exec c s = .next t ∧ t.dev.pavs = s.dev.pavs ∧ t.dev.lpddr = s.dev.lpddr ∧ t.dev.trackers = s.dev.trackers ∧
      Changes s t (fun d e => { d with eject := e.eject, inject := e.inject }) ∧
      ((s.dev.selfFenced = false ∨ s.dev.ofOwn p = true) → (s.dev.plot p.plot).gen = p.plotGen → s.dev.packetStatus p ≠ 0 →
        p.src ≠ s.dev.number → ∃ q, q ∈ t.dev.inject ∧ q.typ = 0x0A ∧ q.dest = p.src ∧ q.tag = p.tag ∧ q.aux = s.dev.packetStatus p)

/-- R288 to R291, R314, R317, R320, R451: an answer meets the open transfer of its tag: a COMPLETION confirms packets and closes the
transfer with the last one, a GET_RESP leaves its bytes, an error or a notice closes the transfer; one that meets no open transfer is
discarded as late; the timers close a transfer, confirm
what waits, and release an arrival entry; FADD_CMD opens a fetch-add to FADD_ADDR. -/
def Obligations.AnswersMeetTheirTransfer : Prop :=
  ∀ (s : State) (p : Packet) (x : Xfer), s.dev.powered = true →
    (p.dest = s.dev.number → s.dev.xfers.find? (fun y => y.fabric && y.tag = p.tag && y.gen = p.tagGen) = some x →
      (p.typ = 0x03 → x.kind = .put → x.err = none →
        ∃ t, exec (.completion p) s = .next t ∧
          (x.pcount ≤ x.confirmed.length + p.pcount → ∀ y, y ∈ t.dev.xfers → y.serial ≠ x.serial) ∧
          (x.confirmed.length + p.pcount < x.pcount →
            ∃ y, y ∈ t.dev.xfers ∧ y.serial = x.serial ∧ y.confirmed.length = x.confirmed.length + p.pcount)) ∧
      (∀ n, p.typ = 0x02 → x.owner = .plan n → x.kind = .get → x.confirmed.contains p.pseq = false →
        1024 * x.placed.length < x.len →
        ∃ t, exec (.getResp p) s = .next t ∧ ∃ y, y ∈ t.dev.xfers ∧ y.serial = x.serial ∧
          y.got = x.got.store (448 * p.pseq) p.payload ∧ y.confirmed = x.confirmed ++ [p.pseq]) ∧
      (p.typ = 0x0A → ∃ t, exec (.errorResp p) s = .next t ∧ ∀ y, y ∈ t.dev.xfers → y.serial ≠ x.serial) ∧
      (p.typ = 0x0C → ∃ t, exec (.flushNotice p) s = .next t ∧ ∀ y, y ∈ t.dev.xfers → y.serial ≠ x.serial) ∧
      (p.typ = 0x0B → x.kind ≠ .mcast → ∃ t, exec (.fenceNotice p) s = .next t ∧ ∀ y, y ∈ t.dev.xfers → y.serial ≠ x.serial)) ∧
    (∀ typ c, (typ, c) ∈ [(0x02, Instr.getResp p), (0x03, .completion p), (0x0A, .errorResp p), (0x0B, .fenceNotice p), (0x0C, .flushNotice p)] →
      p.typ = typ → p.dest = s.dev.number → s.dev.xfers.find? (fun y => y.fabric && y.tag = p.tag && y.gen = p.tagGen) = none →
      s.dev.selfFenced = false →
      ∃ t, exec c s = .next t ∧ t.dev.eject = s.dev.eject.erase p ∧ Counts s t 0x051 0x108 1 ∧
        Changes s t (fun d e => { d with eject := e.eject })) ∧
    (∀ k, s.dev.xfer k = some x → x.fabric = true → x.kind ≠ .mcast → x.issued + s.dev.xferTicks + s.tie ≤ s.dev.time.elapsed →
      ∃ t, exec (.xferTimeout k) s = .next t ∧ ∀ y, y ∈ t.dev.xfers → y.serial ≠ x.serial) ∧
    (∀ src tag u, s.dev.unconf.find? (fun v => v.src = src && v.tag = tag) = some u → u.since + 256 + s.tie ≤ s.dev.time.elapsed →
      u.src ≠ s.dev.number →
      ∃ t, exec (.completionTimer src tag) s = .next t ∧
        (∃ q, q ∈ t.dev.inject ∧ q.typ = 0x03 ∧ q.dest = u.src ∧ q.tag = u.tag ∧ q.tagGen = u.gen ∧ q.pcount = u.seqs.length) ∧
        (∀ v, v ∈ t.dev.unconf → ¬(v.src = u.src ∧ v.tag = u.tag ∧ v.gen = u.gen)) ∧
        Changes s t (fun d e => { d with unconf := e.unconf, inject := e.inject })) ∧
    (∀ src tag a, s.dev.arrivals.find? (fun v => v.src = src && v.tag = tag) = some a → a.since + s.dev.xferTicks + s.tie ≤ s.dev.time.elapsed →
      ∃ t, exec (.arrivalReap src tag) s = .next t ∧ t.dev.arrivals = s.dev.arrivals.erase a ∧
        (∀ e, e ∈ t.dev.shards → ¬(e.2.st = .writing ∧ e.2.src = some (a.src, a.tag, a.gen))) ∧
        Changes s t (fun d e => { d with arrivals := e.arrivals, shards := e.shards })) ∧
    (∀ r, s.admits r 0x051 0x420 1 → s.reg 0x051 0x42C 0 % 4 ≠ 1 →
      ∃ t, exec (.faddCmd r) s = .next t ∧ t.reg 0x051 0x42C 0 = 1 ∧
        ∃ y, y ∈ t.dev.xfers ∧ y.owner = .faddCmd ∧ y.kind = .fadd ∧ y.addr = s.dev.rg64 0x051 0x410 0)

/-- R296, R301, R303, R304, R306, R309 to R311, R320: the router ejects a packet for its own device and sends one on the only free minimal
port with one hop more; a malformed packet is dropped; one that has made 64 hops is dropped with a FLUSH_NOTICE to its origin; a partial
leaves the combine buffer when its slot window is over; an armed switch takes place at its count and the old bank is retained for the
drain horizon; fence bits take what a write or the manager's FENCE_SET gives them, and a written bit meets packets at their first router
from the next tick on. -/
def Obligations.RouterCommands : Prop :=
  ∀ (s : State) (p : Packet), s.dev.powered = true →
    (∀ n, n < 12 → n < s.dev.ports.length → p ∈ (s.dev.port n).rx → p.bell = false → p.typ ≠ 0x0F → s.dev.router.sched = [] →
      s.dev.router.demoted = [] → p.tc ≠ 0 →
      (∀ bank, s.dev.malformed p = false → p.dest = s.dev.number → s.dev.arrivalRoom p = true → s.dev.router.bankOf p.epoch = some bank →
        ∃ t, exec (.packetRoute [(n, p)]) s = .next t ∧ t.dev.eject = s.dev.eject ++ [p] ∧ (t.dev.port n).rx = (s.dev.port n).rx.erase p) ∧
      (∀ bank o, s.dev.malformed p = false → p.dest ≠ s.dev.number → p.hops < 64 → s.dev.router.bankOf p.epoch = some bank →
        let e := s.dev.router.entry bank (if p.phase || p.mid = s.dev.number then p.dest else p.mid)
        (bitList (entryPorts e) 12).filter (fun k => s.dev.portUp k && !(s.dev.port k).busyFor p.tc p.len) = [o] →
        o < s.dev.ports.length →
        ∃ t, exec (.packetRoute [(n, p)]) s = .next t ∧ (t.dev.port o).txSeq = ((s.dev.port o).txSeq + 1) % 65536 ∧
          (t.dev.port o).replay = (s.dev.port o).replay ++ [((s.dev.port o).txSeq, s.dev.time.elapsed,
            { p with phase := p.phase || p.mid = s.dev.number, hops := p.hops + 1 })]) ∧
      (s.dev.malformed p = true →
        ∃ t, exec (.packetRoute [(n, p)]) s = .next t ∧ t.dev.eject = s.dev.eject ∧ t.dev.inject = s.dev.inject ∧
          (t.dev.port n).rx = (s.dev.port n).rx.erase p) ∧
      (s.dev.malformed p = false → p.dest ≠ s.dev.number → 64 ≤ p.hops → p.isNotice = false → p.origin ≠ s.dev.number →
        ∃ t, exec (.packetRoute [(n, p)]) s = .next t ∧ (t.dev.port n).rx = (s.dev.port n).rx.erase p ∧ Counts s t 0x050 0x10C 1 ∧
          ∃ q, q ∈ t.dev.inject ∧ q.typ = 0x0C ∧ q.dest = p.origin ∧ q.tag = p.tag ∧ q.aux = 6)) ∧
    (∀ tree addr h, s.dev.router.combine.find? (fun y => y.pkt.tree = tree && y.pkt.addr = addr) = some h → s.dev.windowOver h = true →
      ∃ t, exec (.combineSend tree addr) s = .next t ∧ t.dev.router.combine = s.dev.router.combine.erase h) ∧
    (∀ r epoch, s.admits r 0x050 0x414 (epoch % 256 + 256) →
      ∃ t, exec (.switchArm r epoch) s = .next t ∧
        t.dev.router = { s.dev.router with armed := some ⟨epoch % 256, BitVec.ofNat 64 (s.dev.rg64 0x050 0x40C 0)⟩ } ∧
        Changes s t (fun d e => { d with router := e.router })) ∧
    (∀ a, s.dev.router.armed = some a → a.count ≤ s.dev.time.count →
      ∃ t, exec .routeSwitch s = .next t ∧ t.dev.router = { s.dev.router with
        active := 1 - s.dev.router.active, epoch := a.epoch, oldEpoch := s.dev.router.epoch, retained := true
        retainedSince := s.dev.time.elapsed, armed := none }) ∧
    (s.dev.router.retained = true → s.dev.router.retainedSince + s.dev.horizon ≤ s.dev.time.elapsed →
      exec .bankRetainEnd s = .next { s with dev := { s.dev with router := { s.dev.router with retained := false } } }) ∧
    (p.typ = 0x11 → p.dest = s.dev.number → s.dev.roleOf p.src = 0 →
      let d := { s.dev with eject := s.dev.eject.erase p }
      exec (.fenceSet p) s =
        .next { s with dev := forEach (Sys2Proof.Config.fenceUpdates p.payload) d (fun e u => e.setFence (u.1 % 4096) u.2) }) ∧
    (p.typ = 0x11 → p.dest = s.dev.number → s.dev.roleOf p.src ≠ 0 →
      exec (.fenceSet p) s = .next { s with dev := { s.dev with eject := s.dev.eject.erase p } }) ∧
    (∀ r k v, k < 128 → s.admits r 0x051 (0x800 + 4 * k) v.toNat →
      ∃ t, exec (.fenceMapWrite r k v) s = .next t ∧ (∀ j, j < 32 → t.dev.fenced (32 * k + j) = bitN v.toNat j) ∧
        (∀ m, m < 4096 → m / 32 ≠ k → t.dev.fenced m = s.dev.fenced m) ∧
        (∀ m, m < 4096 → t.dev.fencedAtSource m = s.dev.fencedAtSource m) ∧
        Changes s t (fun d e => { d with fencePrev := e.fencePrev })) ∧
    (p.typ = 0x12 → p.dest = s.dev.number →
      exec (.linkMgmt p) s = .next { s with dev := { s.dev with eject := s.dev.eject.erase p } })

/-! ### Fabric links (R323 to R356) and the time domain (R372 to R387) -/

/-- R292, R331, R332, R334 to R339, R342: a packet's header read back is the packet, with every field at every value of its width; on a
link that carries frames, a packet frame with the expected sequence number enters the receive
buffer and advances it, a duplicate or a frame that fails its check or is of another generation does not; ACK frees what it covers, a NAK
and the replay timer send the stored frames again; the ACK timer sends an IDLE frame, which carries the ACK, the transmit generation and
the credits freed. Nothing waits at the port where a frame's fields are used. -/
def Obligations.FramesAreJudged : Prop :=
  (∀ pk : Packet, Sys2Proof.packetOk pk = true → pk.rsv = false →
    pk.header.length = 32 ∧ packetOfBytes pk.header pk.payload = pk) ∧
  ∀ (s : State) (n : Nat) (h : FrameHdr) (pk : Packet), s.dev.powered = true → n < 12 → n < s.dev.ports.length →
    (s.dev.port n).links = true →
    (h.crcOk = true → h.rsv = false → h.gen = (s.dev.port n).rxGen → h.nak = false → (s.dev.port n).waiting = [] →
      h.seq % 65536 = (s.dev.port n).rxE → (s.dev.port n).rxE < 65536 →
      ∃ t, exec (.framePacket n h pk) s = .next t ∧ (t.dev.port n).rx = (s.dev.port n).rx ++ [pk] ∧
        (t.dev.port n).rxE = ((s.dev.port n).rxE + 1) % 65536 ∧ Changes s t (fun d e => { d with ports := e.ports })) ∧
    (h.crcOk = true → h.rsv = false → h.gen = (s.dev.port n).rxGen → h.nak = false → (s.dev.port n).waiting = [] →
      0xF800 ≤ (h.seq % 65536 + 65536 - (s.dev.port n).rxE) % 65536 →
      ∃ t, exec (.framePacket n h pk) s = .next t ∧ (t.dev.port n).rx = (s.dev.port n).rx ∧
        (t.dev.port n).rxE = (s.dev.port n).rxE ∧ Changes s t (fun d e => { d with ports := e.ports })) ∧
    (h.crcOk = false →
      ∃ t, exec (.framePacket n h pk) s = .next t ∧ (t.dev.port n).rx = (s.dev.port n).rx ∧ (t.dev.port n).rxE = (s.dev.port n).rxE ∧
        (t.dev.port n).nakPending = true) ∧
    (h.crcOk = true → h.rsv = false → h.gen ≠ (s.dev.port n).rxGen →
      ∃ t, exec (.framePacket n h pk) s = .next t ∧ Changes s t (fun d _ => d)) ∧
    (h.crcOk = true → h.rsv = false → h.gen = (s.dev.port n).rxGen → h.nak = false → (s.dev.port n).waiting = [] →
      ∃ t, exec (.frameIdle n h) s = .next t ∧ (t.dev.port n).rx = (s.dev.port n).rx ∧
        (t.dev.port n).returnedH = h.credH ∧ (t.dev.port n).returnedD = h.credD ∧
        (t.dev.port n).replay =
          (if h.ackValid then (s.dev.port n).replay.filter (fun e => !seqCovers h.ack e.1) else (s.dev.port n).replay) ∧
        Changes s t (fun d e => { d with ports := e.ports })) ∧
    (∀ e, h.crcOk = true → h.rsv = false → h.gen = (s.dev.port n).rxGen → h.nak = true → (s.dev.port n).waiting = [] →
      (s.dev.port n).mayReplay = true → (s.dev.port n).lastReplay = none → e ∈ (s.dev.port n).replay →
      (h.ackValid = true → seqCovers h.ack e.1 = false) →
      seqCovers e.1 (if h.ackValid then (h.ack + 1) % 65536 else 0) = true →
      ∃ t, exec (.frameIdle n h) s = .next t ∧ ∃ f, .frame n f ∈ t.dev.out ∧ f.seq = e.1) ∧
    ((s.dev.port n).unacked ≠ 0 → (s.dev.port n).unackedSince + s.reg (portPage n) 0x414 0 + s.tie ≤ s.dev.time.elapsed →
      ∃ t, exec (.ackTimer n) s = .next t ∧
        .frame n ⟨0, ((s.dev.port n).rxE + 65535) % 65536, (s.dev.port n).ackValid, false, (s.dev.port n).txGen,
          (s.dev.port n).takenH, (s.dev.port n).takenD, .idle⟩ ∈ t.dev.out ∧
        (t.dev.port n).unacked = 0 ∧ Changes s t (fun d e => { d with ports := e.ports })) ∧
    (∀ e rest, (s.dev.port n).replay = e :: rest → (s.dev.port n).mayReplay = true → (s.dev.port n).replaysNoAck < 15 →
      e.2.1 + 1000 * s.reg (portPage n) 0x418 0 + s.tie ≤ s.dev.time.elapsed →
      ∃ t, exec (.replayTimer n) s = .next t ∧ (t.dev.port n).replay.map (·.1) = (s.dev.port n).replay.map (·.1) ∧
        (t.dev.port n).replaysNoAck = (s.dev.port n).replaysNoAck + 1 ∧
        ((∀ f, f ∈ (s.dev.port n).replay → f.2.2.typ ≠ 0x0F) → ((s.dev.port n).replay.map (·.1)).Nodup →
          (t.dev.port n).replay.map (·.2.2) = (s.dev.port n).replay.map (·.2.2) ∧
          ∃ f, .frame n f ∈ t.dev.out ∧ f.seq = e.1 ∧ f.gen = (s.dev.port n).txGen ∧ f.body = .packet e.2.2)) ∧
    (∀ e rest, (s.dev.port n).replay = e :: rest → (s.dev.port n).replaysNoAck = 15 →
      ((s.dev.port n).st = .up ∨ (s.dev.port n).st = .draining ∨ (s.dev.port n).st = .drained) →
      e.2.1 + 1000 * s.reg (portPage n) 0x418 0 + s.tie ≤ s.dev.time.elapsed →
      ∃ t, exec (.replayTimer n) s = .next t ∧ (t.dev.port n).st = .held ∧ (t.dev.port n).cause = 2)

/-- R323, R327 to R330, R333, R345 to R347, R351, R353, R355: the states of a port: enabled into CALIBRATE, through TRAIN to INIT, retried
and at last FAILED, HELD at a loss of lock, flushed and DOWN when the grace period ends, drained and back; a full INIT takes the
peer's generation and advertisement; RECALIBRATE and a millisecond's codewords count. -/
def Obligations.PortStates : Prop :=
  ∀ (s : State) (r : Route) (n : Nat), n < 12 → n < s.dev.ports.length →
    (s.admits r (portPage n) 0x404 1 → bitN s.dev.portMap n = true → ((s.dev.port n).st = .off ∨ (s.dev.port n).st = .failed) →
      ∃ t, exec (.linkEnable r n) s = .next t ∧ (t.dev.port n).st = .calibrate ∧ (t.dev.port n).phase = .calibrate ∧
        Changes s t (fun d e => { d with ports := e.ports })) ∧
    (s.admits r (portPage n) 0x404 2 → (s.dev.port n).st = .up →
      ∃ t, exec (.linkDrain r n) s = .next t ∧ (t.dev.port n).st = .draining) ∧
    (s.admits r (portPage n) 0x404 3 → (s.dev.port n).st = .drained →
      ∃ t, exec (.linkUndrain r n) s = .next t ∧ (t.dev.port n).st = .up) ∧
    (s.admits r (portPage n) 0x404 4 → (s.dev.port n).st = .up →
      ∃ t, exec (.linkRecalibrate r n) s = .next t ∧ Counts s t (portPage n) 0x150 1 ∧ Changes s t (fun d _ => d)) ∧
    (s.dev.powered = true →
      ((s.dev.port n).st = .draining → (s.dev.port n).replay = [] →
        ∃ t, exec (.drainComplete n) s = .next t ∧ (t.dev.port n).st = .drained ∧ Changes s t (fun d e => { d with ports := e.ports })) ∧
      (∀ a b, (s.dev.port n).st ≠ .off →
        ∃ t, exec (.fecAlarmWindow n a b) s = .next t ∧ Counts s t (portPage n) 0x138 a ∧ Counts s t (portPage n) 0x13C b ∧
          Changes s t (fun d _ => d)) ∧
      ((s.dev.port n).phase = .calibrate → ∀ lanes : W32, lanes.toNat % 65536 = 0xFFFF →
        ∃ t, exec (.bringupPhaseDone n lanes) s = .next t ∧ (t.dev.port n).st = .train ∧ (t.dev.port n).phase = .train ∧
          Changes s t (fun d e => { d with ports := e.ports })) ∧
      ((s.dev.port n).phase = .train → (s.dev.port n).st = .train → ∀ lanes : W32,
        ∃ t, exec (.bringupPhaseDone n lanes) s = .next t ∧ (t.dev.port n).st = .init ∧ (t.dev.port n).phase = .init ∧
          (t.dev.port n).txGen = ((s.dev.port n).txGen + 1) % 256 ∧ Changes s t (fun d e => { d with ports := e.ports })) ∧
      (((s.dev.port n).phase = .calibrate ∨ (s.dev.port n).phase = .train ∨ (s.dev.port n).phase = .init) →
        (s.dev.port n).st ≠ .held → (s.dev.port n).st ≠ .down →
        (s.dev.port n).phaseSince + phaseBound (s.dev.port n).phase + s.tie ≤ s.dev.time.elapsed →
        ∃ t, exec (.bringupPhaseTimeout n) s = .next t ∧
          ((s.dev.port n).fails < 2 → (t.dev.port n).st = .calibrate ∧ (t.dev.port n).fails = (s.dev.port n).fails + 1) ∧
          (2 ≤ (s.dev.port n).fails → (t.dev.port n).st = .failed)) ∧
      (∀ us, (s.dev.port n).st = .up → s.reg (portPage n) 0x40C 0 ≤ us →
        ∃ t, exec (.lockLoss n us) s = .next t ∧ (t.dev.port n).st = .held ∧ (t.dev.port n).cause = 1 ∧
          (t.dev.port n).graceOpen = true ∧ (t.dev.port n).replay = (s.dev.port n).replay) ∧
      ((s.dev.port n).st = .held → (s.dev.port n).graceOpen = true →
        (s.dev.port n).downSince + (s.dev.port n).graceLen + s.tie ≤ s.dev.time.elapsed →
        ∃ t, exec (.graceExpiry n) s = .next t ∧ (t.dev.port n).st = .down ∧ (t.dev.port n).replay = []) ∧
      ((s.dev.port n).phase = .init → ((s.dev.port n).st = .init ∨ (s.dev.port n).st = .held) → (s.dev.port n).gotInitAck = false →
        (s.dev.port n).initAt + 1000 + s.tie ≤ s.dev.time.elapsed →
        ∃ t, exec (.initRepeat n) s = .next t ∧
          (∃ f, .frame n f ∈ t.dev.out ∧ f.body = .init (s.dev.initBody n) ∧ f.gen = (s.dev.port n).txGen) ∧
          (t.dev.port n).initAt = s.dev.time.elapsed ∧ Changes s t (fun d e => { d with ports := e.ports })) ∧
      (∀ h b, (s.dev.port n).phase = .init → (s.dev.port n).st = .init → h.crcOk = true → h.rsv = false →
        (s.dev.port n).gotInit = false → (s.dev.port n).initResume = false →
        ∃ t, exec (.frameInit n h b) s = .next t ∧ (t.dev.port n).gotInit = true ∧ (t.dev.port n).rxGen = h.gen ∧
          (t.dev.port n).rxE = 0 ∧ (t.dev.port n).advH = b.advH ∧ (t.dev.port n).advD = b.advD ∧
          (t.dev.port n).peer = some (b.dev, b.port)) ∧
      (∀ h b, (s.dev.port n).phase = .init → ((s.dev.port n).st = .init ∨ (s.dev.port n).st = .held) → h.crcOk = true →
        h.rsv = false → (s.dev.port n).gotInitAck = false →
        ∃ t, exec (.frameInitAck n h b) s = .next t ∧ (t.dev.port n).gotInitAck = true ∧
          (t.dev.port n).rtt = s.dev.time.elapsed - (s.dev.port n).initDepart ∧ (t.dev.port n).peer = some (b.dev, b.port)))

/-- R373 to R379, R382 to R384, R386: exchanges with a neighbour, the loss and the return of the reference, holdover's end, a PLL that
unlocks with its reference present (class X), launches, and the jump of a FREE device. -/
def Obligations.TimeAndLaunches : Prop :=
  ∀ (s : State) (r : Route) (n : Nat), n < s.dev.ports.length →
    (s.dev.powered = true →
      ((s.dev.port n).st = .up → (s.dev.port n).exchOpen = false → (s.dev.port n).lastExch + 10000000 ≤ s.dev.time.elapsed →
        ∃ t, exec (.timeExchange n) s = .next t ∧ (t.dev.port n).exchOpen = true ∧
          (t.dev.port n).exchNum = ((s.dev.port n).exchNum + 1) % 65536 ∧ (t.dev.port n).lastExch = s.dev.time.elapsed) ∧
      (∀ b q arrive, (s.dev.port n).rx.find? (fun y => y.typ = 0x0F && timeBodyOf y.payload = b) = some q → n < 12 →
        (b.kind = 1 → ∃ t, exec (.timePacket n b arrive) s = .next t ∧ (t.dev.port n).rx = (s.dev.port n).rx.erase q ∧
          (t.dev.port n).peerSynced = b.synced ∧ (t.dev.port n).peerManager = b.manager ∧
          ((s.dev.port n).waiting = [] ∧ (s.dev.port n).busyFor 2 64 = false →
            (t.dev.port n).txSeq = ((s.dev.port n).txSeq + 1) % 65536) ∧
          (¬((s.dev.port n).waiting = [] ∧ (s.dev.port n).busyFor 2 64 = false) → (t.dev.port n).txSeq = (s.dev.port n).txSeq ∧
            ∃ pk, (t.dev.port n).waiting = (s.dev.port n).waiting ++ [pk] ∧ pk.typ = 0x0F)) ∧
        (b.kind = 2 → (s.dev.port n).exchOpen = true → b.exch = (s.dev.port n).exchNum → (s.dev.port n).phase ≠ .init →
          ∃ t, exec (.timePacket n b arrive) s = .next t ∧ (t.dev.port n).rx = (s.dev.port n).rx.erase q ∧
            (t.dev.port n).exchOpen = false ∧
            (t.dev.port n).linkDelay = some (((((arrive : Int) - (s.dev.port n).exchStamp) - ((b.depart : Int) - b.reqArrive)) / 2).toNat % 2 ^ 20))) ∧
      ((s.dev.port n).exchOpen = true → (s.dev.port n).exchAt + 1000000 + s.tie ≤ s.dev.time.elapsed → (s.dev.port n).phase ≠ .init →
        ∃ t, exec (.exchangeLost n) s = .next t ∧ (t.dev.port n).exchOpen = false ∧ Counts s t 0x004 0x104 1 ∧
          Changes s t (fun d e => { d with ports := e.ports })) ∧
      (s.dev.power.refOk = true →
        ∃ t, exec .refLoss s = .next t ∧ t.dev.power.refOk = false ∧ t.dev.time.holdover = true ∧
          t.dev.time.count = s.dev.time.count ∧ Changes s t (fun d e => { d with power := e.power, time := e.time })) ∧
      (s.dev.power.refOk = false →
        ∃ t, exec .refReturn s = .next t ∧ t.dev.power.refOk = true ∧ t.dev.time.holdover = false ∧ t.dev.time.expired = false) ∧
      (s.dev.time.holdover = true → s.dev.time.expired = false →
        s.dev.time.holdSince + 1000000 * s.reg 0x004 0x418 0 + s.tie ≤ s.dev.time.elapsed →
        ∃ t, exec .holdoverExpiry s = .next t ∧ t.dev.time.expired = true ∧
          t.dev.time.sync = (if s.dev.time.sync = 0 then 0 else 1)) ∧
      (s.dev.time.locked = true → s.dev.power.refOk = true →
        ∃ t, exec .timePllUnlock s = .next t ∧ t.dev.time.locked = false ∧ t.dev.power.fatal = true ∧
          (∀ m, m < t.dev.pavs.length → (t.dev.pav m).run ≠ .running)) ∧
      (∀ b set vn v vals img, s.dev.time.launch = 1 → s.dev.time.launchAt ≤ s.dev.time.count →
        s.dev.canRelease s.dev.time.launchCtx = some (b, set, vn, v, vals, img) → s.dev.turnOf s.dev.time.launchCtx = true →
        s.dev.sliceFits s.dev.time.launchCtx v.deadline = true →
        ∃ t, exec .launch s = .next t ∧ t.dev.time.launch = 2 ∧
          t.dev.time.launchLate = decide (s.dev.time.launchAt < s.dev.time.count) ∧
          (t.dev.ctx s.dev.time.launchCtx).launch = some s.dev.time.launchAt)) ∧
    (∀ c, c < 256 → s.admits r 0x004 0x428 (c + 256) →
      ∃ t, exec (.launchArm r c) s = .next t ∧ t.dev.time.launchCtx = c ∧
        (s.dev.time.count < BitVec.ofNat 64 (s.dev.rg64 0x004 0x420 0) → (s.dev.time.sync = 0 ∨ s.dev.time.sync = 3) →
          (s.dev.ctx c).multi = true →
          t.dev.time.launch = 1 ∧ t.dev.time.launchAt = BitVec.ofNat 64 (s.dev.rg64 0x004 0x420 0)) ∧
        (¬(s.dev.time.count < BitVec.ofNat 64 (s.dev.rg64 0x004 0x420 0)) ∨ (s.dev.time.sync ≠ 0 ∧ s.dev.time.sync ≠ 3) ∨
            (s.dev.ctx c).multi = false →
          t.dev.time.launch = 3 ∧ bitN (t.reg 0x004 0x018 0) 4 = true) ∧
        Changes s t (fun d e => { d with time := e.time })) ∧
    (∀ c, c < 256 → s.admits r 0x004 0x428 (c + 512) → s.dev.time.launch = 1 → s.dev.time.launchCtx = c → s.dev.launchDue = false →
      ∃ t, exec (.launchCancel r c) s = .next t ∧ t.dev.time = { s.dev.time with launch := 0 } ∧
        Changes s t (fun d e => { d with time := e.time })) ∧
    (s.admits r 0x004 0x478 1 → s.dev.time.sync = 0 → s.dev.jumpOk = true →
      ∃ t, exec (.timeJumpCmd r) s = .next t ∧ t.dev.time.count = BitVec.ofNat 64 (s.dev.rg64 0x004 0x470 0) ∧
        t.dev.ptp.valid = false ∧ Changes s t (fun d e => { d with time := e.time, ptp := e.ptp }))

/-! ### Host ports, MACsec, PTP and RoCE (R440 to R455, R554 to R557, R571 to R575) -/

/-- A logical interface that sends in the clear: up, and without MACsec (R557). -/
def SendsPlain (s : State) (i : Nat) : Prop :=
  i < 8 ∧ bitN (s.dev.hport (i / 4)).up (i % 4) = true ∧ bitN (s.reg (0x070 + i / 4) 0x40C (i % 4)) 2 = false

/-- The logical interface of a queue pair (R579). -/
def qpIface (s : State) (q : Nat) : Nat := bitsN (s.reg 0x073 0x404 q) 4 3

/-- R554 to R557, R575, R576, R579, R580: an interface comes up and goes down, a frame in the clear is held in its priority's share or
dropped and counted, PFC pauses a lossless priority, ARP and echo are answered, a Sync gives the wall-clock mapping and a lost master
sends the clock back to listening; SA_CMD installs an association with the key of the SAK registers and NEXT_PN, deletes one, and changes
the transmit side to an installed one, every other association unchanged. -/
def Obligations.HostPortEvents : Prop :=
  ∀ (s : State) (n i : Nat), s.dev.powered = true → n < 2 → n < s.dev.hports.length → i < 4 →
    (s.dev.interfaceFit (4 * n + i) = true →
      ∃ t, exec (.hostInterfaceUp (4 * n + i)) s = .next t ∧ bitN (t.dev.hport n).up i = true ∧ bitN (t.dev.hport n).fec i = true ∧
        (t.dev.hport n).inReset = false ∧ (∀ j, j ≠ i → bitN (t.dev.hport n).up j = bitN (s.dev.hport n).up j) ∧
        t.dev.regs = s.dev.regs ∧ Changes s t (fun d _ => d)) ∧
    (bitN (s.dev.hport n).up i = true →
      (∃ t, exec (.hostInterfaceDown (4 * n + i)) s = .next t ∧ bitN (t.dev.hport n).up i = false ∧
        bitN (t.reg (0x070 + n) 0x018 0) 0 = true ∧ Changes s t (fun d e => { d with ptp := e.ptp })) ∧
      (∀ len pcp dscp known, known = true → len ≤ 9216 → bitN (s.reg (0x070 + n) 0x40C i) 2 = false →
        ((s.dev.rxRoom n ((pcp.getD (dscp / 8)) % 8) ≥ len →
          ∃ t, exec (.ethFrameReceive n i len pcp dscp (bitsN (s.reg (0x070 + n) 0x40C i) 4 12) known none) s = .next t ∧
            (t.dev.hport n).held.get ((pcp.getD (dscp / 8)) % 8) 0 = (s.dev.hport n).held.get ((pcp.getD (dscp / 8)) % 8) 0 + len ∧
            Counts s t (0x070 + n) 0x100 1 ∧ Changes s t (fun d _ => d)) ∧
        (s.dev.rxRoom n ((pcp.getD (dscp / 8)) % 8) < len →
          ∃ t, exec (.ethFrameReceive n i len pcp dscp (bitsN (s.reg (0x070 + n) 0x40C i) 4 12) known none) s = .next t ∧
            (t.dev.hport n).held = (s.dev.hport n).held ∧ Counts s t (0x070 + n) 0x108 1 ∧ Changes s t (fun d _ => d)))) ∧
      (∀ len pcp dscp vlan known, bitN (s.reg (0x070 + n) 0x40C i) 2 = true →
        ∃ t, exec (.ethFrameReceive n i len pcp dscp vlan known none) s = .next t ∧ (t.dev.hport n).held = (s.dev.hport n).held ∧
          Counts s t (0x070 + n) 0x110 1 ∧ bitN (t.reg (0x070 + n) 0x018 0) 2 = true ∧ Changes s t (fun d _ => d))) ∧
    (∀ prio quanta, prio < 8 → bitN (s.reg (0x070 + n) 0x434 0) prio = true →
      ∃ t, exec (.pfcReceived n prio quanta) s = .next t ∧ bitN (t.dev.hport n).paused prio = decide (0 < quanta) ∧
        (∀ k, k ≠ prio → bitN (t.dev.hport n).paused k = bitN (s.dev.hport n).paused k) ∧
        t.dev.regs = s.dev.regs ∧ Changes s t (fun d _ => d)) ∧
    (∀ kind, kind < 3 → SendsPlain s (4 * n + i) →
      ∃ t, exec (.arpNdIcmp (4 * n + i) kind) s = .next t ∧ .reply (4 * n + i) kind ∈ t.dev.out ∧ Counts s t (0x070 + n) 0x104 1 ∧
        Changes s t (fun d _ => d)) ∧
    (∀ ns arrive rate cal, bitN (s.reg 0x070 0x480 0) 3 = true → s.reg 0x070 0x480 0 % 8 = 4 * n + i → s.dev.belv.st = 0 →
      bitN (s.dev.hport n).up i = true →
      ∃ t, exec (.ptpSync ns arrive rate cal) s = .next t ∧ t.dev.ptp.valid = true ∧ t.dev.ptp.wallBase = ns ∧
        t.dev.ptp.countBase = arrive ∧ t.dev.ptp.rate = rate ∧ t.dev.ptp.st = (if cal then 3 else 2) ∧
        Changes s t (fun d e => { d with ptp := e.ptp })) ∧
    (s.dev.ptp.st = 3 → s.dev.belv.st = 0 →
      ∃ t, exec .ptpLost s = .next t ∧ t.dev.ptp = { s.dev.ptp with st := 1 } ∧ Changes s t (fun d e => { d with ptp := e.ptp })) ∧
    (∀ (r : Route) (an dir : Nat), an < 4 → dir < 2 →
      (s.admits r (0x070 + n) 0x46C (an + 4 * dir + 8) →
        ∃ t, exec (.saInstall r n an dir) s = .next t ∧
          (t.dev.hport n).sas.find (saKey (s.dev.selIface r n) an dir) =
            some ⟨(List.range 8).flatMap (fun j => toBytes 4 (s.reg (0x070 + n) (0x444 + 4 * j) 0)),
                  s.dev.rg64 (0x070 + n) 0x470 (saKey (s.dev.selIface r n) an dir)⟩ ∧
          (∀ k, k ≠ saKey (s.dev.selIface r n) an dir → (t.dev.hport n).sas.find k = (s.dev.hport n).sas.find k) ∧
          (t.dev.hport n).txAn = (s.dev.hport n).txAn ∧ Changes s t (fun d _ => d)) ∧
      (s.admits r (0x070 + n) 0x46C (an + 4 * dir + 16) →
        ∃ t, exec (.saDelete r n an dir) s = .next t ∧ (t.dev.hport n).sas.find (saKey (s.dev.selIface r n) an dir) = none ∧
          (∀ k, k ≠ saKey (s.dev.selIface r n) an dir → (t.dev.hport n).sas.find k = (s.dev.hport n).sas.find k) ∧
          Changes s t (fun d _ => d)) ∧
      (s.admits r (0x070 + n) 0x46C (an + 24) → ((s.dev.hport n).sas.find (saKey (s.dev.selIface r n) an 0)).isSome = true →
        ∃ t, exec (.saUse r n an) s = .next t ∧ (t.dev.hport n).txAn.find (s.dev.selIface r n) = some an ∧
          (t.dev.hport n).sas = (s.dev.hport n).sas ∧ Changes s t (fun d _ => d)))

/-- R571 to R573: a request on an RTS queue pair with the PSN it expects and a key in order is served and advances the PSN, one with
a bad key gets a NAK and is counted; a marked packet is answered by a CNP (R574); CONNECT, RESET, and the region commands. -/
def Obligations.QueuePairsServe : Prop :=
  ∀ (s : State) (r : Route) (q : Nat), q < 2048 →
    (s.dev.powered = true → (s.dev.qp q).st = 3 → SendsPlain s (qpIface s q) →
      (∀ addr rkey len ecn, s.dev.rkeyOk q rkey addr len false = true →
        ∃ t, exec (.rdmaReadRequest q (s.dev.qp q).epsn addr rkey len ecn) s = .next t ∧
          .roceResp q (s.dev.qp q).epsn (s.dev.lpRead (gaOff addr) len) ∈ t.dev.out ∧
          (t.dev.qp q).epsn = ((s.dev.qp q).epsn + s.dev.qpPackets q len) % 2 ^ 24 ∧ Changes s t (fun d e => { d with qps := e.qps })) ∧
      (∀ addr rkey data ecn, s.dev.rkeyOk q rkey addr data.length true = true →
        ∃ t, exec (.rdmaWriteRequest q (s.dev.qp q).epsn addr rkey data ecn) s = .next t ∧
          .roceAck q (s.dev.qp q).epsn ∈ t.dev.out ∧ t.dev.lpddr = (s.dev.lpWrite (gaOff addr) data).lpddr ∧
          (t.dev.qp q).epsn = ((s.dev.qp q).epsn + s.dev.qpPackets q data.length) % 2 ^ 24) ∧
      (∀ addr rkey len data ecn, (s.dev.rkeyOk q rkey addr len false = false →
          ∃ t, exec (.rdmaReadRequest q (s.dev.qp q).epsn addr rkey len ecn) s = .next t ∧
            .roceNak q (s.dev.qp q).epsn ∈ t.dev.out ∧ Counts s t 0x073 0x10C 1 ∧ (t.dev.qp q).epsn = (s.dev.qp q).epsn ∧
            Changes s t (fun d e => { d with qps := e.qps })) ∧
        (s.dev.rkeyOk q rkey addr data.length true = false →
          ∃ t, exec (.rdmaWriteRequest q (s.dev.qp q).epsn addr rkey data ecn) s = .next t ∧
            .roceNak q (s.dev.qp q).epsn ∈ t.dev.out ∧ Counts s t 0x073 0x10C 1 ∧ (t.dev.qp q).epsn = (s.dev.qp q).epsn ∧
            Changes s t (fun d e => { d with qps := e.qps }))) ∧
      (∀ psn addr rkey len data, (s.dev.qp q).lastCnp = none →
        (∃ t, exec (.rdmaReadRequest q psn addr rkey len true) s = .next t ∧ .cnp q ∈ t.dev.out) ∧
        (∃ t, exec (.rdmaWriteRequest q psn addr rkey data true) s = .next t ∧ .cnp q ∈ t.dev.out))) ∧
    (s.admits r 0x073 0x420 1 → s.dev.sel r 0x073 0x400 % 2048 = q → (s.dev.qp q).st = 0 →
      ∃ t, exec (.qpConnect r q) s = .next t ∧ (t.dev.qp q).st = 3 ∧ (t.dev.qp q).psn = s.reg 0x073 0x41C q % 2 ^ 24 ∧
        (t.dev.qp q).epsn = s.reg 0x073 0x41C q % 2 ^ 24 ∧ (t.dev.qp q).ops = [] ∧ Changes s t (fun d e => { d with qps := e.qps })) ∧
    (s.admits r 0x073 0x420 2 → s.dev.sel r 0x073 0x400 % 2048 = q →
      ∃ t, exec (.qpReset r q) s = .next t ∧ t.dev.qp q = Qp.reset) ∧
    (∀ k, s.admits r 0x073 0x448 1 → s.dev.sel r 0x073 0x430 % 4096 = k →
      (s.dev.localMem (s.dev.rg64 0x073 0x434 k)).isSome = true →
      ∃ t, exec (.mrCreate r k) s = .next t ∧ (t.dev.mrs.get k Mr.free).valid = true ∧
        (t.dev.mrs.get k Mr.free).gen = ((s.dev.mrs.get k Mr.free).gen + 1) % 256 ∧
        (t.dev.mrs.get k Mr.free).base = s.dev.rg64 0x073 0x434 k ∧ (t.dev.mrs.get k Mr.free).len = 4096 * s.reg 0x073 0x43C k ∧
        Changes s t (fun d e => { d with mrs := e.mrs })) ∧
    (∀ k, s.admits r 0x073 0x448 2 → s.dev.sel r 0x073 0x430 % 4096 = k →
      ∃ t, exec (.mrDestroy r k) s = .next t ∧ t.dev.mrs.get k Mr.free = { s.dev.mrs.get k Mr.free with valid := false } ∧
        Changes s t (fun d e => { d with mrs := e.mrs }))

/-- R448, R571, R572, R574: the answers a queue pair takes: an ACK ends the writes it covers, an answer timeout sends the requests
again until the retries are spent and the pair enters ERROR, a CNP lowers the rate, the increase timer raises it, and the responses
of a load job's read are taken in order until the tag is judged. -/
def Obligations.QueuePairsTakeAnswers : Prop :=
  ∀ (s : State) (q : Nat), s.dev.powered = true → (s.dev.qp q).st = 3 →
    (∀ psn, ∃ t, exec (.rdmaAck q psn) s = .next t ∧ (t.dev.qp q).retries = 0 ∧
        (t.dev.qp q).ops = (s.dev.qp q).ops.filter (fun o => !(o.write && decide ((psn + 2 ^ 24 - o.psn) % 2 ^ 24 < 2 ^ 23))) ∧
        Changes s t (fun d e => { d with qps := e.qps })) ∧
    (∀ o rest, (s.dev.qp q).ops = o :: rest →
      o.sent + 4096 * 2 ^ (if bitsN (s.reg 0x073 0x404 q) 13 5 = 0 then 14 else bitsN (s.reg 0x073 0x404 q) 13 5) + s.tie ≤ s.dev.time.elapsed →
      ((s.dev.qp q).retries < bitsN (s.reg 0x073 0x404 q) 10 3 →
        ∃ t, exec (.rdmaAckTimeout q) s = .next t ∧ (t.dev.qp q).retries = (s.dev.qp q).retries + 1 ∧
          (t.dev.qp q).ops = (s.dev.qp q).ops.map (fun p => { p with sent := s.dev.time.elapsed }) ∧
          Counts s t 0x073 0x100 (s.dev.qp q).ops.length ∧ Changes s t (fun d e => { d with qps := e.qps })) ∧
      (bitsN (s.reg 0x073 0x404 q) 10 3 ≤ (s.dev.qp q).retries →
        ∃ t, exec (.rdmaAckTimeout q) s = .next t ∧ (t.dev.qp q).st = 4 ∧ (t.dev.qp q).ops = [] ∧
          bitN (t.reg 0x073 0x018 0) 0 = true)) ∧
    (∃ t, exec (.cnpReceived q) s = .next t ∧ (t.dev.qp q).target = (s.dev.qp q).rate ∧
      (t.dev.qp q).rate = max (s.reg 0x073 0x470 0) ((s.dev.qp q).rate - (s.dev.qp q).rate * (s.dev.qp q).alpha / 131072) ∧
      Counts s t 0x073 0x108 1 ∧ Changes s t (fun d e => { d with qps := e.qps })) ∧
    ((s.dev.qp q).timerAt + 1000 * s.reg 0x073 0x460 0 ≤ s.dev.time.elapsed →
      ∃ t, exec (.dcqcnTimer q) s = .next t ∧ (t.dev.qp q).incr = (s.dev.qp q).incr + 1 ∧
        ((s.dev.qp q).incr < 5 → (t.dev.qp q).target = (s.dev.qp q).target ∧
          (t.dev.qp q).rate = min (s.dev.lineRate q) (((s.dev.qp q).rate + (s.dev.qp q).target) / 2)) ∧
        Changes s t (fun d e => { d with qps := e.qps })) ∧
    (∀ o sh cipher plain tagOk, (s.dev.qp q).ops.find? (fun x => !x.write) = some o → (s.dev.job o.job).st = .reading →
      s.dev.shards.find (s.dev.job o.job).shard = some sh → o.len = sh.len + 16 →
      (s.dev.key (if s.dev.plotsMode then (s.dev.job o.job).plot else 0)).loaded = true →
      (s.dev.key (if s.dev.plotsMode then (s.dev.job o.job).plot else 0)).gen = (s.dev.job o.job).keyGen →
      ((s.dev.job o.job).recvd + cipher.length < o.len →
        ∃ t, exec (.rdmaReadResponse q ((o.psn + (s.dev.job o.job).recvd / s.dev.qpMtu q) % 2 ^ 24) cipher plain tagOk) s = .next t ∧
          (t.dev.job o.job).recvd = (s.dev.job o.job).recvd + cipher.length ∧ (t.dev.job o.job).st = .reading) ∧
      ((s.dev.job o.job).recvd + cipher.length = o.len →
        ∃ t, exec (.rdmaReadResponse q ((o.psn + (s.dev.job o.job).recvd / s.dev.qpMtu q) % 2 ^ 24) cipher plain tagOk) s = .next t ∧
          (tagOk = some true → (t.dev.job o.job).tagOk = some true ∧ (t.dev.job o.job).st = .reading) ∧
          (tagOk ≠ some true → (t.dev.job o.job).st = .failed ∧ (t.dev.job o.job).cause = 2 ∧ Counts s t 0x090 0x5CC 1)))

/-- R442, R443, R447 to R455: an accepted manifest gives its records EXPECTED entries in order; SUBMIT queues a job under the lowest
free number; a job starts by reading and is DONE when its tag holds and every copy is over; the readback of a shard and a sweep compare
SHA-384 digests and mark the entry DONE or MISMATCH. -/
def Obligations.WeightsLoadAndSweep : Prop :=
  ∀ (s : State) (r : Route) (k : Nat),
    (∀ c m first, c < 256 → s.admits r 0x090 0x518 (c + 256) → (s.dev.plot (s.dev.ctx c).plot).st ≠ 2 →
      s.dev.manifest (s.dev.ctx c).plot = some m → m.signed = true →
      s.dev.pubKeys.any (fun e => e.plot = (s.dev.ctx c).plot && sha384 e.key = m.hash) = true →
      (∀ x ∈ m.recs, s.dev.namedRegion (s.dev.ctx c).plot x.name m.epoch = none) → s.dev.freeRun m.recs.length = some first →
      ∃ t, exec (.manifestCmd r c true) s = .next t ∧ t.reg 0x090 0x51C 0 = 2 ^ 16 * first ∧
        (∀ j x, m.recs[j]? = some x → ∃ e, t.dev.shards.find (first + j) = some e ∧ e.st = .expected ∧
          e.plot = (s.dev.ctx c).plot ∧ e.name = x.name ∧ e.epoch = m.epoch ∧ e.len = x.len ∧ e.digest = x.digest) ∧
        Changes s t (fun d e => { d with shards := e.shards, belv := e.belv })) ∧
    (s.admits r 0x090 0x550 1 →
      ((List.range 64).find? (fun j => !(s.dev.job j).busy) = some k →
        ∃ t, exec (.jobSubmit r) s = .next t ∧ (t.dev.job k).st = .queued ∧
          (t.dev.job k).shard = bitsN (s.reg 0x090 0x530 0) 0 14 ∧ (t.dev.job k).rkey = s.reg 0x090 0x540 0 ∧
          t.reg 0x090 0x554 0 = k + 64 ∧ Changes s t (fun d e => { d with jobs := e.jobs })) ∧
      ((List.range 64).find? (fun j => !(s.dev.job j).busy) = none →
        ∃ t, exec (.jobSubmit r) s = .next t ∧ t.reg 0x090 0x554 0 = 128 ∧ Changes s t (fun d _ => d))) ∧
    (s.dev.powered = true →
      ((s.dev.job k).st = .queued → (s.dev.jobs.filter (fun e => e.2.st = .reading)).length < 8 →
        s.dev.jobs.all (fun e => !(e.2.st = .queued && decide (e.2.order < (s.dev.job k).order))) = true →
        (∀ sh key, s.dev.shards.find (s.dev.job k).shard = some sh →
          s.dev.shardKeys.find? (fun e => e.plot = (s.dev.job k).plot && e.keyId = sh.keyId) = some key → (s.dev.qp (s.dev.job k).qp).st = 3 →
          ∃ t, exec (.jobStart k) s = .next t ∧ (t.dev.job k).st = .reading ∧ (t.dev.job k).key = some key.serial ∧
            (t.dev.qp (s.dev.job k).qp).ops = (s.dev.qp (s.dev.job k).qp).ops ++
              [⟨false, (s.dev.qp (s.dev.job k).qp).psn, k, 0, 0, sh.len + 16, s.dev.time.elapsed⟩]) ∧
        (s.dev.shards.find (s.dev.job k).shard = none →
          ∃ t, exec (.jobStart k) s = .next t ∧ (t.dev.job k).st = .failed ∧ (t.dev.job k).cause = 5)) ∧
      ((s.dev.job k).st = .reading → (s.dev.job k).tagOk = some true → (s.dev.job k).copies = [] →
        ∃ t, exec (.jobComplete k) s = .next t ∧ (t.dev.job k).st = .done ∧ (t.dev.job k).cause = 0 ∧ (t.dev.job k).key = none) ∧
      (∀ x i g, s.dev.shards.find k = some x → s.dev.namedRegion x.plot x.name x.epoch = some (i, g) → x.local_ = true →
        (x.st = .writing → x.src = none → g.st = 1 →
          (sha384 (s.dev.shardBytes g x) = x.digest →
            ∃ t, exec (.shardReadbackDone k) s = .next t ∧ t.dev.shards.find k = some { x with st := .done, cause := 0 } ∧
              Counts s t 0x090 0x5C0 1) ∧
          (sha384 (s.dev.shardBytes g x) ≠ x.digest →
            ∃ t, exec (.shardReadbackDone k) s = .next t ∧ t.dev.shards.find k = some { x with st := .mismatch, cause := 3 } ∧
              (t.dev.region i).st = 4 ∧ Counts s t 0x090 0x5D0 1)) ∧
        (x.st = .done → x.sweep = true → (g.st = 2 ∨ g.st = 3) →
          x.sweptEl + 1000000000 * s.reg 0x0A0 0x438 0 ≤ s.dev.time.elapsed →
          (sha384 (s.dev.shardBytes g x) = x.digest →
            ∃ t, exec (.weightSweep k) s = .next t ∧
              t.dev.shards.find k = some { x with lastSweep := s.dev.time.count, sweptEl := s.dev.time.elapsed } ∧
              Counts s t 0x090 0x5D4 1) ∧
          (sha384 (s.dev.shardBytes g x) ≠ x.digest →
            ∃ t, exec (.weightSweep k) s = .next t ∧ t.dev.shards.find k = some { x with st := .mismatch, cause := 9 } ∧
              Counts s t 0x090 0x5D8 1))))

/-! ### Plots, clears, contexts and calendars (R463 to R479) -/

/-- R465 to R470: an ASSIGN that passes the checks keeps the staged descriptor and advances the generation, one that fails them changes
nothing and answers its code; the assignment's end makes the plot ACTIVE and pins its system pages; a REMOVE runs until every context
has settled, destroys the key at its last tick and frees the plot one horizon later. -/
def Obligations.PlotsAreAssignedAndRemoved : Prop :=
  ∀ (s : State) (r : Route) (p : Nat), p < 16 →
    (s.admits r 0x008 0x40C (p + 16) →
      (s.dev.assignCheck p = 0 →
        ∃ t, exec (.plotAssign r p) s = .next t ∧ (t.dev.plot p).assigning = true ∧
          (t.dev.plot p).gen = ((s.dev.plot p).gen + 1) % 16 ∧ (t.dev.plot p).desc = s.dev.stagedDesc ∧
          (t.dev.plot p).slots = s.dev.stagedSlots ∧ (t.dev.key p).loaded = true ∧ t.reg 0x008 0x410 0 = 16 ∧
          (∀ q, q ≠ p → t.dev.plot q = s.dev.plot q)) ∧
      (s.dev.assignCheck p ≠ 0 →
        ∃ t, exec (.plotAssign r p) s = .next t ∧ t.reg 0x008 0x410 0 = s.dev.assignCheck p ∧
          bitN (t.reg 0x008 0x018 0) 0 = true ∧ Changes s t (fun d _ => d))) ∧
    (s.admits r 0x008 0x40C (p + 32) → (s.dev.plot p).st = 1 → (s.dev.step p).running = false →
      ∃ t, exec (.plotRemove r p) s = .next t ∧ t.dev.plot p = { s.dev.plot p with st := 2, switching := none } ∧
        t.reg 0x008 0x410 0 = 0 ∧ Changes s t (fun d e => { d with plots := e.plots })) ∧
    (s.dev.powered = true →
      ((s.dev.plot p).assigning = true →
        ∃ t, exec (.plotAssignDone p) s = .next t ∧ t.dev.plot p = { s.dev.plot p with st := 1, assigning := false } ∧
          (∀ e ∈ t.dev.pages, bitN (s.dev.plot p).packages (e.1 / 2 ^ 20) = true →
            e.2.plot = p ∧ e.2.st = (if (s.dev.plot p).sysPackage = e.1 / 2 ^ 20 ∧ e.1 % 2 ^ 20 < (s.dev.plot p).sysPages then 4 else 0)) ∧
          (∀ q, q ≠ p → t.dev.plot q = s.dev.plot q)) ∧
      ((s.dev.plot p).st = 2 → (s.dev.plot p).tickF = none → (s.dev.ctxsOf p).all s.dev.ctxSettled = true →
        ∃ t, exec (.plotRemoveFinal p) s = .next t ∧ (t.dev.plot p).tickF = some s.dev.time.elapsed ∧
          (t.dev.plot p).gen = ((s.dev.plot p).gen + 1) % 16 ∧ (t.dev.key p).loaded = false ∧
          (∀ k ∈ t.dev.shardKeys, k.plot ≠ p)) ∧
      (∀ f, (s.dev.plot p).st = 2 → (s.dev.plot p).tickF = some f → f + s.dev.horizon ≤ s.dev.time.elapsed →
        ∃ t, exec (.plotFree p) s = .next t ∧ t.dev.plot p = { Plot.free with gen := (s.dev.plot p).gen } ∧
          Counts s t 0x008 0x108 1 ∧ bitN (t.reg 0x008 0x018 0) 4 = true ∧
          Changes s t (fun d e => { d with plots := e.plots, pages := e.pages, belv := e.belv })))

/-- R252, R472, R473: a clear of unowned pairs runs for its ticks and leaves every store and tier of the pairs 0; a clear that cannot
run is BUSY; CREATE gives a free number to an ACTIVE plot with its modes, DESTROY takes back an idle context. -/
def Obligations.ClearsAndContexts : Prop :=
  ∀ (s : State) (r : Route),
    (∀ mask, mask < 2 ^ 16 → s.admits r 0x008 0x41C (mask + 2 ^ 16) →
      (s.dev.clearRun = none →
        (bitList mask 16).all (fun k => s.dev.pairUsable k && (List.range 16).all (fun q =>
          !(((s.dev.plot q).st ≠ 0 || (s.dev.plot q).assigning) && bitN (s.dev.plot q).pairs k))) = true →
        ∃ t, exec (.clearCmd r mask) s = .next t ∧ t.dev.clearRun = some ⟨mask, s.dev.time.elapsed⟩ ∧
          Changes s t (fun d e => { d with clearRun := e.clearRun })) ∧
      (s.dev.clearRun.isSome = true →
        ∃ t, exec (.clearCmd r mask) s = .next t ∧ t.reg 0x008 0x420 0 = 2 ^ 17 ∧ Changes s t (fun d _ => d))) ∧
    (∀ c bad, s.dev.powered = true → s.dev.clearRun = some c → c.since + clearTicks ≤ s.dev.time.elapsed →
      ∃ t, exec (.clearDone bad) s = .next t ∧ t.dev.clearRun = none ∧
        (∀ n ∈ pavsOfPairs c.mask, n < s.dev.pavs.length → (t.dev.pav n).store = [] ∧ (t.dev.pav n).tier = [] ∧ (t.dev.pav n).acc = []) ∧
        (∀ n, n ∉ pavsOfPairs c.mask → t.dev.pav n = s.dev.pav n) ∧
        (∀ k, k < 16 → bitN c.mask k = true → bitN t.dev.power.cleared k = !bitN bad k) ∧
        Counts s t 0x008 0x10C ((bitList c.mask 16).filter (fun k => !bitN bad k)).length ∧
        t.reg 0x008 0x420 0 = (if (bitList c.mask 16).any (bitN bad ·) then 2 ^ 18 else 0)) ∧
    (∀ c, c < 256 → s.admits r 0x008 0x528 (c + 256) → (s.dev.ctx c).st = 0 →
      (s.dev.plot (s.reg 0x008 0x524 c % 16)).st = 1 → inRange (s.dev.plot (s.reg 0x008 0x524 c % 16)).ctxRange c = true →
      bitsN (s.reg 0x008 0x524 c) 6 2 ≠ 0 →
      ∃ t, exec (.ctxCreate r c) s = .next t ∧
        t.dev.ctx c = { Ctx.free with st := 1, plot := s.reg 0x008 0x524 c % 16, modes := s.dev.rg 0x008 0x524 c } ∧
        t.reg 0x008 0x530 0 = 0 ∧ Changes s t (fun d e => { d with ctxs := e.ctxs, kctx := e.kctx, seqs := e.seqs })) ∧
    (∀ c, c < 256 → s.admits r 0x008 0x528 (c + 512) → (s.dev.ctx c).st ≠ 0 → (s.dev.ctx c).holdsBundle = false →
      s.dev.ctxRequests c = false →
      ∃ t, exec (.ctxDestroy r c) s = .next t ∧ t.dev.ctx c = Ctx.free ∧ t.reg 0x008 0x530 0 = 0 ∧
        Changes s t (fun d e => { d with ctxs := e.ctxs, kctx := e.kctx, plots := e.plots, lastSteps := e.lastSteps }))

/-- R475 to R479: an arm that passes its checks waits for its count and then runs; a slice gives its context the plot, saving the
resident one and beginning a restore where another is resident; a restore that succeeds makes the incoming context resident, one
that fails puts it into RESTORE_FAILED. -/
def Obligations.CalendarsAndSlices : Prop :=
  ∀ (s : State) (r : Route) (p : Nat), p < 16 →
    (s.admits r 0x008 0x57C (p + 16) →
      (s.dev.calCheck p (s.dev.stagedCal p) (s.dev.rg64 0x008 0x580 0) = 0 →
        ∃ t, exec (.calArm r p) s = .next t ∧
          t.dev.plot p = { s.dev.plot p with armed := some (s.dev.stagedCal p, BitVec.ofNat 64 (s.dev.rg64 0x008 0x580 0)) } ∧
          t.reg 0x008 0x588 0 = 0 ∧ Changes s t (fun d e => { d with plots := e.plots })) ∧
      (s.dev.calCheck p (s.dev.stagedCal p) (s.dev.rg64 0x008 0x580 0) ≠ 0 →
        ∃ t, exec (.calArm r p) s = .next t ∧
          t.reg 0x008 0x588 0 = s.dev.calCheck p (s.dev.stagedCal p) (s.dev.rg64 0x008 0x580 0) ∧ Changes s t (fun d _ => d))) ∧
    (s.dev.powered = true →
      (∀ k arm, (s.dev.plot p).armed = some (k, arm) → (s.dev.plot p).st = 1 → (s.dev.plot p).running = none → arm ≤ s.dev.time.count →
        ∃ t, exec (.calendarSwitch p) s = .next t ∧
          t.dev.plot p = { s.dev.plot p with running := some k, armed := none, slice := none } ∧
          Changes s t (fun d e => { d with plots := e.plots })) ∧
      (∀ c fin, (s.dev.plot p).running.bind (·.sliceEnd c s.dev.time.count.toNat) = some fin → (s.dev.plot p).st = 1 →
        (s.dev.ctx c).st = 1 → (s.dev.step p).running = false → (s.dev.plot p).switching = none → (s.dev.plot p).slice = none →
        s.dev.canaryCtx c = false →
        ((s.dev.plot p).resident = some c → (s.dev.ctx c).ended = none →
          ∃ t, exec (.sliceStart p c) s = .next t ∧ t.dev.plot p = { s.dev.plot p with slice := some (c, BitVec.ofNat 64 fin) } ∧
            (∀ n, t.dev.pav n = { s.dev.pav n with banks := (t.dev.pav n).banks } ∧
              ∀ b k, some (b, k) ∈ (t.dev.pav n).banks ↔ some (b, k) ∈ (s.dev.pav n).banks ∧ b ≠ c) ∧
            Changes s t (fun d e => { d with plots := e.plots, pavs := e.pavs })) ∧
        ((s.dev.plot p).resident = none → (s.dev.ctx c).active.isSome = true →
          ∃ t, exec (.sliceStart p c) s = .next t ∧ (t.dev.plot p).slice = some (c, BitVec.ofNat 64 fin) ∧
            (t.dev.plot p).switching = some ⟨none, c, s.dev.time.elapsed⟩ ∧ Counts s t 0x008 0x100 1)) ∧
      (∀ w, (s.dev.plot p).switching = some w →
        (s.dev.savedBad w.into = false →
          ∃ t, exec (.contextRestoreDone p true) s = .next t ∧ (t.dev.plot p).resident = some w.into ∧ (t.dev.plot p).switching = none) ∧
        (∀ ok, ok = false ∨ s.dev.savedBad w.into = true →
          ∃ t, exec (.contextRestoreDone p ok) s = .next t ∧ (t.dev.ctx w.into).st = 2 ∧ bitN (t.reg 0x008 0x018 0) 3 = true) ∧
        (∃ t, exec (.contextRestoreDone p false) s = .next t ∧ (t.dev.plot p).resident = none ∧ (t.dev.plot p).switching = none ∧
          bitN (t.reg 0x008 0x018 0) 3 = true)))

/-! ### Trust (R444, R480 to R494, R568) -/

/-- R487 to R491: the responder answers identity requests while it serves them, CHALLENGE, GET_MEASUREMENTS and KEY_EXCHANGE once the
device is settled, and defers them until then; RESPOND_IF_READY takes a deferred answer. -/
def Obligations.SpdmRequestsAreAnswered : Prop :=
  ∀ (s : State) (link : Nat), s.dev.powered = true →
    (s.dev.spdmIdentity = true →
      (∃ t, exec (.spdmGetVersion link) s = .next t ∧ .spdm link (.version 0x12) ∈ t.dev.out ∧ Changes s t (fun d _ => d)) ∧
      (∃ t, exec (.spdmGetCapabilities link) s = .next t ∧ .spdm link (.capabilities 4096 65536) ∈ t.dev.out ∧ Changes s t (fun d _ => d)) ∧
      (∃ t, exec (.spdmNegotiateAlgorithms link) s = .next t ∧ .spdm link .algorithms ∈ t.dev.out ∧ Changes s t (fun d _ => d)) ∧
      (∃ t, exec (.spdmGetDigests link) s = .next t ∧ .spdm link (.digests s.chainDigest) ∈ t.dev.out ∧ Changes s t (fun d _ => d)) ∧
      (∃ t, exec (.spdmGetCertificate link 0) s = .next t ∧ .spdm link (.certificate 0) ∈ t.dev.out ∧ Changes s t (fun d _ => d)) ∧
      (∀ code, ∃ t, exec (.spdmUnsupported link code) s = .next t ∧ .spdm link .unsupported ∈ t.dev.out ∧ Changes s t (fun d _ => d))) ∧
    (s.dev.spdmFull = true →
      (s.dev.settled = true →
        (∃ t, exec (.spdmChallenge link) s = .next t ∧ .spdm link (.challengeAuth s.dev.mrValues) ∈ t.dev.out ∧ Changes s t (fun d _ => d)) ∧
        (∀ index, ∃ t, exec (.spdmGetMeasurements link index) s = .next t ∧ .spdm link (s.dev.measureReply index) ∈ t.dev.out ∧
          Changes s t (fun d _ => d)) ∧
        (s.dev.sess.length < 64 →
          ∃ t, exec (.spdmKeyExchange link) s = .next t ∧ .spdm link (.keyExchangeRsp (s.dev.serial + 1)) ∈ t.dev.out ∧
            t.dev.sess.find (s.dev.serial + 1) = some ⟨none, link, s.dev.time.elapsed, 0, false⟩ ∧
            Changes s t (fun d e => { d with sess := e.sess, serial := e.serial })) ∧
        (64 ≤ s.dev.sess.length →
          ∃ t, exec (.spdmKeyExchange link) s = .next t ∧ .spdm link (.error 0x0A) ∈ t.dev.out ∧ Changes s t (fun d _ => d)) ∧
        (s.dev.links.find link = some 0 →
          ∃ t, exec (.spdmRespondIfReady link) s = .next t ∧ .spdm link (.challengeAuth s.dev.mrValues) ∈ t.dev.out ∧
            t.dev.links.find link = none ∧ Changes s t (fun d e => { d with links := e.links }))) ∧
      (s.dev.settled = false →
        ∃ t, exec (.spdmChallenge link) s = .next t ∧ t.dev.links.find link = some 0 ∧
          (∃ n, .spdm link (.notReady n) ∈ t.dev.out) ∧ Changes s t (fun d e => { d with links := e.links, free := e.free })) ∧
      (s.dev.links.find link = none →
        ∃ t, exec (.spdmRespondIfReady link) s = .next t ∧ .spdm link (.error 0x04) ∈ t.dev.out ∧ Changes s t (fun d _ => d)))

/-- R444, R489 to R493, R568: FINISH gives a session the class of its anchor or ends it; heartbeats, key updates, the end and the
certificate exchange of an open session; a session without three heartbeats ends; keys are installed for the plot of the session
and refused for another; a login opens a session of its role, a failed one is counted and its lock expires. -/
def Obligations.SessionsKeysAndLogins : Prop :=
  ∀ (s : State) (n : Nat), s.dev.powered = true →
    (s.dev.spdmFull = true → ∀ x, s.dev.sess.find n = some x →
      (∀ link anchor c, s.sessionClass anchor = some c →
        ∃ t, exec (.spdmFinish link n anchor true) s = .next t ∧
          t.dev.sess.find n = some { x with cls := some c, since := s.dev.time.elapsed } ∧ .spdm link .finishRsp ∈ t.dev.out ∧
          Counts s t 0x008 0x110 1 ∧ Changes s t (fun d e => { d with sess := e.sess })) ∧
      (∀ link anchor, ∃ t, exec (.spdmFinish link n anchor false) s = .next t ∧ t.dev.sess.find n = none ∧
        Counts s t 0x008 0x114 1 ∧ bitN (t.reg 0x008 0x018 0) 7 = true) ∧
      (∃ t, exec (.spdmGetEncapsulatedRequest n) s = .next t ∧ .spdm x.link .encapRequest ∈ t.dev.out ∧ Changes s t (fun d _ => d)) ∧
      (∃ t, exec (.spdmDeliverEncapsulatedResponse n) s = .next t ∧ .spdm x.link .encapAck ∈ t.dev.out ∧
        t.dev.sess.find n = some { x with encap := true } ∧ Changes s t (fun d e => { d with sess := e.sess })) ∧
      (x.cls.isSome = true →
        (∃ t, exec (.spdmHeartbeat n) s = .next t ∧ .spdm x.link .heartbeatAck ∈ t.dev.out ∧
          t.dev.sess.find n = some { x with since := s.dev.time.elapsed } ∧ Changes s t (fun d e => { d with sess := e.sess })) ∧
        (∃ t, exec (.spdmKeyUpdate n) s = .next t ∧ .spdm x.link .keyUpdateAck ∈ t.dev.out ∧
          t.dev.sess.find n = some { x with updates := x.updates + 1 } ∧ Changes s t (fun d e => { d with sess := e.sess })) ∧
        (∃ t, exec (.spdmEndSession n) s = .next t ∧ t.dev.sess.find n = none ∧ .spdm x.link .endSessionAck ∈ t.dev.out) ∧
        (∀ plot slot keyId key onCurve, s.dev.keyAllowed x plot = true →
          (key.length = 32 → s.dev.shardKeys.length < 4096 →
            ∃ t, exec (.weightKey n 1 plot slot keyId key onCurve) s = .next t ∧ .spdm x.link (.vendor 0) ∈ t.dev.out ∧
              ⟨plot, keyId, s.dev.serial + 1, key⟩ ∈ t.dev.shardKeys ∧ Counts s t 0x008 0x118 1 ∧
              Changes s t (fun d e => { d with shardKeys := e.shardKeys, serial := e.serial })) ∧
          (slot < 4 → key.length = 96 → onCurve = true →
            ∃ t, exec (.weightKey n 2 plot slot keyId key onCurve) s = .next t ∧ .spdm x.link (.vendor 0) ∈ t.dev.out ∧
              ⟨plot, slot, key⟩ ∈ t.dev.pubKeys ∧ Counts s t 0x008 0x118 1 ∧ Changes s t (fun d e => { d with pubKeys := e.pubKeys }))) ∧
        (∀ kind plot slot keyId key onCurve, s.dev.keyAllowed x plot = false →
          ∃ t, exec (.weightKey n kind plot slot keyId key onCurve) s = .next t ∧ .spdm x.link (.vendor 1) ∈ t.dev.out ∧
            Counts s t 0x008 0x11C 1 ∧ Changes s t (fun d _ => d)))) ∧
    (∀ x, s.dev.sess.find n = some x → x.since + 3 * heartbeatTicks + s.tie ≤ s.dev.time.elapsed →
      ∃ t, exec (.heartbeatTimeout n) s = .next t ∧ t.dev.sess.find n = none) ∧
    (s.dev.mgmtUp = true → ∀ a newPassword, s.nv.accounts.find n = some a → a.valid = true → s.dev.lockedAt.find n = none →
      (a.mustChange = false → newPassword = false → (∃ k, k < 8 ∧ s.dev.rf.find k = none) →
        ∃ t, exec (.mgmtLogin none n true newPassword) s = .next t ∧
          (∃ k, k < 8 ∧ s.dev.rf.find k = none ∧ t.dev.rf.find k = some ⟨a.role, s.dev.time.elapsed⟩) ∧ t.dev.logins.find n = none ∧
          Changes s t (fun d e => { d with rf := e.rf, logins := e.logins })) ∧
      (∃ t, exec (.mgmtLogin none n false newPassword) s = .next t ∧ t.dev.logins.get n 0 = s.dev.logins.get n 0 + 1 ∧
        t.dev.lockedAt.find n = (if s.dev.logins.get n 0 = 4 then some s.dev.time.elapsed else none) ∧ Counts s t 0x008 0x120 1 ∧
        Changes s t (fun d e => { d with logins := e.logins, lockedAt := e.lockedAt }))) ∧
    (∀ t0, s.dev.lockedAt.find n = some t0 → t0 + 300 * 1000000000 ≤ s.dev.time.elapsed →
      ∃ t, exec (.loginLockExpiry n) s = .next t ∧ t.dev.lockedAt.find n = none ∧ t.dev.logins.find n = none ∧
        Changes s t (fun d e => { d with logins := e.logins, lockedAt := e.lockedAt }))

/-- R480, R484, R494, R495: SVN_COMMIT raises each counter to the running component's SVN, a revocation signed with another live key
sets its bit and an unsigned one does not, DELEGATION is kept in the configuration store, PLOT_SEL shows the selected plot's
descriptor. -/
def Obligations.FusesAndDelegation : Prop :=
  ∀ (s : State) (r : Route),
    (s.dev.powered = true → (s.rights r).security = true → s.nv.trial = false →
      ∃ t, exec (.svnCommit r) s = .next t ∧ t.dev = s.dev ∧ t.pending = s.pending ∧
        (∀ k, k < 8 → nthD t.nv.svn k 0 = max (nthD s.nv.svn k 0) (min 64 (((s.dev.belv.running[k]?).map (·.svn)).getD 0))) ∧
        t.nv = { s.nv with svn := t.nv.svn }) ∧
    (∀ k signer, s.dev.powered = true → k ≠ signer → s.nv.keyLive k = true → s.nv.keyLive signer = true →
      exec (.keyRevocation k signer true) s = .next { s with nv := { s.nv with keyRevoked := s.nv.keyRevoked + 2 ^ k } } ∧
      exec (.keyRevocation k signer false) s = .next s) ∧
    (∀ v, s.admits r 0x008 0x5EC v.toNat →
      ∃ t, exec (.delegationWrite r v) s = .next t ∧ t.nv = { s.nv with delegation := BitVec.ofNat 32 (v.toNat % 8) } ∧
        t.pending = s.pending ∧ t.dev.regs = (s.dev.count 0x000 0x104 1).regs) ∧
    (∀ p, p < 16 → s.admits r 0x008 0x404 p →
      ∃ t, exec (.plotSelWrite r p) s = .next t ∧ t.dev.sel r 0x008 0x404 = p ∧
        (∀ k, k < 16 → t.reg 0x008 (0x440 + 4 * k) 0 = (s.dev.plot p).word k) ∧ Changes s t (fun d e => { d with sels := e.sels }))

/-! ### Recovery, the log and the common registers (R502 to R528, R583 to R600, R607 to R610) -/

/-- R507 to R517, R521: an ABORT that has not been seen acts on the step it names here and is remembered, one that names no
collective of this device is counted; a clean verdict is noted, a missing one withholds the step; a fate fence sets or clears the
fence bit of every device that holds the value; the canary interval, the shadow pair's setting and its start, and the release that a
promotion holds back. -/
def Obligations.BellsFatesAndShadows : Prop :=
  ∀ (s : State) (r : Route),
    (s.dev.powered = true →
      (∀ port p, p.bell = true → bellKind p = 1 → p.hops < 64 → s.dev.recov.seen.contains (bellOrigin p, bellId p) = false →
        (s.dev.launchedAs (bellLaunch p) = none →
          ∃ t, exec (.bellAbort port p) s = .next t ∧
            t.dev.recov.seen = ((bellOrigin p, bellId p) :: s.dev.recov.seen).take 64 ∧ Counts s t 0x000 0x188 1 ∧
            t.dev.ctxs = s.dev.ctxs ∧ t.dev.steps = s.dev.steps) ∧
        (∀ c, s.dev.launchedAs (bellLaunch p) = some c →
          ((s.dev.step (s.dev.ctx c).plot).running = true → (s.dev.step (s.dev.ctx c).plot).ctx = c →
            s.dev.stepNo (s.dev.ctx c).plot = bellStep p →
            ∃ t, exec (.bellAbort port p) s = .next t ∧ (t.dev.step (s.dev.ctx c).plot).running = false ∧
              (t.dev.step (s.dev.ctx c).plot).withheld = true ∧ bitN (t.reg 0x000 0x018 0) 18 = true ∧ Counts s t 0x000 0x184 1) ∧
          ((s.dev.step (s.dev.ctx c).plot).running = false → (s.dev.ctx c).ended = none → (s.dev.ctx c).steps < bellStep p →
            ∃ t, exec (.bellAbort port p) s = .next t ∧
              (t.dev.ctx c).withholdNext = (s.dev.ctx c).withholdNext ++ [(bellStep p, bellOrigin p)] ∧
              bitN (t.reg 0x000 0x018 0) 18 = true ∧ Counts s t 0x000 0x184 1))) ∧
      (∀ port p, p.bell = true → bellKind p = 1 → s.dev.recov.seen.contains (bellOrigin p, bellId p) = true →
        ∃ t, exec (.bellAbort port p) s = .next t ∧ t.dev.regs = s.dev.regs ∧ t.dev.out = s.dev.out ∧
          Changes s t (fun d e => { d with ports := e.ports, inject := e.inject })) ∧
      (∀ p c, p.typ = 0x10 → p.dest = s.dev.number → bellKind p = 2 → bellCause p = 0 → s.dev.launchedAs (bellLaunch p) = some c →
        ∃ t, exec (.bellVerdict p) s = .next t ∧
          (t.dev.ctx c).verdicts = (s.dev.ctx c).verdicts ++ [4096 * (bellStep p).toNat + bellOrigin p] ∧
          t.dev.eject = s.dev.eject.erase p ∧ Changes s t (fun d e => { d with ctxs := e.ctxs, eject := e.eject })) ∧
      (∀ c e f, (s.dev.ctx c).ended = some e → e.withheld = false → s.dev.follows c = false → (s.dev.ctx c).launch.isSome = true →
        f ∈ s.dev.followersOf c → (s.dev.ctx c).verdicts.contains (4096 * e.number.toNat + f) = false →
        e.endEl + s.dev.stallTicks + s.tie ≤ s.dev.time.elapsed →
        ∃ t, exec (.verdictTimeout c) s = .next t ∧ (t.dev.ctx c).ended = some { e with withheld := true } ∧
          bitN (t.reg 0x000 0x018 0) 19 = true) ∧
      (bitN (s.reg 0x000 0x840 0) 8 = true → s.dev.recov.canaryAt + bitsN (s.reg 0x000 0x840 0) 16 16 * 1000000000 ≤ s.dev.time.elapsed →
        ∃ t, exec .canaryInterval s = .next t ∧
          t.dev.recov = { s.dev.recov with canaryDue := true, canaryAt := s.dev.time.elapsed } ∧
          Changes s t (fun d e => { d with recov := e.recov })) ∧
      (s.dev.shadowValid = true → s.dev.rg64 0x000 0x824 0 ≤ s.dev.time.count.toNat →
        ∃ t, exec .shadowStart s = .next t ∧ t.dev.recov = { s.dev.recov with following := true } ∧
          Changes s t (fun d e => { d with recov := e.recov })) ∧
      (∀ t0, s.dev.recov.promoteAt = some t0 → t0 ≤ s.dev.time.elapsed →
        ∃ t, exec .promoteRelease s = .next t ∧ t.dev.recov.promoteAt = none)) ∧
    (∀ v, s.admits r 0x000 0x820 v.toNat →
      ∃ t, exec (.shadowCfgWrite r v) s = .next t ∧ t.reg 0x000 0x820 0 = v.toNat % 2 ^ 14 ∧ t.reg 0x000 0x82C 0 = 0 ∧
        t.dev.recov = { s.dev.recov with following := false } ∧ Changes s t (fun d e => { d with recov := e.recov })) ∧
    (∀ kind value, kind < 4 → value < 65536 → s.dev.isManager = true → (∀ e ∈ s.dev.fateTags, e.1 < 4096) →
      (s.admits r 0x000 0x808 (kind + 4 * value + 2 ^ 18) →
        ((∀ e ∈ s.dev.fateTags, e.1 = s.dev.number → nthD e.2 kind 0 ≠ value) →
          ∃ t, exec (.fateFenceSet r kind value) s = .next t ∧
            (∀ e ∈ s.dev.fateTags, nthD e.2 kind 0 = value → t.dev.fenced e.1 = true) ∧
            (∀ n, n < 4096 → (∀ e ∈ s.dev.fateTags, nthD e.2 kind 0 = value → e.1 ≠ n) → t.dev.fenced n = s.dev.fenced n) ∧
            t.reg 0x000 0x80C 0 = 2 ^ 16 * (s.dev.fateTags.filter (fun e => nthD e.2 kind 0 = value)).length % 2 ^ 32)) ∧
      (s.admits r 0x000 0x808 (kind + 4 * value + 2 ^ 19) →
        ∃ t, exec (.fateFenceClear r kind value) s = .next t ∧
          (∀ e ∈ s.dev.fateTags, nthD e.2 kind 0 = value → t.dev.fenced e.1 = false))) ∧
    (∀ kind value, kind < 4 → value < 65536 → s.dev.isManager = false → s.admits r 0x000 0x808 (kind + 4 * value + 2 ^ 18) →
      ∃ t, exec (.fateFenceSet r kind value) s = .next t ∧ t.reg 0x000 0x80C 0 = 2 ∧ Changes s t (fun d _ => d))

/-- R503, R545, R548, R607 to R610: the intake writes the entry at the front of the queue under the next SEQ; a full queue drops an entry
and counts it; LOG_ENTRY_SEL gives the route its snapshot; a clear empties the log and keeps HEAD. -/
def Obligations.LogKeepsItsEntries : Prop :=
  ∀ (s : State) (r : Route),
    (∀ e rest, s.dev.powered = true → s.dev.log.queue = e :: rest → s.dev.belv.st = 0 →
      ∃ t, exec .logIntake s = .next t ∧ t.dev.log.head = (s.dev.log.head + 1) % 65536 ∧
        t.dev.log.entries.find (s.dev.log.head % 16384) = some { e with seq := s.dev.log.head } ∧
        (∀ k, k ≠ s.dev.log.head % 16384 → t.dev.log.entries.find k = s.dev.log.entries.find k) ∧ Counts s t 0x009 0x100 1) ∧
    (∀ e, s.dev.powered = true → 256 ≤ s.dev.log.queue.length →
      ∃ t, exec (.logEntryLost e) s = .next t ∧ t.dev.log = { s.dev.log with lost := s.dev.log.lost + 1 } ∧
        Counts s t 0x009 0x104 1 ∧ bitN (t.reg 0x009 0x018 0) 0 = true ∧ Changes s t (fun d _ => d)) ∧
    (∀ seq, seq < 65536 → s.admits r 0x009 0x40C seq →
      ∃ t, exec (.logEntrySel r seq) s = .next t ∧ t.dev.sel r 0x009 0x40C = seq ∧
        t.dev.snaps.find r.code = some (((s.dev.log.heldBefore seq s.dev.time.elapsed).map (·.bytes)).getD []) ∧ t.dev.log = s.dev.log ∧
        Changes s t (fun d e => { d with sels := e.sels, snaps := e.snaps })) ∧
    (s.admits r 0x009 0x414 1 →
      ∃ t, exec (.logClear r) s = .next t ∧ t.dev.log.entries = [] ∧ t.dev.log.oldest = s.dev.log.head ∧
        t.dev.log.head = s.dev.log.head ∧ t.dev.log.wrapped = false ∧ Counts s t 0x009 0x10C 1 ∧
        bitN (t.reg 0x009 0x018 0) 1 = true ∧ Changes s t (fun d _ => d))

/-- A register that a write stores and that acts on nothing else: ERR_MASK of every page, and the plain RW registers of POWER. -/
def plainReg (page off : Nat) : Prop := off = 0x01C ∨ (page = 0x006 ∧ off ≠ 0x02C ∧ off ≠ 0x030)

/-- The bits that such a register stores: of ERR_MASK those that the block defines (R10), of the others those of the table. -/
def plainMask (row : RegRow) (page off : Nat) : Nat := if off = 0x01C then errBits ((blockOf page).getD 0) else row.mask

/-- R9, R12, R587, R588, R592, R595 to R602: what the common registers and the register accesses of the table do: a plain write stores its
masked value and nothing else, a refused one, or one to a fused pavilion's page, changes nothing; ERR_STATUS and INT_STATUS clear by 1s, and ALERT_N follows at the next tick; LOCK only
sets; ERR_INJECT sets its bit and records it, as injected, as the first
fault unless its consequence raises a lower bit of the page in the same tick (R595); a counter is cleared by its read; ROLE and PORT_ENABLE. -/
def Obligations.RegistersReadAndWrite : Prop :=
  ∀ (s : State) (r : Route) (page off : Nat),
    (∀ v row, s.dev.answers = true → msgFits (4096 * page + off) 1 = true → off < 4096 → regRow page off = some row → row.acc = .rw →
      row.pair = false → isSel page off = false → plainReg page off →
      (s.writeStatus r page off v.toNat = 0 → s.dev.fusedPage page = true →
        ∃ t, exec (.regWriteGeneric r page off v) s = .next t ∧
          t.reg page off (s.dev.bank r (s.rights r) page off) = s.reg page off (s.dev.bank r (s.rights r) page off) ∧
          Counts s t 0x000 0x104 1 ∧ Changes s t (fun d _ => d)) ∧
      (s.writeStatus r page off v.toNat = 0 → s.dev.fusedPage page = false →
        ∃ t, exec (.regWriteGeneric r page off v) s = .next t ∧
          t.reg page off (s.dev.bank r (s.rights r) page off) = v.toNat &&& plainMask row page off ∧ Counts s t 0x000 0x104 1 ∧
          (∀ pg o b, pg < 4096 → o < 4096 → (pg, o, b) ≠ (page, off, s.dev.bank r (s.rights r) page off) → (pg, o) ≠ (0x000, 0x104) →
            t.reg pg o b = s.reg pg o b) ∧ Changes s t (fun d _ => d)) ∧
      (s.writeStatus r page off v.toNat ≠ 0 →
        ∃ t, exec (.regWriteGeneric r page off v) s = .next t ∧
          t.reg page off (s.dev.bank r (s.rights r) page off) = s.reg page off (s.dev.bank r (s.rights r) page off) ∧
          Counts s t 0x000 0x108 1 ∧ Changes s t (fun d _ => d))) ∧
    (∀ row, s.dev.answers = true → msgFits (4096 * page + off) 1 = true → off < 4096 → s.readStatus r page off = 0 →
      regRow page off = some row → row.acc = .rc → (page, off) ≠ (0x000, 0x100) →
      ∃ t, exec (.counterRead r page off) s = .next t ∧
        .readback (4096 * page + off)
            (BitVec.ofNat 32 (({ s with dev := s.dev.settleCounts page } : State).readValue r (s.rights r) page off)) ∈ t.dev.out ∧
        t.reg page off (s.dev.bank r (s.rights r) page off) = 0 ∧ Counts s t 0x000 0x100 1 ∧
        Changes s t (fun d _ => d.settleCounts page)) ∧
    (∀ mask : W32, s.admits r page 0x018 mask.toNat →
      ∃ t, exec (.errStatusClear r page mask) s = .next t ∧
        t.dev.rg page 0x018 (s.dev.bank r (s.rights r) page 0x018) = s.dev.rg page 0x018 (s.dev.bank r (s.rights r) page 0x018) &&& ~~~mask ∧
        (∀ b, t.reg page 0x020 b = s.reg page 0x020 b) ∧ t.dev.alertN = s.dev.alertN ∧ Changes s t (fun d _ => d)) ∧
    (∀ mask : W32, s.admits r page 0x028 mask.toNat →
      ∃ t, exec (.intStatusClear r page mask) s = .next t ∧
        t.dev.rg page 0x028 (s.dev.bank r (s.rights r) page 0x028) = s.dev.rg page 0x028 (s.dev.bank r (s.rights r) page 0x028) &&& ~~~mask ∧
        t.dev.alertN = s.dev.alertN ∧ t.dev.alertDrop.alertN = (s.dev.alertN && t.dev.alertWanted) ∧ Changes s t (fun d _ => d)) ∧
    (∀ v : W32, s.admits r page 0x034 v.toNat →
      ∃ t, exec (.lockWrite r page v) s = .next t ∧
        (∀ k, k < 2 → bitN (t.reg page 0x034 (s.dev.bank r (s.rights r) page 0x034)) k =
          (bitN (s.reg page 0x034 (s.dev.bank r (s.rights r) page 0x034)) k || bitN v.toNat k)) ∧ Changes s t (fun d _ => d)) ∧
    (∀ bit cls, bit < 32 → s.admits r page 0x024 (bit + 256) → errClass ((blockOf page).getD 0xFFF) bit = some cls → cls ≠ .x →
      bitN (s.reg page 0x034 (s.dev.bank r (s.rights r) page 0x024)) 1 = false →
      ∃ t, exec (.errInject r page bit) s = .next t ∧ bitN (t.reg page 0x018 (s.dev.bank r (s.rights r) page 0x024)) bit = true ∧
        (s.reg page 0x018 (s.dev.bank r (s.rights r) page 0x024) = 0 →
          bitN (t.reg page 0x020 (s.dev.bank r (s.rights r) page 0x024)) 31 = true ∧
          t.reg page 0x020 (s.dev.bank r (s.rights r) page 0x024) % 32 ≤ bit ∧
          (t.reg page 0x020 (s.dev.bank r (s.rights r) page 0x024) % 32 = bit →
            t.reg page 0x020 (s.dev.bank r (s.rights r) page 0x024) = bit + 256 + 2 ^ 31))) ∧
    (∀ v : W32, s.admits r 0x000 0x410 v.toNat →
      ∃ t, exec (.roleWrite r v) s = .next t ∧ t.reg 0x000 0x410 0 = v.toNat % 4 ∧
        Changes s t (fun d e => { d with belv := e.belv, time := e.time })) ∧
    (∀ v : W32, s.admits r 0x006 0x400 v.toNat →
      ∃ t, exec (.portEnableWrite r true v) s = .next t ∧ t.reg 0x006 0x400 0 = v.toNat % 16 ∧ Changes s t (fun d _ => d)) ∧
    (∀ v : W32, s.dev.ports.length = 12 → s.admits r 0x000 0x414 v.toNat →
      ∃ t, exec (.portEnableWrite r false v) s = .next t ∧ t.reg 0x000 0x414 0 = v.toNat % 2 ^ 12 ∧
        (∀ n, n < 12 → t.dev.port n =
          if bitN s.dev.portMap n && !bitN v.toNat n then { Port.off with downTick := (s.dev.port n).downTick } else s.dev.port n))

/-- R513, R584, R588, R589: a REG_REQ of the manager is taken and answered by a REG_RESP, with the values of the registers it reads or
the status of its write; one of another device is refused; a REG_RESP with a device's fate tags enters the manager's table; a fenced
device drops both with a FENCE_NOTICE (R312), but a REG_REQ of its manager. -/
def Obligations.SpaceThreeRequests : Prop :=
  ∀ (s : State) (p : Packet), s.dev.answers = true → p.dest = s.dev.number →
    (p.typ = 0x0D → s.dev.managerSrc p.src = true → gaSpace p.addr = 3 →
      (∀ vals s2, leNat (p.payload.take 4) = 1 → leNat ((p.payload.drop 4).take 4) = 0 →
        ({ s with dev := (s.dev.takeEject p).count 0x000 0x10C 1 } : State).readMsg (.space3 p.src) (gaOff p.addr) 1 = (0, vals, s2) →
        s2.dev.number ≠ p.src →
        ∃ t q, exec (.regReq p) s = .next t ∧ q ∈ t.dev.inject ∧ q.typ = 0x0E ∧ q.dest = p.src ∧ q.tag = p.tag ∧ q.addr = p.addr ∧
          q.payload.take 8 = toBytes 4 0 ++ toBytes 4 ((vals.head?).getD 0)) ∧
      (∀ v st s2, leNat (p.payload.take 4) = 257 → leNat ((p.payload.drop 4).take 4) = 0 → p.words 1 = [v] →
        ({ s with dev := (s.dev.takeEject p).count 0x000 0x10C 1 } : State).writeMsg (.space3 p.src) (gaOff p.addr) [v] = (st, s2) →
        s2.dev.number ≠ p.src →
        ∃ t q, exec (.regReq p) s = .next t ∧ t.dev.regs = s2.dev.regs ∧ q ∈ t.dev.inject ∧ q.typ = 0x0E ∧ q.dest = p.src ∧
          q.payload.take 4 = toBytes 4 st)) ∧
    (p.typ = 0x0D → s.dev.managerSrc p.src = false → s.dev.selfFenced = false → p.src ≠ s.dev.number →
      ∃ t q, exec (.regReq p) s = .next t ∧ Counts s t 0x000 0x108 1 ∧ q ∈ t.dev.inject ∧ q.typ = 0x0E ∧ q.dest = p.src ∧
        q.payload.take 4 = toBytes 4 1 ∧ Changes s t (fun d e => { d with inject := e.inject, eject := e.eject })) ∧
    (p.typ = 0x0D → s.dev.managerSrc p.src = false → s.dev.selfFenced = true → p.src ≠ s.dev.number →
      ∃ t q, exec (.regReq p) s = .next t ∧ q ∈ t.dev.inject ∧ q.typ = 0x0B ∧ q.dest = p.src ∧ q.aux = 0 ∧ t.dev.regs = s.dev.regs ∧
        Changes s t (fun d e => { d with inject := e.inject, eject := e.eject })) ∧
    (p.typ = 0x0E → s.dev.selfFenced = true → p.src ≠ s.dev.number →
      ∃ t q, exec (.regResp p) s = .next t ∧ q ∈ t.dev.inject ∧ q.typ = 0x0B ∧ q.dest = p.src ∧ q.aux = 0 ∧ t.dev.regs = s.dev.regs ∧
        Changes s t (fun d e => { d with inject := e.inject, eject := e.eject })) ∧
    (p.typ = 0x0E → s.dev.selfFenced = false → s.dev.isManager = true → gaSpace p.addr = 3 → gaOff p.addr = 0x800 → leNat (p.payload.take 4) = 0 →
      ∃ t, exec (.regResp p) s = .next t ∧ t.dev.eject = s.dev.eject.erase p ∧
        t.dev.recov.fate.get p.src [] = [leNat ((p.payload.drop 4).take 4) % 65536, leNat ((p.payload.drop 4).take 4) / 65536,
          leNat ((p.payload.drop 8).take 4) % 65536, leNat ((p.payload.drop 8).take 4) / 65536] ∧
        Changes s t (fun d e => { d with recov := e.recov, eject := e.eject }))

/-! ### The host command transport (R558 to R570) and Belvedere's services (R547, R577, R578) -/

/-- An interface that GCT can answer on: the management port, or a host interface that sends in the clear. -/
def GctLink (s : State) (i : Nat) : Prop := i = 8 ∨ SendsPlain s i

/-- A message that reaches its open connection (R559, R562). -/
def GctReaches (s : State) (m : GctMsg) : Prop :=
  s.dev.gctUp m.iface = true ∧ (s.dev.conn m.conn).open_ = true ∧ (s.dev.conn m.conn).gen = m.gen ∧
    (s.dev.conn m.conn).peer = m.peer ∧ (s.dev.conn m.conn).iface = m.iface ∧ ((s.dev.conn m.conn).prot = 0 ∨ m.tagOk = true)

/-- A well-formed request that is the next one its connection expects (R560, R569). -/
def GctInTurn (s : State) (m : GctMsg) : Prop :=
  GctReaches s m ∧ (s.dev.conn m.conn).expect < 2 ^ 32 ∧ m.seq = (s.dev.conn m.conn).expect ∧ m.wellFormed = true ∧
    m.session = (s.dev.conn m.conn).session

/-- The state in which a request in its turn executes: the connection alive, its alerts acknowledged, the next SEQ expected, the request
counted (R560 to R562). -/
def inTurn (s : State) (m : GctMsg) : State :=
  { s with dev := (s.dev.setConn m.conn { ({ s.dev.conn m.conn with last := s.dev.time.elapsed }.acked m.ack) with
      expect := ((s.dev.conn m.conn).expect + 1) % 2 ^ 32 }).count 0x072 0x100 1 }

/-- The connection of a request still stands in a state, on an interface that sends. -/
def GctStands (u : State) (m : GctMsg) : Prop :=
  (u.dev.conn m.conn).open_ = true ∧ (u.dev.conn m.conn).gen = m.gen ∧ (u.dev.conn m.conn).iface = m.iface ∧ GctLink u m.iface

/-- `t` is `u`, the state that a request has left, with its response cached and sent (R558, R560). -/
def GctServed (u t : State) (m : GctMsg) (op st : Nat) (payload : List Byte) : Prop :=
  .gct m.conn m.seq op st payload ∈ t.dev.out ∧ ⟨m.seq, op, st, payload⟩ ∈ (t.dev.conn m.conn).cache ∧
    (t.dev.conn m.conn).expect = (u.dev.conn m.conn).expect ∧ (t.dev.conn m.conn).sub = (u.dev.conn m.conn).sub ∧
    Changes u t (fun d _ => d) ∧ RegsKept u t [0x070, 0x071]

/-- R560, R563 to R569: a request in its turn executes once and answers with its status: register reads and writes, doorbells, patches,
a program's begin and data, a subscription, SPDM; a repeated one is answered from the cache and executes nothing. -/
def Obligations.GctRequestsExecuteInTurn : Prop :=
  ∀ (s : State) (m : GctMsg), s.dev.powered = true →
    (GctInTurn s m →
      (∀ off count vals u, count ≤ 256 → 4 * count ≤ (s.dev.conn m.conn).maxPay →
        (inTurn s m).readMsg (.gct m.conn) off count = (0, vals, u) → GctStands u m →
        ∃ t, exec (.gctRegRead m off count) s = .next t ∧ GctServed u t m 0x0010 0 (vals.flatMap (toBytes 4))) ∧
      (∀ off vals st u, s.dev.inBoot = false → vals.length ≤ 256 →
        (inTurn s m).writeMsg (.gct m.conn) off (vals.map (·.toNat)) = (st, u) → GctStands u m →
        ∃ t, exec (.gctRegWrite m off vals) s = .next t ∧ GctServed u t m 0x0011 st []) ∧
      (∀ on, s.dev.inBoot = false → (s.dev.connClass (s.dev.conn m.conn)).isSome = true → GctLink s m.iface →
        ∃ t, exec (.alertSubscribe m on) s = .next t ∧ .gct m.conn m.seq 0x0003 0 [] ∈ t.dev.out ∧
          (t.dev.conn m.conn).sub = on ∧ Changes s t (fun d _ => d)) ∧
      (s.dev.inBoot = false → s.dev.inCalibrate = false →
        (∀ bells u dropped, bells.all (fun b => s.dev.dataReach (s.dev.conn m.conn) (fun p => inRange p.ringRange (b.1 % 32768))) = true →
          bells ≠ [] → bells.length ≤ 64 → (inTurn s m).dev.doorbells bells = (dropped, u) → GctStands { s with dev := u } m →
          ∃ t, exec (.gctDoorbell m bells) s = .next t ∧
            GctServed { s with dev := u } t m 0x0020 0 (bitBytes ((bells.length + 7) / 8) dropped)) ∧
        (∀ c, c < 256 → s.dev.dataReach (s.dev.conn m.conn) (fun p => inRange p.ctxRange c) = true →
          (∀ entries u refused, entries ≠ [] → entries.length ≤ 256 → (s.dev.ctx c).st ≠ 0 →
            (inTurn s m).dev.patches c entries = (refused, u) → GctStands { s with dev := u } m →
            ∃ t, exec (.paramPatch m c entries) s = .next t ∧
              GctServed { s with dev := u } t m 0x0021 (if refused.any id then 7 else 0)
                (toBytes 8 (s.dev.nextStep c).toNat ++ bitBytes 32 refused)) ∧
          (∀ total u st, (inTurn s m).dev.progBegin c total = (u, st) → GctStands { s with dev := u } m →
            ∃ t, exec (.progBegin m c total) s = .next t ∧ GctServed { s with dev := u } t m 0x0030 st []) ∧
          (∀ off data u st, (inTurn s m).dev.progData c off data = (u, st) → GctStands { s with dev := u } m →
            ∃ t, exec (.progData m c off data) s = .next t ∧
              GctServed { s with dev := u } t m 0x0031 st (toBytes 1 (u.ctx c).staged.st)))) ∧
      (∀ code u, (s.dev.inBoot = false ∨ spdmIdentityCodes.contains code = true) → s.dev.spdmIdentity = true →
        ((s.dev.connClass (s.dev.conn m.conn)).isSome = true ∨ spdmOpenCodes.contains code = true) →
        (inTurn s m).spdmRequest m.conn (s.dev.conn m.conn).session code = u → GctStands u m →
        ∃ t, exec (.gctSpdm m code) s = .next t ∧ GctServed u t m 0x0040 0 [])) ∧
    (GctReaches s m → GctLink s m.iface → ∀ e, (s.dev.conn m.conn).cache.find? (fun x => x.seq = m.seq) = some e →
      2 ^ 32 - 64 ≤ (m.seq + 2 ^ 32 - (s.dev.conn m.conn).expect) % 2 ^ 32 →
      ∀ c, c ∈ [(Instr.gctRegWrite m 0 []), .gctRegRead m 0 1, .gctDoorbell m [], .paramPatch m 0 [], .progBegin m 0 0, .progData m 0 0 [],
          .gctSpdm m 0, .alertSubscribe m true] →
        ∃ t, exec c s = .next t ∧ .gct m.conn e.seq e.op e.status e.payload ∈ t.dev.out ∧ Counts s t 0x072 0x104 1 ∧
          (t.dev.conn m.conn).expect = (s.dev.conn m.conn).expect ∧ RegsKept s t [0x070, 0x071, 0x072] ∧ Changes s t (fun d _ => d))

/-- R559, R561: a CONNECT opens the lowest free connection with its next generation, CLOSE is answered and closes, an idle
connection closes; an acknowledgement ends the alerts it covers; an alert not acknowledged in time goes out again, and after eight
repeats the connection closes. -/
def Obligations.GctConnectionsOpenAndClose : Prop :=
  ∀ (s : State) (m : GctMsg) (k : Nat), s.dev.powered = true →
    (∀ i peer nonce session prot window maxPay, s.dev.gctUp i = true → GctLink s i →
      s.dev.connectStatus session prot window maxPay = 0 →
      (∀ e ∈ s.dev.conns, e.2.open_ = true → e.2.peer ≠ peer ∨ e.2.iface ≠ i ∨ e.2.nonce ≠ nonce) →
      (List.range 256).find? (fun j => !(s.dev.conn j).open_) = some k →
      ∃ t, exec (.gctConnect i peer nonce session prot window maxPay) s = .next t ∧
        t.dev.conn k = ⟨true, ((s.dev.conn k).gen + 1) % 256, i, peer, nonce, s.dev.time.elapsed, session, prot, window, maxPay, 1, [], false,
                        0, [], s.dev.time.elapsed⟩ ∧
        .gct k 0 0x0001 0 [BitVec.ofNat 8 k, BitVec.ofNat 8 (((s.dev.conn k).gen + 1) % 256)] ∈ t.dev.out ∧
        (∀ j, j ≠ k → t.dev.conn j = s.dev.conn j) ∧ Changes s t (fun d _ => d)) ∧
    (GctInTurn s m → GctLink s m.iface →
      ∃ t, exec (.gctClose m) s = .next t ∧ (t.dev.conn m.conn).open_ = false ∧ .gct m.conn m.seq 0x0002 0 [] ∈ t.dev.out ∧
        (∀ j, j ≠ m.conn → t.dev.conn j = s.dev.conn j)) ∧
    ((s.dev.conn k).open_ = true → (s.dev.conn k).last + 1000000000 * bitsN (s.reg 0x072 0x404 0) 0 12 + s.tie ≤ s.dev.time.elapsed →
      ∃ t, exec (.gctIdleTimeout k) s = .next t ∧ (t.dev.conn k).open_ = false ∧ bitN (t.reg 0x072 0x018 0) 1 = true) ∧
    (GctReaches s m →
      ∃ t, exec (.gctAlertAck m) s = .next t ∧
        t.dev.conn m.conn = { s.dev.conn m.conn with
          last := s.dev.time.elapsed
          alerts := (s.dev.conn m.conn).alerts.filter (fun a => decide (2 ^ 31 ≤ (m.ack + 2 ^ 32 - a.seq) % 2 ^ 32)) } ∧
        t.dev.regs = s.dev.regs ∧ Changes s t (fun d _ => d)) ∧
    (∀ a, (s.dev.conn k).open_ = true → (s.dev.conn k).alerts.find? (fun x => x.seq = a.seq) = some a →
      a.sent + min 64000000 (1000 * bitsN (s.reg 0x072 0x408 0) 0 16 * 2 ^ a.tries) + s.tie ≤ s.dev.time.elapsed →
      (a.tries < 8 → GctLink s (s.dev.conn k).iface →
        ∃ t, exec (.gctAlertRetx k a.seq) s = .next t ∧ .gctAlert k a.seq a.page a.bit a.tick ∈ t.dev.out ∧ Counts s t 0x072 0x114 1 ∧
          (t.dev.conn k).open_ = true ∧ Changes s t (fun d _ => d)) ∧
      (8 ≤ a.tries → ∃ t, exec (.gctAlertRetx k a.seq) s = .next t ∧ (t.dev.conn k).open_ = false))

/-- R547, R577, R578: a telemetry period keeps a record; Redfish answers a session's read with the resource and asks the others for one,
and a session idle for 30 minutes ends; the sideband answers its block reads with their bytes. -/
def Obligations.ManagementAnswers : Prop :=
  ∀ (s : State), s.dev.powered = true →
    (s.dev.mgmtUp = true → s.dev.belv.telemAt + 1000000 * bitsN (s.reg 0x001 0x418 0) 0 16 ≤ s.dev.time.elapsed →
      (∃ t, exec (.telemetryPeriod false) s = .next t ∧ t.dev.belv.telem.getLast? = some ⟨s.dev.time.count, s.telemetry⟩ ∧
        t.dev.belv.telemAt = s.dev.time.elapsed ∧ t.dev.regs = s.dev.regs ∧
        Changes s t (fun d e => { d with belv := e.belv, free := e.free })) ∧
      (∃ t, exec (.telemetryPeriod true) s = .next t ∧ t.dev.belv.telem = s.dev.belv.telem ∧ Counts s t 0x001 0x104 1 ∧
        Changes s t (fun d e => { d with belv := e.belv, free := e.free }))) ∧
    (∀ n x resource arg bytes len waiting, s.dev.mgmtUp = true → s.dev.rf.find n = some x → resource < 10 → len ≤ 2 ^ 20 → waiting < 32 →
      s.dev.belv.load ≤ 90 →
      ∃ t, exec (.redfishRequest (some n) resource false arg bytes len waiting) s = .next t ∧
        t.dev.out = s.dev.out ++ [.redfish 200 (({ s with dev := { s.dev with rf := s.dev.rf.put n { x with last := s.dev.time.elapsed } } } :
          State).redfishBody resource)] ∧
        t.dev.rf.find n = some { x with last := s.dev.time.elapsed } ∧ Changes s t (fun d e => { d with rf := e.rf })) ∧
    (∀ resource arg bytes len waiting, s.dev.mgmtUp = true → 0 < resource → resource < 10 → len ≤ 2 ^ 20 → waiting < 32 → s.dev.belv.load ≤ 90 →
      ∃ t, exec (.redfishRequest none resource true arg bytes len waiting) s = .next t ∧ .redfish 401 [] ∈ t.dev.out ∧
        t.dev.regs = s.dev.regs ∧ Changes s t (fun d _ => d)) ∧
    (∀ n x, s.dev.rf.find n = some x → x.last + 1800 * 1000000000 + s.tie ≤ s.dev.time.elapsed →
      ∃ t, exec (.redfishSessionTimeout n) s = .next t ∧ t.dev.rf.find n = none ∧ Changes s t (fun d e => { d with rf := e.rf })) ∧
    (s.dev.smbusUp = true →
      (∃ t b, exec .smbusStatus s = .next t ∧ t.dev.out = s.dev.out ++ [.smbus b] ∧ b.length = 8 ∧
        b.take 2 = toBytes 1 s.dev.devState ++ toBytes 1 s.dev.faultSummary ∧ t.dev.regs = s.dev.regs ∧ Changes s t (fun d _ => d)) ∧
      (∃ t b, exec .smbusIdentity s = .next t ∧ t.dev.out = s.dev.out ++ [.smbus b] ∧ b.length = 32 ∧
        b.take 9 = toBytes 1 s.dev.modl.code ++ toBytes 8 s.dev.modl.serial.toNat ∧ Changes s t (fun d _ => d)) ∧
      (∃ t b, exec .smbusFirmware s = .next t ∧ t.dev.out = s.dev.out ++ [.smbus b] ∧ b.length = 16 ∧
        b.take 1 = toBytes 1 s.dev.belv.slot ∧ Changes s t (fun d _ => d)) ∧
      (∃ t, exec .smbusBoot s = .next t ∧ t.dev.out = s.dev.out ++ [.smbus (block 4 (toBytes 1 s.dev.bootResult))] ∧
        Changes s t (fun d _ => d)) ∧
      (∃ t, exec .smbusCertDigest s = .next t ∧ t.dev.out = s.dev.out ++ [.smbus (sha384 s.nv.devCert)] ∧ Changes s t (fun d _ => d)) ∧
      (s.dev.alertN = true →
        ∃ t, exec .smbusAlertResponse s = .next t ∧ t.dev.out = s.dev.out ++ [.smbus [0x5C]] ∧ Changes s t (fun d _ => d)))

/-! ### Power, boot, resets, domains, heat, Belvedere (R480 to R486, R534 to R553, R598, R611 to R621) -/

/-- The device with no power, or right after it: fuses and configuration kept, nothing volatile left (R612, R613, R617). -/
def VolatileLost (s t : State) : Prop :=
  t.nv = s.nv ∧ t.pending = s.pending ∧ t.dev.modl = s.dev.modl ∧ t.dev.regs = [] ∧ t.dev.lpddr = [] ∧ t.dev.keys = [] ∧
    t.dev.ctxs = [] ∧ t.dev.plots = [] ∧ t.dev.sess = [] ∧ t.dev.log = Log.empty

/-- What a full reset with power kept leaves (R618): the time counter, the log and the ciphertext in LPDDR5X; READY_MS; every other
register at its reset value, no key, no plot, no context. -/
def FullyReset (s t : State) : Prop :=
  t.nv = s.nv ∧ t.pending = s.pending ∧ t.dev.time.count = s.dev.time.count ∧ t.dev.lpddr = s.dev.lpddr ∧ t.dev.keys = [] ∧
    t.dev.ctxs = [] ∧ t.dev.plots = [] ∧ t.dev.sess = [] ∧ t.dev.log.entries = s.dev.log.entries ∧ t.dev.log.head = s.dev.log.head ∧
    t.dev.power.phase = .rom ∧ t.reg 0x000 0x420 0 = s.reg 0x000 0x420 0 ∧
    (∀ pg o b, pg < 4096 → o < 4096 → (pg, o, b) ≠ (0x000, 0x420, 0) → t.dev.rg pg o b = BitVec.ofNat 32 (regReset pg o b))

/-- R252, R480 to R486, R542, R611 to R618: PWR_EN starts a device whose carrier keeps its limits, within 50 ms or not at all, and takes
all it holds away; below 36 V conversion stops; RST_N and FULL_RESET reset it with power kept. Boot checks the components in order, a
slot that fails gives way to the other, a pair's initialisation ends with every word 0, controllers train, and READY assigns plot 0. -/
def Obligations.PowerUpAndBoot : Prop :=
  ∀ (s : State) (r : Route),
    (s.dev.power.en = false →
      (s.dev.power.offAt + 1000000000 ≤ s.dev.time.elapsed →
        (∃ t, exec (.pwrEnAssert true true) s = .next t ∧ VolatileLost s t ∧ t.dev.power.en = true ∧ t.dev.power.good = true ∧
          t.dev.power.phase = .rom) ∧
        (∃ t, exec (.pwrEnAssert true false) s = .next t ∧ t.dev.power.en = true ∧ t.dev.power.phase = .waiting ∧
          t.dev.power.lockout = false ∧ Changes s t (fun d e => { d with power := e.power }))) ∧
      (∀ inRange, exec (.pwrEnAssert false inRange) s = .fault .outsideLimits)) ∧
    (s.dev.power.phase = .waiting → s.dev.power.lockout = false → s.dev.power.enAt + 50 * 1000000 + s.tie ≤ s.dev.time.elapsed →
      exec .pwrGoodTimeout s = .next { s with dev := { s.dev with power := { s.dev.power with lockout := true, phase := .off } } }) ∧
    (s.dev.power.en = true →
      ∃ t, exec .pwrEnDeassert s = .next t ∧ VolatileLost s t ∧ t.dev.power.en = false ∧ t.dev.power.good = false ∧
        t.dev.power.phase = .off ∧ t.dev.power.offAt = s.dev.time.elapsed) ∧
    (∀ mv, s.dev.power.good = true → (mv < 36000 ∨ 63000 < mv) →
      ∃ t, exec (.conversionStop mv) s = .next t ∧ VolatileLost s t ∧ t.dev.power.good = false ∧ t.dev.power.phase = .off ∧
        t.dev.power.en = s.dev.power.en) ∧
    (s.admits r 0x000 0x424 1 → ∃ t, exec (.fullReset r) s = .next t ∧ FullyReset s t) ∧
    (s.dev.powered = true →
      (∀ us, 1000 ≤ us → ∃ t, exec (.rstNLow us) s = .next t ∧ FullyReset s t) ∧
      (s.dev.power.phase = .rom → s.dev.belv.bootTried = [] →
        (s.nv.bootable s.nv.activeSlot = true → s.nv.accepts 0 (s.nv.comp s.nv.activeSlot 0) = true →
          ∃ t, exec .romStage1Check s = .next t ∧ t.dev.power.phase = .boot ∧ t.dev.belv.slot = s.nv.activeSlot ∧
            t.dev.belv.verified = 1 ∧ t.dev.belv.running = [s.nv.comp s.nv.activeSlot 0] ∧ t.dev.belv.udsLocked = true ∧
            Changes s t (fun d e => { d with belv := e.belv, power := e.power })) ∧
        (s.nv.bootable s.nv.activeSlot = false →
          ∃ t, exec .romStage1Check s = .next t ∧ t.dev.power.phase = .rom ∧ t.dev.belv.fallback = true ∧
            t.dev.belv.bootTried = [s.nv.activeSlot] ∧ bitN (t.reg 0x008 0x018 0) 6 = true ∧
            Changes s t (fun d e => { d with belv := e.belv, power := e.power }))) ∧
      (∀ a, a < 2 → s.dev.power.phase = .rom → s.dev.belv.bootTried = [a] → s.nv.bootable (1 - a) = false →
        ∃ t, exec .romStage1Check s = .next t ∧ t.dev.power.phase = .bootFail ∧ t.dev.regs = s.dev.regs ∧
          Changes s t (fun d e => { d with belv := e.belv, power := e.power })) ∧
      (s.dev.power.phase = .boot → s.nv.accepts s.dev.belv.verified (s.nv.comp s.dev.belv.slot s.dev.belv.verified) = true →
        (s.dev.belv.verified < 7 →
          ∃ t, exec .componentVerify s = .next t ∧ t.dev.power.phase = .boot ∧ t.dev.belv.verified = s.dev.belv.verified + 1 ∧
            t.dev.belv.running = s.dev.belv.running ++ [s.nv.comp s.dev.belv.slot s.dev.belv.verified] ∧ t.dev.regs = s.dev.regs ∧
            Changes s t (fun d e => { d with belv := e.belv })) ∧
        (s.dev.belv.verified = 7 →
          ∃ t, exec .componentVerify s = .next t ∧ t.dev.power.phase = .calibrate ∧
            (∀ k, 16 ≤ k → k < 23 → bitN t.dev.power.domains k = true))) ∧
      (∀ k, k < 16 → 2 * k + 1 < s.dev.pavs.length → bitN s.dev.power.initLeft k = true →
        ∃ t, exec (.pairInitDone k) s = .next t ∧ bitN t.dev.power.initLeft k = false ∧ bitN t.dev.power.cleared k = true ∧
          (t.dev.pav (2 * k)).store = [] ∧ (t.dev.pav (2 * k + 1)).store = [] ∧ (t.dev.pav (2 * k)).tier = [] ∧
          (t.dev.pav (2 * k + 1)).tier = [] ∧ t.dev.regs = s.dev.regs ∧ Changes s t (fun d e => { d with power := e.power, pavs := e.pavs })) ∧
      (∀ m ok ms margins, s.dev.packageOk m = true → m < s.dev.memctl.length → (s.dev.mc m).phy = 1 →
        (ok % 16 = 15 → ∃ t, exec (.memctlTrainAttemptEnd m ok ms margins) s = .next t ∧ (t.dev.mc m).phy = 2 ∧
          (t.dev.mc m).chanOk = 15 ∧ Changes s t (fun d e => { d with memctl := e.memctl })) ∧
        (ok % 16 ≠ 15 → (s.dev.mc m).attempts < 2 →
          ∃ t, exec (.memctlTrainAttemptEnd m ok ms margins) s = .next t ∧ (t.dev.mc m).phy = 1 ∧
            (t.dev.mc m).attempts = (s.dev.mc m).attempts + 1 ∧ Changes s t (fun d e => { d with memctl := e.memctl })) ∧
        (ok % 16 ≠ 15 → 2 ≤ (s.dev.mc m).attempts →
          ∃ t, exec (.memctlTrainAttemptEnd m ok ms margins) s = .next t ∧ (t.dev.mc m).phy = 3)) ∧
      (s.dev.readyOk = true → (s.dev.plot 0).st = 0 →
        ∃ t, exec .readyEntry s = .next t ∧ t.dev.power.phase = .live ∧ t.dev.power.everOn = true ∧ (t.dev.plot 0).st = 1 ∧
          (t.dev.key 0).loaded = true ∧
          (s.dev.power.everOn = false → t.reg 0x000 0x420 0 = (s.dev.time.elapsed - s.dev.power.goodAt) / 1000000 % 2 ^ 32)))

/-- R356, R439, R545, R546, R598, R619 to R621: HOLD holds a block and empties it; writing 0 releases it, its counters and ERR_STATUS
cleared, and its own bring-up follows: a port calibrates, a controller retrains from its stored results, the Kiosk and the Gatehouse are
released at once, a slot that still verifies emptied (R250), Belvedere restarts. -/
def Obligations.PartialResetsHoldAndRun : Prop :=
  ∀ (s : State) (r : Route) (page : Nat),
    (s.admits r page 0x030 1 → resetPages.contains page = true → bitN (s.reg page 0x030 0) 0 = false →
      ∃ t, exec (.resetHold r page) s = .next t ∧ (∀ q ∈ resetGroup page, bitN (t.reg q 0x030 0) 0 = true) ∧
        (∀ n, page = 0x010 + n → n < 32 → n < s.dev.pavs.length → (s.dev.pav n).fused = false → (t.dev.pav n).run ≠ .running) ∧
        (∀ n, page = portPage n → n < 12 → n < s.dev.ports.length → (t.dev.port n).st = .off ∧ (t.dev.port n).replay = []) ∧
        (∀ m, page = mcPage m → m < 16 → m < s.dev.memctl.length → (s.dev.mc m).populated = true → (s.dev.mc m).phy = 2 → (t.dev.mc m).phy = 4) ∧
        (∀ n, page = 0x070 + n → n < 2 → n < s.dev.hports.length → (t.dev.hport n).up = 0 ∧ (t.dev.hport n).sas = []) ∧
        (page = 0x001 → t.dev.belv.st = 1)) ∧
    (∀ n, page = 0x010 + n → n < 32 → s.admits r page 0x030 0 → bitN (s.reg page 0x030 0) 0 = true →
      ∃ t, exec (.pairReset r page) s = .next t ∧
        (∀ q ∈ resetGroup page, t.reg q 0x030 0 = 256 ∧ t.dev.rg q 0x018 0 = BitVec.ofNat 32 (regReset q 0x018 0)) ∧
        Changes s t (fun d _ => d)) ∧
    (∀ n, n < 12 → n < s.dev.ports.length → s.admits r (portPage n) 0x030 0 → bitN (s.reg (portPage n) 0x030 0) 0 = true →
      bitN s.dev.portMap n = true →
      ∃ t, exec (.fportReset r n) s = .next t ∧ (t.dev.port n).st = .calibrate ∧ t.reg (portPage n) 0x030 0 = 256 ∧
        t.dev.rg (portPage n) 0x10C 0 = BitVec.ofNat 32 (regReset (portPage n) 0x10C 0) ∧ Changes s t (fun d e => { d with ports := e.ports })) ∧
    (∀ n, n < 2 → s.admits r (0x070 + n) 0x030 0 → bitN (s.reg (0x070 + n) 0x030 0) 0 = true →
      ∃ t, exec (.hportReset r n) s = .next t ∧ t.reg (0x070 + n) 0x030 0 = 256 ∧ Changes s t (fun d _ => d)) ∧
    (∀ m, m < 16 → m < s.dev.memctl.length → s.admits r (mcPage m) 0x030 0 → bitN (s.reg (mcPage m) 0x030 0) 0 = true →
      (s.dev.mc m).populated = true → (s.dev.mc m).phy = 4 →
      ∃ t, exec (.memctlReset r m) s = .next t ∧ (t.dev.mc m).phy = 5 ∧ t.reg (mcPage m) 0x030 0 = 256 ∧
        Changes s t (fun d e => { d with memctl := e.memctl })) ∧
    (s.admits r 0x003 0x030 0 → bitN (s.reg 0x003 0x030 0) 0 = true →
      ∃ t, exec (.kioskReset r) s = .next t ∧ t.reg 0x003 0x030 0 = 0 ∧ Changes s t (fun d _ => d)) ∧
    (s.admits r 0x002 0x030 0 → bitN (s.reg 0x002 0x030 0) 0 = true →
      ∃ t, exec (.gatehouseReset r) s = .next t ∧ t.reg 0x002 0x030 0 = 0 ∧
        (∀ c, (s.dev.ctx c).staged.st = 2 → t.dev.ctx c = { s.dev.ctx c with staged := Staged.empty }) ∧
        Changes s t (fun d e => { d with ctxs := e.ctxs, pavs := e.pavs, regions := e.regions })) ∧
    (s.admits r 0x001 0x030 0 → bitN (s.reg 0x001 0x030 0) 0 = true →
      ∃ t, exec (.belvedereReset r) s = .next t ∧ t.dev.belv.st = 1 ∧ t.dev.belv.cause = 4 ∧
        t.dev.belv.restarts = [s.dev.time.elapsed] ∧ (∀ n, t.dev.sess.find n = none) ∧ t.dev.rf = [])

/-- R534, R535, R552: a domain command that may act turns its domain on or off and no other, one that may not answers REFUSED or RANGE and
changes nothing; REST turns off all but the time and memory domains and keeps LPDDR5X, and its exit calibrates. -/
def Obligations.DomainsAndRest : Prop :=
  ∀ (s : State) (r : Route) (dom : Nat), dom < 32 →
    (s.admits r 0x006 0x420 (dom + 32) →
      (dom < 24 → s.dev.power.phase = .live → s.dev.mayTurnOn dom = true → bitN s.dev.power.domains dom = false →
        ∃ t, exec (.domainCmdOn r dom) s = .next t ∧ bitN t.dev.power.domains dom = true ∧
          (∀ k, k ≠ dom → bitN t.dev.power.domains k = bitN s.dev.power.domains k) ∧ t.reg 0x006 0x424 0 = 0 ∧ Counts s t 0x006 0x108 1) ∧
      ((s.dev.power.phase ≠ .live ∨ s.dev.mayTurnOn dom = false ∨ 24 ≤ dom) →
        ∃ t, exec (.domainCmdOn r dom) s = .next t ∧ t.reg 0x006 0x424 0 = (if 24 ≤ dom then 2 else 1) ∧
          bitN (t.reg 0x006 0x018 0) 5 = true ∧ Changes s t (fun d _ => d))) ∧
    (s.admits r 0x006 0x420 (dom + 64) →
      (dom < 24 → s.dev.power.phase = .live → s.dev.mayTurnOff dom = true → bitN s.dev.power.domains dom = true →
        ∃ t, exec (.domainCmdOff r dom) s = .next t ∧ bitN t.dev.power.domains dom = false ∧
          (∀ k, k ≠ dom → bitN t.dev.power.domains k = bitN s.dev.power.domains k) ∧ t.reg 0x006 0x424 0 = 0) ∧
      ((s.dev.power.phase ≠ .live ∨ s.dev.mayTurnOff dom = false ∨ 24 ≤ dom) →
        ∃ t, exec (.domainCmdOff r dom) s = .next t ∧ t.reg 0x006 0x424 0 = (if 24 ≤ dom then 2 else 1) ∧
          bitN (t.reg 0x006 0x018 0) 5 = true ∧ Changes s t (fun d _ => d))) ∧
    (s.admits r 0x006 0x428 1 → s.dev.power.phase = .live → s.dev.anyBundle = false →
      (∀ p, 0 < p → p < 16 → (s.dev.plot p).st ≠ 1) →
      ∃ t, exec (.restEnter r) s = .next t ∧ t.dev.power.phase = .rest ∧ t.dev.power.state = 2 ∧
        t.dev.power.domains = 2 ^ 21 + 2 ^ 23 ∧ t.dev.lpddr = s.dev.lpddr ∧ t.dev.keys = s.dev.keys ∧ t.dev.xfers = [] ∧
        t.reg 0x006 0x424 0 = 0) ∧
    (s.admits r 0x006 0x428 2 → s.dev.power.phase = .rest →
      ∃ t, exec (.restExit r) s = .next t ∧ t.dev.power.phase = .calibrate ∧ t.dev.power.state = 3 ∧
        (∀ k, 16 ≤ k → k < 23 → bitN t.dev.power.domains k = true) ∧ t.dev.lpddr = s.dev.lpddr)

/-- R539 to R543: a window's power moves the power hold by 32 up or 8 down; a current warning and an input out of range hold the current at
1,024; a pair's supply fault fences its two pavilions, another domain's is fatal; THERM_TRIP stops every pavilion; a sensor is marked
invalid and recovers. -/
def Obligations.ThrottleSupplyAndHeat : Prop :=
  ∀ (s : State), s.dev.powered = true →
    (∀ mw temps, ∃ t, exec (.powerWindow mw temps) s = .next t ∧
      t.dev.power.hp = (if 1000 * s.dev.capW < mw then min 1024 (s.dev.power.hp + 32)
        else if mw + 5000 < 1000 * s.dev.capW then s.dev.power.hp - 8 else s.dev.power.hp) ∧
      t.dev.power.hc = (if s.dev.power.warned || s.dev.power.inputBad then 1024 else 0) ∧ t.dev.power.warned = false ∧
      t.dev.power.inputPower = min 65535 (mw / 100) ∧ Changes s t (fun d e => { d with power := e.power, free := e.free })) ∧
    (∀ dom, bitN s.dev.power.domains dom = true →
      ∃ t, exec (.currentWarning dom) s = .next t ∧
        t.dev.power = { s.dev.power with warned := true, hc := 1024, holds := t.dev.power.holds } ∧
        (s.dev.hold < 1024 → t.dev.power.holds.getLast? = some (s.dev.time.elapsed, s.dev.hold)) ∧
        Counts s t 0x006 0x104 1 ∧ bitN (t.reg 0x006 0x018 0) 4 = true ∧ Changes s t (fun d e => { d with power := e.power })) ∧
    (∀ mv, (mv < 40000 ∨ 60000 < mv) → s.dev.power.inputBad = false →
      ∃ t, exec (.inputRange mv) s = .next t ∧ t.dev.power.inputBad = true ∧ t.dev.power.hc = 1024 ∧
        bitN (t.reg 0x006 0x018 0) 0 = true ∧ Changes s t (fun d e => { d with power := e.power })) ∧
    (∀ mv, 40000 ≤ mv → mv ≤ 60000 → s.dev.power.inputBad = true →
      ∃ t, exec (.inputRangeEnd mv) s = .next t ∧ t.dev.power.inputBad = false ∧ t.dev.power.inputVolt = mv ∧
        t.dev.power.hc = (if s.dev.power.warned then 1024 else 0) ∧ t.dev.regs = s.dev.regs ∧
        Changes s t (fun d e => { d with power := e.power })) ∧
    (∀ k mv, k < 16 → 2 * k + 1 < s.dev.pavs.length → bitN s.dev.power.domains k = true → (s.dev.pav (2 * k)).run ≠ .off →
      (s.dev.pav (2 * k + 1)).run ≠ .off →
      ∃ t, exec (.pairSupplyFault k mv) s = .next t ∧ (t.dev.pav (2 * k)).run = .fenced ∧ (t.dev.pav (2 * k + 1)).run = .fenced ∧
        bitN (t.reg 0x006 0x018 0) 1 = true) ∧
    (∀ dom mv, 16 ≤ dom → bitN s.dev.power.domains dom = true →
      ∃ t, exec (.domainSupplyFault dom mv) s = .next t ∧ t.dev.power.fatal = true ∧
        (∀ n, n < t.dev.pavs.length → (t.dev.pav n).run ≠ .running) ∧ bitN (t.reg 0x000 0x018 0) 20 = true) ∧
    (∀ k temp, s.dev.sensorValid k = true → 1840 ≤ temp → temp ≤ 2400 →
      ∃ t, exec (.thermTrip k temp) s = .next t ∧ t.dev.power.tripped = true ∧ t.dev.power.temps.get k 0 = temp ∧
        (∀ n, n < t.dev.pavs.length → (t.dev.pav n).run ≠ .running) ∧
        Changes s t (fun d e => { d with power := e.power, pavs := e.pavs })) ∧
    (∀ k temp, s.dev.sensorValid k = true → sensorOk temp = false →
      ∃ t, exec (.sensorInvalid k temp) s = .next t ∧ bitN t.dev.power.invalid k = true ∧ bitN (t.reg 0x007 0x018 0) 2 = true ∧
        Changes s t (fun d e => { d with power := e.power })) ∧
    (∀ k temp, bitN s.dev.modl.sensors k = true → bitN s.dev.power.invalid k = true → sensorOk temp = true →
      ∃ t, exec (.sensorRecovery k temp) s = .next t ∧ bitN t.dev.power.invalid k = false ∧ t.dev.power.temps.get k 0 = temp ∧
        t.dev.regs = s.dev.regs ∧ Changes s t (fun d e => { d with power := e.power }))

/-- The restarts of the last 600 s (R546). -/
def recentRestarts (s : State) : Nat := (s.dev.belv.restarts.filter (fun a => decide (s.dev.time.elapsed < a + 600 * 1000000000))).length

/-- What a restart of Belvedere leaves (R545, R546, R551): RESTARTING with its cause, HALTED at the third within 600 s; no session. -/
def Restarted (s t : State) (cause : Nat) : Prop :=
  t.dev.belv.st = (if 2 ≤ recentRestarts s then 2 else 1) ∧ t.dev.belv.cause = cause ∧ (∀ n, t.dev.sess.find n = none) ∧
    t.dev.rf = [] ∧ Counts s t 0x001 0x100 1

/-- R544 to R551: the watchdog, an SRAM error and RESTART_CMD restart Belvedere, an error in the log area clears the log; the restart's
end; an image is written into the other slot and checked; ACTIVATE puts it on trial, CONFIRM keeps it, REVERT and the window's end go
back to the old slot. -/
def Obligations.BelvedereRestartsAndUpdates : Prop :=
  ∀ (s : State) (r : Route),
    (s.dev.powered = true →
      (s.dev.belv.st = 0 → s.dev.belv.update ≠ 4 → ∃ t, exec .belvedereWatchdog s = .next t ∧ Restarted s t 1) ∧
      (s.dev.belv.st = 0 → ∃ t, exec (.belvedereSramEcc false) s = .next t ∧ Restarted s t 2) ∧
      (∃ t, exec (.belvedereSramEcc true) s = .next t ∧ t.dev.log.entries = [] ∧ Counts s t 0x009 0x10C 1 ∧ Changes s t (fun d _ => d)) ∧
      (s.dev.belv.st = 1 → bitN (s.reg 0x001 0x030 0) 0 = false →
        (s.dev.belv.update ≠ 3 →
          ∃ t, exec (.belvedereRestartDone true) s = .next t ∧ t.dev.belv.st = 0 ∧ t.reg 0x001 0x030 0 = 0 ∧
            Changes s t (fun d e => { d with belv := e.belv })) ∧
        (∃ t, exec (.belvedereRestartDone false) s = .next t ∧ t.dev.belv = { s.dev.belv with st := 2 } ∧
          bitN (t.reg 0x001 0x018 0) 1 = true ∧ Changes s t (fun d e => { d with belv := e.belv }))) ∧
      (∀ img, s.dev.mgmtUp = true → (s.rights r).update = true → s.dev.belv.update ≠ 3 → s.dev.belv.update ≠ 4 →
        s.dev.belv.slot < 2 → s.nv.slots.length = 2 →
        ∃ t, exec (.slotImageWrite r img) s = .next t ∧ t.nv = { s.nv with slots := setAt s.nv.slots (1 - s.dev.belv.slot) img } ∧
          ((img.complete = true → img.comps.length = 8 → (∀ k, k < 8 → s.nv.accepts k (nthD img.comps k ⟨[], 0, 0, false⟩) = true) →
              t.dev.belv.update = 2) ∧
            (img.complete = false → t.dev.belv.update = 5 ∧ bitN (t.reg 0x001 0x018 0) 2 = true)) ∧ t.pending = s.pending ∧
          hush t.dev = hush { s.dev with belv := t.dev.belv }) ∧
      (s.dev.belv.update = 4 → s.nv.desc.length = 2 → s.dev.belv.slot < 2 →
        s.dev.belv.confirmSince + 1000000000 * s.reg 0x001 0x424 0 + s.tie ≤ s.dev.time.elapsed →
        ∃ t, exec .confirmWindowExpiry s = .next t ∧ t.dev.belv.slot = 1 - s.dev.belv.slot ∧ t.nv.trial = false ∧
          bitN (t.reg 0x001 0x018 0) 3 = true)) ∧
    (s.admits r 0x001 0x408 1 → s.dev.belv.st = 0 → ∃ t, exec (.belvedereRestart r) s = .next t ∧ Restarted s t 4) ∧
    (s.admits r 0x001 0x420 1 → s.dev.belv.update = 2 → s.nv.desc.length = 2 → s.dev.belv.slot < 2 →
      ∃ t, exec (.updateActivate r) s = .next t ∧ t.dev.belv.slot = 1 - s.dev.belv.slot ∧ t.nv.trial = true ∧
        (t.dev.belv.update = 3 ∨ t.dev.belv.update = 4)) ∧
    (s.admits r 0x001 0x420 2 → s.dev.belv.update = 4 → s.nv.desc.length = 2 →
      ∃ t, exec (.updateConfirm r) s = .next t ∧ t.dev.belv = { s.dev.belv with update := 0 } ∧ t.nv.trial = false ∧
        hush t.dev = hush { s.dev with belv := t.dev.belv }) ∧
    (s.admits r 0x001 0x420 4 → s.dev.belv.update = 4 → s.nv.desc.length = 2 → s.dev.belv.slot < 2 →
      ∃ t, exec (.updateRevert r) s = .next t ∧ t.dev.belv.slot = 1 - s.dev.belv.slot ∧ t.nv.trial = false ∧
        bitN (t.reg 0x001 0x018 0) 3 = true)

/-! ### The whole block -/

/-- The command at the front of the queue runs with the rest of the queue waiting; with none waiting, a tick of the time domain passes
(log entry 1): the counter of a device with power that has locked once advances by 1 (R372), and nothing else but ALERT_N changes unless
commands have left something for the tick's end, a packet waits at a port, or a corrected tier word waits for write-back. -/
def Obligations.StepRunsTheFrontCommand : Prop :=
  (∀ (s : State) (c : Instr) (rest : List Instr), s.pending = c :: rest → step s = exec c { s with pending := rest }) ∧
  (∀ (s : State), s.pending = [] →
    ∃ t, step s = .next t ∧ t.dev.time.elapsed = s.dev.time.elapsed + 1 ∧
      (s.dev.powered = true → s.dev.time.everLocked = true → t.dev.time.count = s.dev.time.count + 1) ∧
      Changes s t (fun d e => { d with
        time := e.time, tickEnd := e.tickEnd, fencePrev := e.fencePrev, regions := e.regions, shards := e.shards, keys := e.keys, ports := e.ports,
        pavs := e.pavs, free := e.free }) ∧
      (s.dev.tickEnd = [] → s.dev.fencePrev = [] → (∀ n, (s.dev.port n).waiting = []) → (∀ n, (s.dev.pav n).scrubQ = []) →
        Changes s t (fun d e => { d with time := e.time })))

/-- The state after reset: an empty queue, the fuses legal, the device in ROM with the time counter at 0 and FREE, no key, plot, context,
session or transfer, every measurement register zero (R485), every memory empty, every register of the window at its reset value. -/
def Obligations.ResetLeavesTheBlockEmpty : Prop :=
  State.reset.pending = [] ∧ State.reset.fusesOk ∧ State.reset.dev.memOk = true ∧ State.reset.dev.power.phase = .rom ∧
    State.reset.dev.time.count = 0 ∧ State.reset.dev.time.sync = 0 ∧ State.reset.dev.keys = [] ∧ State.reset.dev.plots = [] ∧
    State.reset.dev.ctxs = [] ∧ State.reset.dev.sess = [] ∧ State.reset.dev.xfers = [] ∧ State.reset.dev.conns = [] ∧
    (∀ k, k < 16 → nthD State.reset.dev.belv.mrs k [] = List.replicate 48 0) ∧
    (∀ n, n < 32 → (State.reset.dev.pav n).store = [] ∧ (State.reset.dev.pav n).tier = [] ∧ (State.reset.dev.pav n).run = .off) ∧
    (∀ n, n < 12 → State.reset.dev.port n = Port.off) ∧
    (∀ pg o b, State.reset.dev.rg pg o b = BitVec.ofNat 32 (regReset pg o b))

/-- R480, from every state: a step keeps the fuses legal: eight counters of 0 to 64, four revocation bits of which the last is
never set. -/
def Obligations.StepKeepsTheFusesLegal : Prop := ∀ s t, s.fusesOk → step s = .next t → t.fusesOk

/-- R480, R484, from every state: no step clears a fuse; a key is revoked only by a revocation signed with another live key, and a counter
advances only under SVN_COMMIT. -/
def Obligations.StepNeverClearsAFuse : Prop :=
  ∀ s t, s.fusesOk → step s = .next t → NonVol.fusesKept s.nv t.nv ∧
    (t.nv.keyRevoked ≠ s.nv.keyRevoked →
      ∃ k signer rest, s.pending = .keyRevocation k signer true :: rest ∧ k ≠ signer ∧ s.nv.keyLive k = true ∧ s.nv.keyLive signer = true) ∧
    (t.nv.svn ≠ s.nv.svn → ∃ r rest, s.pending = .svnCommit r :: rest ∧ s.nv.trial = false)

/-- From every state: a step takes the front command out of the queue and puts none in. -/
def Obligations.StepConsumesOneCommand : Prop :=
  ∀ s t c rest, s.pending = c :: rest → step s = .next t → t.pending = rest

/-- R502, R595, R596: a fault sets its ERR_STATUS bit and clears none, whatever ERR_MASK holds; it is kept as the first one in an
ERR_STATUS that was 0, and of the bits that one tick sets there the lowest is (on an HPORT page the sending of its own alert may set a
lower one); a masked one does no more; an unmasked one sets INT_STATUS, raises ALERT_N where INT_ENABLE allows it, and, where
it does not, writes one log entry. Nothing but registers, ALERT_N, the log and what carries an alert changes. -/
def Obligations.FaultsAreRecordedUnderTheirMask : Prop :=
  ∀ (d : Dev) (page bank bit : Nat) (cls : FaultClass) (inj : Bool) (w : Where), page < 4096 → bit < 32 →
    bitN ((d.recordB page bank bit cls inj w).rgN page 0x018 bank) bit = true ∧
    (∀ k, bitN (d.rgN page 0x018 bank) k = true → bitN ((d.recordB page bank bit cls inj w).rgN page 0x018 bank) k = true) ∧
    hush (d.recordB page bank bit cls inj w) = hush d ∧
    (d.rgN page 0x018 bank = 0 →
      ((page = 0x070 ∨ page = 0x071 → bitN (d.rgN page 0x02C bank) bit = false) →
        (d.recordB page bank bit cls inj w).rgN page 0x020 bank = bit + (if inj then 256 else 0) + 2 ^ 31) ∧
      (d.recordB page bank bit cls inj w).rg64 page 0x038 bank = d.time.count.toNat) ∧
    (d.rgN page 0x018 bank ≠ 0 → (page = 0x070 ∨ page = 0x071 → bitN (d.rgN page 0x02C bank) bit = false) →
      (d.recordB page bank bit cls inj w).rgN page 0x020 bank =
        if d.firstNow page bank bit then bit + (if inj then 256 else 0) + 2 ^ 31 else d.rgN page 0x020 bank) ∧
    (bitN (d.rgN page 0x01C bank) bit = true →
      (d.recordB page bank bit cls inj w).log = d.log ∧ (d.recordB page bank bit cls inj w).alertN = d.alertN ∧
      (d.recordB page bank bit cls inj w).rgN page 0x028 bank = d.rgN page 0x028 bank ∧
      (d.recordB page bank bit cls inj w).conns = d.conns) ∧
    (bitN (d.rgN page 0x01C bank) bit = false →
      bitN ((d.recordB page bank bit cls inj w).rgN page 0x028 bank) bit = true ∧
      (bitN (d.rgN page 0x02C bank) bit = true → (d.recordB page bank bit cls inj w).alertN = true) ∧
      (bitN (d.rgN page 0x02C bank) bit = false → cls ≠ .c → d.log.queue.length < 256 →
        ∃ e, (d.recordB page bank bit cls inj w).log.queue = d.log.queue ++ [e] ∧ e.page = page ∧ e.bit = bit ∧ e.typ = 1 ∧
          e.tick = d.time.count))

/-- R275: what is written to LPDDR5X under a loaded key reads back under it, and no other byte that the key reads changes; a memory in
canonical form stays in it. -/
def Obligations.LpddrReadsBackWhatWasWritten : Prop :=
  ∀ (d : Dev) (off : Nat) (bs : List Byte), (d.key (d.keyPlot off)).loaded = true → (d.key (d.keyPlot off)).serial ≠ 0 → d.lpddr.wf = true →
    (d.lpWrite off bs).lpddr.wf = true ∧ (d.lpWrite off bs).lpRead off bs.length = bs ∧
    (∀ a, (a < off ∨ off + bs.length ≤ a) →
      (d.lpWrite off bs).lpByte (d.key (d.keyPlot off)).serial a = d.lpByte (d.key (d.keyPlot off)).serial a)

/-- Two XW values, each value bits and companion, meeting at a router or at the destination: the sum that R105 gives. -/
def xwMeet (n : Nat) (a b : Nat × Nat) : Nat × Nat := ((Xw.unpack n a.1 a.2).combine (Xw.unpack n b.1 b.2)).pack n

/-- A way in which contributions come together: a contribution, or two parts that meet. Every tree of routers, every order of arrival
and every choice of combining on the way is one of these. -/
inductive XwTree where
  | one (value companion : Nat)
  | meet (a b : XwTree)

/-- What a tree leaves at its root. -/
def XwTree.result (n : Nat) : XwTree → Nat × Nat
  | .one v c => (v, c)
  | .meet a b => xwMeet n (a.result n) (b.result n)

/-- The contributions of a tree. -/
def XwTree.leaves : XwTree → List (Nat × Nat)
  | .one v c => [(v, c)]
  | .meet a b => a.leaves ++ b.leaves

/-- A contribution that lies in range: no EXCESS, any of NAN, POS_INF, NEG_INF and OVF (R104, R105). -/
def XwInRange (n : Nat) (e : Nat × Nat) : Prop := e.1 < 2 ^ n ∧ e.2 < 16

/-- The exact sum of contributions with the OR of their companions. -/
def xwTotal (n : Nat) (l : List (Nat × Nat)) : Xw :=
  ⟨(l.map (fun e => signedN n e.1)).sum, l.any (fun e => bitN e.2 0), l.any (fun e => bitN e.2 1),
   l.any (fun e => bitN e.2 2), l.any (fun e => bitN e.2 3)⟩

/-- R131: any number of contributors in range up to 4,096 leave the same bits, those of the exact sum, in any tree, in any order and with
any partial sums combined on the way; the combine buffer of a router and the element at the destination add by this same rule (R105). -/
def Obligations.XwSumsAreTheSameInAnyOrder : Prop :=
  (∀ (n : Nat) (t u : XwTree), (n = 32 ∨ n = 64 ∨ n = 128) → t.leaves.length ≤ 4096 → (∀ e ∈ t.leaves, XwInRange n e) →
    t.result n = (xwTotal n t.leaves).pack n ∧ (u.leaves.Perm t.leaves → u.result n = t.result n)) ∧
  (∀ (a b : Packet) (n : XwN) (k : Nat), xwnOf a.xwn = some n → k ≤ n.perPacket →
    a.payload.length = k * (n.bits / 8 + 2) → b.payload.length = k * (n.bits / 8 + 2) →
    (combinePackets a b).xwValues n = ((a.xwValues n).zip (b.xwValues n)).map (fun e => xwMeet n.bits e.1 e.2)) ∧
  (∀ (q : Pav) (r : RedBuf) (n : XwN) (i v c : Nat), q.store.wf = true →
    (r.off + n.bits / 8 * (i + 1) ≤ r.cmpOff ∨ r.cmpOff + 2 * (i + 1) ≤ r.off + n.bits / 8 * i) →
    (leNat ((q.xwAddAt r n i v c).store.bytes (r.off + n.bits / 8 * i) (n.bits / 8)),
        leNat ((q.xwAddAt r n i v c).store.bytes (r.cmpOff + 2 * i) 2)) =
      xwMeet n.bits (leNat (q.store.bytes (r.off + n.bits / 8 * i) (n.bits / 8)), leNat (q.store.bytes (r.cmpOff + 2 * i) 2)) (v, c)) ∧
  (∀ (n : Nat) (e : Nat × Nat), (n = 32 ∨ n = 64 ∨ n = 128) → XwInRange n e → xwMeet n (0, 0) e = e)
end

