-- ==== Sys2Proof/Laws/Memory.lean ====
section
/-! SUPPORT. Laws of byte memories and sorted maps: canonical form kept, read after write, writes leave the rest alone. -/
namespace Sys2Proof.Laws
open Sys2Proof.Machine

/-! ### Sorted maps -/

@[simp] theorem smap_find_put_same {α : Type} (m : SMap α) (k : Nat) (x : α) : (m.put k x).find k = some x := by
  induction m with
  | nil => simp [SMap.put, SMap.find]
  | cons e rest ih =>
    obtain ⟨a, v⟩ := e
    simp only [SMap.put]
    split
    · simp [SMap.find]
    · split
      · simp [SMap.find]
      · simp [SMap.find, *]

theorem smap_find_put_other {α : Type} (m : SMap α) {k j : Nat} (x : α) (h : j ≠ k) : (m.put k x).find j = m.find j := by
  induction m with
  | nil => simp [SMap.put, SMap.find, Ne.symm h]
  | cons e rest ih =>
    obtain ⟨a, v⟩ := e
    simp only [SMap.put]
    split
    · rename_i ha; subst ha; simp [SMap.find, Ne.symm h]
    · split
      · simp [SMap.find, Ne.symm h]
      · simp [SMap.find, ih]

@[simp] theorem smap_get_put_same {α : Type} (m : SMap α) (k : Nat) (x d : α) : (m.put k x).get k d = x := by
  simp [SMap.get]

theorem smap_get_put_other {α : Type} (m : SMap α) {k j : Nat} (x d : α) (h : j ≠ k) : (m.put k x).get j d = m.get j d := by
  simp [SMap.get, smap_find_put_other m x h]

/-! ### Canonical form -/

theorem above_mono {lo lo' : Nat} (m : Mem) (h : lo' ≤ lo) (hm : Mem.above lo m = true) : Mem.above lo' m = true := by
  cases m with
  | nil => rfl
  | cons e rest =>
    obtain ⟨k, v⟩ := e
    simp only [Mem.above, Bool.and_eq_true, decide_eq_true_eq] at hm ⊢
    exact ⟨⟨by omega, hm.1.2⟩, hm.2⟩

theorem above_write (m : Mem) (a : Nat) (b : Byte) (lo : Nat) (hlo : lo ≤ a) (hm : Mem.above lo m = true) :
    Mem.above lo (m.write a b) = true := by
  induction m generalizing lo with
  | nil =>
    simp only [Mem.write]
    split
    · rfl
    · simp [Mem.above, *]
  | cons e rest ih =>
    obtain ⟨k, v⟩ := e
    simp only [Mem.above, Bool.and_eq_true, decide_eq_true_eq] at hm
    simp only [Mem.write]
    split
    · rename_i hk; subst hk
      split
      · exact above_mono rest (by omega) hm.2
      · simp [Mem.above, *]
    · split
      · split
        · simp [Mem.above, *]
        · simp only [Mem.above, Bool.and_eq_true, decide_eq_true_eq]
          refine ⟨⟨hlo, by assumption⟩, ⟨by omega, hm.1.2⟩, hm.2⟩
      · simp only [Mem.above, Bool.and_eq_true, decide_eq_true_eq]
        exact ⟨hm.1, ih (k + 1) (by omega) hm.2⟩

/-- A write keeps the canonical form. -/
theorem wf_write (m : Mem) (a : Nat) (b : Byte) (h : m.wf = true) : (m.write a b).wf = true :=
  above_write m a b 0 (Nat.zero_le a) h

/-- A store keeps the canonical form. -/
theorem wf_store (m : Mem) (a : Nat) (bs : List Byte) (h : m.wf = true) : (m.store a bs).wf = true := by
  induction bs generalizing m a with
  | nil => exact h
  | cons b bs ih => exact ih (m.write a b) (a + 1) (wf_write m a b h)

theorem above_filter (m : Mem) (f : Host.Cell → Bool) (lo : Nat) (h : Mem.above lo m = true) :
    Mem.above lo (m.filter f) = true := by
  induction m generalizing lo with
  | nil => rfl
  | cons e rest ih =>
    obtain ⟨k, v⟩ := e
    simp only [Mem.above, Bool.and_eq_true, decide_eq_true_eq] at h
    simp only [List.filter]
    split
    · simp only [Mem.above, Bool.and_eq_true, decide_eq_true_eq]
      exact ⟨h.1, ih (k + 1) h.2⟩
    · exact above_mono _ (by omega) (ih (k + 1) h.2)

/-- Clearing a range keeps the canonical form. -/
theorem wf_clear (m : Mem) (lo n : Nat) (h : m.wf = true) : (m.clear lo n).wf = true := above_filter m _ 0 h

theorem above_shift (m : Mem) (d lo : Nat) (hd : d ≤ lo) (h : Mem.above lo m = true) :
    Mem.above (lo - d) (m.map (fun c => (c.1 - d, c.2))) = true := by
  induction m generalizing lo with
  | nil => rfl
  | cons e rest ih =>
    obtain ⟨k, v⟩ := e
    simp only [Mem.above, Bool.and_eq_true, decide_eq_true_eq] at h
    simp only [List.map, Mem.above, Bool.and_eq_true, decide_eq_true_eq]
    refine ⟨⟨by omega, h.1.2⟩, ?_⟩
    have := ih (k + 1) (by omega) h.2
    rwa [show k + 1 - d = k - d + 1 by omega] at this

theorem above_of_all_ge (m : Mem) (lo lo' : Nat) (h : Mem.above lo m = true) (hg : ∀ c ∈ m, lo' ≤ c.1) :
    Mem.above lo' m = true := by
  cases m with
  | nil => rfl
  | cons e rest =>
    obtain ⟨k, v⟩ := e
    simp only [Mem.above, Bool.and_eq_true, decide_eq_true_eq] at h ⊢
    exact ⟨⟨hg (k, v) (by simp), h.1.2⟩, h.2⟩

/-- A window of a memory is in canonical form. -/
theorem wf_window (m : Mem) (lo n : Nat) (h : m.wf = true) : (m.window lo n).wf = true := by
  have h1 := above_of_all_ge (m.filter (fun c => decide (lo ≤ c.1) && decide (c.1 < lo + n))) 0 lo (above_filter m _ 0 h)
    (by intro c hc; simp [List.mem_filter] at hc; exact hc.2.1)
  have h2 := above_shift _ lo lo (Nat.le_refl lo) h1
  simpa [Mem.wf, Mem.window] using h2

/-- The form of a line write. -/
theorem wf_putLine (m : Mem) (k : Nat) (v : Line) (h : m.wf = true) : (m.putLine k v).wf = true := wf_store m _ _ h

/-! ### Read after write -/

/-- An address below every listed one reads as unlisted. -/
theorem read_below (m : Mem) {lo a : Nat} (h : Mem.above lo m = true) (ha : a < lo) : m.read a = Mem.unlisted := by
  induction m generalizing lo with
  | nil => rfl
  | cons e rest ih =>
    obtain ⟨k, v⟩ := e
    simp only [Mem.above, Bool.and_eq_true, decide_eq_true_eq] at h
    simp only [Mem.read]
    split
    · omega
    · exact ih h.2 (by omega)

theorem read_write_same_above (m : Mem) (a : Nat) (b : Byte) (lo : Nat) (h : Mem.above lo m = true) :
    (m.write a b).read a = b := by
  induction m generalizing lo with
  | nil =>
    simp only [Mem.write]
    split
    · simp [Mem.read, *]
    · simp [Mem.read]
  | cons e rest ih =>
    obtain ⟨k, v⟩ := e
    simp only [Mem.above, Bool.and_eq_true, decide_eq_true_eq] at h
    simp only [Mem.write]
    split
    · rename_i hk; subst hk
      split
      · rename_i hb; rw [hb]; exact read_below rest h.2 (by omega)
      · simp [Mem.read]
    · split
      · split
        · rename_i hlt hb
          rw [hb]
          simp only [Mem.read]
          split
          · omega
          · exact read_below rest h.2 (by omega)
        · simp [Mem.read]
      · rename_i hne hnlt
        simp only [Mem.read]
        split
        · omega
        · exact ih (k + 1) h.2

/-- The byte written reads back. -/
theorem read_write_same (m : Mem) (a : Nat) (b : Byte) (h : m.wf = true) : (m.write a b).read a = b :=
  read_write_same_above m a b 0 h

/-- A write leaves every other address alone. -/
theorem read_write_other (m : Mem) {a c : Nat} (b : Byte) (hc : c ≠ a) : (m.write a b).read c = m.read c := by
  induction m with
  | nil =>
    simp only [Mem.write]
    split
    · rfl
    · simp [Mem.read, Ne.symm hc]
  | cons e rest ih =>
    obtain ⟨k, v⟩ := e
    simp only [Mem.write]
    split
    · rename_i hk; subst hk
      split
      · simp [Mem.read, Ne.symm hc]
      · simp [Mem.read, Ne.symm hc]
    · split
      · split
        · rfl
        · simp [Mem.read, Ne.symm hc]
      · simp [Mem.read, ih]

/-- A store leaves every address outside its range alone. -/
theorem read_store_other (m : Mem) (a : Nat) (bs : List Byte) {c : Nat} (hc : c < a ∨ a + bs.length ≤ c) :
    (m.store a bs).read c = m.read c := by
  induction bs generalizing m a with
  | nil => rfl
  | cons b bs ih =>
    simp only [List.length_cons] at hc
    simp only [Mem.store]
    rw [ih (m.write a b) (a + 1) (by omega), read_write_other m b (by omega)]

/-- The bytes stored read back. -/
theorem bytes_store (m : Mem) (a : Nat) (bs : List Byte) (h : m.wf = true) : (m.store a bs).bytes a bs.length = bs := by
  induction bs generalizing m a with
  | nil => rfl
  | cons b bs ih =>
    simp only [Mem.store, List.length_cons, Mem.bytes]
    rw [ih (m.write a b) (a + 1) (wf_write m a b h), read_store_other _ _ _ (by omega), read_write_same m a b h]

end Sys2Proof.Laws
end

