-- ==== Sys2Proof/Laws/State.lean ====
section
/-! SUPPORT. One law for each field of the device under each shared update: which field an update writes, and that it leaves the others alone. -/
namespace Sys2Proof.Laws
open Sys2Proof.Machine


/-! ### setRg -/

@[simp] theorem Dev_setRg_modl (d : Dev) (pg o b : Nat) (v : W32) : (d.setRg pg o b v).modl = d.modl := rfl
@[simp] theorem Dev_setRg_power (d : Dev) (pg o b : Nat) (v : W32) : (d.setRg pg o b v).power = d.power := rfl
@[simp] theorem Dev_setRg_belv (d : Dev) (pg o b : Nat) (v : W32) : (d.setRg pg o b v).belv = d.belv := rfl
@[simp] theorem Dev_setRg_time (d : Dev) (pg o b : Nat) (v : W32) : (d.setRg pg o b v).time = d.time := rfl
@[simp] theorem Dev_setRg_sels (d : Dev) (pg o b : Nat) (v : W32) : (d.setRg pg o b v).sels = d.sels := rfl
@[simp] theorem Dev_setRg_latch (d : Dev) (pg o b : Nat) (v : W32) : (d.setRg pg o b v).latch = d.latch := rfl
@[simp] theorem Dev_setRg_snaps (d : Dev) (pg o b : Nat) (v : W32) : (d.setRg pg o b v).snaps = d.snaps := rfl
@[simp] theorem Dev_setRg_alertN (d : Dev) (pg o b : Nat) (v : W32) : (d.setRg pg o b v).alertN = d.alertN := rfl
@[simp] theorem Dev_setRg_pavs (d : Dev) (pg o b : Nat) (v : W32) : (d.setRg pg o b v).pavs = d.pavs := rfl
@[simp] theorem Dev_setRg_ctxs (d : Dev) (pg o b : Nat) (v : W32) : (d.setRg pg o b v).ctxs = d.ctxs := rfl
@[simp] theorem Dev_setRg_plots (d : Dev) (pg o b : Nat) (v : W32) : (d.setRg pg o b v).plots = d.plots := rfl
@[simp] theorem Dev_setRg_steps (d : Dev) (pg o b : Nat) (v : W32) : (d.setRg pg o b v).steps = d.steps := rfl
@[simp] theorem Dev_setRg_lastSteps (d : Dev) (pg o b : Nat) (v : W32) : (d.setRg pg o b v).lastSteps = d.lastSteps := rfl
@[simp] theorem Dev_setRg_kctx (d : Dev) (pg o b : Nat) (v : W32) : (d.setRg pg o b v).kctx = d.kctx := rfl
@[simp] theorem Dev_setRg_seqs (d : Dev) (pg o b : Nat) (v : W32) : (d.setRg pg o b v).seqs = d.seqs := rfl
@[simp] theorem Dev_setRg_rings (d : Dev) (pg o b : Nat) (v : W32) : (d.setRg pg o b v).rings = d.rings := rfl
@[simp] theorem Dev_setRg_accts (d : Dev) (pg o b : Nat) (v : W32) : (d.setRg pg o b v).accts = d.accts := rfl
@[simp] theorem Dev_setRg_remote (d : Dev) (pg o b : Nat) (v : W32) : (d.setRg pg o b v).remote = d.remote := rfl
@[simp] theorem Dev_setRg_keys (d : Dev) (pg o b : Nat) (v : W32) : (d.setRg pg o b v).keys = d.keys := rfl
@[simp] theorem Dev_setRg_lpddr (d : Dev) (pg o b : Nat) (v : W32) : (d.setRg pg o b v).lpddr = d.lpddr := rfl
@[simp] theorem Dev_setRg_burstKey (d : Dev) (pg o b : Nat) (v : W32) : (d.setRg pg o b v).burstKey = d.burstKey := rfl
@[simp] theorem Dev_setRg_dramBad (d : Dev) (pg o b : Nat) (v : W32) : (d.setRg pg o b v).dramBad = d.dramBad := rfl
@[simp] theorem Dev_setRg_pageBad (d : Dev) (pg o b : Nat) (v : W32) : (d.setRg pg o b v).pageBad = d.pageBad := rfl
@[simp] theorem Dev_setRg_pages (d : Dev) (pg o b : Nat) (v : W32) : (d.setRg pg o b v).pages = d.pages := rfl
@[simp] theorem Dev_setRg_memctl (d : Dev) (pg o b : Nat) (v : W32) : (d.setRg pg o b v).memctl = d.memctl := rfl
@[simp] theorem Dev_setRg_regions (d : Dev) (pg o b : Nat) (v : W32) : (d.setRg pg o b v).regions = d.regions := rfl
@[simp] theorem Dev_setRg_backing (d : Dev) (pg o b : Nat) (v : W32) : (d.setRg pg o b v).backing = d.backing := rfl
@[simp] theorem Dev_setRg_inPlace (d : Dev) (pg o b : Nat) (v : W32) : (d.setRg pg o b v).inPlace = d.inPlace := rfl
@[simp] theorem Dev_setRg_fencePrev (d : Dev) (pg o b : Nat) (v : W32) : (d.setRg pg o b v).fencePrev = d.fencePrev := rfl
@[simp] theorem Dev_setRg_tickEnd (d : Dev) (pg o b : Nat) (v : W32) : (d.setRg pg o b v).tickEnd = d.tickEnd := rfl
@[simp] theorem Dev_setRg_shards (d : Dev) (pg o b : Nat) (v : W32) : (d.setRg pg o b v).shards = d.shards := rfl
@[simp] theorem Dev_setRg_shardKeys (d : Dev) (pg o b : Nat) (v : W32) : (d.setRg pg o b v).shardKeys = d.shardKeys := rfl
@[simp] theorem Dev_setRg_pubKeys (d : Dev) (pg o b : Nat) (v : W32) : (d.setRg pg o b v).pubKeys = d.pubKeys := rfl
@[simp] theorem Dev_setRg_jobs (d : Dev) (pg o b : Nat) (v : W32) : (d.setRg pg o b v).jobs = d.jobs := rfl
@[simp] theorem Dev_setRg_xfers (d : Dev) (pg o b : Nat) (v : W32) : (d.setRg pg o b v).xfers = d.xfers := rfl
@[simp] theorem Dev_setRg_serial (d : Dev) (pg o b : Nat) (v : W32) : (d.setRg pg o b v).serial = d.serial := rfl
@[simp] theorem Dev_setRg_tagGen (d : Dev) (pg o b : Nat) (v : W32) : (d.setRg pg o b v).tagGen = d.tagGen := rfl
@[simp] theorem Dev_setRg_trackers (d : Dev) (pg o b : Nat) (v : W32) : (d.setRg pg o b v).trackers = d.trackers := rfl
@[simp] theorem Dev_setRg_arrivals (d : Dev) (pg o b : Nat) (v : W32) : (d.setRg pg o b v).arrivals = d.arrivals := rfl
@[simp] theorem Dev_setRg_unconf (d : Dev) (pg o b : Nat) (v : W32) : (d.setRg pg o b v).unconf = d.unconf := rfl
@[simp] theorem Dev_setRg_inject (d : Dev) (pg o b : Nat) (v : W32) : (d.setRg pg o b v).inject = d.inject := rfl
@[simp] theorem Dev_setRg_eject (d : Dev) (pg o b : Nat) (v : W32) : (d.setRg pg o b v).eject = d.eject := rfl
@[simp] theorem Dev_setRg_router (d : Dev) (pg o b : Nat) (v : W32) : (d.setRg pg o b v).router = d.router := rfl
@[simp] theorem Dev_setRg_ports (d : Dev) (pg o b : Nat) (v : W32) : (d.setRg pg o b v).ports = d.ports := rfl
@[simp] theorem Dev_setRg_conns (d : Dev) (pg o b : Nat) (v : W32) : (d.setRg pg o b v).conns = d.conns := rfl
@[simp] theorem Dev_setRg_sess (d : Dev) (pg o b : Nat) (v : W32) : (d.setRg pg o b v).sess = d.sess := rfl
@[simp] theorem Dev_setRg_links (d : Dev) (pg o b : Nat) (v : W32) : (d.setRg pg o b v).links = d.links := rfl
@[simp] theorem Dev_setRg_qps (d : Dev) (pg o b : Nat) (v : W32) : (d.setRg pg o b v).qps = d.qps := rfl
@[simp] theorem Dev_setRg_mrs (d : Dev) (pg o b : Nat) (v : W32) : (d.setRg pg o b v).mrs = d.mrs := rfl
@[simp] theorem Dev_setRg_hports (d : Dev) (pg o b : Nat) (v : W32) : (d.setRg pg o b v).hports = d.hports := rfl
@[simp] theorem Dev_setRg_ptp (d : Dev) (pg o b : Nat) (v : W32) : (d.setRg pg o b v).ptp = d.ptp := rfl
@[simp] theorem Dev_setRg_rf (d : Dev) (pg o b : Nat) (v : W32) : (d.setRg pg o b v).rf = d.rf := rfl
@[simp] theorem Dev_setRg_rfPush (d : Dev) (pg o b : Nat) (v : W32) : (d.setRg pg o b v).rfPush = d.rfPush := rfl
@[simp] theorem Dev_setRg_rfSse (d : Dev) (pg o b : Nat) (v : W32) : (d.setRg pg o b v).rfSse = d.rfSse := rfl
@[simp] theorem Dev_setRg_logins (d : Dev) (pg o b : Nat) (v : W32) : (d.setRg pg o b v).logins = d.logins := rfl
@[simp] theorem Dev_setRg_lockedAt (d : Dev) (pg o b : Nat) (v : W32) : (d.setRg pg o b v).lockedAt = d.lockedAt := rfl
@[simp] theorem Dev_setRg_clearRun (d : Dev) (pg o b : Nat) (v : W32) : (d.setRg pg o b v).clearRun = d.clearRun := rfl
@[simp] theorem Dev_setRg_log (d : Dev) (pg o b : Nat) (v : W32) : (d.setRg pg o b v).log = d.log := rfl
@[simp] theorem Dev_setRg_recov (d : Dev) (pg o b : Nat) (v : W32) : (d.setRg pg o b v).recov = d.recov := rfl
@[simp] theorem Dev_setRg_out (d : Dev) (pg o b : Nat) (v : W32) : (d.setRg pg o b v).out = d.out := rfl
@[simp] theorem Dev_setRg_free (d : Dev) (pg o b : Nat) (v : W32) : (d.setRg pg o b v).free = d.free := rfl

/-! ### setN -/

@[simp] theorem Dev_setN_modl (d : Dev) (pg o b v : Nat) : (d.setN pg o b v).modl = d.modl := rfl
@[simp] theorem Dev_setN_power (d : Dev) (pg o b v : Nat) : (d.setN pg o b v).power = d.power := rfl
@[simp] theorem Dev_setN_belv (d : Dev) (pg o b v : Nat) : (d.setN pg o b v).belv = d.belv := rfl
@[simp] theorem Dev_setN_time (d : Dev) (pg o b v : Nat) : (d.setN pg o b v).time = d.time := rfl
@[simp] theorem Dev_setN_sels (d : Dev) (pg o b v : Nat) : (d.setN pg o b v).sels = d.sels := rfl
@[simp] theorem Dev_setN_latch (d : Dev) (pg o b v : Nat) : (d.setN pg o b v).latch = d.latch := rfl
@[simp] theorem Dev_setN_snaps (d : Dev) (pg o b v : Nat) : (d.setN pg o b v).snaps = d.snaps := rfl
@[simp] theorem Dev_setN_alertN (d : Dev) (pg o b v : Nat) : (d.setN pg o b v).alertN = d.alertN := rfl
@[simp] theorem Dev_setN_pavs (d : Dev) (pg o b v : Nat) : (d.setN pg o b v).pavs = d.pavs := rfl
@[simp] theorem Dev_setN_ctxs (d : Dev) (pg o b v : Nat) : (d.setN pg o b v).ctxs = d.ctxs := rfl
@[simp] theorem Dev_setN_plots (d : Dev) (pg o b v : Nat) : (d.setN pg o b v).plots = d.plots := rfl
@[simp] theorem Dev_setN_steps (d : Dev) (pg o b v : Nat) : (d.setN pg o b v).steps = d.steps := rfl
@[simp] theorem Dev_setN_lastSteps (d : Dev) (pg o b v : Nat) : (d.setN pg o b v).lastSteps = d.lastSteps := rfl
@[simp] theorem Dev_setN_kctx (d : Dev) (pg o b v : Nat) : (d.setN pg o b v).kctx = d.kctx := rfl
@[simp] theorem Dev_setN_seqs (d : Dev) (pg o b v : Nat) : (d.setN pg o b v).seqs = d.seqs := rfl
@[simp] theorem Dev_setN_rings (d : Dev) (pg o b v : Nat) : (d.setN pg o b v).rings = d.rings := rfl
@[simp] theorem Dev_setN_accts (d : Dev) (pg o b v : Nat) : (d.setN pg o b v).accts = d.accts := rfl
@[simp] theorem Dev_setN_remote (d : Dev) (pg o b v : Nat) : (d.setN pg o b v).remote = d.remote := rfl
@[simp] theorem Dev_setN_keys (d : Dev) (pg o b v : Nat) : (d.setN pg o b v).keys = d.keys := rfl
@[simp] theorem Dev_setN_lpddr (d : Dev) (pg o b v : Nat) : (d.setN pg o b v).lpddr = d.lpddr := rfl
@[simp] theorem Dev_setN_burstKey (d : Dev) (pg o b v : Nat) : (d.setN pg o b v).burstKey = d.burstKey := rfl
@[simp] theorem Dev_setN_dramBad (d : Dev) (pg o b v : Nat) : (d.setN pg o b v).dramBad = d.dramBad := rfl
@[simp] theorem Dev_setN_pageBad (d : Dev) (pg o b v : Nat) : (d.setN pg o b v).pageBad = d.pageBad := rfl
@[simp] theorem Dev_setN_pages (d : Dev) (pg o b v : Nat) : (d.setN pg o b v).pages = d.pages := rfl
@[simp] theorem Dev_setN_memctl (d : Dev) (pg o b v : Nat) : (d.setN pg o b v).memctl = d.memctl := rfl
@[simp] theorem Dev_setN_regions (d : Dev) (pg o b v : Nat) : (d.setN pg o b v).regions = d.regions := rfl
@[simp] theorem Dev_setN_backing (d : Dev) (pg o b v : Nat) : (d.setN pg o b v).backing = d.backing := rfl
@[simp] theorem Dev_setN_inPlace (d : Dev) (pg o b v : Nat) : (d.setN pg o b v).inPlace = d.inPlace := rfl
@[simp] theorem Dev_setN_fencePrev (d : Dev) (pg o b v : Nat) : (d.setN pg o b v).fencePrev = d.fencePrev := rfl
@[simp] theorem Dev_setN_tickEnd (d : Dev) (pg o b v : Nat) : (d.setN pg o b v).tickEnd = d.tickEnd := rfl
@[simp] theorem Dev_setN_shards (d : Dev) (pg o b v : Nat) : (d.setN pg o b v).shards = d.shards := rfl
@[simp] theorem Dev_setN_shardKeys (d : Dev) (pg o b v : Nat) : (d.setN pg o b v).shardKeys = d.shardKeys := rfl
@[simp] theorem Dev_setN_pubKeys (d : Dev) (pg o b v : Nat) : (d.setN pg o b v).pubKeys = d.pubKeys := rfl
@[simp] theorem Dev_setN_jobs (d : Dev) (pg o b v : Nat) : (d.setN pg o b v).jobs = d.jobs := rfl
@[simp] theorem Dev_setN_xfers (d : Dev) (pg o b v : Nat) : (d.setN pg o b v).xfers = d.xfers := rfl
@[simp] theorem Dev_setN_serial (d : Dev) (pg o b v : Nat) : (d.setN pg o b v).serial = d.serial := rfl
@[simp] theorem Dev_setN_tagGen (d : Dev) (pg o b v : Nat) : (d.setN pg o b v).tagGen = d.tagGen := rfl
@[simp] theorem Dev_setN_trackers (d : Dev) (pg o b v : Nat) : (d.setN pg o b v).trackers = d.trackers := rfl
@[simp] theorem Dev_setN_arrivals (d : Dev) (pg o b v : Nat) : (d.setN pg o b v).arrivals = d.arrivals := rfl
@[simp] theorem Dev_setN_unconf (d : Dev) (pg o b v : Nat) : (d.setN pg o b v).unconf = d.unconf := rfl
@[simp] theorem Dev_setN_inject (d : Dev) (pg o b v : Nat) : (d.setN pg o b v).inject = d.inject := rfl
@[simp] theorem Dev_setN_eject (d : Dev) (pg o b v : Nat) : (d.setN pg o b v).eject = d.eject := rfl
@[simp] theorem Dev_setN_router (d : Dev) (pg o b v : Nat) : (d.setN pg o b v).router = d.router := rfl
@[simp] theorem Dev_setN_ports (d : Dev) (pg o b v : Nat) : (d.setN pg o b v).ports = d.ports := rfl
@[simp] theorem Dev_setN_conns (d : Dev) (pg o b v : Nat) : (d.setN pg o b v).conns = d.conns := rfl
@[simp] theorem Dev_setN_sess (d : Dev) (pg o b v : Nat) : (d.setN pg o b v).sess = d.sess := rfl
@[simp] theorem Dev_setN_links (d : Dev) (pg o b v : Nat) : (d.setN pg o b v).links = d.links := rfl
@[simp] theorem Dev_setN_qps (d : Dev) (pg o b v : Nat) : (d.setN pg o b v).qps = d.qps := rfl
@[simp] theorem Dev_setN_mrs (d : Dev) (pg o b v : Nat) : (d.setN pg o b v).mrs = d.mrs := rfl
@[simp] theorem Dev_setN_hports (d : Dev) (pg o b v : Nat) : (d.setN pg o b v).hports = d.hports := rfl
@[simp] theorem Dev_setN_ptp (d : Dev) (pg o b v : Nat) : (d.setN pg o b v).ptp = d.ptp := rfl
@[simp] theorem Dev_setN_rf (d : Dev) (pg o b v : Nat) : (d.setN pg o b v).rf = d.rf := rfl
@[simp] theorem Dev_setN_rfPush (d : Dev) (pg o b v : Nat) : (d.setN pg o b v).rfPush = d.rfPush := rfl
@[simp] theorem Dev_setN_rfSse (d : Dev) (pg o b v : Nat) : (d.setN pg o b v).rfSse = d.rfSse := rfl
@[simp] theorem Dev_setN_logins (d : Dev) (pg o b v : Nat) : (d.setN pg o b v).logins = d.logins := rfl
@[simp] theorem Dev_setN_lockedAt (d : Dev) (pg o b v : Nat) : (d.setN pg o b v).lockedAt = d.lockedAt := rfl
@[simp] theorem Dev_setN_clearRun (d : Dev) (pg o b v : Nat) : (d.setN pg o b v).clearRun = d.clearRun := rfl
@[simp] theorem Dev_setN_log (d : Dev) (pg o b v : Nat) : (d.setN pg o b v).log = d.log := rfl
@[simp] theorem Dev_setN_recov (d : Dev) (pg o b v : Nat) : (d.setN pg o b v).recov = d.recov := rfl
@[simp] theorem Dev_setN_out (d : Dev) (pg o b v : Nat) : (d.setN pg o b v).out = d.out := rfl
@[simp] theorem Dev_setN_free (d : Dev) (pg o b v : Nat) : (d.setN pg o b v).free = d.free := rfl

/-! ### set64 -/

@[simp] theorem Dev_set64_modl (d : Dev) (pg o b v : Nat) : (d.set64 pg o b v).modl = d.modl := rfl
@[simp] theorem Dev_set64_power (d : Dev) (pg o b v : Nat) : (d.set64 pg o b v).power = d.power := rfl
@[simp] theorem Dev_set64_belv (d : Dev) (pg o b v : Nat) : (d.set64 pg o b v).belv = d.belv := rfl
@[simp] theorem Dev_set64_time (d : Dev) (pg o b v : Nat) : (d.set64 pg o b v).time = d.time := rfl
@[simp] theorem Dev_set64_sels (d : Dev) (pg o b v : Nat) : (d.set64 pg o b v).sels = d.sels := rfl
@[simp] theorem Dev_set64_latch (d : Dev) (pg o b v : Nat) : (d.set64 pg o b v).latch = d.latch := rfl
@[simp] theorem Dev_set64_snaps (d : Dev) (pg o b v : Nat) : (d.set64 pg o b v).snaps = d.snaps := rfl
@[simp] theorem Dev_set64_alertN (d : Dev) (pg o b v : Nat) : (d.set64 pg o b v).alertN = d.alertN := rfl
@[simp] theorem Dev_set64_pavs (d : Dev) (pg o b v : Nat) : (d.set64 pg o b v).pavs = d.pavs := rfl
@[simp] theorem Dev_set64_ctxs (d : Dev) (pg o b v : Nat) : (d.set64 pg o b v).ctxs = d.ctxs := rfl
@[simp] theorem Dev_set64_plots (d : Dev) (pg o b v : Nat) : (d.set64 pg o b v).plots = d.plots := rfl
@[simp] theorem Dev_set64_steps (d : Dev) (pg o b v : Nat) : (d.set64 pg o b v).steps = d.steps := rfl
@[simp] theorem Dev_set64_lastSteps (d : Dev) (pg o b v : Nat) : (d.set64 pg o b v).lastSteps = d.lastSteps := rfl
@[simp] theorem Dev_set64_kctx (d : Dev) (pg o b v : Nat) : (d.set64 pg o b v).kctx = d.kctx := rfl
@[simp] theorem Dev_set64_seqs (d : Dev) (pg o b v : Nat) : (d.set64 pg o b v).seqs = d.seqs := rfl
@[simp] theorem Dev_set64_rings (d : Dev) (pg o b v : Nat) : (d.set64 pg o b v).rings = d.rings := rfl
@[simp] theorem Dev_set64_accts (d : Dev) (pg o b v : Nat) : (d.set64 pg o b v).accts = d.accts := rfl
@[simp] theorem Dev_set64_remote (d : Dev) (pg o b v : Nat) : (d.set64 pg o b v).remote = d.remote := rfl
@[simp] theorem Dev_set64_keys (d : Dev) (pg o b v : Nat) : (d.set64 pg o b v).keys = d.keys := rfl
@[simp] theorem Dev_set64_lpddr (d : Dev) (pg o b v : Nat) : (d.set64 pg o b v).lpddr = d.lpddr := rfl
@[simp] theorem Dev_set64_burstKey (d : Dev) (pg o b v : Nat) : (d.set64 pg o b v).burstKey = d.burstKey := rfl
@[simp] theorem Dev_set64_dramBad (d : Dev) (pg o b v : Nat) : (d.set64 pg o b v).dramBad = d.dramBad := rfl
@[simp] theorem Dev_set64_pageBad (d : Dev) (pg o b v : Nat) : (d.set64 pg o b v).pageBad = d.pageBad := rfl
@[simp] theorem Dev_set64_pages (d : Dev) (pg o b v : Nat) : (d.set64 pg o b v).pages = d.pages := rfl
@[simp] theorem Dev_set64_memctl (d : Dev) (pg o b v : Nat) : (d.set64 pg o b v).memctl = d.memctl := rfl
@[simp] theorem Dev_set64_regions (d : Dev) (pg o b v : Nat) : (d.set64 pg o b v).regions = d.regions := rfl
@[simp] theorem Dev_set64_backing (d : Dev) (pg o b v : Nat) : (d.set64 pg o b v).backing = d.backing := rfl
@[simp] theorem Dev_set64_inPlace (d : Dev) (pg o b v : Nat) : (d.set64 pg o b v).inPlace = d.inPlace := rfl
@[simp] theorem Dev_set64_fencePrev (d : Dev) (pg o b v : Nat) : (d.set64 pg o b v).fencePrev = d.fencePrev := rfl
@[simp] theorem Dev_set64_tickEnd (d : Dev) (pg o b v : Nat) : (d.set64 pg o b v).tickEnd = d.tickEnd := rfl
@[simp] theorem Dev_set64_shards (d : Dev) (pg o b v : Nat) : (d.set64 pg o b v).shards = d.shards := rfl
@[simp] theorem Dev_set64_shardKeys (d : Dev) (pg o b v : Nat) : (d.set64 pg o b v).shardKeys = d.shardKeys := rfl
@[simp] theorem Dev_set64_pubKeys (d : Dev) (pg o b v : Nat) : (d.set64 pg o b v).pubKeys = d.pubKeys := rfl
@[simp] theorem Dev_set64_jobs (d : Dev) (pg o b v : Nat) : (d.set64 pg o b v).jobs = d.jobs := rfl
@[simp] theorem Dev_set64_xfers (d : Dev) (pg o b v : Nat) : (d.set64 pg o b v).xfers = d.xfers := rfl
@[simp] theorem Dev_set64_serial (d : Dev) (pg o b v : Nat) : (d.set64 pg o b v).serial = d.serial := rfl
@[simp] theorem Dev_set64_tagGen (d : Dev) (pg o b v : Nat) : (d.set64 pg o b v).tagGen = d.tagGen := rfl
@[simp] theorem Dev_set64_trackers (d : Dev) (pg o b v : Nat) : (d.set64 pg o b v).trackers = d.trackers := rfl
@[simp] theorem Dev_set64_arrivals (d : Dev) (pg o b v : Nat) : (d.set64 pg o b v).arrivals = d.arrivals := rfl
@[simp] theorem Dev_set64_unconf (d : Dev) (pg o b v : Nat) : (d.set64 pg o b v).unconf = d.unconf := rfl
@[simp] theorem Dev_set64_inject (d : Dev) (pg o b v : Nat) : (d.set64 pg o b v).inject = d.inject := rfl
@[simp] theorem Dev_set64_eject (d : Dev) (pg o b v : Nat) : (d.set64 pg o b v).eject = d.eject := rfl
@[simp] theorem Dev_set64_router (d : Dev) (pg o b v : Nat) : (d.set64 pg o b v).router = d.router := rfl
@[simp] theorem Dev_set64_ports (d : Dev) (pg o b v : Nat) : (d.set64 pg o b v).ports = d.ports := rfl
@[simp] theorem Dev_set64_conns (d : Dev) (pg o b v : Nat) : (d.set64 pg o b v).conns = d.conns := rfl
@[simp] theorem Dev_set64_sess (d : Dev) (pg o b v : Nat) : (d.set64 pg o b v).sess = d.sess := rfl
@[simp] theorem Dev_set64_links (d : Dev) (pg o b v : Nat) : (d.set64 pg o b v).links = d.links := rfl
@[simp] theorem Dev_set64_qps (d : Dev) (pg o b v : Nat) : (d.set64 pg o b v).qps = d.qps := rfl
@[simp] theorem Dev_set64_mrs (d : Dev) (pg o b v : Nat) : (d.set64 pg o b v).mrs = d.mrs := rfl
@[simp] theorem Dev_set64_hports (d : Dev) (pg o b v : Nat) : (d.set64 pg o b v).hports = d.hports := rfl
@[simp] theorem Dev_set64_ptp (d : Dev) (pg o b v : Nat) : (d.set64 pg o b v).ptp = d.ptp := rfl
@[simp] theorem Dev_set64_rf (d : Dev) (pg o b v : Nat) : (d.set64 pg o b v).rf = d.rf := rfl
@[simp] theorem Dev_set64_rfPush (d : Dev) (pg o b v : Nat) : (d.set64 pg o b v).rfPush = d.rfPush := rfl
@[simp] theorem Dev_set64_rfSse (d : Dev) (pg o b v : Nat) : (d.set64 pg o b v).rfSse = d.rfSse := rfl
@[simp] theorem Dev_set64_logins (d : Dev) (pg o b v : Nat) : (d.set64 pg o b v).logins = d.logins := rfl
@[simp] theorem Dev_set64_lockedAt (d : Dev) (pg o b v : Nat) : (d.set64 pg o b v).lockedAt = d.lockedAt := rfl
@[simp] theorem Dev_set64_clearRun (d : Dev) (pg o b v : Nat) : (d.set64 pg o b v).clearRun = d.clearRun := rfl
@[simp] theorem Dev_set64_log (d : Dev) (pg o b v : Nat) : (d.set64 pg o b v).log = d.log := rfl
@[simp] theorem Dev_set64_recov (d : Dev) (pg o b v : Nat) : (d.set64 pg o b v).recov = d.recov := rfl
@[simp] theorem Dev_set64_out (d : Dev) (pg o b v : Nat) : (d.set64 pg o b v).out = d.out := rfl
@[simp] theorem Dev_set64_free (d : Dev) (pg o b v : Nat) : (d.set64 pg o b v).free = d.free := rfl

/-! ### countB -/

@[simp] theorem Dev_countB_modl (d : Dev) (pg o b n : Nat) : (d.countB pg o b n).modl = d.modl := by unfold Dev.countB; split <;> rfl
@[simp] theorem Dev_countB_power (d : Dev) (pg o b n : Nat) : (d.countB pg o b n).power = d.power := by unfold Dev.countB; split <;> rfl
@[simp] theorem Dev_countB_belv (d : Dev) (pg o b n : Nat) : (d.countB pg o b n).belv = d.belv := by unfold Dev.countB; split <;> rfl
@[simp] theorem Dev_countB_time (d : Dev) (pg o b n : Nat) : (d.countB pg o b n).time = d.time := by unfold Dev.countB; split <;> rfl
@[simp] theorem Dev_countB_sels (d : Dev) (pg o b n : Nat) : (d.countB pg o b n).sels = d.sels := by unfold Dev.countB; split <;> rfl
@[simp] theorem Dev_countB_latch (d : Dev) (pg o b n : Nat) : (d.countB pg o b n).latch = d.latch := by unfold Dev.countB; split <;> rfl
@[simp] theorem Dev_countB_snaps (d : Dev) (pg o b n : Nat) : (d.countB pg o b n).snaps = d.snaps := by unfold Dev.countB; split <;> rfl
@[simp] theorem Dev_countB_alertN (d : Dev) (pg o b n : Nat) : (d.countB pg o b n).alertN = d.alertN := by unfold Dev.countB; split <;> rfl
@[simp] theorem Dev_countB_pavs (d : Dev) (pg o b n : Nat) : (d.countB pg o b n).pavs = d.pavs := by unfold Dev.countB; split <;> rfl
@[simp] theorem Dev_countB_ctxs (d : Dev) (pg o b n : Nat) : (d.countB pg o b n).ctxs = d.ctxs := by unfold Dev.countB; split <;> rfl
@[simp] theorem Dev_countB_plots (d : Dev) (pg o b n : Nat) : (d.countB pg o b n).plots = d.plots := by unfold Dev.countB; split <;> rfl
@[simp] theorem Dev_countB_steps (d : Dev) (pg o b n : Nat) : (d.countB pg o b n).steps = d.steps := by unfold Dev.countB; split <;> rfl
@[simp] theorem Dev_countB_lastSteps (d : Dev) (pg o b n : Nat) : (d.countB pg o b n).lastSteps = d.lastSteps := by unfold Dev.countB; split <;> rfl
@[simp] theorem Dev_countB_kctx (d : Dev) (pg o b n : Nat) : (d.countB pg o b n).kctx = d.kctx := by unfold Dev.countB; split <;> rfl
@[simp] theorem Dev_countB_seqs (d : Dev) (pg o b n : Nat) : (d.countB pg o b n).seqs = d.seqs := by unfold Dev.countB; split <;> rfl
@[simp] theorem Dev_countB_rings (d : Dev) (pg o b n : Nat) : (d.countB pg o b n).rings = d.rings := by unfold Dev.countB; split <;> rfl
@[simp] theorem Dev_countB_accts (d : Dev) (pg o b n : Nat) : (d.countB pg o b n).accts = d.accts := by unfold Dev.countB; split <;> rfl
@[simp] theorem Dev_countB_remote (d : Dev) (pg o b n : Nat) : (d.countB pg o b n).remote = d.remote := by unfold Dev.countB; split <;> rfl
@[simp] theorem Dev_countB_keys (d : Dev) (pg o b n : Nat) : (d.countB pg o b n).keys = d.keys := by unfold Dev.countB; split <;> rfl
@[simp] theorem Dev_countB_lpddr (d : Dev) (pg o b n : Nat) : (d.countB pg o b n).lpddr = d.lpddr := by unfold Dev.countB; split <;> rfl
@[simp] theorem Dev_countB_burstKey (d : Dev) (pg o b n : Nat) : (d.countB pg o b n).burstKey = d.burstKey := by unfold Dev.countB; split <;> rfl
@[simp] theorem Dev_countB_dramBad (d : Dev) (pg o b n : Nat) : (d.countB pg o b n).dramBad = d.dramBad := by unfold Dev.countB; split <;> rfl
@[simp] theorem Dev_countB_pageBad (d : Dev) (pg o b n : Nat) : (d.countB pg o b n).pageBad = d.pageBad := by unfold Dev.countB; split <;> rfl
@[simp] theorem Dev_countB_pages (d : Dev) (pg o b n : Nat) : (d.countB pg o b n).pages = d.pages := by unfold Dev.countB; split <;> rfl
@[simp] theorem Dev_countB_memctl (d : Dev) (pg o b n : Nat) : (d.countB pg o b n).memctl = d.memctl := by unfold Dev.countB; split <;> rfl
@[simp] theorem Dev_countB_regions (d : Dev) (pg o b n : Nat) : (d.countB pg o b n).regions = d.regions := by unfold Dev.countB; split <;> rfl
@[simp] theorem Dev_countB_backing (d : Dev) (pg o b n : Nat) : (d.countB pg o b n).backing = d.backing := by unfold Dev.countB; split <;> rfl
@[simp] theorem Dev_countB_inPlace (d : Dev) (pg o b n : Nat) : (d.countB pg o b n).inPlace = d.inPlace := by unfold Dev.countB; split <;> rfl
@[simp] theorem Dev_countB_fencePrev (d : Dev) (pg o b n : Nat) : (d.countB pg o b n).fencePrev = d.fencePrev := by unfold Dev.countB; split <;> rfl
@[simp] theorem Dev_countB_tickEnd (d : Dev) (pg o b n : Nat) : (d.countB pg o b n).tickEnd = d.tickEnd := by unfold Dev.countB; split <;> rfl
@[simp] theorem Dev_countB_shards (d : Dev) (pg o b n : Nat) : (d.countB pg o b n).shards = d.shards := by unfold Dev.countB; split <;> rfl
@[simp] theorem Dev_countB_shardKeys (d : Dev) (pg o b n : Nat) : (d.countB pg o b n).shardKeys = d.shardKeys := by unfold Dev.countB; split <;> rfl
@[simp] theorem Dev_countB_pubKeys (d : Dev) (pg o b n : Nat) : (d.countB pg o b n).pubKeys = d.pubKeys := by unfold Dev.countB; split <;> rfl
@[simp] theorem Dev_countB_jobs (d : Dev) (pg o b n : Nat) : (d.countB pg o b n).jobs = d.jobs := by unfold Dev.countB; split <;> rfl
@[simp] theorem Dev_countB_xfers (d : Dev) (pg o b n : Nat) : (d.countB pg o b n).xfers = d.xfers := by unfold Dev.countB; split <;> rfl
@[simp] theorem Dev_countB_serial (d : Dev) (pg o b n : Nat) : (d.countB pg o b n).serial = d.serial := by unfold Dev.countB; split <;> rfl
@[simp] theorem Dev_countB_tagGen (d : Dev) (pg o b n : Nat) : (d.countB pg o b n).tagGen = d.tagGen := by unfold Dev.countB; split <;> rfl
@[simp] theorem Dev_countB_trackers (d : Dev) (pg o b n : Nat) : (d.countB pg o b n).trackers = d.trackers := by unfold Dev.countB; split <;> rfl
@[simp] theorem Dev_countB_arrivals (d : Dev) (pg o b n : Nat) : (d.countB pg o b n).arrivals = d.arrivals := by unfold Dev.countB; split <;> rfl
@[simp] theorem Dev_countB_unconf (d : Dev) (pg o b n : Nat) : (d.countB pg o b n).unconf = d.unconf := by unfold Dev.countB; split <;> rfl
@[simp] theorem Dev_countB_inject (d : Dev) (pg o b n : Nat) : (d.countB pg o b n).inject = d.inject := by unfold Dev.countB; split <;> rfl
@[simp] theorem Dev_countB_eject (d : Dev) (pg o b n : Nat) : (d.countB pg o b n).eject = d.eject := by unfold Dev.countB; split <;> rfl
@[simp] theorem Dev_countB_router (d : Dev) (pg o b n : Nat) : (d.countB pg o b n).router = d.router := by unfold Dev.countB; split <;> rfl
@[simp] theorem Dev_countB_ports (d : Dev) (pg o b n : Nat) : (d.countB pg o b n).ports = d.ports := by unfold Dev.countB; split <;> rfl
@[simp] theorem Dev_countB_conns (d : Dev) (pg o b n : Nat) : (d.countB pg o b n).conns = d.conns := by unfold Dev.countB; split <;> rfl
@[simp] theorem Dev_countB_sess (d : Dev) (pg o b n : Nat) : (d.countB pg o b n).sess = d.sess := by unfold Dev.countB; split <;> rfl
@[simp] theorem Dev_countB_links (d : Dev) (pg o b n : Nat) : (d.countB pg o b n).links = d.links := by unfold Dev.countB; split <;> rfl
@[simp] theorem Dev_countB_qps (d : Dev) (pg o b n : Nat) : (d.countB pg o b n).qps = d.qps := by unfold Dev.countB; split <;> rfl
@[simp] theorem Dev_countB_mrs (d : Dev) (pg o b n : Nat) : (d.countB pg o b n).mrs = d.mrs := by unfold Dev.countB; split <;> rfl
@[simp] theorem Dev_countB_hports (d : Dev) (pg o b n : Nat) : (d.countB pg o b n).hports = d.hports := by unfold Dev.countB; split <;> rfl
@[simp] theorem Dev_countB_ptp (d : Dev) (pg o b n : Nat) : (d.countB pg o b n).ptp = d.ptp := by unfold Dev.countB; split <;> rfl
@[simp] theorem Dev_countB_rf (d : Dev) (pg o b n : Nat) : (d.countB pg o b n).rf = d.rf := by unfold Dev.countB; split <;> rfl
@[simp] theorem Dev_countB_rfPush (d : Dev) (pg o b n : Nat) : (d.countB pg o b n).rfPush = d.rfPush := by unfold Dev.countB; split <;> rfl
@[simp] theorem Dev_countB_rfSse (d : Dev) (pg o b n : Nat) : (d.countB pg o b n).rfSse = d.rfSse := by unfold Dev.countB; split <;> rfl
@[simp] theorem Dev_countB_logins (d : Dev) (pg o b n : Nat) : (d.countB pg o b n).logins = d.logins := by unfold Dev.countB; split <;> rfl
@[simp] theorem Dev_countB_lockedAt (d : Dev) (pg o b n : Nat) : (d.countB pg o b n).lockedAt = d.lockedAt := by unfold Dev.countB; split <;> rfl
@[simp] theorem Dev_countB_clearRun (d : Dev) (pg o b n : Nat) : (d.countB pg o b n).clearRun = d.clearRun := by unfold Dev.countB; split <;> rfl
@[simp] theorem Dev_countB_log (d : Dev) (pg o b n : Nat) : (d.countB pg o b n).log = d.log := by unfold Dev.countB; split <;> rfl
@[simp] theorem Dev_countB_recov (d : Dev) (pg o b n : Nat) : (d.countB pg o b n).recov = d.recov := by unfold Dev.countB; split <;> rfl
@[simp] theorem Dev_countB_out (d : Dev) (pg o b n : Nat) : (d.countB pg o b n).out = d.out := by unfold Dev.countB; split <;> rfl
@[simp] theorem Dev_countB_free (d : Dev) (pg o b n : Nat) : (d.countB pg o b n).free = d.free := by unfold Dev.countB; split <;> rfl

/-! ### count -/

@[simp] theorem Dev_count_modl (d : Dev) (pg o n : Nat) : (d.count pg o n).modl = d.modl := Dev_countB_modl d pg o 0 n
@[simp] theorem Dev_count_power (d : Dev) (pg o n : Nat) : (d.count pg o n).power = d.power := Dev_countB_power d pg o 0 n
@[simp] theorem Dev_count_belv (d : Dev) (pg o n : Nat) : (d.count pg o n).belv = d.belv := Dev_countB_belv d pg o 0 n
@[simp] theorem Dev_count_time (d : Dev) (pg o n : Nat) : (d.count pg o n).time = d.time := Dev_countB_time d pg o 0 n
@[simp] theorem Dev_count_sels (d : Dev) (pg o n : Nat) : (d.count pg o n).sels = d.sels := Dev_countB_sels d pg o 0 n
@[simp] theorem Dev_count_latch (d : Dev) (pg o n : Nat) : (d.count pg o n).latch = d.latch := Dev_countB_latch d pg o 0 n
@[simp] theorem Dev_count_snaps (d : Dev) (pg o n : Nat) : (d.count pg o n).snaps = d.snaps := Dev_countB_snaps d pg o 0 n
@[simp] theorem Dev_count_alertN (d : Dev) (pg o n : Nat) : (d.count pg o n).alertN = d.alertN := Dev_countB_alertN d pg o 0 n
@[simp] theorem Dev_count_pavs (d : Dev) (pg o n : Nat) : (d.count pg o n).pavs = d.pavs := Dev_countB_pavs d pg o 0 n
@[simp] theorem Dev_count_ctxs (d : Dev) (pg o n : Nat) : (d.count pg o n).ctxs = d.ctxs := Dev_countB_ctxs d pg o 0 n
@[simp] theorem Dev_count_plots (d : Dev) (pg o n : Nat) : (d.count pg o n).plots = d.plots := Dev_countB_plots d pg o 0 n
@[simp] theorem Dev_count_steps (d : Dev) (pg o n : Nat) : (d.count pg o n).steps = d.steps := Dev_countB_steps d pg o 0 n
@[simp] theorem Dev_count_lastSteps (d : Dev) (pg o n : Nat) : (d.count pg o n).lastSteps = d.lastSteps := Dev_countB_lastSteps d pg o 0 n
@[simp] theorem Dev_count_kctx (d : Dev) (pg o n : Nat) : (d.count pg o n).kctx = d.kctx := Dev_countB_kctx d pg o 0 n
@[simp] theorem Dev_count_seqs (d : Dev) (pg o n : Nat) : (d.count pg o n).seqs = d.seqs := Dev_countB_seqs d pg o 0 n
@[simp] theorem Dev_count_rings (d : Dev) (pg o n : Nat) : (d.count pg o n).rings = d.rings := Dev_countB_rings d pg o 0 n
@[simp] theorem Dev_count_accts (d : Dev) (pg o n : Nat) : (d.count pg o n).accts = d.accts := Dev_countB_accts d pg o 0 n
@[simp] theorem Dev_count_remote (d : Dev) (pg o n : Nat) : (d.count pg o n).remote = d.remote := Dev_countB_remote d pg o 0 n
@[simp] theorem Dev_count_keys (d : Dev) (pg o n : Nat) : (d.count pg o n).keys = d.keys := Dev_countB_keys d pg o 0 n
@[simp] theorem Dev_count_lpddr (d : Dev) (pg o n : Nat) : (d.count pg o n).lpddr = d.lpddr := Dev_countB_lpddr d pg o 0 n
@[simp] theorem Dev_count_burstKey (d : Dev) (pg o n : Nat) : (d.count pg o n).burstKey = d.burstKey := Dev_countB_burstKey d pg o 0 n
@[simp] theorem Dev_count_dramBad (d : Dev) (pg o n : Nat) : (d.count pg o n).dramBad = d.dramBad := Dev_countB_dramBad d pg o 0 n
@[simp] theorem Dev_count_pageBad (d : Dev) (pg o n : Nat) : (d.count pg o n).pageBad = d.pageBad := Dev_countB_pageBad d pg o 0 n
@[simp] theorem Dev_count_pages (d : Dev) (pg o n : Nat) : (d.count pg o n).pages = d.pages := Dev_countB_pages d pg o 0 n
@[simp] theorem Dev_count_memctl (d : Dev) (pg o n : Nat) : (d.count pg o n).memctl = d.memctl := Dev_countB_memctl d pg o 0 n
@[simp] theorem Dev_count_regions (d : Dev) (pg o n : Nat) : (d.count pg o n).regions = d.regions := Dev_countB_regions d pg o 0 n
@[simp] theorem Dev_count_backing (d : Dev) (pg o n : Nat) : (d.count pg o n).backing = d.backing := Dev_countB_backing d pg o 0 n
@[simp] theorem Dev_count_inPlace (d : Dev) (pg o n : Nat) : (d.count pg o n).inPlace = d.inPlace := Dev_countB_inPlace d pg o 0 n
@[simp] theorem Dev_count_fencePrev (d : Dev) (pg o n : Nat) : (d.count pg o n).fencePrev = d.fencePrev := Dev_countB_fencePrev d pg o 0 n
@[simp] theorem Dev_count_tickEnd (d : Dev) (pg o n : Nat) : (d.count pg o n).tickEnd = d.tickEnd := Dev_countB_tickEnd d pg o 0 n
@[simp] theorem Dev_count_shards (d : Dev) (pg o n : Nat) : (d.count pg o n).shards = d.shards := Dev_countB_shards d pg o 0 n
@[simp] theorem Dev_count_shardKeys (d : Dev) (pg o n : Nat) : (d.count pg o n).shardKeys = d.shardKeys := Dev_countB_shardKeys d pg o 0 n
@[simp] theorem Dev_count_pubKeys (d : Dev) (pg o n : Nat) : (d.count pg o n).pubKeys = d.pubKeys := Dev_countB_pubKeys d pg o 0 n
@[simp] theorem Dev_count_jobs (d : Dev) (pg o n : Nat) : (d.count pg o n).jobs = d.jobs := Dev_countB_jobs d pg o 0 n
@[simp] theorem Dev_count_xfers (d : Dev) (pg o n : Nat) : (d.count pg o n).xfers = d.xfers := Dev_countB_xfers d pg o 0 n
@[simp] theorem Dev_count_serial (d : Dev) (pg o n : Nat) : (d.count pg o n).serial = d.serial := Dev_countB_serial d pg o 0 n
@[simp] theorem Dev_count_tagGen (d : Dev) (pg o n : Nat) : (d.count pg o n).tagGen = d.tagGen := Dev_countB_tagGen d pg o 0 n
@[simp] theorem Dev_count_trackers (d : Dev) (pg o n : Nat) : (d.count pg o n).trackers = d.trackers := Dev_countB_trackers d pg o 0 n
@[simp] theorem Dev_count_arrivals (d : Dev) (pg o n : Nat) : (d.count pg o n).arrivals = d.arrivals := Dev_countB_arrivals d pg o 0 n
@[simp] theorem Dev_count_unconf (d : Dev) (pg o n : Nat) : (d.count pg o n).unconf = d.unconf := Dev_countB_unconf d pg o 0 n
@[simp] theorem Dev_count_inject (d : Dev) (pg o n : Nat) : (d.count pg o n).inject = d.inject := Dev_countB_inject d pg o 0 n
@[simp] theorem Dev_count_eject (d : Dev) (pg o n : Nat) : (d.count pg o n).eject = d.eject := Dev_countB_eject d pg o 0 n
@[simp] theorem Dev_count_router (d : Dev) (pg o n : Nat) : (d.count pg o n).router = d.router := Dev_countB_router d pg o 0 n
@[simp] theorem Dev_count_ports (d : Dev) (pg o n : Nat) : (d.count pg o n).ports = d.ports := Dev_countB_ports d pg o 0 n
@[simp] theorem Dev_count_conns (d : Dev) (pg o n : Nat) : (d.count pg o n).conns = d.conns := Dev_countB_conns d pg o 0 n
@[simp] theorem Dev_count_sess (d : Dev) (pg o n : Nat) : (d.count pg o n).sess = d.sess := Dev_countB_sess d pg o 0 n
@[simp] theorem Dev_count_links (d : Dev) (pg o n : Nat) : (d.count pg o n).links = d.links := Dev_countB_links d pg o 0 n
@[simp] theorem Dev_count_qps (d : Dev) (pg o n : Nat) : (d.count pg o n).qps = d.qps := Dev_countB_qps d pg o 0 n
@[simp] theorem Dev_count_mrs (d : Dev) (pg o n : Nat) : (d.count pg o n).mrs = d.mrs := Dev_countB_mrs d pg o 0 n
@[simp] theorem Dev_count_hports (d : Dev) (pg o n : Nat) : (d.count pg o n).hports = d.hports := Dev_countB_hports d pg o 0 n
@[simp] theorem Dev_count_ptp (d : Dev) (pg o n : Nat) : (d.count pg o n).ptp = d.ptp := Dev_countB_ptp d pg o 0 n
@[simp] theorem Dev_count_rf (d : Dev) (pg o n : Nat) : (d.count pg o n).rf = d.rf := Dev_countB_rf d pg o 0 n
@[simp] theorem Dev_count_rfPush (d : Dev) (pg o n : Nat) : (d.count pg o n).rfPush = d.rfPush := Dev_countB_rfPush d pg o 0 n
@[simp] theorem Dev_count_rfSse (d : Dev) (pg o n : Nat) : (d.count pg o n).rfSse = d.rfSse := Dev_countB_rfSse d pg o 0 n
@[simp] theorem Dev_count_logins (d : Dev) (pg o n : Nat) : (d.count pg o n).logins = d.logins := Dev_countB_logins d pg o 0 n
@[simp] theorem Dev_count_lockedAt (d : Dev) (pg o n : Nat) : (d.count pg o n).lockedAt = d.lockedAt := Dev_countB_lockedAt d pg o 0 n
@[simp] theorem Dev_count_clearRun (d : Dev) (pg o n : Nat) : (d.count pg o n).clearRun = d.clearRun := Dev_countB_clearRun d pg o 0 n
@[simp] theorem Dev_count_log (d : Dev) (pg o n : Nat) : (d.count pg o n).log = d.log := Dev_countB_log d pg o 0 n
@[simp] theorem Dev_count_recov (d : Dev) (pg o n : Nat) : (d.count pg o n).recov = d.recov := Dev_countB_recov d pg o 0 n
@[simp] theorem Dev_count_out (d : Dev) (pg o n : Nat) : (d.count pg o n).out = d.out := Dev_countB_out d pg o 0 n
@[simp] theorem Dev_count_free (d : Dev) (pg o n : Nat) : (d.count pg o n).free = d.free := Dev_countB_free d pg o 0 n

/-! ### emit -/

@[simp] theorem Dev_emit_modl (d : Dev) (x : Out) : (d.emit x).modl = d.modl := rfl
@[simp] theorem Dev_emit_power (d : Dev) (x : Out) : (d.emit x).power = d.power := rfl
@[simp] theorem Dev_emit_belv (d : Dev) (x : Out) : (d.emit x).belv = d.belv := rfl
@[simp] theorem Dev_emit_time (d : Dev) (x : Out) : (d.emit x).time = d.time := rfl
@[simp] theorem Dev_emit_regs (d : Dev) (x : Out) : (d.emit x).regs = d.regs := rfl
@[simp] theorem Dev_emit_sels (d : Dev) (x : Out) : (d.emit x).sels = d.sels := rfl
@[simp] theorem Dev_emit_latch (d : Dev) (x : Out) : (d.emit x).latch = d.latch := rfl
@[simp] theorem Dev_emit_snaps (d : Dev) (x : Out) : (d.emit x).snaps = d.snaps := rfl
@[simp] theorem Dev_emit_alertN (d : Dev) (x : Out) : (d.emit x).alertN = d.alertN := rfl
@[simp] theorem Dev_emit_pavs (d : Dev) (x : Out) : (d.emit x).pavs = d.pavs := rfl
@[simp] theorem Dev_emit_ctxs (d : Dev) (x : Out) : (d.emit x).ctxs = d.ctxs := rfl
@[simp] theorem Dev_emit_plots (d : Dev) (x : Out) : (d.emit x).plots = d.plots := rfl
@[simp] theorem Dev_emit_steps (d : Dev) (x : Out) : (d.emit x).steps = d.steps := rfl
@[simp] theorem Dev_emit_lastSteps (d : Dev) (x : Out) : (d.emit x).lastSteps = d.lastSteps := rfl
@[simp] theorem Dev_emit_kctx (d : Dev) (x : Out) : (d.emit x).kctx = d.kctx := rfl
@[simp] theorem Dev_emit_seqs (d : Dev) (x : Out) : (d.emit x).seqs = d.seqs := rfl
@[simp] theorem Dev_emit_rings (d : Dev) (x : Out) : (d.emit x).rings = d.rings := rfl
@[simp] theorem Dev_emit_accts (d : Dev) (x : Out) : (d.emit x).accts = d.accts := rfl
@[simp] theorem Dev_emit_remote (d : Dev) (x : Out) : (d.emit x).remote = d.remote := rfl
@[simp] theorem Dev_emit_keys (d : Dev) (x : Out) : (d.emit x).keys = d.keys := rfl
@[simp] theorem Dev_emit_lpddr (d : Dev) (x : Out) : (d.emit x).lpddr = d.lpddr := rfl
@[simp] theorem Dev_emit_burstKey (d : Dev) (x : Out) : (d.emit x).burstKey = d.burstKey := rfl
@[simp] theorem Dev_emit_dramBad (d : Dev) (x : Out) : (d.emit x).dramBad = d.dramBad := rfl
@[simp] theorem Dev_emit_pageBad (d : Dev) (x : Out) : (d.emit x).pageBad = d.pageBad := rfl
@[simp] theorem Dev_emit_pages (d : Dev) (x : Out) : (d.emit x).pages = d.pages := rfl
@[simp] theorem Dev_emit_memctl (d : Dev) (x : Out) : (d.emit x).memctl = d.memctl := rfl
@[simp] theorem Dev_emit_regions (d : Dev) (x : Out) : (d.emit x).regions = d.regions := rfl
@[simp] theorem Dev_emit_backing (d : Dev) (x : Out) : (d.emit x).backing = d.backing := rfl
@[simp] theorem Dev_emit_inPlace (d : Dev) (x : Out) : (d.emit x).inPlace = d.inPlace := rfl
@[simp] theorem Dev_emit_fencePrev (d : Dev) (x : Out) : (d.emit x).fencePrev = d.fencePrev := rfl
@[simp] theorem Dev_emit_tickEnd (d : Dev) (x : Out) : (d.emit x).tickEnd = d.tickEnd := rfl
@[simp] theorem Dev_emit_shards (d : Dev) (x : Out) : (d.emit x).shards = d.shards := rfl
@[simp] theorem Dev_emit_shardKeys (d : Dev) (x : Out) : (d.emit x).shardKeys = d.shardKeys := rfl
@[simp] theorem Dev_emit_pubKeys (d : Dev) (x : Out) : (d.emit x).pubKeys = d.pubKeys := rfl
@[simp] theorem Dev_emit_jobs (d : Dev) (x : Out) : (d.emit x).jobs = d.jobs := rfl
@[simp] theorem Dev_emit_xfers (d : Dev) (x : Out) : (d.emit x).xfers = d.xfers := rfl
@[simp] theorem Dev_emit_serial (d : Dev) (x : Out) : (d.emit x).serial = d.serial := rfl
@[simp] theorem Dev_emit_tagGen (d : Dev) (x : Out) : (d.emit x).tagGen = d.tagGen := rfl
@[simp] theorem Dev_emit_trackers (d : Dev) (x : Out) : (d.emit x).trackers = d.trackers := rfl
@[simp] theorem Dev_emit_arrivals (d : Dev) (x : Out) : (d.emit x).arrivals = d.arrivals := rfl
@[simp] theorem Dev_emit_unconf (d : Dev) (x : Out) : (d.emit x).unconf = d.unconf := rfl
@[simp] theorem Dev_emit_inject (d : Dev) (x : Out) : (d.emit x).inject = d.inject := rfl
@[simp] theorem Dev_emit_eject (d : Dev) (x : Out) : (d.emit x).eject = d.eject := rfl
@[simp] theorem Dev_emit_router (d : Dev) (x : Out) : (d.emit x).router = d.router := rfl
@[simp] theorem Dev_emit_ports (d : Dev) (x : Out) : (d.emit x).ports = d.ports := rfl
@[simp] theorem Dev_emit_conns (d : Dev) (x : Out) : (d.emit x).conns = d.conns := rfl
@[simp] theorem Dev_emit_sess (d : Dev) (x : Out) : (d.emit x).sess = d.sess := rfl
@[simp] theorem Dev_emit_links (d : Dev) (x : Out) : (d.emit x).links = d.links := rfl
@[simp] theorem Dev_emit_qps (d : Dev) (x : Out) : (d.emit x).qps = d.qps := rfl
@[simp] theorem Dev_emit_mrs (d : Dev) (x : Out) : (d.emit x).mrs = d.mrs := rfl
@[simp] theorem Dev_emit_hports (d : Dev) (x : Out) : (d.emit x).hports = d.hports := rfl
@[simp] theorem Dev_emit_ptp (d : Dev) (x : Out) : (d.emit x).ptp = d.ptp := rfl
@[simp] theorem Dev_emit_rf (d : Dev) (x : Out) : (d.emit x).rf = d.rf := rfl
@[simp] theorem Dev_emit_rfPush (d : Dev) (x : Out) : (d.emit x).rfPush = d.rfPush := rfl
@[simp] theorem Dev_emit_rfSse (d : Dev) (x : Out) : (d.emit x).rfSse = d.rfSse := rfl
@[simp] theorem Dev_emit_logins (d : Dev) (x : Out) : (d.emit x).logins = d.logins := rfl
@[simp] theorem Dev_emit_lockedAt (d : Dev) (x : Out) : (d.emit x).lockedAt = d.lockedAt := rfl
@[simp] theorem Dev_emit_clearRun (d : Dev) (x : Out) : (d.emit x).clearRun = d.clearRun := rfl
@[simp] theorem Dev_emit_log (d : Dev) (x : Out) : (d.emit x).log = d.log := rfl
@[simp] theorem Dev_emit_recov (d : Dev) (x : Out) : (d.emit x).recov = d.recov := rfl
@[simp] theorem Dev_emit_free (d : Dev) (x : Out) : (d.emit x).free = d.free := rfl

/-! ### setPav -/

@[simp] theorem Dev_setPav_modl (d : Dev) (n : Nat) (p : Pav) : (d.setPav n p).modl = d.modl := rfl
@[simp] theorem Dev_setPav_power (d : Dev) (n : Nat) (p : Pav) : (d.setPav n p).power = d.power := rfl
@[simp] theorem Dev_setPav_belv (d : Dev) (n : Nat) (p : Pav) : (d.setPav n p).belv = d.belv := rfl
@[simp] theorem Dev_setPav_time (d : Dev) (n : Nat) (p : Pav) : (d.setPav n p).time = d.time := rfl
@[simp] theorem Dev_setPav_regs (d : Dev) (n : Nat) (p : Pav) : (d.setPav n p).regs = d.regs := rfl
@[simp] theorem Dev_setPav_sels (d : Dev) (n : Nat) (p : Pav) : (d.setPav n p).sels = d.sels := rfl
@[simp] theorem Dev_setPav_latch (d : Dev) (n : Nat) (p : Pav) : (d.setPav n p).latch = d.latch := rfl
@[simp] theorem Dev_setPav_snaps (d : Dev) (n : Nat) (p : Pav) : (d.setPav n p).snaps = d.snaps := rfl
@[simp] theorem Dev_setPav_alertN (d : Dev) (n : Nat) (p : Pav) : (d.setPav n p).alertN = d.alertN := rfl
@[simp] theorem Dev_setPav_ctxs (d : Dev) (n : Nat) (p : Pav) : (d.setPav n p).ctxs = d.ctxs := rfl
@[simp] theorem Dev_setPav_plots (d : Dev) (n : Nat) (p : Pav) : (d.setPav n p).plots = d.plots := rfl
@[simp] theorem Dev_setPav_steps (d : Dev) (n : Nat) (p : Pav) : (d.setPav n p).steps = d.steps := rfl
@[simp] theorem Dev_setPav_lastSteps (d : Dev) (n : Nat) (p : Pav) : (d.setPav n p).lastSteps = d.lastSteps := rfl
@[simp] theorem Dev_setPav_kctx (d : Dev) (n : Nat) (p : Pav) : (d.setPav n p).kctx = d.kctx := rfl
@[simp] theorem Dev_setPav_seqs (d : Dev) (n : Nat) (p : Pav) : (d.setPav n p).seqs = d.seqs := rfl
@[simp] theorem Dev_setPav_rings (d : Dev) (n : Nat) (p : Pav) : (d.setPav n p).rings = d.rings := rfl
@[simp] theorem Dev_setPav_accts (d : Dev) (n : Nat) (p : Pav) : (d.setPav n p).accts = d.accts := rfl
@[simp] theorem Dev_setPav_remote (d : Dev) (n : Nat) (p : Pav) : (d.setPav n p).remote = d.remote := rfl
@[simp] theorem Dev_setPav_keys (d : Dev) (n : Nat) (p : Pav) : (d.setPav n p).keys = d.keys := rfl
@[simp] theorem Dev_setPav_lpddr (d : Dev) (n : Nat) (p : Pav) : (d.setPav n p).lpddr = d.lpddr := rfl
@[simp] theorem Dev_setPav_burstKey (d : Dev) (n : Nat) (p : Pav) : (d.setPav n p).burstKey = d.burstKey := rfl
@[simp] theorem Dev_setPav_dramBad (d : Dev) (n : Nat) (p : Pav) : (d.setPav n p).dramBad = d.dramBad := rfl
@[simp] theorem Dev_setPav_pageBad (d : Dev) (n : Nat) (p : Pav) : (d.setPav n p).pageBad = d.pageBad := rfl
@[simp] theorem Dev_setPav_pages (d : Dev) (n : Nat) (p : Pav) : (d.setPav n p).pages = d.pages := rfl
@[simp] theorem Dev_setPav_memctl (d : Dev) (n : Nat) (p : Pav) : (d.setPav n p).memctl = d.memctl := rfl
@[simp] theorem Dev_setPav_regions (d : Dev) (n : Nat) (p : Pav) : (d.setPav n p).regions = d.regions := rfl
@[simp] theorem Dev_setPav_backing (d : Dev) (n : Nat) (p : Pav) : (d.setPav n p).backing = d.backing := rfl
@[simp] theorem Dev_setPav_inPlace (d : Dev) (n : Nat) (p : Pav) : (d.setPav n p).inPlace = d.inPlace := rfl
@[simp] theorem Dev_setPav_fencePrev (d : Dev) (n : Nat) (p : Pav) : (d.setPav n p).fencePrev = d.fencePrev := rfl
@[simp] theorem Dev_setPav_tickEnd (d : Dev) (n : Nat) (p : Pav) : (d.setPav n p).tickEnd = d.tickEnd := rfl
@[simp] theorem Dev_setPav_shards (d : Dev) (n : Nat) (p : Pav) : (d.setPav n p).shards = d.shards := rfl
@[simp] theorem Dev_setPav_shardKeys (d : Dev) (n : Nat) (p : Pav) : (d.setPav n p).shardKeys = d.shardKeys := rfl
@[simp] theorem Dev_setPav_pubKeys (d : Dev) (n : Nat) (p : Pav) : (d.setPav n p).pubKeys = d.pubKeys := rfl
@[simp] theorem Dev_setPav_jobs (d : Dev) (n : Nat) (p : Pav) : (d.setPav n p).jobs = d.jobs := rfl
@[simp] theorem Dev_setPav_xfers (d : Dev) (n : Nat) (p : Pav) : (d.setPav n p).xfers = d.xfers := rfl
@[simp] theorem Dev_setPav_serial (d : Dev) (n : Nat) (p : Pav) : (d.setPav n p).serial = d.serial := rfl
@[simp] theorem Dev_setPav_tagGen (d : Dev) (n : Nat) (p : Pav) : (d.setPav n p).tagGen = d.tagGen := rfl
@[simp] theorem Dev_setPav_trackers (d : Dev) (n : Nat) (p : Pav) : (d.setPav n p).trackers = d.trackers := rfl
@[simp] theorem Dev_setPav_arrivals (d : Dev) (n : Nat) (p : Pav) : (d.setPav n p).arrivals = d.arrivals := rfl
@[simp] theorem Dev_setPav_unconf (d : Dev) (n : Nat) (p : Pav) : (d.setPav n p).unconf = d.unconf := rfl
@[simp] theorem Dev_setPav_inject (d : Dev) (n : Nat) (p : Pav) : (d.setPav n p).inject = d.inject := rfl
@[simp] theorem Dev_setPav_eject (d : Dev) (n : Nat) (p : Pav) : (d.setPav n p).eject = d.eject := rfl
@[simp] theorem Dev_setPav_router (d : Dev) (n : Nat) (p : Pav) : (d.setPav n p).router = d.router := rfl
@[simp] theorem Dev_setPav_ports (d : Dev) (n : Nat) (p : Pav) : (d.setPav n p).ports = d.ports := rfl
@[simp] theorem Dev_setPav_conns (d : Dev) (n : Nat) (p : Pav) : (d.setPav n p).conns = d.conns := rfl
@[simp] theorem Dev_setPav_sess (d : Dev) (n : Nat) (p : Pav) : (d.setPav n p).sess = d.sess := rfl
@[simp] theorem Dev_setPav_links (d : Dev) (n : Nat) (p : Pav) : (d.setPav n p).links = d.links := rfl
@[simp] theorem Dev_setPav_qps (d : Dev) (n : Nat) (p : Pav) : (d.setPav n p).qps = d.qps := rfl
@[simp] theorem Dev_setPav_mrs (d : Dev) (n : Nat) (p : Pav) : (d.setPav n p).mrs = d.mrs := rfl
@[simp] theorem Dev_setPav_hports (d : Dev) (n : Nat) (p : Pav) : (d.setPav n p).hports = d.hports := rfl
@[simp] theorem Dev_setPav_ptp (d : Dev) (n : Nat) (p : Pav) : (d.setPav n p).ptp = d.ptp := rfl
@[simp] theorem Dev_setPav_rf (d : Dev) (n : Nat) (p : Pav) : (d.setPav n p).rf = d.rf := rfl
@[simp] theorem Dev_setPav_rfPush (d : Dev) (n : Nat) (p : Pav) : (d.setPav n p).rfPush = d.rfPush := rfl
@[simp] theorem Dev_setPav_rfSse (d : Dev) (n : Nat) (p : Pav) : (d.setPav n p).rfSse = d.rfSse := rfl
@[simp] theorem Dev_setPav_logins (d : Dev) (n : Nat) (p : Pav) : (d.setPav n p).logins = d.logins := rfl
@[simp] theorem Dev_setPav_lockedAt (d : Dev) (n : Nat) (p : Pav) : (d.setPav n p).lockedAt = d.lockedAt := rfl
@[simp] theorem Dev_setPav_clearRun (d : Dev) (n : Nat) (p : Pav) : (d.setPav n p).clearRun = d.clearRun := rfl
@[simp] theorem Dev_setPav_log (d : Dev) (n : Nat) (p : Pav) : (d.setPav n p).log = d.log := rfl
@[simp] theorem Dev_setPav_recov (d : Dev) (n : Nat) (p : Pav) : (d.setPav n p).recov = d.recov := rfl
@[simp] theorem Dev_setPav_out (d : Dev) (n : Nat) (p : Pav) : (d.setPav n p).out = d.out := rfl
@[simp] theorem Dev_setPav_free (d : Dev) (n : Nat) (p : Pav) : (d.setPav n p).free = d.free := rfl

/-! ### setCtx -/

@[simp] theorem Dev_setCtx_modl (d : Dev) (c : Nat) (x : Ctx) : (d.setCtx c x).modl = d.modl := rfl
@[simp] theorem Dev_setCtx_power (d : Dev) (c : Nat) (x : Ctx) : (d.setCtx c x).power = d.power := rfl
@[simp] theorem Dev_setCtx_belv (d : Dev) (c : Nat) (x : Ctx) : (d.setCtx c x).belv = d.belv := rfl
@[simp] theorem Dev_setCtx_time (d : Dev) (c : Nat) (x : Ctx) : (d.setCtx c x).time = d.time := rfl
@[simp] theorem Dev_setCtx_regs (d : Dev) (c : Nat) (x : Ctx) : (d.setCtx c x).regs = d.regs := rfl
@[simp] theorem Dev_setCtx_sels (d : Dev) (c : Nat) (x : Ctx) : (d.setCtx c x).sels = d.sels := rfl
@[simp] theorem Dev_setCtx_latch (d : Dev) (c : Nat) (x : Ctx) : (d.setCtx c x).latch = d.latch := rfl
@[simp] theorem Dev_setCtx_snaps (d : Dev) (c : Nat) (x : Ctx) : (d.setCtx c x).snaps = d.snaps := rfl
@[simp] theorem Dev_setCtx_alertN (d : Dev) (c : Nat) (x : Ctx) : (d.setCtx c x).alertN = d.alertN := rfl
@[simp] theorem Dev_setCtx_pavs (d : Dev) (c : Nat) (x : Ctx) : (d.setCtx c x).pavs = d.pavs := rfl
@[simp] theorem Dev_setCtx_plots (d : Dev) (c : Nat) (x : Ctx) : (d.setCtx c x).plots = d.plots := rfl
@[simp] theorem Dev_setCtx_steps (d : Dev) (c : Nat) (x : Ctx) : (d.setCtx c x).steps = d.steps := rfl
@[simp] theorem Dev_setCtx_lastSteps (d : Dev) (c : Nat) (x : Ctx) : (d.setCtx c x).lastSteps = d.lastSteps := rfl
@[simp] theorem Dev_setCtx_kctx (d : Dev) (c : Nat) (x : Ctx) : (d.setCtx c x).kctx = d.kctx := rfl
@[simp] theorem Dev_setCtx_seqs (d : Dev) (c : Nat) (x : Ctx) : (d.setCtx c x).seqs = d.seqs := rfl
@[simp] theorem Dev_setCtx_rings (d : Dev) (c : Nat) (x : Ctx) : (d.setCtx c x).rings = d.rings := rfl
@[simp] theorem Dev_setCtx_accts (d : Dev) (c : Nat) (x : Ctx) : (d.setCtx c x).accts = d.accts := rfl
@[simp] theorem Dev_setCtx_remote (d : Dev) (c : Nat) (x : Ctx) : (d.setCtx c x).remote = d.remote := rfl
@[simp] theorem Dev_setCtx_keys (d : Dev) (c : Nat) (x : Ctx) : (d.setCtx c x).keys = d.keys := rfl
@[simp] theorem Dev_setCtx_lpddr (d : Dev) (c : Nat) (x : Ctx) : (d.setCtx c x).lpddr = d.lpddr := rfl
@[simp] theorem Dev_setCtx_burstKey (d : Dev) (c : Nat) (x : Ctx) : (d.setCtx c x).burstKey = d.burstKey := rfl
@[simp] theorem Dev_setCtx_dramBad (d : Dev) (c : Nat) (x : Ctx) : (d.setCtx c x).dramBad = d.dramBad := rfl
@[simp] theorem Dev_setCtx_pageBad (d : Dev) (c : Nat) (x : Ctx) : (d.setCtx c x).pageBad = d.pageBad := rfl
@[simp] theorem Dev_setCtx_pages (d : Dev) (c : Nat) (x : Ctx) : (d.setCtx c x).pages = d.pages := rfl
@[simp] theorem Dev_setCtx_memctl (d : Dev) (c : Nat) (x : Ctx) : (d.setCtx c x).memctl = d.memctl := rfl
@[simp] theorem Dev_setCtx_regions (d : Dev) (c : Nat) (x : Ctx) : (d.setCtx c x).regions = d.regions := rfl
@[simp] theorem Dev_setCtx_backing (d : Dev) (c : Nat) (x : Ctx) : (d.setCtx c x).backing = d.backing := rfl
@[simp] theorem Dev_setCtx_inPlace (d : Dev) (c : Nat) (x : Ctx) : (d.setCtx c x).inPlace = d.inPlace := rfl
@[simp] theorem Dev_setCtx_fencePrev (d : Dev) (c : Nat) (x : Ctx) : (d.setCtx c x).fencePrev = d.fencePrev := rfl
@[simp] theorem Dev_setCtx_tickEnd (d : Dev) (c : Nat) (x : Ctx) : (d.setCtx c x).tickEnd = d.tickEnd := rfl
@[simp] theorem Dev_setCtx_shards (d : Dev) (c : Nat) (x : Ctx) : (d.setCtx c x).shards = d.shards := rfl
@[simp] theorem Dev_setCtx_shardKeys (d : Dev) (c : Nat) (x : Ctx) : (d.setCtx c x).shardKeys = d.shardKeys := rfl
@[simp] theorem Dev_setCtx_pubKeys (d : Dev) (c : Nat) (x : Ctx) : (d.setCtx c x).pubKeys = d.pubKeys := rfl
@[simp] theorem Dev_setCtx_jobs (d : Dev) (c : Nat) (x : Ctx) : (d.setCtx c x).jobs = d.jobs := rfl
@[simp] theorem Dev_setCtx_xfers (d : Dev) (c : Nat) (x : Ctx) : (d.setCtx c x).xfers = d.xfers := rfl
@[simp] theorem Dev_setCtx_serial (d : Dev) (c : Nat) (x : Ctx) : (d.setCtx c x).serial = d.serial := rfl
@[simp] theorem Dev_setCtx_tagGen (d : Dev) (c : Nat) (x : Ctx) : (d.setCtx c x).tagGen = d.tagGen := rfl
@[simp] theorem Dev_setCtx_trackers (d : Dev) (c : Nat) (x : Ctx) : (d.setCtx c x).trackers = d.trackers := rfl
@[simp] theorem Dev_setCtx_arrivals (d : Dev) (c : Nat) (x : Ctx) : (d.setCtx c x).arrivals = d.arrivals := rfl
@[simp] theorem Dev_setCtx_unconf (d : Dev) (c : Nat) (x : Ctx) : (d.setCtx c x).unconf = d.unconf := rfl
@[simp] theorem Dev_setCtx_inject (d : Dev) (c : Nat) (x : Ctx) : (d.setCtx c x).inject = d.inject := rfl
@[simp] theorem Dev_setCtx_eject (d : Dev) (c : Nat) (x : Ctx) : (d.setCtx c x).eject = d.eject := rfl
@[simp] theorem Dev_setCtx_router (d : Dev) (c : Nat) (x : Ctx) : (d.setCtx c x).router = d.router := rfl
@[simp] theorem Dev_setCtx_ports (d : Dev) (c : Nat) (x : Ctx) : (d.setCtx c x).ports = d.ports := rfl
@[simp] theorem Dev_setCtx_conns (d : Dev) (c : Nat) (x : Ctx) : (d.setCtx c x).conns = d.conns := rfl
@[simp] theorem Dev_setCtx_sess (d : Dev) (c : Nat) (x : Ctx) : (d.setCtx c x).sess = d.sess := rfl
@[simp] theorem Dev_setCtx_links (d : Dev) (c : Nat) (x : Ctx) : (d.setCtx c x).links = d.links := rfl
@[simp] theorem Dev_setCtx_qps (d : Dev) (c : Nat) (x : Ctx) : (d.setCtx c x).qps = d.qps := rfl
@[simp] theorem Dev_setCtx_mrs (d : Dev) (c : Nat) (x : Ctx) : (d.setCtx c x).mrs = d.mrs := rfl
@[simp] theorem Dev_setCtx_hports (d : Dev) (c : Nat) (x : Ctx) : (d.setCtx c x).hports = d.hports := rfl
@[simp] theorem Dev_setCtx_ptp (d : Dev) (c : Nat) (x : Ctx) : (d.setCtx c x).ptp = d.ptp := rfl
@[simp] theorem Dev_setCtx_rf (d : Dev) (c : Nat) (x : Ctx) : (d.setCtx c x).rf = d.rf := rfl
@[simp] theorem Dev_setCtx_rfPush (d : Dev) (c : Nat) (x : Ctx) : (d.setCtx c x).rfPush = d.rfPush := rfl
@[simp] theorem Dev_setCtx_rfSse (d : Dev) (c : Nat) (x : Ctx) : (d.setCtx c x).rfSse = d.rfSse := rfl
@[simp] theorem Dev_setCtx_logins (d : Dev) (c : Nat) (x : Ctx) : (d.setCtx c x).logins = d.logins := rfl
@[simp] theorem Dev_setCtx_lockedAt (d : Dev) (c : Nat) (x : Ctx) : (d.setCtx c x).lockedAt = d.lockedAt := rfl
@[simp] theorem Dev_setCtx_clearRun (d : Dev) (c : Nat) (x : Ctx) : (d.setCtx c x).clearRun = d.clearRun := rfl
@[simp] theorem Dev_setCtx_log (d : Dev) (c : Nat) (x : Ctx) : (d.setCtx c x).log = d.log := rfl
@[simp] theorem Dev_setCtx_recov (d : Dev) (c : Nat) (x : Ctx) : (d.setCtx c x).recov = d.recov := rfl
@[simp] theorem Dev_setCtx_out (d : Dev) (c : Nat) (x : Ctx) : (d.setCtx c x).out = d.out := rfl
@[simp] theorem Dev_setCtx_free (d : Dev) (c : Nat) (x : Ctx) : (d.setCtx c x).free = d.free := rfl

/-! ### setPlot -/

@[simp] theorem Dev_setPlot_modl (d : Dev) (p : Nat) (x : Plot) : (d.setPlot p x).modl = d.modl := rfl
@[simp] theorem Dev_setPlot_power (d : Dev) (p : Nat) (x : Plot) : (d.setPlot p x).power = d.power := rfl
@[simp] theorem Dev_setPlot_belv (d : Dev) (p : Nat) (x : Plot) : (d.setPlot p x).belv = d.belv := rfl
@[simp] theorem Dev_setPlot_time (d : Dev) (p : Nat) (x : Plot) : (d.setPlot p x).time = d.time := rfl
@[simp] theorem Dev_setPlot_regs (d : Dev) (p : Nat) (x : Plot) : (d.setPlot p x).regs = d.regs := rfl
@[simp] theorem Dev_setPlot_sels (d : Dev) (p : Nat) (x : Plot) : (d.setPlot p x).sels = d.sels := rfl
@[simp] theorem Dev_setPlot_latch (d : Dev) (p : Nat) (x : Plot) : (d.setPlot p x).latch = d.latch := rfl
@[simp] theorem Dev_setPlot_snaps (d : Dev) (p : Nat) (x : Plot) : (d.setPlot p x).snaps = d.snaps := rfl
@[simp] theorem Dev_setPlot_alertN (d : Dev) (p : Nat) (x : Plot) : (d.setPlot p x).alertN = d.alertN := rfl
@[simp] theorem Dev_setPlot_pavs (d : Dev) (p : Nat) (x : Plot) : (d.setPlot p x).pavs = d.pavs := rfl
@[simp] theorem Dev_setPlot_ctxs (d : Dev) (p : Nat) (x : Plot) : (d.setPlot p x).ctxs = d.ctxs := rfl
@[simp] theorem Dev_setPlot_steps (d : Dev) (p : Nat) (x : Plot) : (d.setPlot p x).steps = d.steps := rfl
@[simp] theorem Dev_setPlot_lastSteps (d : Dev) (p : Nat) (x : Plot) : (d.setPlot p x).lastSteps = d.lastSteps := rfl
@[simp] theorem Dev_setPlot_kctx (d : Dev) (p : Nat) (x : Plot) : (d.setPlot p x).kctx = d.kctx := rfl
@[simp] theorem Dev_setPlot_seqs (d : Dev) (p : Nat) (x : Plot) : (d.setPlot p x).seqs = d.seqs := rfl
@[simp] theorem Dev_setPlot_rings (d : Dev) (p : Nat) (x : Plot) : (d.setPlot p x).rings = d.rings := rfl
@[simp] theorem Dev_setPlot_accts (d : Dev) (p : Nat) (x : Plot) : (d.setPlot p x).accts = d.accts := rfl
@[simp] theorem Dev_setPlot_remote (d : Dev) (p : Nat) (x : Plot) : (d.setPlot p x).remote = d.remote := rfl
@[simp] theorem Dev_setPlot_keys (d : Dev) (p : Nat) (x : Plot) : (d.setPlot p x).keys = d.keys := rfl
@[simp] theorem Dev_setPlot_lpddr (d : Dev) (p : Nat) (x : Plot) : (d.setPlot p x).lpddr = d.lpddr := rfl
@[simp] theorem Dev_setPlot_burstKey (d : Dev) (p : Nat) (x : Plot) : (d.setPlot p x).burstKey = d.burstKey := rfl
@[simp] theorem Dev_setPlot_dramBad (d : Dev) (p : Nat) (x : Plot) : (d.setPlot p x).dramBad = d.dramBad := rfl
@[simp] theorem Dev_setPlot_pageBad (d : Dev) (p : Nat) (x : Plot) : (d.setPlot p x).pageBad = d.pageBad := rfl
@[simp] theorem Dev_setPlot_pages (d : Dev) (p : Nat) (x : Plot) : (d.setPlot p x).pages = d.pages := rfl
@[simp] theorem Dev_setPlot_memctl (d : Dev) (p : Nat) (x : Plot) : (d.setPlot p x).memctl = d.memctl := rfl
@[simp] theorem Dev_setPlot_regions (d : Dev) (p : Nat) (x : Plot) : (d.setPlot p x).regions = d.regions := rfl
@[simp] theorem Dev_setPlot_backing (d : Dev) (p : Nat) (x : Plot) : (d.setPlot p x).backing = d.backing := rfl
@[simp] theorem Dev_setPlot_inPlace (d : Dev) (p : Nat) (x : Plot) : (d.setPlot p x).inPlace = d.inPlace := rfl
@[simp] theorem Dev_setPlot_fencePrev (d : Dev) (p : Nat) (x : Plot) : (d.setPlot p x).fencePrev = d.fencePrev := rfl
@[simp] theorem Dev_setPlot_tickEnd (d : Dev) (p : Nat) (x : Plot) : (d.setPlot p x).tickEnd = d.tickEnd := rfl
@[simp] theorem Dev_setPlot_shards (d : Dev) (p : Nat) (x : Plot) : (d.setPlot p x).shards = d.shards := rfl
@[simp] theorem Dev_setPlot_shardKeys (d : Dev) (p : Nat) (x : Plot) : (d.setPlot p x).shardKeys = d.shardKeys := rfl
@[simp] theorem Dev_setPlot_pubKeys (d : Dev) (p : Nat) (x : Plot) : (d.setPlot p x).pubKeys = d.pubKeys := rfl
@[simp] theorem Dev_setPlot_jobs (d : Dev) (p : Nat) (x : Plot) : (d.setPlot p x).jobs = d.jobs := rfl
@[simp] theorem Dev_setPlot_xfers (d : Dev) (p : Nat) (x : Plot) : (d.setPlot p x).xfers = d.xfers := rfl
@[simp] theorem Dev_setPlot_serial (d : Dev) (p : Nat) (x : Plot) : (d.setPlot p x).serial = d.serial := rfl
@[simp] theorem Dev_setPlot_tagGen (d : Dev) (p : Nat) (x : Plot) : (d.setPlot p x).tagGen = d.tagGen := rfl
@[simp] theorem Dev_setPlot_trackers (d : Dev) (p : Nat) (x : Plot) : (d.setPlot p x).trackers = d.trackers := rfl
@[simp] theorem Dev_setPlot_arrivals (d : Dev) (p : Nat) (x : Plot) : (d.setPlot p x).arrivals = d.arrivals := rfl
@[simp] theorem Dev_setPlot_unconf (d : Dev) (p : Nat) (x : Plot) : (d.setPlot p x).unconf = d.unconf := rfl
@[simp] theorem Dev_setPlot_inject (d : Dev) (p : Nat) (x : Plot) : (d.setPlot p x).inject = d.inject := rfl
@[simp] theorem Dev_setPlot_eject (d : Dev) (p : Nat) (x : Plot) : (d.setPlot p x).eject = d.eject := rfl
@[simp] theorem Dev_setPlot_router (d : Dev) (p : Nat) (x : Plot) : (d.setPlot p x).router = d.router := rfl
@[simp] theorem Dev_setPlot_ports (d : Dev) (p : Nat) (x : Plot) : (d.setPlot p x).ports = d.ports := rfl
@[simp] theorem Dev_setPlot_conns (d : Dev) (p : Nat) (x : Plot) : (d.setPlot p x).conns = d.conns := rfl
@[simp] theorem Dev_setPlot_sess (d : Dev) (p : Nat) (x : Plot) : (d.setPlot p x).sess = d.sess := rfl
@[simp] theorem Dev_setPlot_links (d : Dev) (p : Nat) (x : Plot) : (d.setPlot p x).links = d.links := rfl
@[simp] theorem Dev_setPlot_qps (d : Dev) (p : Nat) (x : Plot) : (d.setPlot p x).qps = d.qps := rfl
@[simp] theorem Dev_setPlot_mrs (d : Dev) (p : Nat) (x : Plot) : (d.setPlot p x).mrs = d.mrs := rfl
@[simp] theorem Dev_setPlot_hports (d : Dev) (p : Nat) (x : Plot) : (d.setPlot p x).hports = d.hports := rfl
@[simp] theorem Dev_setPlot_ptp (d : Dev) (p : Nat) (x : Plot) : (d.setPlot p x).ptp = d.ptp := rfl
@[simp] theorem Dev_setPlot_rf (d : Dev) (p : Nat) (x : Plot) : (d.setPlot p x).rf = d.rf := rfl
@[simp] theorem Dev_setPlot_rfPush (d : Dev) (p : Nat) (x : Plot) : (d.setPlot p x).rfPush = d.rfPush := rfl
@[simp] theorem Dev_setPlot_rfSse (d : Dev) (p : Nat) (x : Plot) : (d.setPlot p x).rfSse = d.rfSse := rfl
@[simp] theorem Dev_setPlot_logins (d : Dev) (p : Nat) (x : Plot) : (d.setPlot p x).logins = d.logins := rfl
@[simp] theorem Dev_setPlot_lockedAt (d : Dev) (p : Nat) (x : Plot) : (d.setPlot p x).lockedAt = d.lockedAt := rfl
@[simp] theorem Dev_setPlot_clearRun (d : Dev) (p : Nat) (x : Plot) : (d.setPlot p x).clearRun = d.clearRun := rfl
@[simp] theorem Dev_setPlot_log (d : Dev) (p : Nat) (x : Plot) : (d.setPlot p x).log = d.log := rfl
@[simp] theorem Dev_setPlot_recov (d : Dev) (p : Nat) (x : Plot) : (d.setPlot p x).recov = d.recov := rfl
@[simp] theorem Dev_setPlot_out (d : Dev) (p : Nat) (x : Plot) : (d.setPlot p x).out = d.out := rfl
@[simp] theorem Dev_setPlot_free (d : Dev) (p : Nat) (x : Plot) : (d.setPlot p x).free = d.free := rfl

/-! ### setStep -/

@[simp] theorem Dev_setStep_modl (d : Dev) (p : Nat) (x : StepCtl) : (d.setStep p x).modl = d.modl := rfl
@[simp] theorem Dev_setStep_power (d : Dev) (p : Nat) (x : StepCtl) : (d.setStep p x).power = d.power := rfl
@[simp] theorem Dev_setStep_belv (d : Dev) (p : Nat) (x : StepCtl) : (d.setStep p x).belv = d.belv := rfl
@[simp] theorem Dev_setStep_time (d : Dev) (p : Nat) (x : StepCtl) : (d.setStep p x).time = d.time := rfl
@[simp] theorem Dev_setStep_regs (d : Dev) (p : Nat) (x : StepCtl) : (d.setStep p x).regs = d.regs := rfl
@[simp] theorem Dev_setStep_sels (d : Dev) (p : Nat) (x : StepCtl) : (d.setStep p x).sels = d.sels := rfl
@[simp] theorem Dev_setStep_latch (d : Dev) (p : Nat) (x : StepCtl) : (d.setStep p x).latch = d.latch := rfl
@[simp] theorem Dev_setStep_snaps (d : Dev) (p : Nat) (x : StepCtl) : (d.setStep p x).snaps = d.snaps := rfl
@[simp] theorem Dev_setStep_alertN (d : Dev) (p : Nat) (x : StepCtl) : (d.setStep p x).alertN = d.alertN := rfl
@[simp] theorem Dev_setStep_pavs (d : Dev) (p : Nat) (x : StepCtl) : (d.setStep p x).pavs = d.pavs := rfl
@[simp] theorem Dev_setStep_ctxs (d : Dev) (p : Nat) (x : StepCtl) : (d.setStep p x).ctxs = d.ctxs := rfl
@[simp] theorem Dev_setStep_plots (d : Dev) (p : Nat) (x : StepCtl) : (d.setStep p x).plots = d.plots := rfl
@[simp] theorem Dev_setStep_lastSteps (d : Dev) (p : Nat) (x : StepCtl) : (d.setStep p x).lastSteps = d.lastSteps := rfl
@[simp] theorem Dev_setStep_kctx (d : Dev) (p : Nat) (x : StepCtl) : (d.setStep p x).kctx = d.kctx := rfl
@[simp] theorem Dev_setStep_seqs (d : Dev) (p : Nat) (x : StepCtl) : (d.setStep p x).seqs = d.seqs := rfl
@[simp] theorem Dev_setStep_rings (d : Dev) (p : Nat) (x : StepCtl) : (d.setStep p x).rings = d.rings := rfl
@[simp] theorem Dev_setStep_accts (d : Dev) (p : Nat) (x : StepCtl) : (d.setStep p x).accts = d.accts := rfl
@[simp] theorem Dev_setStep_remote (d : Dev) (p : Nat) (x : StepCtl) : (d.setStep p x).remote = d.remote := rfl
@[simp] theorem Dev_setStep_keys (d : Dev) (p : Nat) (x : StepCtl) : (d.setStep p x).keys = d.keys := rfl
@[simp] theorem Dev_setStep_lpddr (d : Dev) (p : Nat) (x : StepCtl) : (d.setStep p x).lpddr = d.lpddr := rfl
@[simp] theorem Dev_setStep_burstKey (d : Dev) (p : Nat) (x : StepCtl) : (d.setStep p x).burstKey = d.burstKey := rfl
@[simp] theorem Dev_setStep_dramBad (d : Dev) (p : Nat) (x : StepCtl) : (d.setStep p x).dramBad = d.dramBad := rfl
@[simp] theorem Dev_setStep_pageBad (d : Dev) (p : Nat) (x : StepCtl) : (d.setStep p x).pageBad = d.pageBad := rfl
@[simp] theorem Dev_setStep_pages (d : Dev) (p : Nat) (x : StepCtl) : (d.setStep p x).pages = d.pages := rfl
@[simp] theorem Dev_setStep_memctl (d : Dev) (p : Nat) (x : StepCtl) : (d.setStep p x).memctl = d.memctl := rfl
@[simp] theorem Dev_setStep_regions (d : Dev) (p : Nat) (x : StepCtl) : (d.setStep p x).regions = d.regions := rfl
@[simp] theorem Dev_setStep_backing (d : Dev) (p : Nat) (x : StepCtl) : (d.setStep p x).backing = d.backing := rfl
@[simp] theorem Dev_setStep_inPlace (d : Dev) (p : Nat) (x : StepCtl) : (d.setStep p x).inPlace = d.inPlace := rfl
@[simp] theorem Dev_setStep_fencePrev (d : Dev) (p : Nat) (x : StepCtl) : (d.setStep p x).fencePrev = d.fencePrev := rfl
@[simp] theorem Dev_setStep_tickEnd (d : Dev) (p : Nat) (x : StepCtl) : (d.setStep p x).tickEnd = d.tickEnd := rfl
@[simp] theorem Dev_setStep_shards (d : Dev) (p : Nat) (x : StepCtl) : (d.setStep p x).shards = d.shards := rfl
@[simp] theorem Dev_setStep_shardKeys (d : Dev) (p : Nat) (x : StepCtl) : (d.setStep p x).shardKeys = d.shardKeys := rfl
@[simp] theorem Dev_setStep_pubKeys (d : Dev) (p : Nat) (x : StepCtl) : (d.setStep p x).pubKeys = d.pubKeys := rfl
@[simp] theorem Dev_setStep_jobs (d : Dev) (p : Nat) (x : StepCtl) : (d.setStep p x).jobs = d.jobs := rfl
@[simp] theorem Dev_setStep_xfers (d : Dev) (p : Nat) (x : StepCtl) : (d.setStep p x).xfers = d.xfers := rfl
@[simp] theorem Dev_setStep_serial (d : Dev) (p : Nat) (x : StepCtl) : (d.setStep p x).serial = d.serial := rfl
@[simp] theorem Dev_setStep_tagGen (d : Dev) (p : Nat) (x : StepCtl) : (d.setStep p x).tagGen = d.tagGen := rfl
@[simp] theorem Dev_setStep_trackers (d : Dev) (p : Nat) (x : StepCtl) : (d.setStep p x).trackers = d.trackers := rfl
@[simp] theorem Dev_setStep_arrivals (d : Dev) (p : Nat) (x : StepCtl) : (d.setStep p x).arrivals = d.arrivals := rfl
@[simp] theorem Dev_setStep_unconf (d : Dev) (p : Nat) (x : StepCtl) : (d.setStep p x).unconf = d.unconf := rfl
@[simp] theorem Dev_setStep_inject (d : Dev) (p : Nat) (x : StepCtl) : (d.setStep p x).inject = d.inject := rfl
@[simp] theorem Dev_setStep_eject (d : Dev) (p : Nat) (x : StepCtl) : (d.setStep p x).eject = d.eject := rfl
@[simp] theorem Dev_setStep_router (d : Dev) (p : Nat) (x : StepCtl) : (d.setStep p x).router = d.router := rfl
@[simp] theorem Dev_setStep_ports (d : Dev) (p : Nat) (x : StepCtl) : (d.setStep p x).ports = d.ports := rfl
@[simp] theorem Dev_setStep_conns (d : Dev) (p : Nat) (x : StepCtl) : (d.setStep p x).conns = d.conns := rfl
@[simp] theorem Dev_setStep_sess (d : Dev) (p : Nat) (x : StepCtl) : (d.setStep p x).sess = d.sess := rfl
@[simp] theorem Dev_setStep_links (d : Dev) (p : Nat) (x : StepCtl) : (d.setStep p x).links = d.links := rfl
@[simp] theorem Dev_setStep_qps (d : Dev) (p : Nat) (x : StepCtl) : (d.setStep p x).qps = d.qps := rfl
@[simp] theorem Dev_setStep_mrs (d : Dev) (p : Nat) (x : StepCtl) : (d.setStep p x).mrs = d.mrs := rfl
@[simp] theorem Dev_setStep_hports (d : Dev) (p : Nat) (x : StepCtl) : (d.setStep p x).hports = d.hports := rfl
@[simp] theorem Dev_setStep_ptp (d : Dev) (p : Nat) (x : StepCtl) : (d.setStep p x).ptp = d.ptp := rfl
@[simp] theorem Dev_setStep_rf (d : Dev) (p : Nat) (x : StepCtl) : (d.setStep p x).rf = d.rf := rfl
@[simp] theorem Dev_setStep_rfPush (d : Dev) (p : Nat) (x : StepCtl) : (d.setStep p x).rfPush = d.rfPush := rfl
@[simp] theorem Dev_setStep_rfSse (d : Dev) (p : Nat) (x : StepCtl) : (d.setStep p x).rfSse = d.rfSse := rfl
@[simp] theorem Dev_setStep_logins (d : Dev) (p : Nat) (x : StepCtl) : (d.setStep p x).logins = d.logins := rfl
@[simp] theorem Dev_setStep_lockedAt (d : Dev) (p : Nat) (x : StepCtl) : (d.setStep p x).lockedAt = d.lockedAt := rfl
@[simp] theorem Dev_setStep_clearRun (d : Dev) (p : Nat) (x : StepCtl) : (d.setStep p x).clearRun = d.clearRun := rfl
@[simp] theorem Dev_setStep_log (d : Dev) (p : Nat) (x : StepCtl) : (d.setStep p x).log = d.log := rfl
@[simp] theorem Dev_setStep_recov (d : Dev) (p : Nat) (x : StepCtl) : (d.setStep p x).recov = d.recov := rfl
@[simp] theorem Dev_setStep_out (d : Dev) (p : Nat) (x : StepCtl) : (d.setStep p x).out = d.out := rfl
@[simp] theorem Dev_setStep_free (d : Dev) (p : Nat) (x : StepCtl) : (d.setStep p x).free = d.free := rfl

/-! ### setPort -/

@[simp] theorem Dev_setPort_modl (d : Dev) (n : Nat) (p : Port) : (d.setPort n p).modl = d.modl := rfl
@[simp] theorem Dev_setPort_power (d : Dev) (n : Nat) (p : Port) : (d.setPort n p).power = d.power := rfl
@[simp] theorem Dev_setPort_belv (d : Dev) (n : Nat) (p : Port) : (d.setPort n p).belv = d.belv := rfl
@[simp] theorem Dev_setPort_time (d : Dev) (n : Nat) (p : Port) : (d.setPort n p).time = d.time := rfl
@[simp] theorem Dev_setPort_regs (d : Dev) (n : Nat) (p : Port) : (d.setPort n p).regs = d.regs := rfl
@[simp] theorem Dev_setPort_sels (d : Dev) (n : Nat) (p : Port) : (d.setPort n p).sels = d.sels := rfl
@[simp] theorem Dev_setPort_latch (d : Dev) (n : Nat) (p : Port) : (d.setPort n p).latch = d.latch := rfl
@[simp] theorem Dev_setPort_snaps (d : Dev) (n : Nat) (p : Port) : (d.setPort n p).snaps = d.snaps := rfl
@[simp] theorem Dev_setPort_alertN (d : Dev) (n : Nat) (p : Port) : (d.setPort n p).alertN = d.alertN := rfl
@[simp] theorem Dev_setPort_pavs (d : Dev) (n : Nat) (p : Port) : (d.setPort n p).pavs = d.pavs := rfl
@[simp] theorem Dev_setPort_ctxs (d : Dev) (n : Nat) (p : Port) : (d.setPort n p).ctxs = d.ctxs := rfl
@[simp] theorem Dev_setPort_plots (d : Dev) (n : Nat) (p : Port) : (d.setPort n p).plots = d.plots := rfl
@[simp] theorem Dev_setPort_steps (d : Dev) (n : Nat) (p : Port) : (d.setPort n p).steps = d.steps := rfl
@[simp] theorem Dev_setPort_lastSteps (d : Dev) (n : Nat) (p : Port) : (d.setPort n p).lastSteps = d.lastSteps := rfl
@[simp] theorem Dev_setPort_kctx (d : Dev) (n : Nat) (p : Port) : (d.setPort n p).kctx = d.kctx := rfl
@[simp] theorem Dev_setPort_seqs (d : Dev) (n : Nat) (p : Port) : (d.setPort n p).seqs = d.seqs := rfl
@[simp] theorem Dev_setPort_rings (d : Dev) (n : Nat) (p : Port) : (d.setPort n p).rings = d.rings := rfl
@[simp] theorem Dev_setPort_accts (d : Dev) (n : Nat) (p : Port) : (d.setPort n p).accts = d.accts := rfl
@[simp] theorem Dev_setPort_remote (d : Dev) (n : Nat) (p : Port) : (d.setPort n p).remote = d.remote := rfl
@[simp] theorem Dev_setPort_keys (d : Dev) (n : Nat) (p : Port) : (d.setPort n p).keys = d.keys := rfl
@[simp] theorem Dev_setPort_lpddr (d : Dev) (n : Nat) (p : Port) : (d.setPort n p).lpddr = d.lpddr := rfl
@[simp] theorem Dev_setPort_burstKey (d : Dev) (n : Nat) (p : Port) : (d.setPort n p).burstKey = d.burstKey := rfl
@[simp] theorem Dev_setPort_dramBad (d : Dev) (n : Nat) (p : Port) : (d.setPort n p).dramBad = d.dramBad := rfl
@[simp] theorem Dev_setPort_pageBad (d : Dev) (n : Nat) (p : Port) : (d.setPort n p).pageBad = d.pageBad := rfl
@[simp] theorem Dev_setPort_pages (d : Dev) (n : Nat) (p : Port) : (d.setPort n p).pages = d.pages := rfl
@[simp] theorem Dev_setPort_memctl (d : Dev) (n : Nat) (p : Port) : (d.setPort n p).memctl = d.memctl := rfl
@[simp] theorem Dev_setPort_regions (d : Dev) (n : Nat) (p : Port) : (d.setPort n p).regions = d.regions := rfl
@[simp] theorem Dev_setPort_backing (d : Dev) (n : Nat) (p : Port) : (d.setPort n p).backing = d.backing := rfl
@[simp] theorem Dev_setPort_inPlace (d : Dev) (n : Nat) (p : Port) : (d.setPort n p).inPlace = d.inPlace := rfl
@[simp] theorem Dev_setPort_fencePrev (d : Dev) (n : Nat) (p : Port) : (d.setPort n p).fencePrev = d.fencePrev := rfl
@[simp] theorem Dev_setPort_tickEnd (d : Dev) (n : Nat) (p : Port) : (d.setPort n p).tickEnd = d.tickEnd := rfl
@[simp] theorem Dev_setPort_shards (d : Dev) (n : Nat) (p : Port) : (d.setPort n p).shards = d.shards := rfl
@[simp] theorem Dev_setPort_shardKeys (d : Dev) (n : Nat) (p : Port) : (d.setPort n p).shardKeys = d.shardKeys := rfl
@[simp] theorem Dev_setPort_pubKeys (d : Dev) (n : Nat) (p : Port) : (d.setPort n p).pubKeys = d.pubKeys := rfl
@[simp] theorem Dev_setPort_jobs (d : Dev) (n : Nat) (p : Port) : (d.setPort n p).jobs = d.jobs := rfl
@[simp] theorem Dev_setPort_xfers (d : Dev) (n : Nat) (p : Port) : (d.setPort n p).xfers = d.xfers := rfl
@[simp] theorem Dev_setPort_serial (d : Dev) (n : Nat) (p : Port) : (d.setPort n p).serial = d.serial := rfl
@[simp] theorem Dev_setPort_tagGen (d : Dev) (n : Nat) (p : Port) : (d.setPort n p).tagGen = d.tagGen := rfl
@[simp] theorem Dev_setPort_trackers (d : Dev) (n : Nat) (p : Port) : (d.setPort n p).trackers = d.trackers := rfl
@[simp] theorem Dev_setPort_arrivals (d : Dev) (n : Nat) (p : Port) : (d.setPort n p).arrivals = d.arrivals := rfl
@[simp] theorem Dev_setPort_unconf (d : Dev) (n : Nat) (p : Port) : (d.setPort n p).unconf = d.unconf := rfl
@[simp] theorem Dev_setPort_inject (d : Dev) (n : Nat) (p : Port) : (d.setPort n p).inject = d.inject := rfl
@[simp] theorem Dev_setPort_eject (d : Dev) (n : Nat) (p : Port) : (d.setPort n p).eject = d.eject := rfl
@[simp] theorem Dev_setPort_router (d : Dev) (n : Nat) (p : Port) : (d.setPort n p).router = d.router := rfl
@[simp] theorem Dev_setPort_conns (d : Dev) (n : Nat) (p : Port) : (d.setPort n p).conns = d.conns := rfl
@[simp] theorem Dev_setPort_sess (d : Dev) (n : Nat) (p : Port) : (d.setPort n p).sess = d.sess := rfl
@[simp] theorem Dev_setPort_links (d : Dev) (n : Nat) (p : Port) : (d.setPort n p).links = d.links := rfl
@[simp] theorem Dev_setPort_qps (d : Dev) (n : Nat) (p : Port) : (d.setPort n p).qps = d.qps := rfl
@[simp] theorem Dev_setPort_mrs (d : Dev) (n : Nat) (p : Port) : (d.setPort n p).mrs = d.mrs := rfl
@[simp] theorem Dev_setPort_hports (d : Dev) (n : Nat) (p : Port) : (d.setPort n p).hports = d.hports := rfl
@[simp] theorem Dev_setPort_ptp (d : Dev) (n : Nat) (p : Port) : (d.setPort n p).ptp = d.ptp := rfl
@[simp] theorem Dev_setPort_rf (d : Dev) (n : Nat) (p : Port) : (d.setPort n p).rf = d.rf := rfl
@[simp] theorem Dev_setPort_rfPush (d : Dev) (n : Nat) (p : Port) : (d.setPort n p).rfPush = d.rfPush := rfl
@[simp] theorem Dev_setPort_rfSse (d : Dev) (n : Nat) (p : Port) : (d.setPort n p).rfSse = d.rfSse := rfl
@[simp] theorem Dev_setPort_logins (d : Dev) (n : Nat) (p : Port) : (d.setPort n p).logins = d.logins := rfl
@[simp] theorem Dev_setPort_lockedAt (d : Dev) (n : Nat) (p : Port) : (d.setPort n p).lockedAt = d.lockedAt := rfl
@[simp] theorem Dev_setPort_clearRun (d : Dev) (n : Nat) (p : Port) : (d.setPort n p).clearRun = d.clearRun := rfl
@[simp] theorem Dev_setPort_log (d : Dev) (n : Nat) (p : Port) : (d.setPort n p).log = d.log := rfl
@[simp] theorem Dev_setPort_recov (d : Dev) (n : Nat) (p : Port) : (d.setPort n p).recov = d.recov := rfl
@[simp] theorem Dev_setPort_out (d : Dev) (n : Nat) (p : Port) : (d.setPort n p).out = d.out := rfl
@[simp] theorem Dev_setPort_free (d : Dev) (n : Nat) (p : Port) : (d.setPort n p).free = d.free := rfl

/-! ### setKc -/

@[simp] theorem Dev_setKc_modl (d : Dev) (c : Nat) (k : KCtx) : (d.setKc c k).modl = d.modl := rfl
@[simp] theorem Dev_setKc_power (d : Dev) (c : Nat) (k : KCtx) : (d.setKc c k).power = d.power := rfl
@[simp] theorem Dev_setKc_belv (d : Dev) (c : Nat) (k : KCtx) : (d.setKc c k).belv = d.belv := rfl
@[simp] theorem Dev_setKc_time (d : Dev) (c : Nat) (k : KCtx) : (d.setKc c k).time = d.time := rfl
@[simp] theorem Dev_setKc_regs (d : Dev) (c : Nat) (k : KCtx) : (d.setKc c k).regs = d.regs := rfl
@[simp] theorem Dev_setKc_sels (d : Dev) (c : Nat) (k : KCtx) : (d.setKc c k).sels = d.sels := rfl
@[simp] theorem Dev_setKc_latch (d : Dev) (c : Nat) (k : KCtx) : (d.setKc c k).latch = d.latch := rfl
@[simp] theorem Dev_setKc_snaps (d : Dev) (c : Nat) (k : KCtx) : (d.setKc c k).snaps = d.snaps := rfl
@[simp] theorem Dev_setKc_alertN (d : Dev) (c : Nat) (k : KCtx) : (d.setKc c k).alertN = d.alertN := rfl
@[simp] theorem Dev_setKc_pavs (d : Dev) (c : Nat) (k : KCtx) : (d.setKc c k).pavs = d.pavs := rfl
@[simp] theorem Dev_setKc_ctxs (d : Dev) (c : Nat) (k : KCtx) : (d.setKc c k).ctxs = d.ctxs := rfl
@[simp] theorem Dev_setKc_plots (d : Dev) (c : Nat) (k : KCtx) : (d.setKc c k).plots = d.plots := rfl
@[simp] theorem Dev_setKc_steps (d : Dev) (c : Nat) (k : KCtx) : (d.setKc c k).steps = d.steps := rfl
@[simp] theorem Dev_setKc_lastSteps (d : Dev) (c : Nat) (k : KCtx) : (d.setKc c k).lastSteps = d.lastSteps := rfl
@[simp] theorem Dev_setKc_seqs (d : Dev) (c : Nat) (k : KCtx) : (d.setKc c k).seqs = d.seqs := rfl
@[simp] theorem Dev_setKc_rings (d : Dev) (c : Nat) (k : KCtx) : (d.setKc c k).rings = d.rings := rfl
@[simp] theorem Dev_setKc_accts (d : Dev) (c : Nat) (k : KCtx) : (d.setKc c k).accts = d.accts := rfl
@[simp] theorem Dev_setKc_remote (d : Dev) (c : Nat) (k : KCtx) : (d.setKc c k).remote = d.remote := rfl
@[simp] theorem Dev_setKc_keys (d : Dev) (c : Nat) (k : KCtx) : (d.setKc c k).keys = d.keys := rfl
@[simp] theorem Dev_setKc_lpddr (d : Dev) (c : Nat) (k : KCtx) : (d.setKc c k).lpddr = d.lpddr := rfl
@[simp] theorem Dev_setKc_burstKey (d : Dev) (c : Nat) (k : KCtx) : (d.setKc c k).burstKey = d.burstKey := rfl
@[simp] theorem Dev_setKc_dramBad (d : Dev) (c : Nat) (k : KCtx) : (d.setKc c k).dramBad = d.dramBad := rfl
@[simp] theorem Dev_setKc_pageBad (d : Dev) (c : Nat) (k : KCtx) : (d.setKc c k).pageBad = d.pageBad := rfl
@[simp] theorem Dev_setKc_pages (d : Dev) (c : Nat) (k : KCtx) : (d.setKc c k).pages = d.pages := rfl
@[simp] theorem Dev_setKc_memctl (d : Dev) (c : Nat) (k : KCtx) : (d.setKc c k).memctl = d.memctl := rfl
@[simp] theorem Dev_setKc_regions (d : Dev) (c : Nat) (k : KCtx) : (d.setKc c k).regions = d.regions := rfl
@[simp] theorem Dev_setKc_backing (d : Dev) (c : Nat) (k : KCtx) : (d.setKc c k).backing = d.backing := rfl
@[simp] theorem Dev_setKc_inPlace (d : Dev) (c : Nat) (k : KCtx) : (d.setKc c k).inPlace = d.inPlace := rfl
@[simp] theorem Dev_setKc_fencePrev (d : Dev) (c : Nat) (k : KCtx) : (d.setKc c k).fencePrev = d.fencePrev := rfl
@[simp] theorem Dev_setKc_tickEnd (d : Dev) (c : Nat) (k : KCtx) : (d.setKc c k).tickEnd = d.tickEnd := rfl
@[simp] theorem Dev_setKc_shards (d : Dev) (c : Nat) (k : KCtx) : (d.setKc c k).shards = d.shards := rfl
@[simp] theorem Dev_setKc_shardKeys (d : Dev) (c : Nat) (k : KCtx) : (d.setKc c k).shardKeys = d.shardKeys := rfl
@[simp] theorem Dev_setKc_pubKeys (d : Dev) (c : Nat) (k : KCtx) : (d.setKc c k).pubKeys = d.pubKeys := rfl
@[simp] theorem Dev_setKc_jobs (d : Dev) (c : Nat) (k : KCtx) : (d.setKc c k).jobs = d.jobs := rfl
@[simp] theorem Dev_setKc_xfers (d : Dev) (c : Nat) (k : KCtx) : (d.setKc c k).xfers = d.xfers := rfl
@[simp] theorem Dev_setKc_serial (d : Dev) (c : Nat) (k : KCtx) : (d.setKc c k).serial = d.serial := rfl
@[simp] theorem Dev_setKc_tagGen (d : Dev) (c : Nat) (k : KCtx) : (d.setKc c k).tagGen = d.tagGen := rfl
@[simp] theorem Dev_setKc_trackers (d : Dev) (c : Nat) (k : KCtx) : (d.setKc c k).trackers = d.trackers := rfl
@[simp] theorem Dev_setKc_arrivals (d : Dev) (c : Nat) (k : KCtx) : (d.setKc c k).arrivals = d.arrivals := rfl
@[simp] theorem Dev_setKc_unconf (d : Dev) (c : Nat) (k : KCtx) : (d.setKc c k).unconf = d.unconf := rfl
@[simp] theorem Dev_setKc_inject (d : Dev) (c : Nat) (k : KCtx) : (d.setKc c k).inject = d.inject := rfl
@[simp] theorem Dev_setKc_eject (d : Dev) (c : Nat) (k : KCtx) : (d.setKc c k).eject = d.eject := rfl
@[simp] theorem Dev_setKc_router (d : Dev) (c : Nat) (k : KCtx) : (d.setKc c k).router = d.router := rfl
@[simp] theorem Dev_setKc_ports (d : Dev) (c : Nat) (k : KCtx) : (d.setKc c k).ports = d.ports := rfl
@[simp] theorem Dev_setKc_conns (d : Dev) (c : Nat) (k : KCtx) : (d.setKc c k).conns = d.conns := rfl
@[simp] theorem Dev_setKc_sess (d : Dev) (c : Nat) (k : KCtx) : (d.setKc c k).sess = d.sess := rfl
@[simp] theorem Dev_setKc_links (d : Dev) (c : Nat) (k : KCtx) : (d.setKc c k).links = d.links := rfl
@[simp] theorem Dev_setKc_qps (d : Dev) (c : Nat) (k : KCtx) : (d.setKc c k).qps = d.qps := rfl
@[simp] theorem Dev_setKc_mrs (d : Dev) (c : Nat) (k : KCtx) : (d.setKc c k).mrs = d.mrs := rfl
@[simp] theorem Dev_setKc_hports (d : Dev) (c : Nat) (k : KCtx) : (d.setKc c k).hports = d.hports := rfl
@[simp] theorem Dev_setKc_ptp (d : Dev) (c : Nat) (k : KCtx) : (d.setKc c k).ptp = d.ptp := rfl
@[simp] theorem Dev_setKc_rf (d : Dev) (c : Nat) (k : KCtx) : (d.setKc c k).rf = d.rf := rfl
@[simp] theorem Dev_setKc_rfPush (d : Dev) (c : Nat) (k : KCtx) : (d.setKc c k).rfPush = d.rfPush := rfl
@[simp] theorem Dev_setKc_rfSse (d : Dev) (c : Nat) (k : KCtx) : (d.setKc c k).rfSse = d.rfSse := rfl
@[simp] theorem Dev_setKc_logins (d : Dev) (c : Nat) (k : KCtx) : (d.setKc c k).logins = d.logins := rfl
@[simp] theorem Dev_setKc_lockedAt (d : Dev) (c : Nat) (k : KCtx) : (d.setKc c k).lockedAt = d.lockedAt := rfl
@[simp] theorem Dev_setKc_clearRun (d : Dev) (c : Nat) (k : KCtx) : (d.setKc c k).clearRun = d.clearRun := rfl
@[simp] theorem Dev_setKc_log (d : Dev) (c : Nat) (k : KCtx) : (d.setKc c k).log = d.log := rfl
@[simp] theorem Dev_setKc_recov (d : Dev) (c : Nat) (k : KCtx) : (d.setKc c k).recov = d.recov := rfl
@[simp] theorem Dev_setKc_out (d : Dev) (c : Nat) (k : KCtx) : (d.setKc c k).out = d.out := rfl
@[simp] theorem Dev_setKc_free (d : Dev) (c : Nat) (k : KCtx) : (d.setKc c k).free = d.free := rfl

/-! ### Reading back what an update wrote -/

@[simp] theorem setPav_pavs (d : Dev) (n : Nat) (p : Pav) : (d.setPav n p).pavs = setAt d.pavs n p := rfl
theorem pav_setPav_same (d : Dev) (n : Nat) (p : Pav) (h : n < d.pavs.length) : (d.setPav n p).pav n = p := by
  simp [Dev.pav, Dev.setPav, nthD, setAt, h]
theorem pav_setPav_other (d : Dev) {n m : Nat} (p : Pav) (h : m ≠ n) : (d.setPav n p).pav m = d.pav m := by
  simp [Dev.pav, Dev.setPav, nthD, setAt, Ne.symm h]
/-- Putting back the pavilion that is there changes nothing. -/
theorem setPav_self (d : Dev) (n : Nat) (h : n < d.pavs.length) : d.setPav n (d.pav n) = d := by
  have : setAt d.pavs n (d.pav n) = d.pavs := by
    simp [setAt, Dev.pav, nthD, h]
  simp only [Dev.setPav, this]
@[simp] theorem ctx_setCtx_same (d : Dev) (c : Nat) (x : Ctx) : (d.setCtx c x).ctx c = x := by simp [Dev.ctx, Dev.setCtx]
@[simp] theorem plot_setPlot_same (d : Dev) (p : Nat) (x : Plot) : (d.setPlot p x).plot p = x := by simp [Dev.plot, Dev.setPlot]
@[simp] theorem step_setStep_same (d : Dev) (p : Nat) (x : StepCtl) : (d.setStep p x).step p = x := by simp [Dev.step, Dev.setStep]
@[simp] theorem kc_setKc_same (d : Dev) (c : Nat) (k : KCtx) : (d.setKc c k).kc c = k := by simp [Dev.kc, Dev.setKc]
@[simp] theorem rg_setRg_same (d : Dev) (pg o b : Nat) (v : W32) : (d.setRg pg o b v).rg pg o b = v := by
  simp [Dev.rg, Dev.setRg]
/-- What holds of the elements of a list and of the default holds of every indexed one. -/
theorem nthD_all {α : Type} (P : α → Prop) (l : List α) (x : α) (hx : P x) (h : ∀ y, y ∈ l → P y) (n : Nat) : P (nthD l n x) := by
  unfold nthD
  cases e : l[n]? with
  | none => exact hx
  | some y => exact h y (List.mem_of_getElem? e)
theorem port_setPort_same (d : Dev) (n : Nat) (p : Port) (h : n < d.ports.length) : (d.setPort n p).port n = p := by
  simp [Dev.port, Dev.setPort, nthD, setAt, h]
/-- The number of a register tells its page, offset and bank. -/
theorem rk_inj {pg o b pg' o' b' : Nat} (h1 : pg < 4096) (h2 : o < 4096) (h1' : pg' < 4096) (h2' : o' < 4096)
    (h : rk pg o b = rk pg' o' b') : pg = pg' ∧ o = o' ∧ b = b' := by
  simp only [rk] at h; omega
theorem rg_setRg_other (d : Dev) {pg o b pg' o' b' : Nat} (v : W32) (h : rk pg' o' b' ≠ rk pg o b) :
    (d.setRg pg o b v).rg pg' o' b' = d.rg pg' o' b' := by
  simp [Dev.rg, Dev.setRg, smap_get_put_other _ _ _ h]

end Sys2Proof.Laws
end

