-- ==== Sys2Proof/Laws/Faults.lean ====
section
/-! SUPPORT. What the record of a fault can change: registers, ALERT_N, the log, and what alerts send; nothing else of the device (R502, R595, R596). -/
namespace Sys2Proof.Laws
open Sys2Proof.Machine

@[simp] theorem hush_setRg (d : Dev) (pg o b : Nat) (v : W32) : hush (d.setRg pg o b v) = hush d := rfl
@[simp] theorem hush_setN (d : Dev) (pg o b v : Nat) : hush (d.setN pg o b v) = hush d := rfl
@[simp] theorem hush_set64 (d : Dev) (pg o b v : Nat) : hush (d.set64 pg o b v) = hush d := rfl
@[simp] theorem hush_countB (d : Dev) (pg o b n : Nat) : hush (d.countB pg o b n) = hush d := by
  unfold Dev.countB; split <;> rfl
@[simp] theorem hush_count (d : Dev) (pg o n : Nat) : hush (d.count pg o n) = hush d := hush_countB d pg o 0 n
@[simp] theorem hush_emit (d : Dev) (x : Out) : hush (d.emit x) = hush d := rfl
@[simp] theorem hush_setConn (d : Dev) (n : Nat) (c : Conn) : hush (d.setConn n c) = hush d := rfl
@[simp] theorem hush_onHport (d : Dev) (n : Nat) (f : HPort → HPort) : hush (d.onHport n f) = hush d := rfl
@[simp] theorem hush_log (d : Dev) (l : Log) : hush { d with log := l } = hush d := rfl
@[simp] theorem hush_alertN (d : Dev) (a : Bool) : hush { d with alertN := a } = hush d := rfl

@[simp] theorem hush_logPush (d : Dev) (e : LogEntry) : hush (d.logPush e) = hush d := by
  unfold Dev.logPush; split <;> simp

@[simp] theorem hush_alertUpdate (d : Dev) : hush d.alertUpdate = hush d := by
  unfold Dev.alertUpdate; split <;> simp

theorem hush_recordRaw (d : Dev) (pg bk b : Nat) (cls : FaultClass) (inj : Bool) (w : Where) (send : Dev → Dev)
    (hs : ∀ e, hush (send e) = hush e) : hush (d.recordRaw pg bk b cls inj w send) = hush d := by
  unfold Dev.recordRaw
  dsimp only
  repeat' split
  all_goals simp [hs]

@[simp] theorem hush_hostSend (d : Dev) (i n : Nat) (o : Out) : hush (d.hostSend i n o) = hush d := by
  unfold Dev.hostSend
  dsimp only
  repeat' split
  all_goals first
    | rfl
    | simp
    | exact hush_recordRaw _ _ _ _ _ _ _ _ (fun _ => rfl)

theorem hush_forEach {α : Type} (l : List α) (d : Dev) (f : Dev → α → Dev) (h : ∀ e x, hush (f e x) = hush e) :
    hush (forEach l d f) = hush d := by
  unfold forEach
  induction l generalizing d with
  | nil => rfl
  | cons x rest ih => simp only [List.foldl_cons]; rw [ih, h]

@[simp] theorem hush_alertSend (d : Dev) (pg b : Nat) : hush (d.alertSend pg b) = hush d := by
  unfold Dev.alertSend
  dsimp only
  split
  · rw [hush_emit]
    exact hush_forEach _ _ _ (fun s k => by split <;> simp)
  · exact hush_forEach _ _ _ (fun s k => by split <;> simp)

@[simp] theorem hush_recordB (d : Dev) (pg bk b : Nat) (cls : FaultClass) (inj : Bool) (w : Where) :
    hush (d.recordB pg bk b cls inj w) = hush d := hush_recordRaw _ _ _ _ _ _ _ _ (fun _ => by simp)

@[simp] theorem hush_record (d : Dev) (pg b : Nat) (w : Where) : hush (d.record pg b w) = hush d := by
  unfold Dev.record; simp

/-! ### The fields a record leaves alone -/

@[simp] theorem recordB_modl (d : Dev) (pg bk b : Nat) (cls : FaultClass) (inj : Bool) (w : Where) :
    (d.recordB pg bk b cls inj w).modl = d.modl :=
  show (hush (d.recordB pg bk b cls inj w)).modl = (hush d).modl from congrArg Dev.modl (hush_recordB d pg bk b cls inj w)
@[simp] theorem record_modl (d : Dev) (pg b : Nat) (w : Where) : (d.record pg b w).modl = d.modl :=
  show (hush (d.record pg b w)).modl = (hush d).modl from congrArg Dev.modl (hush_record d pg b w)
@[simp] theorem recordB_power (d : Dev) (pg bk b : Nat) (cls : FaultClass) (inj : Bool) (w : Where) :
    (d.recordB pg bk b cls inj w).power = d.power :=
  show (hush (d.recordB pg bk b cls inj w)).power = (hush d).power from congrArg Dev.power (hush_recordB d pg bk b cls inj w)
@[simp] theorem record_power (d : Dev) (pg b : Nat) (w : Where) : (d.record pg b w).power = d.power :=
  show (hush (d.record pg b w)).power = (hush d).power from congrArg Dev.power (hush_record d pg b w)
@[simp] theorem recordB_belv (d : Dev) (pg bk b : Nat) (cls : FaultClass) (inj : Bool) (w : Where) :
    (d.recordB pg bk b cls inj w).belv = d.belv :=
  show (hush (d.recordB pg bk b cls inj w)).belv = (hush d).belv from congrArg Dev.belv (hush_recordB d pg bk b cls inj w)
@[simp] theorem record_belv (d : Dev) (pg b : Nat) (w : Where) : (d.record pg b w).belv = d.belv :=
  show (hush (d.record pg b w)).belv = (hush d).belv from congrArg Dev.belv (hush_record d pg b w)
@[simp] theorem recordB_time (d : Dev) (pg bk b : Nat) (cls : FaultClass) (inj : Bool) (w : Where) :
    (d.recordB pg bk b cls inj w).time = d.time :=
  show (hush (d.recordB pg bk b cls inj w)).time = (hush d).time from congrArg Dev.time (hush_recordB d pg bk b cls inj w)
@[simp] theorem record_time (d : Dev) (pg b : Nat) (w : Where) : (d.record pg b w).time = d.time :=
  show (hush (d.record pg b w)).time = (hush d).time from congrArg Dev.time (hush_record d pg b w)
@[simp] theorem recordB_sels (d : Dev) (pg bk b : Nat) (cls : FaultClass) (inj : Bool) (w : Where) :
    (d.recordB pg bk b cls inj w).sels = d.sels :=
  show (hush (d.recordB pg bk b cls inj w)).sels = (hush d).sels from congrArg Dev.sels (hush_recordB d pg bk b cls inj w)
@[simp] theorem record_sels (d : Dev) (pg b : Nat) (w : Where) : (d.record pg b w).sels = d.sels :=
  show (hush (d.record pg b w)).sels = (hush d).sels from congrArg Dev.sels (hush_record d pg b w)
@[simp] theorem recordB_latch (d : Dev) (pg bk b : Nat) (cls : FaultClass) (inj : Bool) (w : Where) :
    (d.recordB pg bk b cls inj w).latch = d.latch :=
  show (hush (d.recordB pg bk b cls inj w)).latch = (hush d).latch from congrArg Dev.latch (hush_recordB d pg bk b cls inj w)
@[simp] theorem record_latch (d : Dev) (pg b : Nat) (w : Where) : (d.record pg b w).latch = d.latch :=
  show (hush (d.record pg b w)).latch = (hush d).latch from congrArg Dev.latch (hush_record d pg b w)
@[simp] theorem recordB_snaps (d : Dev) (pg bk b : Nat) (cls : FaultClass) (inj : Bool) (w : Where) :
    (d.recordB pg bk b cls inj w).snaps = d.snaps :=
  show (hush (d.recordB pg bk b cls inj w)).snaps = (hush d).snaps from congrArg Dev.snaps (hush_recordB d pg bk b cls inj w)
@[simp] theorem record_snaps (d : Dev) (pg b : Nat) (w : Where) : (d.record pg b w).snaps = d.snaps :=
  show (hush (d.record pg b w)).snaps = (hush d).snaps from congrArg Dev.snaps (hush_record d pg b w)
@[simp] theorem recordB_pavs (d : Dev) (pg bk b : Nat) (cls : FaultClass) (inj : Bool) (w : Where) :
    (d.recordB pg bk b cls inj w).pavs = d.pavs :=
  show (hush (d.recordB pg bk b cls inj w)).pavs = (hush d).pavs from congrArg Dev.pavs (hush_recordB d pg bk b cls inj w)
@[simp] theorem record_pavs (d : Dev) (pg b : Nat) (w : Where) : (d.record pg b w).pavs = d.pavs :=
  show (hush (d.record pg b w)).pavs = (hush d).pavs from congrArg Dev.pavs (hush_record d pg b w)
@[simp] theorem recordB_ctxs (d : Dev) (pg bk b : Nat) (cls : FaultClass) (inj : Bool) (w : Where) :
    (d.recordB pg bk b cls inj w).ctxs = d.ctxs :=
  show (hush (d.recordB pg bk b cls inj w)).ctxs = (hush d).ctxs from congrArg Dev.ctxs (hush_recordB d pg bk b cls inj w)
@[simp] theorem record_ctxs (d : Dev) (pg b : Nat) (w : Where) : (d.record pg b w).ctxs = d.ctxs :=
  show (hush (d.record pg b w)).ctxs = (hush d).ctxs from congrArg Dev.ctxs (hush_record d pg b w)
@[simp] theorem recordB_plots (d : Dev) (pg bk b : Nat) (cls : FaultClass) (inj : Bool) (w : Where) :
    (d.recordB pg bk b cls inj w).plots = d.plots :=
  show (hush (d.recordB pg bk b cls inj w)).plots = (hush d).plots from congrArg Dev.plots (hush_recordB d pg bk b cls inj w)
@[simp] theorem record_plots (d : Dev) (pg b : Nat) (w : Where) : (d.record pg b w).plots = d.plots :=
  show (hush (d.record pg b w)).plots = (hush d).plots from congrArg Dev.plots (hush_record d pg b w)
@[simp] theorem recordB_steps (d : Dev) (pg bk b : Nat) (cls : FaultClass) (inj : Bool) (w : Where) :
    (d.recordB pg bk b cls inj w).steps = d.steps :=
  show (hush (d.recordB pg bk b cls inj w)).steps = (hush d).steps from congrArg Dev.steps (hush_recordB d pg bk b cls inj w)
@[simp] theorem record_steps (d : Dev) (pg b : Nat) (w : Where) : (d.record pg b w).steps = d.steps :=
  show (hush (d.record pg b w)).steps = (hush d).steps from congrArg Dev.steps (hush_record d pg b w)
@[simp] theorem recordB_lastSteps (d : Dev) (pg bk b : Nat) (cls : FaultClass) (inj : Bool) (w : Where) :
    (d.recordB pg bk b cls inj w).lastSteps = d.lastSteps :=
  show (hush (d.recordB pg bk b cls inj w)).lastSteps = (hush d).lastSteps from congrArg Dev.lastSteps (hush_recordB d pg bk b cls inj w)
@[simp] theorem record_lastSteps (d : Dev) (pg b : Nat) (w : Where) : (d.record pg b w).lastSteps = d.lastSteps :=
  show (hush (d.record pg b w)).lastSteps = (hush d).lastSteps from congrArg Dev.lastSteps (hush_record d pg b w)
@[simp] theorem recordB_kctx (d : Dev) (pg bk b : Nat) (cls : FaultClass) (inj : Bool) (w : Where) :
    (d.recordB pg bk b cls inj w).kctx = d.kctx :=
  show (hush (d.recordB pg bk b cls inj w)).kctx = (hush d).kctx from congrArg Dev.kctx (hush_recordB d pg bk b cls inj w)
@[simp] theorem record_kctx (d : Dev) (pg b : Nat) (w : Where) : (d.record pg b w).kctx = d.kctx :=
  show (hush (d.record pg b w)).kctx = (hush d).kctx from congrArg Dev.kctx (hush_record d pg b w)
@[simp] theorem recordB_seqs (d : Dev) (pg bk b : Nat) (cls : FaultClass) (inj : Bool) (w : Where) :
    (d.recordB pg bk b cls inj w).seqs = d.seqs :=
  show (hush (d.recordB pg bk b cls inj w)).seqs = (hush d).seqs from congrArg Dev.seqs (hush_recordB d pg bk b cls inj w)
@[simp] theorem record_seqs (d : Dev) (pg b : Nat) (w : Where) : (d.record pg b w).seqs = d.seqs :=
  show (hush (d.record pg b w)).seqs = (hush d).seqs from congrArg Dev.seqs (hush_record d pg b w)
@[simp] theorem recordB_rings (d : Dev) (pg bk b : Nat) (cls : FaultClass) (inj : Bool) (w : Where) :
    (d.recordB pg bk b cls inj w).rings = d.rings :=
  show (hush (d.recordB pg bk b cls inj w)).rings = (hush d).rings from congrArg Dev.rings (hush_recordB d pg bk b cls inj w)
@[simp] theorem record_rings (d : Dev) (pg b : Nat) (w : Where) : (d.record pg b w).rings = d.rings :=
  show (hush (d.record pg b w)).rings = (hush d).rings from congrArg Dev.rings (hush_record d pg b w)
@[simp] theorem recordB_accts (d : Dev) (pg bk b : Nat) (cls : FaultClass) (inj : Bool) (w : Where) :
    (d.recordB pg bk b cls inj w).accts = d.accts :=
  show (hush (d.recordB pg bk b cls inj w)).accts = (hush d).accts from congrArg Dev.accts (hush_recordB d pg bk b cls inj w)
@[simp] theorem record_accts (d : Dev) (pg b : Nat) (w : Where) : (d.record pg b w).accts = d.accts :=
  show (hush (d.record pg b w)).accts = (hush d).accts from congrArg Dev.accts (hush_record d pg b w)
@[simp] theorem recordB_remote (d : Dev) (pg bk b : Nat) (cls : FaultClass) (inj : Bool) (w : Where) :
    (d.recordB pg bk b cls inj w).remote = d.remote :=
  show (hush (d.recordB pg bk b cls inj w)).remote = (hush d).remote from congrArg Dev.remote (hush_recordB d pg bk b cls inj w)
@[simp] theorem record_remote (d : Dev) (pg b : Nat) (w : Where) : (d.record pg b w).remote = d.remote :=
  show (hush (d.record pg b w)).remote = (hush d).remote from congrArg Dev.remote (hush_record d pg b w)
@[simp] theorem recordB_keys (d : Dev) (pg bk b : Nat) (cls : FaultClass) (inj : Bool) (w : Where) :
    (d.recordB pg bk b cls inj w).keys = d.keys :=
  show (hush (d.recordB pg bk b cls inj w)).keys = (hush d).keys from congrArg Dev.keys (hush_recordB d pg bk b cls inj w)
@[simp] theorem record_keys (d : Dev) (pg b : Nat) (w : Where) : (d.record pg b w).keys = d.keys :=
  show (hush (d.record pg b w)).keys = (hush d).keys from congrArg Dev.keys (hush_record d pg b w)
@[simp] theorem recordB_lpddr (d : Dev) (pg bk b : Nat) (cls : FaultClass) (inj : Bool) (w : Where) :
    (d.recordB pg bk b cls inj w).lpddr = d.lpddr :=
  show (hush (d.recordB pg bk b cls inj w)).lpddr = (hush d).lpddr from congrArg Dev.lpddr (hush_recordB d pg bk b cls inj w)
@[simp] theorem record_lpddr (d : Dev) (pg b : Nat) (w : Where) : (d.record pg b w).lpddr = d.lpddr :=
  show (hush (d.record pg b w)).lpddr = (hush d).lpddr from congrArg Dev.lpddr (hush_record d pg b w)
@[simp] theorem recordB_burstKey (d : Dev) (pg bk b : Nat) (cls : FaultClass) (inj : Bool) (w : Where) :
    (d.recordB pg bk b cls inj w).burstKey = d.burstKey :=
  show (hush (d.recordB pg bk b cls inj w)).burstKey = (hush d).burstKey from congrArg Dev.burstKey (hush_recordB d pg bk b cls inj w)
@[simp] theorem record_burstKey (d : Dev) (pg b : Nat) (w : Where) : (d.record pg b w).burstKey = d.burstKey :=
  show (hush (d.record pg b w)).burstKey = (hush d).burstKey from congrArg Dev.burstKey (hush_record d pg b w)
@[simp] theorem recordB_dramBad (d : Dev) (pg bk b : Nat) (cls : FaultClass) (inj : Bool) (w : Where) :
    (d.recordB pg bk b cls inj w).dramBad = d.dramBad :=
  show (hush (d.recordB pg bk b cls inj w)).dramBad = (hush d).dramBad from congrArg Dev.dramBad (hush_recordB d pg bk b cls inj w)
@[simp] theorem record_dramBad (d : Dev) (pg b : Nat) (w : Where) : (d.record pg b w).dramBad = d.dramBad :=
  show (hush (d.record pg b w)).dramBad = (hush d).dramBad from congrArg Dev.dramBad (hush_record d pg b w)
@[simp] theorem recordB_pageBad (d : Dev) (pg bk b : Nat) (cls : FaultClass) (inj : Bool) (w : Where) :
    (d.recordB pg bk b cls inj w).pageBad = d.pageBad :=
  show (hush (d.recordB pg bk b cls inj w)).pageBad = (hush d).pageBad from congrArg Dev.pageBad (hush_recordB d pg bk b cls inj w)
@[simp] theorem record_pageBad (d : Dev) (pg b : Nat) (w : Where) : (d.record pg b w).pageBad = d.pageBad :=
  show (hush (d.record pg b w)).pageBad = (hush d).pageBad from congrArg Dev.pageBad (hush_record d pg b w)
@[simp] theorem recordB_pages (d : Dev) (pg bk b : Nat) (cls : FaultClass) (inj : Bool) (w : Where) :
    (d.recordB pg bk b cls inj w).pages = d.pages :=
  show (hush (d.recordB pg bk b cls inj w)).pages = (hush d).pages from congrArg Dev.pages (hush_recordB d pg bk b cls inj w)
@[simp] theorem record_pages (d : Dev) (pg b : Nat) (w : Where) : (d.record pg b w).pages = d.pages :=
  show (hush (d.record pg b w)).pages = (hush d).pages from congrArg Dev.pages (hush_record d pg b w)
@[simp] theorem recordB_memctl (d : Dev) (pg bk b : Nat) (cls : FaultClass) (inj : Bool) (w : Where) :
    (d.recordB pg bk b cls inj w).memctl = d.memctl :=
  show (hush (d.recordB pg bk b cls inj w)).memctl = (hush d).memctl from congrArg Dev.memctl (hush_recordB d pg bk b cls inj w)
@[simp] theorem record_memctl (d : Dev) (pg b : Nat) (w : Where) : (d.record pg b w).memctl = d.memctl :=
  show (hush (d.record pg b w)).memctl = (hush d).memctl from congrArg Dev.memctl (hush_record d pg b w)
@[simp] theorem recordB_regions (d : Dev) (pg bk b : Nat) (cls : FaultClass) (inj : Bool) (w : Where) :
    (d.recordB pg bk b cls inj w).regions = d.regions :=
  show (hush (d.recordB pg bk b cls inj w)).regions = (hush d).regions from congrArg Dev.regions (hush_recordB d pg bk b cls inj w)
@[simp] theorem record_regions (d : Dev) (pg b : Nat) (w : Where) : (d.record pg b w).regions = d.regions :=
  show (hush (d.record pg b w)).regions = (hush d).regions from congrArg Dev.regions (hush_record d pg b w)
@[simp] theorem recordB_backing (d : Dev) (pg bk b : Nat) (cls : FaultClass) (inj : Bool) (w : Where) :
    (d.recordB pg bk b cls inj w).backing = d.backing :=
  show (hush (d.recordB pg bk b cls inj w)).backing = (hush d).backing from congrArg Dev.backing (hush_recordB d pg bk b cls inj w)
@[simp] theorem record_backing (d : Dev) (pg b : Nat) (w : Where) : (d.record pg b w).backing = d.backing :=
  show (hush (d.record pg b w)).backing = (hush d).backing from congrArg Dev.backing (hush_record d pg b w)
@[simp] theorem recordB_inPlace (d : Dev) (pg bk b : Nat) (cls : FaultClass) (inj : Bool) (w : Where) :
    (d.recordB pg bk b cls inj w).inPlace = d.inPlace :=
  show (hush (d.recordB pg bk b cls inj w)).inPlace = (hush d).inPlace from congrArg Dev.inPlace (hush_recordB d pg bk b cls inj w)
@[simp] theorem record_inPlace (d : Dev) (pg b : Nat) (w : Where) : (d.record pg b w).inPlace = d.inPlace :=
  show (hush (d.record pg b w)).inPlace = (hush d).inPlace from congrArg Dev.inPlace (hush_record d pg b w)
@[simp] theorem recordB_fencePrev (d : Dev) (pg bk b : Nat) (cls : FaultClass) (inj : Bool) (w : Where) :
    (d.recordB pg bk b cls inj w).fencePrev = d.fencePrev :=
  show (hush (d.recordB pg bk b cls inj w)).fencePrev = (hush d).fencePrev from congrArg Dev.fencePrev (hush_recordB d pg bk b cls inj w)
@[simp] theorem record_fencePrev (d : Dev) (pg b : Nat) (w : Where) : (d.record pg b w).fencePrev = d.fencePrev :=
  show (hush (d.record pg b w)).fencePrev = (hush d).fencePrev from congrArg Dev.fencePrev (hush_record d pg b w)
@[simp] theorem recordB_tickEnd (d : Dev) (pg bk b : Nat) (cls : FaultClass) (inj : Bool) (w : Where) :
    (d.recordB pg bk b cls inj w).tickEnd = d.tickEnd :=
  show (hush (d.recordB pg bk b cls inj w)).tickEnd = (hush d).tickEnd from congrArg Dev.tickEnd (hush_recordB d pg bk b cls inj w)
@[simp] theorem record_tickEnd (d : Dev) (pg b : Nat) (w : Where) : (d.record pg b w).tickEnd = d.tickEnd :=
  show (hush (d.record pg b w)).tickEnd = (hush d).tickEnd from congrArg Dev.tickEnd (hush_record d pg b w)
@[simp] theorem recordB_shards (d : Dev) (pg bk b : Nat) (cls : FaultClass) (inj : Bool) (w : Where) :
    (d.recordB pg bk b cls inj w).shards = d.shards :=
  show (hush (d.recordB pg bk b cls inj w)).shards = (hush d).shards from congrArg Dev.shards (hush_recordB d pg bk b cls inj w)
@[simp] theorem record_shards (d : Dev) (pg b : Nat) (w : Where) : (d.record pg b w).shards = d.shards :=
  show (hush (d.record pg b w)).shards = (hush d).shards from congrArg Dev.shards (hush_record d pg b w)
@[simp] theorem recordB_shardKeys (d : Dev) (pg bk b : Nat) (cls : FaultClass) (inj : Bool) (w : Where) :
    (d.recordB pg bk b cls inj w).shardKeys = d.shardKeys :=
  show (hush (d.recordB pg bk b cls inj w)).shardKeys = (hush d).shardKeys from congrArg Dev.shardKeys (hush_recordB d pg bk b cls inj w)
@[simp] theorem record_shardKeys (d : Dev) (pg b : Nat) (w : Where) : (d.record pg b w).shardKeys = d.shardKeys :=
  show (hush (d.record pg b w)).shardKeys = (hush d).shardKeys from congrArg Dev.shardKeys (hush_record d pg b w)
@[simp] theorem recordB_pubKeys (d : Dev) (pg bk b : Nat) (cls : FaultClass) (inj : Bool) (w : Where) :
    (d.recordB pg bk b cls inj w).pubKeys = d.pubKeys :=
  show (hush (d.recordB pg bk b cls inj w)).pubKeys = (hush d).pubKeys from congrArg Dev.pubKeys (hush_recordB d pg bk b cls inj w)
@[simp] theorem record_pubKeys (d : Dev) (pg b : Nat) (w : Where) : (d.record pg b w).pubKeys = d.pubKeys :=
  show (hush (d.record pg b w)).pubKeys = (hush d).pubKeys from congrArg Dev.pubKeys (hush_record d pg b w)
@[simp] theorem recordB_jobs (d : Dev) (pg bk b : Nat) (cls : FaultClass) (inj : Bool) (w : Where) :
    (d.recordB pg bk b cls inj w).jobs = d.jobs :=
  show (hush (d.recordB pg bk b cls inj w)).jobs = (hush d).jobs from congrArg Dev.jobs (hush_recordB d pg bk b cls inj w)
@[simp] theorem record_jobs (d : Dev) (pg b : Nat) (w : Where) : (d.record pg b w).jobs = d.jobs :=
  show (hush (d.record pg b w)).jobs = (hush d).jobs from congrArg Dev.jobs (hush_record d pg b w)
@[simp] theorem recordB_xfers (d : Dev) (pg bk b : Nat) (cls : FaultClass) (inj : Bool) (w : Where) :
    (d.recordB pg bk b cls inj w).xfers = d.xfers :=
  show (hush (d.recordB pg bk b cls inj w)).xfers = (hush d).xfers from congrArg Dev.xfers (hush_recordB d pg bk b cls inj w)
@[simp] theorem record_xfers (d : Dev) (pg b : Nat) (w : Where) : (d.record pg b w).xfers = d.xfers :=
  show (hush (d.record pg b w)).xfers = (hush d).xfers from congrArg Dev.xfers (hush_record d pg b w)
@[simp] theorem recordB_serial (d : Dev) (pg bk b : Nat) (cls : FaultClass) (inj : Bool) (w : Where) :
    (d.recordB pg bk b cls inj w).serial = d.serial :=
  show (hush (d.recordB pg bk b cls inj w)).serial = (hush d).serial from congrArg Dev.serial (hush_recordB d pg bk b cls inj w)
@[simp] theorem record_serial (d : Dev) (pg b : Nat) (w : Where) : (d.record pg b w).serial = d.serial :=
  show (hush (d.record pg b w)).serial = (hush d).serial from congrArg Dev.serial (hush_record d pg b w)
@[simp] theorem recordB_tagGen (d : Dev) (pg bk b : Nat) (cls : FaultClass) (inj : Bool) (w : Where) :
    (d.recordB pg bk b cls inj w).tagGen = d.tagGen :=
  show (hush (d.recordB pg bk b cls inj w)).tagGen = (hush d).tagGen from congrArg Dev.tagGen (hush_recordB d pg bk b cls inj w)
@[simp] theorem record_tagGen (d : Dev) (pg b : Nat) (w : Where) : (d.record pg b w).tagGen = d.tagGen :=
  show (hush (d.record pg b w)).tagGen = (hush d).tagGen from congrArg Dev.tagGen (hush_record d pg b w)
@[simp] theorem recordB_trackers (d : Dev) (pg bk b : Nat) (cls : FaultClass) (inj : Bool) (w : Where) :
    (d.recordB pg bk b cls inj w).trackers = d.trackers :=
  show (hush (d.recordB pg bk b cls inj w)).trackers = (hush d).trackers from congrArg Dev.trackers (hush_recordB d pg bk b cls inj w)
@[simp] theorem record_trackers (d : Dev) (pg b : Nat) (w : Where) : (d.record pg b w).trackers = d.trackers :=
  show (hush (d.record pg b w)).trackers = (hush d).trackers from congrArg Dev.trackers (hush_record d pg b w)
@[simp] theorem recordB_arrivals (d : Dev) (pg bk b : Nat) (cls : FaultClass) (inj : Bool) (w : Where) :
    (d.recordB pg bk b cls inj w).arrivals = d.arrivals :=
  show (hush (d.recordB pg bk b cls inj w)).arrivals = (hush d).arrivals from congrArg Dev.arrivals (hush_recordB d pg bk b cls inj w)
@[simp] theorem record_arrivals (d : Dev) (pg b : Nat) (w : Where) : (d.record pg b w).arrivals = d.arrivals :=
  show (hush (d.record pg b w)).arrivals = (hush d).arrivals from congrArg Dev.arrivals (hush_record d pg b w)
@[simp] theorem recordB_unconf (d : Dev) (pg bk b : Nat) (cls : FaultClass) (inj : Bool) (w : Where) :
    (d.recordB pg bk b cls inj w).unconf = d.unconf :=
  show (hush (d.recordB pg bk b cls inj w)).unconf = (hush d).unconf from congrArg Dev.unconf (hush_recordB d pg bk b cls inj w)
@[simp] theorem record_unconf (d : Dev) (pg b : Nat) (w : Where) : (d.record pg b w).unconf = d.unconf :=
  show (hush (d.record pg b w)).unconf = (hush d).unconf from congrArg Dev.unconf (hush_record d pg b w)
@[simp] theorem recordB_inject (d : Dev) (pg bk b : Nat) (cls : FaultClass) (inj : Bool) (w : Where) :
    (d.recordB pg bk b cls inj w).inject = d.inject :=
  show (hush (d.recordB pg bk b cls inj w)).inject = (hush d).inject from congrArg Dev.inject (hush_recordB d pg bk b cls inj w)
@[simp] theorem record_inject (d : Dev) (pg b : Nat) (w : Where) : (d.record pg b w).inject = d.inject :=
  show (hush (d.record pg b w)).inject = (hush d).inject from congrArg Dev.inject (hush_record d pg b w)
@[simp] theorem recordB_eject (d : Dev) (pg bk b : Nat) (cls : FaultClass) (inj : Bool) (w : Where) :
    (d.recordB pg bk b cls inj w).eject = d.eject :=
  show (hush (d.recordB pg bk b cls inj w)).eject = (hush d).eject from congrArg Dev.eject (hush_recordB d pg bk b cls inj w)
@[simp] theorem record_eject (d : Dev) (pg b : Nat) (w : Where) : (d.record pg b w).eject = d.eject :=
  show (hush (d.record pg b w)).eject = (hush d).eject from congrArg Dev.eject (hush_record d pg b w)
@[simp] theorem recordB_router (d : Dev) (pg bk b : Nat) (cls : FaultClass) (inj : Bool) (w : Where) :
    (d.recordB pg bk b cls inj w).router = d.router :=
  show (hush (d.recordB pg bk b cls inj w)).router = (hush d).router from congrArg Dev.router (hush_recordB d pg bk b cls inj w)
@[simp] theorem record_router (d : Dev) (pg b : Nat) (w : Where) : (d.record pg b w).router = d.router :=
  show (hush (d.record pg b w)).router = (hush d).router from congrArg Dev.router (hush_record d pg b w)
@[simp] theorem recordB_ports (d : Dev) (pg bk b : Nat) (cls : FaultClass) (inj : Bool) (w : Where) :
    (d.recordB pg bk b cls inj w).ports = d.ports :=
  show (hush (d.recordB pg bk b cls inj w)).ports = (hush d).ports from congrArg Dev.ports (hush_recordB d pg bk b cls inj w)
@[simp] theorem record_ports (d : Dev) (pg b : Nat) (w : Where) : (d.record pg b w).ports = d.ports :=
  show (hush (d.record pg b w)).ports = (hush d).ports from congrArg Dev.ports (hush_record d pg b w)
@[simp] theorem recordB_sess (d : Dev) (pg bk b : Nat) (cls : FaultClass) (inj : Bool) (w : Where) :
    (d.recordB pg bk b cls inj w).sess = d.sess :=
  show (hush (d.recordB pg bk b cls inj w)).sess = (hush d).sess from congrArg Dev.sess (hush_recordB d pg bk b cls inj w)
@[simp] theorem record_sess (d : Dev) (pg b : Nat) (w : Where) : (d.record pg b w).sess = d.sess :=
  show (hush (d.record pg b w)).sess = (hush d).sess from congrArg Dev.sess (hush_record d pg b w)
@[simp] theorem recordB_links (d : Dev) (pg bk b : Nat) (cls : FaultClass) (inj : Bool) (w : Where) :
    (d.recordB pg bk b cls inj w).links = d.links :=
  show (hush (d.recordB pg bk b cls inj w)).links = (hush d).links from congrArg Dev.links (hush_recordB d pg bk b cls inj w)
@[simp] theorem record_links (d : Dev) (pg b : Nat) (w : Where) : (d.record pg b w).links = d.links :=
  show (hush (d.record pg b w)).links = (hush d).links from congrArg Dev.links (hush_record d pg b w)
@[simp] theorem recordB_qps (d : Dev) (pg bk b : Nat) (cls : FaultClass) (inj : Bool) (w : Where) :
    (d.recordB pg bk b cls inj w).qps = d.qps :=
  show (hush (d.recordB pg bk b cls inj w)).qps = (hush d).qps from congrArg Dev.qps (hush_recordB d pg bk b cls inj w)
@[simp] theorem record_qps (d : Dev) (pg b : Nat) (w : Where) : (d.record pg b w).qps = d.qps :=
  show (hush (d.record pg b w)).qps = (hush d).qps from congrArg Dev.qps (hush_record d pg b w)
@[simp] theorem recordB_mrs (d : Dev) (pg bk b : Nat) (cls : FaultClass) (inj : Bool) (w : Where) :
    (d.recordB pg bk b cls inj w).mrs = d.mrs :=
  show (hush (d.recordB pg bk b cls inj w)).mrs = (hush d).mrs from congrArg Dev.mrs (hush_recordB d pg bk b cls inj w)
@[simp] theorem record_mrs (d : Dev) (pg b : Nat) (w : Where) : (d.record pg b w).mrs = d.mrs :=
  show (hush (d.record pg b w)).mrs = (hush d).mrs from congrArg Dev.mrs (hush_record d pg b w)
@[simp] theorem recordB_ptp (d : Dev) (pg bk b : Nat) (cls : FaultClass) (inj : Bool) (w : Where) :
    (d.recordB pg bk b cls inj w).ptp = d.ptp :=
  show (hush (d.recordB pg bk b cls inj w)).ptp = (hush d).ptp from congrArg Dev.ptp (hush_recordB d pg bk b cls inj w)
@[simp] theorem record_ptp (d : Dev) (pg b : Nat) (w : Where) : (d.record pg b w).ptp = d.ptp :=
  show (hush (d.record pg b w)).ptp = (hush d).ptp from congrArg Dev.ptp (hush_record d pg b w)
@[simp] theorem recordB_rf (d : Dev) (pg bk b : Nat) (cls : FaultClass) (inj : Bool) (w : Where) :
    (d.recordB pg bk b cls inj w).rf = d.rf :=
  show (hush (d.recordB pg bk b cls inj w)).rf = (hush d).rf from congrArg Dev.rf (hush_recordB d pg bk b cls inj w)
@[simp] theorem record_rf (d : Dev) (pg b : Nat) (w : Where) : (d.record pg b w).rf = d.rf :=
  show (hush (d.record pg b w)).rf = (hush d).rf from congrArg Dev.rf (hush_record d pg b w)
@[simp] theorem recordB_rfPush (d : Dev) (pg bk b : Nat) (cls : FaultClass) (inj : Bool) (w : Where) :
    (d.recordB pg bk b cls inj w).rfPush = d.rfPush :=
  show (hush (d.recordB pg bk b cls inj w)).rfPush = (hush d).rfPush from congrArg Dev.rfPush (hush_recordB d pg bk b cls inj w)
@[simp] theorem record_rfPush (d : Dev) (pg b : Nat) (w : Where) : (d.record pg b w).rfPush = d.rfPush :=
  show (hush (d.record pg b w)).rfPush = (hush d).rfPush from congrArg Dev.rfPush (hush_record d pg b w)
@[simp] theorem recordB_rfSse (d : Dev) (pg bk b : Nat) (cls : FaultClass) (inj : Bool) (w : Where) :
    (d.recordB pg bk b cls inj w).rfSse = d.rfSse :=
  show (hush (d.recordB pg bk b cls inj w)).rfSse = (hush d).rfSse from congrArg Dev.rfSse (hush_recordB d pg bk b cls inj w)
@[simp] theorem record_rfSse (d : Dev) (pg b : Nat) (w : Where) : (d.record pg b w).rfSse = d.rfSse :=
  show (hush (d.record pg b w)).rfSse = (hush d).rfSse from congrArg Dev.rfSse (hush_record d pg b w)
@[simp] theorem recordB_logins (d : Dev) (pg bk b : Nat) (cls : FaultClass) (inj : Bool) (w : Where) :
    (d.recordB pg bk b cls inj w).logins = d.logins :=
  show (hush (d.recordB pg bk b cls inj w)).logins = (hush d).logins from congrArg Dev.logins (hush_recordB d pg bk b cls inj w)
@[simp] theorem record_logins (d : Dev) (pg b : Nat) (w : Where) : (d.record pg b w).logins = d.logins :=
  show (hush (d.record pg b w)).logins = (hush d).logins from congrArg Dev.logins (hush_record d pg b w)
@[simp] theorem recordB_lockedAt (d : Dev) (pg bk b : Nat) (cls : FaultClass) (inj : Bool) (w : Where) :
    (d.recordB pg bk b cls inj w).lockedAt = d.lockedAt :=
  show (hush (d.recordB pg bk b cls inj w)).lockedAt = (hush d).lockedAt from congrArg Dev.lockedAt (hush_recordB d pg bk b cls inj w)
@[simp] theorem record_lockedAt (d : Dev) (pg b : Nat) (w : Where) : (d.record pg b w).lockedAt = d.lockedAt :=
  show (hush (d.record pg b w)).lockedAt = (hush d).lockedAt from congrArg Dev.lockedAt (hush_record d pg b w)
@[simp] theorem recordB_clearRun (d : Dev) (pg bk b : Nat) (cls : FaultClass) (inj : Bool) (w : Where) :
    (d.recordB pg bk b cls inj w).clearRun = d.clearRun :=
  show (hush (d.recordB pg bk b cls inj w)).clearRun = (hush d).clearRun from congrArg Dev.clearRun (hush_recordB d pg bk b cls inj w)
@[simp] theorem record_clearRun (d : Dev) (pg b : Nat) (w : Where) : (d.record pg b w).clearRun = d.clearRun :=
  show (hush (d.record pg b w)).clearRun = (hush d).clearRun from congrArg Dev.clearRun (hush_record d pg b w)
@[simp] theorem recordB_recov (d : Dev) (pg bk b : Nat) (cls : FaultClass) (inj : Bool) (w : Where) :
    (d.recordB pg bk b cls inj w).recov = d.recov :=
  show (hush (d.recordB pg bk b cls inj w)).recov = (hush d).recov from congrArg Dev.recov (hush_recordB d pg bk b cls inj w)
@[simp] theorem record_recov (d : Dev) (pg b : Nat) (w : Where) : (d.record pg b w).recov = d.recov :=
  show (hush (d.record pg b w)).recov = (hush d).recov from congrArg Dev.recov (hush_record d pg b w)
@[simp] theorem recordB_free (d : Dev) (pg bk b : Nat) (cls : FaultClass) (inj : Bool) (w : Where) :
    (d.recordB pg bk b cls inj w).free = d.free :=
  show (hush (d.recordB pg bk b cls inj w)).free = (hush d).free from congrArg Dev.free (hush_recordB d pg bk b cls inj w)
@[simp] theorem record_free (d : Dev) (pg b : Nat) (w : Where) : (d.record pg b w).free = d.free :=
  show (hush (d.record pg b w)).free = (hush d).free from congrArg Dev.free (hush_record d pg b w)

end Sys2Proof.Laws
end

