-- ==== Sys2Proof/Laws/Registers.lean ====
section
/-! SUPPORT. Reading a register back after the shared updates: writes, counters, the record of a fault (R9, R502, R594, R600). -/
namespace Sys2Proof.Laws
open Sys2Proof.Machine

/-- A register depends on the register store alone. -/
theorem rgN_of_regs {d e : Dev} (h : d.regs = e.regs) (pg o b : Nat) : d.rgN pg o b = e.rgN pg o b := by
  simp [Dev.rgN, Dev.rg, h]

theorem rgN_ite (c : Prop) [Decidable c] (d e : Dev) (pg o b : Nat) :
    (if c then d else e).rgN pg o b = if c then d.rgN pg o b else e.rgN pg o b := by split <;> rfl

theorem rgN_setRg_same (d : Dev) (pg o b : Nat) (v : W32) : (d.setRg pg o b v).rgN pg o b = v.toNat := by simp [Dev.rgN]

theorem rgN_setN_same (d : Dev) (pg o b v : Nat) : (d.setN pg o b v).rgN pg o b = v % 2 ^ 32 := by
  simp [Dev.rgN, Dev.setN]

theorem rgN_setN_other (d : Dev) {pg o b pg' o' b' : Nat} (v : Nat) (h : rk pg' o' b' ≠ rk pg o b) :
    (d.setN pg o b v).rgN pg' o' b' = d.rgN pg' o' b' := by
  simp [Dev.rgN, Dev.setN, rg_setRg_other _ _ h]

theorem rgN_lt (d : Dev) (pg o b : Nat) : d.rgN pg o b < 2 ^ 32 := (d.rg pg o b).isLt

/-- A counter after an advance. -/
theorem rgN_countB_same (d : Dev) (pg o b n : Nat) :
    (d.countB pg o b n).rgN pg o b = if bitN (d.rgN pg 0x010 b) 0 then d.rgN pg o b else min (2 ^ 32 - 1) (d.rgN pg o b + n) := by
  have hlt := rgN_lt d pg o b
  unfold Dev.countB
  by_cases h : bitN (d.rgN pg 0x010 b) 0 = true
  · simp [h]
  · by_cases hn : n = 0
    · subst hn; simp [h] <;> omega
    · rw [if_neg (by simp [hn, h])]
      rw [rgN_setN_same]
      simp only [h, satAdd]
      simp <;> omega

theorem rgN_countB_other (d : Dev) {pg o b pg' o' b' : Nat} (n : Nat) (h : rk pg' o' b' ≠ rk pg o b) :
    (d.countB pg o b n).rgN pg' o' b' = d.rgN pg' o' b' := by
  unfold Dev.countB
  split
  · rfl
  · exact rgN_setN_other _ _ h

theorem rgN_count_other (d : Dev) {pg o pg' o' b' : Nat} (n : Nat) (h : rk pg' o' b' ≠ rk pg o 0) :
    (d.count pg o n).rgN pg' o' b' = d.rgN pg' o' b' := rgN_countB_other d n h

/-- A counter after an advance, in the words of the statements. -/
theorem rgN_count_same (d : Dev) (pg o n : Nat) :
    (d.count pg o n).rgN pg o 0 = if bitN (d.rgN pg 0x010 0) 0 then d.rgN pg o 0 else min (2 ^ 32 - 1) (d.rgN pg o 0 + n) :=
  rgN_countB_same d pg o 0 n

/-- A register of another page or item keeps its value under an update of a page's register. -/
theorem rk_page {pg o b pg' o' b' : Nat} (h1 : pg < 4096) (h2 : o < 4096) (h1' : pg' < 4096) (h2' : o' < 4096) (h : pg' ≠ pg) :
    rk pg' o' b' ≠ rk pg o b := fun e => h (rk_inj h1' h2' h1 h2 e).1

theorem rk_off {pg o b pg' o' b' : Nat} (h1 : pg < 4096) (h2 : o < 4096) (h1' : pg' < 4096) (h2' : o' < 4096) (h : o' ≠ o) :
    rk pg' o' b' ≠ rk pg o b := fun e => h (rk_inj h1' h2' h1 h2 e).2.1

/-- `setN` at a page leaves the registers of the other pages alone. -/
theorem rgN_setN_page (d : Dev) {pg o b pg' o' b' : Nat} (v : Nat) (h1 : pg < 4096) (h2 : o < 4096) (h1' : pg' < 4096)
    (h2' : o' < 4096) (h : pg' ≠ pg) : (d.setN pg o b v).rgN pg' o' b' = d.rgN pg' o' b' :=
  rgN_setN_other d v (rk_page h1 h2 h1' h2' h)

theorem rgN_set64_page (d : Dev) {pg o b pg' o' b' : Nat} (v : Nat) (h1 : pg < 4096) (h2 : o + 4 < 4096) (h1' : pg' < 4096)
    (h2' : o' < 4096) (h : pg' ≠ pg) : (d.set64 pg o b v).rgN pg' o' b' = d.rgN pg' o' b' := by
  unfold Dev.set64
  rw [rgN_setN_page _ _ h1 h2 h1' h2' h, rgN_setN_page _ _ h1 (by omega) h1' h2' h]

theorem rgN_countB_page (d : Dev) {pg o b pg' o' b' : Nat} (n : Nat) (h1 : pg < 4096) (h2 : o < 4096) (h1' : pg' < 4096)
    (h2' : o' < 4096) (h : pg' ≠ pg) : (d.countB pg o b n).rgN pg' o' b' = d.rgN pg' o' b' :=
  rgN_countB_other d n (rk_page h1 h2 h1' h2' h)

theorem rgN_count_page (d : Dev) {pg o pg' o' b' : Nat} (n : Nat) (h1 : pg < 4096) (h2 : o < 4096) (h1' : pg' < 4096)
    (h2' : o' < 4096) (h : pg' ≠ pg) : (d.count pg o n).rgN pg' o' b' = d.rgN pg' o' b' :=
  rgN_countB_page d n h1 h2 h1' h2' h

theorem rgN_alertUpdate (d : Dev) {pg' o' b' : Nat} (h1' : pg' < 4096) (h2' : o' < 4096) (h : pg' ≠ 0) :
    d.alertUpdate.rgN pg' o' b' = d.rgN pg' o' b' := by
  unfold Dev.alertUpdate
  split
  · rw [rgN_count_page _ _ (by decide) (by decide) h1' h2' h]; rfl
  · rfl

theorem rgN_logPush (d : Dev) (e : LogEntry) {pg' o' b' : Nat} (h1' : pg' < 4096) (h2' : o' < 4096) (h : pg' ≠ 9) :
    (d.logPush e).rgN pg' o' b' = d.rgN pg' o' b' := by
  unfold Dev.logPush
  split
  · rfl
  · dsimp only
    rw [rgN_count_page _ _ (by decide) (by decide) h1' h2' h, rgN_setN_page _ _ (by decide) (by decide) h1' h2' h]; rfl

/-- The record of a fault writes registers of its own page, DEVICE and LOG only, besides what `send` writes. -/
theorem rgN_recordRaw (d : Dev) {pg bk b pg' o' b' : Nat} (cls : FaultClass) (inj : Bool) (w : Where) (send : Dev → Dev)
    (hpg : pg < 4096) (h1' : pg' < 4096) (h2' : o' < 4096) (h : pg' ≠ pg) (h0 : pg' ≠ 0) (h9 : pg' ≠ 9)
    (hs : ∀ e, (send e).rgN pg' o' b' = e.rgN pg' o' b') :
    (d.recordRaw pg bk b cls inj w send).rgN pg' o' b' = d.rgN pg' o' b' := by
  unfold Dev.recordRaw
  dsimp only
  have hset : ∀ (e : Dev) (o v : Nat), o < 4096 → (e.setN pg o bk v).rgN pg' o' b' = e.rgN pg' o' b' :=
    fun e o v ho => rgN_setN_page e v hpg ho h1' h2' h
  have h64 : ∀ (e : Dev) (v : Nat), (e.set64 pg 0x038 bk v).rgN pg' o' b' = e.rgN pg' o' b' :=
    fun e v => rgN_set64_page e v hpg (by decide) h1' h2' h
  have hcnt : ∀ (e : Dev) (n : Nat), (e.count 9 0x108 n).rgN pg' o' b' = e.rgN pg' o' b' :=
    fun e n => rgN_count_page e n (by decide) (by decide) h1' h2' h9
  have hal : ∀ e : Dev, e.alertUpdate.rgN pg' o' b' = e.rgN pg' o' b' := fun e => rgN_alertUpdate e h1' h2' h0
  have hlg : ∀ (e : Dev) (x : LogEntry), (e.logPush x).rgN pg' o' b' = e.rgN pg' o' b' := fun e x => rgN_logPush e x h1' h2' h9
  have hlog : ∀ (e : Dev) (l : Log), ({ e with log := l } : Dev).rgN pg' o' b' = e.rgN pg' o' b' := fun _ _ => rfl
  simp only [rgN_ite, hcnt, hlg, hlog, hs, hal, ite_self]
  simp only [hset _ _ _ (show (0x028 : Nat) < 4096 by decide), hset _ _ _ (show (0x018 : Nat) < 4096 by decide), rgN_ite, h64,
    hset _ _ _ (show (0x020 : Nat) < 4096 by decide), ite_self]

theorem rgN_hostSend (d : Dev) (i n : Nat) (o : Out) {pg' o' b' : Nat} (h1' : pg' < 4096) (h2' : o' < 4096)
    (h0 : pg' ≠ 0) (h9 : pg' ≠ 9) (h70 : pg' ≠ 0x070) (h71 : pg' ≠ 0x071) :
    (d.hostSend i n o).rgN pg' o' b' = d.rgN pg' o' b' := by
  by_cases hi : 8 ≤ i
  · simp only [Dev.hostSend, hi, if_true]; rfl
  have hpg : 0x070 + i / 4 < 4096 := by omega
  have hne : pg' ≠ 0x070 + i / 4 := by omega
  have hcnt : ∀ (e : Dev) (m : Nat), (e.count (0x070 + i / 4) 0x104 m).rgN pg' o' b' = e.rgN pg' o' b' :=
    fun e m => rgN_count_page e m hpg (by decide) h1' h2' hne
  unfold Dev.hostSend
  dsimp only
  split
  · rfl
  · split
    · rfl
    · split
      · rw [hcnt]; rfl
      · split
        · rfl
        · split
          · rfl
          · split
            · exact rgN_recordRaw d _ _ _ _ hpg h1' h2' hne h0 h9 (fun _ => rfl)
            · rw [hcnt]; rfl

theorem rgN_forEach {α : Type} (l : List α) (d : Dev) (f : Dev → α → Dev) (pg o b : Nat)
    (h : ∀ e x, (f e x).rgN pg o b = e.rgN pg o b) : (forEach l d f).rgN pg o b = d.rgN pg o b := by
  unfold forEach
  induction l generalizing d with
  | nil => rfl
  | cons x rest ih => simp only [List.foldl_cons]; rw [ih, h]

theorem rgN_alertSend (d : Dev) (pg b : Nat) {pg' o' b' : Nat} (h1' : pg' < 4096) (h2' : o' < 4096)
    (h0 : pg' ≠ 0) (h9 : pg' ≠ 9) (h70 : pg' ≠ 0x070) (h71 : pg' ≠ 0x071) :
    (d.alertSend pg b).rgN pg' o' b' = d.rgN pg' o' b' := by
  unfold Dev.alertSend
  dsimp only
  have h : ∀ (e : Dev) (c : Conn) (k : Nat) (o : Out), ((e.setConn k c).hostSend c.iface 1 o).rgN pg' o' b' = e.rgN pg' o' b' := by
    intro e c k o
    rw [rgN_hostSend _ _ _ _ h1' h2' h0 h9 h70 h71]; rfl
  split
  · refine (rgN_forEach _ d _ pg' o' b' (fun e k => ?_))
    split
    · exact h e { e.conn k with alertSeq := _, alerts := _ } k _
    · rfl
  · refine (rgN_forEach _ d _ pg' o' b' (fun e k => ?_))
    split
    · exact h e { e.conn k with alertSeq := _, alerts := _ } k _
    · rfl

/-- The record of a fault leaves the registers of every page alone but its own, DEVICE, LOG and the host ports. -/
theorem rgN_recordB (d : Dev) {pg bk b pg' o' b' : Nat} (cls : FaultClass) (inj : Bool) (w : Where)
    (hpg : pg < 4096) (h1' : pg' < 4096) (h2' : o' < 4096) (h : pg' ≠ pg) (h0 : pg' ≠ 0) (h9 : pg' ≠ 9)
    (h70 : pg' ≠ 0x070) (h71 : pg' ≠ 0x071) :
    (d.recordB pg bk b cls inj w).rgN pg' o' b' = d.rgN pg' o' b' :=
  rgN_recordRaw d cls inj w _ hpg h1' h2' h h0 h9 (fun e => rgN_alertSend e pg b h1' h2' h0 h9 h70 h71)

end Sys2Proof.Laws
end

