-- ==== Sys2Proof/Laws/Commands.lean ====
section
/-! SUPPORT. What the two common shapes of a command answer: a function of the device, and a register command whose check passes or fails. -/
namespace Sys2Proof.Laws
open Sys2Proof.Machine

/-- A function of the device, on a device with power. -/
theorem onDev_powered (f : Dev → Dev) (s : State) (h : s.dev.powered = true) :
    onDev f s = .next { s with dev := f s.dev } := by simp [onDev, h]

/-- A function of the device, without power. -/
theorem onDev_unpowered (f : Dev → Dev) (s : State) (h : s.dev.powered = false) : onDev f s = .next s := by simp [onDev, h]

/-- A register command whose check passes: REG_WRITES counted, then its effect. -/
theorem onReg_admits (r : Route) (pg off v : Nat) (f : Dev → Dev) (s : State) (h : s.admits r pg off v) :
    onReg r pg off v f s = .next { s with dev := f (s.dev.count 0x000 0x104 1) } := by
  simp [onReg, State.regCmd, h.1, h.2]

/-- A register command whose check fails. -/
theorem onReg_refused (r : Route) (pg off v : Nat) (f : Dev → Dev) (s : State) (ha : s.dev.answers = true)
    (h : s.writeStatus r pg off v ≠ 0) :
    onReg r pg off v f s = .next { s with dev := s.dev.refuse pg off (s.writeStatus r pg off v) (s.accessStatus r pg off v = 0) } := by
  simp [onReg, State.regCmd, ha, h]

/-- A command of the device is a change of it alone. -/
theorem changes_dev (s : State) (d : Dev) (f : Dev → Dev → Dev) (h : hush d = hush (f s.dev d)) : Changes s { s with dev := d } f :=
  ⟨rfl, rfl, h⟩

/-- A window that answers has power. -/
theorem powered_of_answers {d : Dev} (h : d.answers = true) : d.powered = true := by
  simp [Dev.answers] at h; exact h.1

end Sys2Proof.Laws
end

