-- ==== Sys2Proof/Laws/Pavilion.lean ====
section
/-! SUPPORT. Laws of results under way and of issue: what a result on its way does when it lands (R66), and what an instruction that enters its pavilion leaves. -/
namespace Sys2Proof.Laws
open Sys2Proof.Machine

/-! ### Results on their way -/

theorem land_pend (p : Pav) (e : Effect) (l : List Pend) : ({ p with pend := l }).land e = { p.land e with pend := l } := by
  cases e <;> rfl

theorem land_active (p : Pav) (e : Effect) (l : List Active) : ({ p with active := l }).land e = { p.land e with active := l } := by
  cases e <;> rfl

theorem landUpTo_pend (c : Nat) (l z : List Pend) (p : Pav) : landUpTo c l { p with pend := z } = landUpTo c l p := by
  induction l generalizing p with
  | nil => rfl
  | cons x rest ih =>
    simp only [landUpTo]
    split
    · rw [land_pend, ih]
    · rfl

theorem landUpTo_active (c : Nat) (l : List Pend) (z : List Active) (p : Pav) :
    landUpTo c l { p with active := z } = { landUpTo c l p with active := z } := by
  induction l generalizing p with
  | nil => rfl
  | cons x rest ih =>
    simp only [landUpTo]
    split
    · rw [land_active, ih]
    · rfl

/-- A result that has just become readable lands after everything readable by then. -/
theorem landUpTo_putPend (r : Nat) (l : List Pend) (e : Effect) (p : Pav) :
    landUpTo r (putPend l ⟨r, e⟩) p = (landUpTo r l p).land e := by
  induction l generalizing p with
  | nil => simp [putPend, landUpTo, land_pend]
  | cons y rest ih =>
    simp only [putPend]
    split
    · rename_i hlt
      have hlt' : r < y.ready := hlt
      simp [landUpTo, Nat.not_le.mpr hlt', land_pend]
    · rename_i hge
      have hle : y.ready ≤ r := Nat.not_lt.mp hge
      simp [landUpTo, hle, ih]

/-- A result put on its way lands in the cycle from which it is readable (R66). -/
theorem settle_later (p : Pav) (r : Nat) (e : Effect) : (p.later r e).settle r = (p.settle r).land e := by
  simp only [Pav.settle, Pav.later]
  rw [landUpTo_pend, landUpTo_putPend]

theorem landUpTo_landUpTo (c c2 : Nat) (h : c ≤ c2) (l : List Pend) (p : Pav) :
    landUpTo c2 (landUpTo c l p).pend (landUpTo c l p) = landUpTo c2 l p := by
  induction l generalizing p with
  | nil => rfl
  | cons x rest ih =>
    simp only [landUpTo]
    split
    · rename_i hx
      rw [ih, if_pos (by omega)]
    · simp only [landUpTo_pend]
      simp [landUpTo]

/-- Landing up to a cycle and then up to a later one is landing up to the later one. -/
theorem settle_settle (p : Pav) (c c2 : Nat) (h : c ≤ c2) : (p.settle c).settle c2 = p.settle c2 :=
  landUpTo_landUpTo c c2 h p.pend p

theorem settle_active (p : Pav) (z : List Active) (c : Nat) :
    ({ p with active := z }).settle c = { p.settle c with active := z } := landUpTo_active c p.pend z p

/-- Results that land leave the failed comparisons as they are. -/
theorem landUpTo_checks (c : Nat) (l : List Pend) (p : Pav) : (landUpTo c l p).checks = p.checks := by
  induction l generalizing p with
  | nil => rfl
  | cons x rest ih =>
    simp only [landUpTo]
    split
    · rw [ih]; cases x.eff <;> rfl
    · rfl
@[simp] theorem settle_checks (p : Pav) (c : Nat) : (p.settle c).checks = p.checks := landUpTo_checks c p.pend p

/-- A cycle in which no failed comparison falls. -/
theorem takeChecks_none (p : Pav) (c : Nat) (h : p.checks.all (fun k => decide (c < k.1)) = true) : p.takeChecks c = (p, []) := by
  have h1 : p.checks.filter (fun e => decide (c < e.1)) = p.checks := List.filter_eq_self.2 (List.all_eq_true.1 h)
  have h2 : p.checks.filter (fun e => decide (e.1 ≤ c)) = [] := by
    rw [List.filter_eq_nil_iff]
    intro e he
    have := List.all_eq_true.1 h e he
    simp at this ⊢; omega
  simp [Pav.takeChecks, h1, h2]

/-- What a plan reads does not depend on what is under way. -/
@[simp] theorem visible_active (p : Pav) (z : List Active) : ({ p with active := z }).visible = p.visible := rfl

theorem land_visible (p q : Pav) (e : Effect) (h : p.visible = q.visible) : (p.land e).visible = (q.land e).visible := by
  simp only [Pav.visible, Prod.mk.injEq] at h
  obtain ⟨h1, h2, h3, h4, h5, h6, h7⟩ := h
  cases e <;> simp [Pav.land, Pav.visible, Pav.putStore, Pav.accRow, *]

/-- Results put on their way for one cycle land in their order. -/
theorem settle_laterAll (p : Pav) (r : Nat) (es : List Effect) :
    (p.laterAll (es.map (fun e => (r, e)))).settle r = es.foldl Pav.land (p.settle r) := by
  unfold Pav.laterAll
  induction es generalizing p with
  | nil => rfl
  | cons e rest ih =>
    simp only [List.map_cons, List.foldl_cons]
    rw [ih, settle_later]

theorem lands_visible (es : List Effect) (p q : Pav) (h : p.visible = q.visible) :
    (es.foldl Pav.land p).visible = (es.foldl Pav.land q).visible := by
  induction es generalizing p q with
  | nil => exact h
  | cons e rest ih => exact ih _ _ (land_visible p q e h)

theorem lands_active (es : List Effect) (p : Pav) (z : List Active) :
    es.foldl Pav.land { p with active := z } = { es.foldl Pav.land p with active := z } := by
  induction es generalizing p with
  | nil => rfl
  | cons e rest ih => simp only [List.foldl_cons]; rw [land_active, ih]

end Sys2Proof.Laws
end

