-- ==== Sys2Proof/Laws/Issue.lean ====
section
/-! SUPPORT. The law of issue: what an instruction that nothing blocks leaves in its pavilion (R13, R66, R144). -/
namespace Sys2Proof.Laws
open Sys2Proof.Machine

/-- A pavilion that comes to a cycle was running with its clock on. -/
theorem reach_true {d : Dev} {n c : Nat} (h : (d.reach n c).2 = true) :
    (d.pav n).run = .running ∧ (d.pav n).stall = none ∧ d.reach n c = (d.moveTo n c, true) := by
  unfold Dev.reach at h ⊢
  dsimp only at h ⊢
  split at h
  · cases h
  · rename_i hc
    rw [if_neg hc]
    split at h
    · cases h
    · rename_i h2
      rw [if_neg h2]
      simp at hc
      simp [hc]

/-! ### A V-marked instruction changes the step's mark only -/

@[simp] theorem markVar_pavs (d : Dev) (m : Nat) (op : PlanOp) : (d.markVar m op).pavs = d.pavs := by
  unfold Dev.markVar; split <;> rfl
@[simp] theorem markVar_pav (d : Dev) (m n : Nat) (op : PlanOp) : (d.markVar m op).pav n = d.pav n := by
  unfold Dev.markVar; split <;> rfl
@[simp] theorem markVar_env (d : Dev) (m n : Nat) (op : PlanOp) : (d.markVar m op).env n = d.env n := by
  unfold Dev.markVar; split <;> rfl
@[simp] theorem markVar_killed (d : Dev) (m : Nat) (i : Issue) (op o2 : PlanOp) :
    (d.markVar m op).killed i o2 = d.killed i o2 := by
  unfold Dev.killed; cases o2 <;> simp

/-- An instruction that may issue and that nothing blocks is performed in its cycle. -/
theorem issueOp_eq {d : Dev} {i : Issue} {op : PlanOp} {ups : List Upset} (h : d.issues i op = true)
    (hb : ((d.atIssue i).markVar i.pav op).blocked i.pav false op = none) :
    d.issueOp i op ups = ((d.atIssue i).markVar i.pav op).perform i op false ups := by
  simp only [Dev.issues, Bool.and_eq_true, Bool.not_eq_true'] at h
  obtain ⟨⟨⟨⟨⟨h1, h2⟩, h3⟩, h5⟩, h4⟩, -⟩ := h
  obtain ⟨r1, r2, r3⟩ := reach_true h3
  have hk : (((d.atIssue i).markVar i.pav op).killed i op) = false := by rw [markVar_killed]; exact h4
  unfold Dev.issueOp
  dsimp only
  rw [if_neg (by simp [r2])]
  simp only [h3, h5, Bool.not_true, Bool.or_self, Bool.false_eq_true, if_false]
  have e1 : (d.reach i.pav i.cycle).1.markIssued i = d.atIssue i := rfl
  rw [e1, hk, hb]

/-! ### What a row reads -/

/-- What the rows of an instruction read of a pavilion. -/
def rowReads (p : Pav) : (Mem × SMap W64 × SMap Bool × SMap AccRow × SMap W32 × Mem × Mem) × List Nat × List Nat :=
  (p.visible, p.storeBad, p.storeSoft)

theorem land_reads (p q : Pav) (e : Effect) (h : rowReads p = rowReads q) : rowReads (p.land e) = rowReads (q.land e) := by
  simp only [rowReads, Pav.visible, Prod.mk.injEq] at h
  obtain ⟨⟨h1, h2, h3, h4, h5, h6, h7⟩, h8, h9⟩ := h
  cases e <;> simp [rowReads, Pav.land, Pav.visible, Pav.putStore, Pav.accRow, *]

theorem landUpTo_reads (c : Nat) (l : List Pend) (p q : Pav) (h : rowReads p = rowReads q) :
    rowReads (landUpTo c l p) = rowReads (landUpTo c l q) := by
  induction l generalizing p q with
  | nil => exact h
  | cons x rest ih =>
    simp only [landUpTo]
    split
    · exact ih _ _ (land_reads p q x.eff h)
    · exact h

theorem settle_reads (c : Nat) (p q : Pav) (h : rowReads p = rowReads q) (hp : p.pend = q.pend) :
    rowReads (p.settle c) = rowReads (q.settle c) := by
  unfold Pav.settle; rw [hp]; exact landUpTo_reads c _ p q h

theorem reads_visible {p q : Pav} (h : rowReads p = rowReads q) : p.visible = q.visible := by
  simp only [rowReads, Prod.mk.injEq] at h; exact h.1

/-- An instruction whose first row has no event: its effects, all readable after `L` cycles, are what it leaves. -/
theorem enter_visible {env : Env} {a : Active} {p : Pav} {es : List Effect} {L : Nat}
    (hn : a.next = 0) (hr : 0 < (rowsOf a.op).1) (hk : p.checks.all (fun k => decide (a.start < k.1)) = true)
    (hrow : ∀ r : Pav, rowReads r = rowReads (p.settle a.start) →
      runRow env a 0 a.start r = (r.laterAll (es.map (fun e => (a.start + L, e))), [])) :
    ((p.enter env a).1.settle (a.start + L)).visible = (es.foldl Pav.land (p.settle (a.start + L))).visible ∧
      (p.enter env a).2 = [] := by
  have hd : a.due = a.start := by simp [Active.due, hn]
  unfold Pav.enter
  simp only [hr, if_true]
  unfold stepRow
  dsimp only
  have hq : rowReads (({ p with active := p.active ++ [a] } : Pav).settle a.start) = rowReads (p.settle a.start) :=
    settle_reads _ _ _ rfl rfl
  rw [hd, hn, takeChecks_none { p with active := p.active ++ [a] } _ hk]
  dsimp only
  rw [hrow _ hq]
  refine ⟨?_, rfl⟩
  simp only
  rw [settle_active, settle_laterAll, visible_active, settle_settle _ _ _ (Nat.le_add_right _ _), settle_active, lands_active,
    visible_active]

/-! ### The unit counters and given words -/

theorem countUnits_pavs (d : Dev) (n c : Nat) (op : PlanOp) :
    ∃ v, (d.countUnits n c op).pavs = d.pavs ∨ (d.countUnits n c op).pavs = setAt d.pavs n { d.pav n with vecTo := v } := by
  refine ⟨max (c + occupancy op) (d.pav n).vecTo, ?_⟩
  cases op <;> first
    | exact .inl rfl
    | exact .inl (Dev_count_pavs _ _ _ _)
    | exact .inr ((Dev_count_pavs _ _ _ _).trans rfl)

theorem given_dev (d : Dev) (n : Nat) (op : PlanOp) : (d.given n op).2 = d ∨ (d.given n op).2 = d.draw.2 := by
  unfold Dev.given
  repeat' split
  all_goals first
    | exact .inl rfl
    | exact .inr rfl

theorem env_congr (d e : Dev) (n : Nat) (h1 : e.modl = d.modl) (h2 : (e.pav n).ctx = (d.pav n).ctx) (h3 : e.ctxs = d.ctxs)
    (h4 : ∀ c, e.rgN 0x003 0x404 c = d.rgN 0x003 0x404 c) : e.env n = d.env n := by
  simp [Dev.env, Dev.ctx, h1, h2, h3, h4]

/-- The unit counters are on the pavilion's own page. -/
theorem countUnits_mode (d : Dev) (n c : Nat) (op : PlanOp) (b : Nat) (h : n < 32) :
    (d.countUnits n c op).rgN 0x003 0x404 b = d.rgN 0x003 0x404 b := by
  have hp : (3 : Nat) ≠ pavPage n := by unfold pavPage; omega
  have hb : pavPage n < 4096 := by unfold pavPage; omega
  cases op <;> first
    | rfl
    | exact rgN_count_page _ _ hb (by decide) (by decide) (by decide) hp

theorem units_facts (d : Dev) (n c : Nat) (op : PlanOp) (h : n < d.pavs.length) (h32 : n < 32) :
    let e := (d.given n op).2.countUnits n c op
    rowReads (e.pav n) = rowReads (d.pav n) ∧ (e.pav n).pend = (d.pav n).pend ∧ e.env n = d.env n ∧
      e.pavs.length = d.pavs.length ∧ (e.pav n).checks = (d.pav n).checks := by
  have hg : ∀ e : Dev, e.pavs = d.pavs → e.modl = d.modl → e.ctxs = d.ctxs → e.regs = d.regs →
      rowReads ((e.countUnits n c op).pav n) = rowReads (d.pav n) ∧ ((e.countUnits n c op).pav n).pend = (d.pav n).pend ∧
        (e.countUnits n c op).env n = d.env n ∧ (e.countUnits n c op).pavs.length = d.pavs.length ∧
        ((e.countUnits n c op).pav n).checks = (d.pav n).checks := by
    intro e hp hm hc hr
    have hr4 : ∀ b, (e.countUnits n c op).rgN 0x003 0x404 b = d.rgN 0x003 0x404 b := fun b => by
      rw [countUnits_mode _ _ _ _ _ h32, rgN_of_regs hr]
    have hm' : (e.countUnits n c op).modl = d.modl := by
      rw [← hm]; unfold Dev.countUnits; dsimp only; repeat' split
      all_goals simp
    have hc' : (e.countUnits n c op).ctxs = d.ctxs := by
      rw [← hc]; unfold Dev.countUnits; dsimp only; repeat' split
      all_goals simp
    have hpe : e.pav n = d.pav n := by simp [Dev.pav, hp]
    obtain ⟨v, hv | hv⟩ := countUnits_pavs e n c op
    · have hx : (e.countUnits n c op).pav n = d.pav n := by simp [Dev.pav, hv, hp]
      exact ⟨by rw [hx], by rw [hx], env_congr _ _ _ hm' (by rw [hx]) hc' hr4, by rw [hv, hp], by rw [hx]⟩
    · have hx : (e.countUnits n c op).pav n = { d.pav n with vecTo := v } := by
        simp [Dev.pav, hv, nthD, setAt, hp, h]
      exact ⟨by rw [hx]; rfl, by rw [hx], env_congr _ _ _ hm' (by rw [hx]) hc' hr4, by rw [hv]; simp [setAt, hp], by rw [hx]⟩
  rcases given_dev d n op with hd | hd <;> dsimp only <;> rw [hd]
  · exact hg d rfl rfl rfl rfl
  · exact hg d.draw.2 rfl rfl rfl rfl

theorem tileOf_other (p : Pav) (b c : Nat) {op : PlanOp} (h : ∀ o, op ≠ .mm o) : p.tileOf b c op = ([], p, []) := by
  cases op <;> first
    | rfl
    | exact absurd rfl (h _)

/-- The law of issue: an instruction that nothing blocks and whose first row has no event leaves the effects of that row, each readable
after `L` cycles, and nothing else that a plan reads. -/
theorem issue_visible {d : Dev} {i : Issue} {op : PlanOp} {es : List Effect} {L : Nat} (h : d.issues i op = true)
    (hb : ((d.atIssue i).markVar i.pav op).blocked i.pav false op = none)
    (hp : ∀ x : Dev, x.perform i op false [] = x.enterOp i op false [])
    (hmm : ∀ o, op ≠ .mm o) (hr : 0 < (rowsOf op).1)
    (hrow : ∀ (b : Nat) (p r : Pav), rowReads p = rowReads (d.issuePav i) → rowReads r = rowReads (d.issuePav i) →
      runRow ((d.atIssue i).env i.pav) ⟨op, i.cycle, b, 0, false,
        latched ((d.atIssue i).env i.pav) p (((d.atIssue i).markVar i.pav op).given i.pav op).1 op, [], []⟩ 0 i.cycle r =
        (r.laterAll (es.map (fun e => (i.cycle + L, e))), [])) :
    (((d.issueOp i op []).pav i.pav).settle (i.cycle + L)).visible =
      (es.foldl Pav.land ((d.issuePav i).settle (i.cycle + L))).visible := by
  have hb32 : i.pav < min 32 (d.atIssue i).pavs.length := by
    simp only [Dev.issues, Bool.and_eq_true, decide_eq_true_eq] at h; exact h.1.1.1.1.2
  have hlen : i.pav < (d.atIssue i).pavs.length := by omega
  rw [issueOp_eq h hb, hp]
  let dm := (d.atIssue i).markVar i.pav op
  obtain ⟨f1, f2, f3, f4, f5⟩ := units_facts dm i.pav i.cycle op (by simpa [dm] using hlen) (by omega)
  let du := (dm.given i.pav op).2.countUnits i.pav i.cycle op
  let q := (du.pav i.pav).settle i.cycle
  have hq : rowReads q = rowReads (d.issuePav i) :=
    settle_reads _ _ _ (by rw [f1]; simp [dm]) (by rw [f2]; simp [dm])
  have hq2 : rowReads (q.settle (i.cycle + L)) = rowReads ((d.issuePav i).settle (i.cycle + L)) := by
    simp only [q, Dev.issuePav]
    rw [settle_settle _ _ _ (Nat.le_add_right _ _), settle_settle _ _ _ (Nat.le_add_right _ _)]
    exact settle_reads _ _ _ (by rw [f1]; simp [dm]) (by rw [f2]; simp [dm])
  have henv : du.env i.pav = (d.atIssue i).env i.pav := by rw [f3]; simp [dm]
  have key := enter_visible (env := (d.atIssue i).env i.pav) (L := L) (es := es) (p := q)
    (a := ⟨op, i.cycle, i.slot.bedNo, 0, false,
      latched ((d.atIssue i).env i.pav) q (dm.given i.pav op).1 op, [], []⟩) rfl hr
    (by
      have hc : q.checks = ((d.atIssue i).pav i.pav).checks := by simp only [q]; rw [settle_checks, f5]; simp [dm]
      simp only [Dev.issues, Bool.and_eq_true] at h
      rw [hc]; exact h.2)
    (fun r hr' => hrow _ _ r hq (by
      rw [hr']; simp only [q]; rw [settle_settle _ _ _ (Nat.le_refl _)]; exact hq))
  have hen : dm.enterOp i op false [] =
      (du.setPav i.pav (q.enter ((d.atIssue i).env i.pav) ⟨op, i.cycle, i.slot.bedNo, 0, false,
        latched ((d.atIssue i).env i.pav) q (dm.given i.pav op).1 op, [], []⟩).1).pavEvents i.pav
        (q.enter ((d.atIssue i).env i.pav) ⟨op, i.cycle, i.slot.bedNo, 0, false,
        latched ((d.atIssue i).env i.pav) q (dm.given i.pav op).1 op, [], []⟩).2 := by
    rw [← henv]
    simp only [Dev.enterOp, tileOf_other _ _ _ hmm, du, q, List.nil_append]
  show ((dm.enterOp i op false []).pav i.pav |>.settle (i.cycle + L)).visible = _
  rw [hen, key.2]
  have hnil : ∀ x : Dev, x.pavEvents i.pav [] = x := fun _ => rfl
  rw [hnil, pav_setPav_same _ _ _ (by rw [f4]; simpa [dm] using hlen), key.1]
  exact lands_visible es _ _ (reads_visible hq2)

end Sys2Proof.Laws
end

