-- ==== Sys2Proof/Tests/Slice0.lean ====
section
/-! SUPPORT. Tests: for every statement, a concrete state and operands that meet its hypotheses clause by clause; the well-formedness smoke; a few results worked by hand in the spec. -/
namespace Sys2Proof.Tests

open Machine

/-! ### Small states the witnesses stand on -/

def tPav : Pav := { Pav.off false with run := .running }

def tCtl : StepCtl := { StepCtl.idle with running := true, beats := 4, beat := 3, group := 1 }

def tDev : Dev := { Dev.powerUp Module.a512 with
  power := { Power.reset with phase := .live, domains := 2 ^ 24 - 1 }, pavs := [tPav], steps := [(0, tCtl)] }

def tS : State := { State.reset with dev := tDev }

def tI (slot : Slot) : Issue := ⟨0, 5, slot, none⟩

def tSd (f : Dev → Dev) : State := { tS with dev := f tDev }

def tSp (f : Pav → Pav) : State := tSd (fun d => { d with pavs := [f tPav] })

def tSt : State := tSp (fun p => { p with store := [(64, 7), (65, 9)] })

def tSg : State := tSp (fun p => { p with sregs := [(0, 7), (65, 9), (2000, 1), (4096, 3), (4098, 5), (4100, 200)] })

def tHdr : BundleHdr := ⟨0, 1, 4096, 0, 0, 0, 1, 0, [], List.replicate 48 0, 4096, 1, 1, 0, 0, 0, 0, true⟩

def tVar : VariantBody := ⟨[], [], [], [], 4, 1, 4, 0, []⟩

def tBody : BundleBody where
  wellFormed := true
  sets := [(0x7F, [tVar])]
  params := []
  recipes := []
  staging := [⟨0, 4096, 4, 2⟩]
  redBufs := [⟨0, 8192, 16384, some .n32, 64, 0⟩, ⟨0, 32768, 0, none, 64, 0⟩]
  groups := [⟨1, true, 5, [7, 9]⟩]
  regions := []
  tensors := []
  live := []
  xwTensors := []
  trackers := []
  rings := []
  inputBuf := none
  commit := none
  capacity := 4
  streams := 1
  perPage := 16
  kvEntry := 64

def tBun : Bundle := ⟨tHdr, tBody⟩

def tCtx : Ctx := { Ctx.free with st := 2, active := some tBun, set := 0x7F, want := 0x7F }

/-- A state whose step runs a plan of one line, in cycle 5. -/
def tOp (slot : Slot) (op : PlanOp) (s : State) : State :=
  let x := if (s.dev.ctx 0).active.isSome then s.dev.ctx 0 else tCtx
  { s with dev := { s.dev with ctxs := [(0, { x with active := some ⟨tHdr, { tBody with sets := [(0x7F, [{ tVar with streams := [(0, [⟨5, slot, none, op⟩])] }])] }⟩ })] } }

def tB : State := tSd (fun d => { d with ctxs := [(0, tCtx)] })

def tBp (f : Pav → Pav) : State := { tB with dev := { tB.dev with pavs := [f tPav] } }

def tLane : LaneArgs := ⟨⟨8, 0⟩, ⟨0, 0⟩, some ⟨2, 0⟩, none, some ⟨4, 0⟩, 2048, .fp32⟩

def tRed : RedArgs := ⟨⟨8, 0⟩, ⟨0, 0⟩, 2, 512, 4, .bf16, .imm 1000⟩

def tSf : SfArgs := ⟨⟨8, 0⟩, ⟨0, 0⟩, 512, .bf16, none⟩

def tMm : MmArgs := ⟨.e4m3, false, ⟨1, 3, 3⟩, ⟨0, 0⟩, ⟨0, none⟩, -12, .e4m3⟩

def tMmH : MmArgs := ⟨.bf16, false, ⟨1, 3, 3⟩, ⟨0, 0⟩, ⟨0, none⟩, -12, .bf16⟩

def tDrain : DrainArgs := ⟨⟨1, 3, 3⟩, ⟨9, 0⟩, .fp32, none, -12, none, none, none, none⟩

def tDone : DoneBy := ⟨100, 1⟩

def tSac : State := tSp (fun p => { p with acc := [(3 * 256 + 191, ⟨List.replicate 64 ⟨5, 2⟩, 9⟩), (3 * 256 + 192, ⟨List.replicate 64 ⟨5, 2⟩, 9⟩), (3 * 256 + 255, ⟨List.replicate 64 ⟨5, 2⟩, 9⟩)] })
/-- 1.0, -2.5 and a half in S0, 2.0 in S2, 3.0 in S4. -/
def tSv : State := tSp (fun p => { p with sregs := [(2, 0x80), (3, 0x3F), (6, 0x20), (7, 0xC0), (11, 0x3F), (1024, 1), (1025, 0xFF), (4099, 0x40), (8194, 0x40), (8195, 0x40)] })

def tCvt : CvtArgs := ⟨⟨8, 0⟩, ⟨0, 0⟩, 16, .fp32, .bf16, none, none, none, none, none, none, none, none⟩

def tRng : RngArgs := ⟨⟨8, 0⟩, 2048, .param 3, .param 4, .imm 17, false⟩

def tSam : SampleArgs := ⟨⟨8, 0⟩, ⟨0, 0⟩, ⟨2, 0⟩, 2, 8, 3⟩

def tTree : TreeArgs := ⟨⟨8, 0⟩, ⟨0, 16⟩, .imm 4, 4, .fp32, some ⟨8, 0⟩⟩

def tF : Flit := BitVec.ofNat 2048 77

def tTwo (f : Pav → Pav) (g : Pav → Pav) : State := tSd (fun d => { d with pavs := [f tPav, g tPav] })

def tCr : State := tTwo (fun p => { p with freeCnt := [(2, 16)], fifos := [(2, [tF, 5])], freed := [(2, 1)], inGen := [(2, 1)], outGen := [(2, 3)] })
  (fun p => { p with wires := [(6, [⟨9, 1⟩, ⟨8, 0⟩])], freed := [(6, 3)] })

def tAw : Held := ⟨tI .ctl, .await 4 (.imm 1), [], false⟩

def tStall : State := { tSp (fun p => { p with cycle := 5, stall := some ⟨4, 0, .fabric, 0, 10, 50⟩, held := [tAw], ctrs := [(4, 1)] }) with
  dev := { (tSp (fun p => { p with cycle := 5, stall := some ⟨4, 0, .fabric, 0, 10, 50⟩, held := [tAw], ctrs := [(4, 1)] })).dev with time := { Time.reset with elapsed := 40, count := 40 } } }

def tStuck : State := { tSp (fun p => { p with cycle := 5, stall := some ⟨4, 0, .fabric, 0, 10, 50⟩, held := [tAw] }) with
  dev := { (tSp (fun p => { p with cycle := 5, stall := some ⟨4, 0, .fabric, 0, 10, 50⟩, held := [tAw] })).dev with time := { Time.reset with elapsed := 60, count := 60 } } }

def tXfer : Xfer where
  serial := 7
  owner := .plan 0
  kind := .pageIn
  fabric := false
  tag := 0
  gen := 0
  plan := true
  plot := 0
  keyGen := 0
  done := some 1
  loc := 4096
  len := 2048
  addr := 0
  pages := [0]
  members := []
  pcount := 0
  confirmed := []
  memberConf := []
  got := [(0, 5), (1100, 6)]
  gotBursts := List.range 32
  placed := []
  issued := 0
  err := none

def tXs (f : Xfer → Xfer) : State := { tBp (fun p => { p with fills := [⟨0, [(7, 2, true)], [], 0, []⟩] }) with
  dev := { (tBp (fun p => { p with fills := [⟨0, [(7, 2, true)], [], 0, []⟩] })).dev with xfers := [f tXfer] } }

def tLp : State := tSp (fun p => { p with loops := [⟨1, 8, none, some 2, 6⟩] })

def tLpl : State := tSp (fun p => { p with loops := [⟨1, 8, none, some 2, 7⟩] })

def tCrs : State := tTwo (fun p => { p with freeCnt := [(2, 16)] }) (fun p => { p with wires := [(6, [⟨9, 1⟩])], freed := [(6, 3)] })

def tPgA : PageArgs := ⟨⟨1, none⟩, 2, false, .imm 0⟩

def tPg : State := { tB with dev := { tB.dev with
  ctxs := [(0, { tCtx with live := [(1, 3 + 2 ^ 24 + 576 * 2 ^ 32), (2, 4 + 2 ^ 24 + 576 * 2 ^ 32)] })],
  pages := [(3, { PageEntry.free with st := 1, seq := 9, gen := 1 }), (4, { PageEntry.free with st := 1, seq := 9, gen := 1 })] } }

def tR : Route := .belvedere .admin

def tPlot : Plot := { Plot.free with st := 1, gen := 3, desc := [BitVec.ofNat 32 (1 + 2 ^ 16), BitVec.ofNat 32 (256 * 16), BitVec.ofNat 32 (2 ^ 15 * 16), 0, 64, 0, 64, 0, 1023, BitVec.ofNat 32 (2 ^ 10 * 64), BitVec.ofNat 32 (2 ^ 11 * 8), 64, 0, 0, 0, 0], resident := some 0 }
/-- A device with plot 0 ACTIVE, context 0 CREATED with a bundle, its Kiosk composed, one pavilion idle with a locked oscillator. -/
def tPav0 : Pav := { Pav.off false with run := .idle, banks := [some (0, 0x7F), none], lockedOnce := true }

def tK : KCtx := { KCtx.init with phase := .composed }

def tRelC : Ctx := { tCtx with st := 1 }

def tDevR : Dev := { tDev with
  pavs := [tPav0, { Pav.off false with run := .reset }], steps := [], plots := [(0, tPlot)], ctxs := [(0, tRelC)], kctx := [(0, tK)],
  memctl := [{ MemCtl.off true with phy := 2 }], trackers := [(1, ⟨5, 6⟩)], regs := [(rk (pavPage 0) 0x600 0, 8), (rk (pavPage 1) 0x600 0, 4)] }

def tRel : State := { State.reset with dev := tDevR }

def tRelx (f : Dev → Dev) : State := { State.reset with dev := f tDevR }

def tReg0 : State := { State.reset with dev := { tDevR with
  regs := [(rk 0x0A0 0x414 0, 77), (rk 0x0A0 0x418 0, 2), (rk 0x0A0 0x41C 0, 1), (rk 0x0A0 0x420 0, BitVec.ofNat 32 (2 ^ 16))] } }

def tReg1 (st : Nat) : State := { State.reset with dev := { tDevR with regions := [(5, ⟨77, 2, 3, st, false, 0, 1, 0, 1, 0⟩), (6, ⟨78, 2, 3, 1, false, 0, 1, 4, 1, 0⟩)], shards := [] } }

def tBu : State := { tXs (fun x => { x with gotBursts := [], keyGen := 2 }) with
  dev := { (tXs (fun x => { x with gotBursts := [], keyGen := 2 })).dev with
    memctl := [{ MemCtl.off true with phy := 2 }], keys := [(0, ⟨true, 2, 9, []⟩)], lpddr := [(1, 33)], burstKey := [(0, 9)] } }

def tBu1 : State := { tBu with dev := { tBu.dev with regs := [(rk (mcPage 0) 0x40C 0, 1)] } }

def tXout : Xfer := { tXfer with kind := .pageOut, gotBursts := [], keyGen := 2 }

def tBu2 : State := { tBu with dev := { tBu.dev with xfers := [tXout] } }

def tSoft : State := { tSp (fun p => { p with store := [(70, 3)], storeSoft := [5, 300], tierSoft := [25165820], sweepLine := 6291455 }) with
  dev := { (tSp (fun p => { p with store := [(70, 3)], storeSoft := [5, 300], tierSoft := [25165820], sweepLine := 6291455 })).dev with regs := [(rk 0x0A0 0x434 0, 1)] } }

def tKey (b : Bool) : State := tRelx (fun d => { d with keys := [(0, ⟨b, 255, 4, []⟩)] })

def tBt (beat cyc : Nat) : State := { tB with dev := { tB.dev with
  ctxs := [(0, { tCtx with st := 1 })], plots := [(0, tPlot)], pavs := [{ tPav with cycle := cyc, gated := true, ended := true, banks := [some (0, 0x7F), none] }],
  steps := [(0, { tCtl with beat := beat })] } }

def tPut (l : List (Nat × W32)) : SMap W32 := l.foldl (fun m e => SMap.put m e.1 e.2) []

def tRegs : SMap W32 := tPut [(rk 0x003 0x404 0, 1), (rk 0x003 0x410 0, 1), (rk 0x003 0x414 0, 1023), (rk 0x003 0x504 0, 4096),
  (rk 0x003 0x508 0, 2 ^ 17), (rk 0x003 0x50C 0, 4 + 32), (rk 0x003 0x504 1, 65536), (rk 0x003 0x508 1, 2 ^ 17),
  (rk 0x003 0x50C 1, 9 + 64), (rk (pavPage 0) 0x600 0, 8)]

def tKi (typ : Byte) (f : Dev → Dev) : State := { State.reset with dev := f { tDevR with
  regs := tRegs, rings := [(0, ⟨true, 1, 1, 0⟩), (1, ⟨true, 1, 0, 0⟩)], keys := [(0, ⟨true, 0, 9, []⟩)], accts := [(0, { Account.blank with valid := true })]
  kctx := [(0, KCtx.init)]
  burstKey := [(64, 9)]
  lpddr := [(4096, typ), (4100, 5), (4102, 4), (4115, 64), (4118, 2), (4120, 4), (4124, 8), (4138, 1), (4148, 1)] } }

def tSeq (st : SeqSt) (gen : Nat) : Dev → Dev := fun d => { d with seqs := [(5, { SeqEntry.free with st := st, gen := gen, ctx := 0, outRing := 1 })] }

def tOsc3 : State := tRelx (fun d => { d with pavs := [{ tPav0 with oscBadWindows := 3 }] })

def tFen : State := tRelx (fun d => { d with pavs := [{ tPav0 with run := .fenced }] })

def tFil : State := tRelx (fun d => { d with pavs := [{ tPav0 with banks := [none, none] }], ctxs := [(0, { tRelC with imageEcc := true })] })

def tHs : State := tRelx (fun d => { d with pavs := [{ tPav0 with fifos := [(2, [0])], freeCnt := [(2, 5)] }, { Pav.off false with run := .reset, hsOpen := [(12, 3)] }] })

def tRdy : State := tRelx (fun d => { d with pavs := [{ tPav0 with inGen := [(2, 3)] }, { tPav0 with hsOpen := [(13, 5)] }], regs := [(rk (pavPage 0) 0x600 0, 8), (rk (pavPage 0) 0x644 0, 5), (rk (pavPage 1) 0x600 0, 8)] })

def tHt : State := tRelx (fun d => { d with pavs := [{ tPav0 with hsOpen := [(4, 10)] }], time := { Time.reset with elapsed := 100000000 } })

def tVer : State := tRelx (fun d => { d with ctxs := [(0, { tRelC with staged := ⟨2, 1024, 1024, 0, none⟩ })] })

def tAct (a : Option Bundle) (m : W32) : State := tRelx (fun d => { d with ctxs := [(0, { tRelC with active := a, modes := m, staged := ⟨3, 4096, 4096, 0, some tBun⟩ })] })

def tIma : State := tRelx (fun d => { d with keys := [(0, ⟨true, 0, 9, []⟩)], regs := tPut [(rk 0x008 0x540 0, 0), (rk 0x008 0x544 0, 2 ^ 17), (rk 0x008 0x548 0, 1)] })

def tNoR : Dev → Dev := fun d => { d with rings := [] }

def tMir : State := tKi 1 (fun d => { d with regs := d.regs.put (rk 0x003 0x50C 1) (2 ^ 20 + 9 + 64), qps := [(0, { Qp.reset with st := 3, ops := [⟨true, 0, 0, 1, 0, 16, 0⟩] })] })

def tEnd : EndedStep := ⟨1, 0, 99, 99, true, false, false⟩

def tCom : State := tKi 1 (fun d => { tSeq .running 1 d with ctxs := [(0, { tRelC with ended := some tEnd })], kctx := [(0, { tK with phase := .released, batch := [⟨5, 1, true, false, 3⟩] })], regs := d.regs.put (rk 0x003 0x404 0) (1 + 3 * 256) })

def tIdle : State := tKi 1 (fun d => { d with kctx := [(0, { KCtx.init with waiting := [⟨1, 5, 1, 0, 7, 3, 0, 0⟩] })] })

def tMov : State := tKi 1 (fun d => { tSeq .running 1 d with kctx := [(0, { KCtx.init with moves := [⟨5, 4, 3⟩] })] })

def tPar (f : Bool) : State := tKi 1 (fun d => { tSeq (if f then .resuming else .parked) 1 d with kctx := [(0, { KCtx.init with parks := [⟨5, 7, [3], [9], [], f, false⟩], parkedAt := if f then [(5, [9])] else [] })], pages := [(3, { PageEntry.free with st := 2 })] })

def tInb : State := tKi 1 (fun d => { d with rings := [(2, ⟨true, 0, 0, 0⟩)], regs := d.regs.put (rk 0x003 0x50C 2) (4 + 96) })

def tInr : State := tKi 1 (fun d => { d with rings := [(2, ⟨true, 0, 0, 0⟩)], regs := d.regs.put (rk 0x003 0x50C 2) (4 + 96), pages := [(70, { PageEntry.free with st := 3 })], remote := [⟨0, 7, [70], 0⟩, ⟨0, 8, [71], 0⟩], time := { Time.reset with count := 2 ^ 40 } })

def tCmp : State := tKi 1 (fun d => { d with seqs := [(5, { SeqEntry.free with st := .running, gen := 1, ctx := 0, outRing := 1, promptLeft := 3, maxNew := 4, promptAddr := 2 ^ 49 + 2 ^ 30, reservedPages := 1 })], accts := [(0, { Account.blank with valid := true, burst := 5, level := 5 })], regs := d.regs.put (rk 0x003 0x404 0) (1 + 3 * 256) })

def tPk (typ addr : Nat) : Packet := { Packet.blank with typ := typ, src := 9, mid := 9, tag := 5, tagGen := 1, plotGen := 3, addr := addr, len := 64, pcount := 1, payload := List.replicate 64 7, trkValid := true, tracker := 1, tc := 1, hops := 2 }

def tNet : State := tRelx (fun d => { d with keys := [(0, ⟨true, 0, 9, []⟩)], burstKey := [(16, 9)], lpddr := [(1024, 250), (1025, 255)], shards := [], ports := List.replicate 12 Port.off })

def tXwP : Packet := { tPk 0x05 (4 * 2 ^ 48 + 8192 + 8) with payload := toBytes 4 (2 ^ 32 - 5) ++ toBytes 4 6 ++ toBytes 2 1 ++ toBytes 2 0, xwn := 1, len := 64, contrib := 2 }

def tFP : Packet := { tPk 0x06 (4 * 2 ^ 48 + 32768) with payload := toBytes 4 0x3F800000 ++ toBytes 4 0x40000000 }

def tLoadP : Packet := { tPk 0x09 (1 * 2 ^ 48 + 65536) with tag := 3, aux := 3, plotGen := 3 }

def tShard : Shard := ⟨.writing, true, false, 0, 0, 77, 2, 0, 65536, 64, [], 0, [], 0, 0, some (9, 3, 1)⟩

def tLd : State := tRelx (fun d => { d with shards := [(2, tShard)], regions := [(5, ⟨77, 2, 3, 1, false, 0, 1, 0, 1, 0⟩)] })

def tFx : Xfer := { tXfer with kind := .put, fabric := true, tag := 5, gen := 1, pcount := 3, confirmed := [0], owner := .plan 0, len := 4096 }

def tFs (f : Xfer → Xfer) : State := { tXs f with dev := { (tXs f).dev with xfers := [f tFx], time := { Time.reset with elapsed := 10 ^ 12 } } }

def tUn : State := tRelx (fun d => { d with unconf := [⟨9, 5, 1, 0, false, [0, 1], 0⟩], arrivals := [⟨9, 5, 1, [0], 4, 0⟩], shards := [(2, { tShard with src := some (9, 5, 1) })], time := { Time.reset with elapsed := 10 ^ 12 } })

def tUp : Port := { Port.off with st := .up, phase := .up, rx := [tPk 0 0], advH := [99, 99, 99, 99], advD := [999, 999, 999, 999] }

def tFnc : State := tRelx (fun d => { d with regs := tPut [(rk 0x051 0x800 0, 1)] })

def tPkR : Packet := { tPk 0 (2 * 2 ^ 48) with mid := 7, phase := true }

def tTo7 (p : Packet) : Packet := { p with dest := 7, mid := 7, addr := 7 * 2 ^ 52 + 2 * 2 ^ 48 }

def tBad (p : Packet) : Packet := { p with rsv := true }

/-- A packet on its way to device 7 that has made 64 hops, from device 9. -/
def tFar (p : Packet) : Packet := { tTo7 p with src := 9, hops := 64 }

def tRt (f : Packet → Packet) : State := tRelx (fun d => { d with
  ports := (List.replicate 12 Port.off).set 3 { tUp with rx := [f tPkR] }, router := { Router.reset with entries := [(7, 2 ^ 17 + 8)] }, regs := tPut [(rk 0x051 0x404 0, 16)] })

def tRc : State := tRelx (fun d => { d with router := { Router.reset with combine := [⟨{ tPk 5 1024 with tree := 5 }, 2, 0⟩], armed := some ⟨3, 0⟩ } })

def tRh : State := tRelx (fun d => { d with router := { Router.reset with retained := true }, time := { Time.reset with elapsed := 10 ^ 12 } })

def tPrt (f : Port → Port) : State := tRelx (fun d => { d with
  ports := (List.replicate 12 Port.off).set 3 (f { tUp with rx := [], phase := .up }), regs := tPut [(rk 0x000 0x414 0, 4095), (rk (portPage 3) 0x414 0, 5), (rk (portPage 3) 0x418 0, 2), (rk (portPage 3) 0x40C 0, 20)], time := { Time.reset with elapsed := 10 ^ 12, count := 10 ^ 6, sync := 3 } })

def tPrt0 : State := tPrt (fun p => { p with rxGen := 5, rxE := 7 })

def tFh (f : FrameHdr → FrameHdr) : FrameHdr := f ⟨true, false, 7, 0, true, false, 5, [1, 2, 3, 4], [5, 6, 7, 8]⟩

def tIb : InitBody := ⟨9, 4, false, [11, 12, 13, 14], [21, 22, 23, 24], 0⟩

def tTb (kind : Nat) : List Byte := toBytes 8 800 ++ toBytes 8 400 ++ toBytes 2 6 ++ toBytes 1 kind ++ toBytes 1 0 ++ List.replicate 44 0

def tTp (kind : Nat) : Packet := { Packet.blank with typ := 0x0F, payload := tTb kind, len := 64 }

def tTim (kind : Nat) : State := tPrt (fun p => { p with rx := [tTp kind], exchOpen := true, exchNum := 6, exchStamp := 100 })

def tLau (at_ count : W64) : State := tRelx (fun d => { d with pavs := [{ tPav0 with banks := [some (0, 0x7F), none] }], ctxs := [(0, tRelC)], kctx := [(0, tK)], ports := [Port.off], time := { Time.reset with launch := 1, launchCtx := 0, launchAt := at_, count := count, sync := 3 } })

def tHp (f : HPort → HPort) (rg : List (Nat × W32)) : State := tRelx (fun d => { d with hports := [HPort.down, f { HPort.down with up := 5, fec := 5 }], regs := tPut rg, ptp := ⟨3, false, 0, 0, 0⟩, time := { Time.reset with elapsed := 10 ^ 12, count := 10 ^ 6 } })

def tQp (f : Qp → Qp) : State := { tHp id [(rk 0x073 0x404 9, 16 * 6 + 1024 * 2 + 5)] with dev := { (tHp id [(rk 0x073 0x404 9, 16 * 6 + 1024 * 2 + 5 + 8192 * 3), (rk 0x073 0x470 0, 100)]).dev with
  qps := [(9, f { Qp.reset with st := 3, epsn := 2 ^ 24 - 1, rate := 1000, target := 900 })], mrs := [(3, ⟨true, 1, 2 ^ 49 + 4096, 8192, 5, true, true, 0⟩)], lpddr := [(4096, 55)], keys := [(0, ⟨true, 0, 9, []⟩)], burstKey := [(64, 9)] } }

def tKy : Nat := (⟨true, 1, 2 ^ 49 + 4096, 8192, 5, true, true, 0⟩ : Mr).rkey 3

def tDesc : List (Nat × W32) := [(rk 0x008 0x440 0, BitVec.ofNat 32 (1 + 2 ^ 16)), (rk 0x008 0x444 0, BitVec.ofNat 32 (256 * 16)), (rk 0x008 0x448 0, BitVec.ofNat 32 (2 ^ 15 * 16)), (rk 0x008 0x450 0, 64), (rk 0x008 0x458 0, 64), (rk 0x008 0x45C 0, 1), (rk 0x008 0x460 0, 1023), (rk 0x008 0x464 0, BitVec.ofNat 32 (2 ^ 10 * 64)), (rk 0x008 0x468 0, BitVec.ofNat 32 (2 ^ 11 * 8)), (rk 0x008 0x46C 0, 64)]

def tAs (l : List (Nat × W32)) : State := tRelx (fun d => { d with plots := [], ctxs := [], regs := tPut l, power := { d.power with cleared := 1 } })

def tRecB : List Byte := toBytes 4 77 ++ toBytes 4 0 ++ toBytes 4 0 ++ toBytes 4 64 ++ List.replicate 12 1 ++ toBytes 4 6 ++ List.replicate 48 9 ++ List.replicate 16 0

def tManB : List Byte := toBytes 4 0x4D4E5247 ++ toBytes 2 1 ++ toBytes 2 1 ++ toBytes 4 1 ++ toBytes 4 288 ++ List.replicate 8 0 ++ toBytes 2 2 ++ List.replicate 6 0 ++
  sha384 [5] ++ List.replicate 16 0 ++ tRecB ++ List.replicate 96 3

def tMan : State := tRelx (fun d => { ({ d with keys := [(0, ⟨true, 0, 9, []⟩)], burstKey := [(64, 9), (65, 9), (66, 9), (67, 9), (68, 9)] } : Dev).lpWrite 4096 tManB with
  pages := [(0, { PageEntry.free with st := 4 })], regs := tPut [(rk 0x090 0x510 0, 4096), (rk 0x090 0x514 0, 2 ^ 17)], pubKeys := [⟨0, 0, [5]⟩] })

def tJob : Job := { Job.free with st := .queued, shard := 3, qp := 9, order := 0 }

def tJo (f : Job → Job) : State := tRelx (fun d => { d with jobs := [(4, f tJob)], shards := [(3, { tShard with keyId := 6, len := 64 })], shardKeys := [⟨0, 6, 11, []⟩], qps := [(9, { Qp.reset with st := 3, psn := 5 })], hports := [HPort.down] })

def tWs (st : ShardSt) (dg : List Byte) : State := tRelx (fun d => { d with
  regions := [(5, ⟨77, 2, 3, if st = .done then 2 else 1, false, 0, 1, 0, 1, 0⟩)], shards := [(3, { tShard with st := st, sweep := true, src := none, digest := dg, off := 0, len := 64 })], pavs := [{ tPav0 with tier := [(0, 5)] }], time := { Time.reset with count := 2 ^ 62, elapsed := 2 ^ 62 } })

def tDg : List Byte := sha384 (5 :: List.replicate 63 0)

def tRd (f : Job → Job) : State := { tJo f with dev := { (tJo f).dev with jobs := [(4, f { tJob with st := .reading, key := some 11 })], keys := [(0, ⟨true, 0, 9, []⟩)], regions := [(5, ⟨77, 2, 3, 1, false, 0, 1, 0, 1, 0⟩)], qps := [(9, { Qp.reset with st := 3, psn := 6, ops := [⟨false, 5, 4, 0, 0, 80, 0⟩] })] } }

def tCal : Calendar := ⟨0, 20000, [(0, 0, 10000)]⟩

def tPl (f : Plot → Plot) : State := tRelx (fun d => { d with plots := [(0, f { tPlot with running := some tCal, resident := some 0 })], time := { Time.reset with count := 65000, elapsed := 10 ^ 12 } })

def tCl : State := tRelx (fun d => { d with plots := [], clearRun := some ⟨1, 0⟩, pavs := [{ tPav0 with store := [(0, 1)], tier := [(0, 5)] }, tPav0, tPav0], time := { Time.reset with elapsed := 10 ^ 12 } })

def tSes (f : Sess → Sess) : State := tRelx (fun d => { d with sess := [(6, f ⟨some (.tenant 0), 3, 5, 0, false⟩)], plots := [(0, { tPlot with anchor := List.replicate 48 8 })] })

def tNv (f : NonVol → NonVol) : State := { tRel with nv := f NonVol.shipped }

def tAcc : State := tNv (fun n => { n with accounts := [(1, ⟨true, .operator, false⟩)] })

def tBellP (kind : Nat) (cause : Nat) : Packet := { Packet.blank with typ := 0x10, src := 9, dest := if kind = 1 then 0xFFF else 0, mid := if kind = 1 then 0xFFF else 0, payload := toBytes 8 77 ++ toBytes 8 5 ++ toBytes 1 kind ++ toBytes 1 cause ++ toBytes 2 9 ++ toBytes 2 3 ++ List.replicate 42 0, len := 64 }

def tBe (f : Ctx → Ctx) (g : StepCtl → StepCtl) (sn : List (Nat × Nat)) : State := tRelx (fun d => { d with ctxs := [(0, f { tRelC with launch := some 77, steps := 4 })], steps := [(0, g { tCtl with ctx := 0 })], recov := { d.recov with seen := sn } })

def tStop (c : StepCtl) : StepCtl := { c with running := false }

def tMem : BundleBody := { tBody with groups := [⟨1, true, 0, [0, 7]⟩] }

def tMulB : Bundle := ⟨{ tHdr with flags := 1 }, tMem⟩

def tEnded : EndedStep := { tEnd with number := 5, endEl := 10, withheld := false }

def tVd : State := tRelx (fun d => { d with ctxs := [(0, { tRelC with launch := some 77, active := some tMulB, ended := some tEnded })], time := { Time.reset with elapsed := 2 ^ 62 } })

def tFt : State := tRelx (fun d => { d with regs := tPut [(rk 0x000 0x410 0, 0)], recov := { d.recov with fate := [(7, [1, 2, 3, 4]), (40, [1, 9, 3, 4])] } })

def tLe (n : Nat) : LogEntry := ⟨55, 0, 1, 2, 3, 0x010, n, 0, 0, 0, 0, 5, 6, 7, 320, 800, 0, 0, 0, 0, []⟩

def tLog (f : Log → Log) : State := tRelx (fun d => { d with log := f Log.empty })

def tReq (hdr : List Nat) (src : Nat) : Packet := { Packet.blank with typ := 0x0D, src := src, addr := 3 * 2 ^ 48 + hdr.getD 2 0x410, tag := 5, payload := toBytes 4 (hdr.headD 0) ++ toBytes 4 0 ++ toBytes 4 (hdr.getD 1 0) ++ List.replicate 52 0, len := 64 }

def tMgr : State := tRelx (fun d => { d with regs := tPut [(rk 0x000 0x418 0, BitVec.ofNat 32 (4096 + 9))], ports := List.replicate 12 Port.off })

def tMsg (f : GctMsg → GctMsg) : GctMsg := f ⟨2, 3, 44, 8, 6, 9, 0, true, true⟩

def tConn : Conn := ⟨true, 3, 8, 44, 12, 0, 6, 2, 8, 4096, 9, [⟨8, 0x11, 0, []⟩], false, 1, [⟨0, 0x010, 3, 7, 0, 0⟩, ⟨1, 0x010, 4, 7, 0, 8⟩], 0⟩

def tGc (f : Conn → Conn) : State := tRelx (fun d => { d with conns := [(2, f tConn)], sess := [(6, ⟨some (.operator 0), 8, 5, 0, false⟩)], time := { Time.reset with elapsed := 10 ^ 13 } })

def tMan0 : State := tRelx (fun d => { d with time := { Time.reset with elapsed := 10 ^ 13 }, rf := [(1, ⟨.admin, 0⟩)] })

def tPm : State := { tPrt id with dev := { (tPrt id).dev with ctxs := [] } }

def tOff (t : Nat) : State := tRelx (fun d => { d with power := { d.power with en := false, good := false, phase := .off, offAt := 0 }, time := { Time.reset with elapsed := t } })

def tPw (f : Power → Power) : State := tRelx (fun d => { d with power := f d.power, time := { Time.reset with elapsed := 10 ^ 12, count := 77 }, ctxs := [] })

def tRom (f : Belv → Belv) (g : NonVol → NonVol) : State := { State.reset with dev := { (Dev.powerUp Module.a512) with belv := f Belv.reset }, nv := g NonVol.shipped }

def tBoot (v : Nat) : State := tRom (fun b => { b with verified := v, running := (List.range v).map Comp.shipped }) id

def tBt2 (v : Nat) : State := { tBoot v with dev := { (tBoot v).dev with power := { (tBoot v).dev.power with phase := .boot } } }

def tMc (f : MemCtl → MemCtl) : State := { tPw (fun p => { p with phase := .calibrate, initLeft := 2 }) with dev := { (tPw (fun p => { p with phase := .calibrate, initLeft := 2 })).dev with memctl := [f (MemCtl.off true)], pavs := List.replicate 4 tPav0 } }

def tReady : State := { tPw (fun p => { p with phase := .calibrate, initLeft := 0 }) with dev := { (tPw (fun p => { p with phase := .calibrate, initLeft := 0 })).dev with pavs := List.replicate 32 tPav0, regs := tPut ((List.range 32).map (fun n => (rk (pavPage n) 0x600 0, 8))), plots := [], keys := [], memctl := [{ MemCtl.off true with phy := 2 }] } }

def tHeld (page : Nat) (f : Dev → Dev) : State := { tPrt id with dev := f { (tPrt id).dev with ctxs := [], hports := [HPort.down, HPort.down], regs := (tPrt id).dev.regs.put (rk page 0x030 0) 1 } }

def tRun (f : Dev → Dev) : State := { tPrt id with dev := f { (tPrt id).dev with ctxs := [], hports := [{ HPort.down with up := 3 }, HPort.down] } }

def tLive (f : Power → Power) : State := { tPw f with dev := { (tPw f).dev with pavs := List.replicate 32 tPav0, ctxs := [] } }

def tUpd (f : Belv → Belv) (trial : Bool) : State := { tPw id with dev := { (tPw id).dev with belv := f (tPw id).dev.belv }, nv := { NonVol.shipped with slots := List.replicate 2 ⟨true, (List.range 8).map Comp.shipped⟩, desc := [⟨true, 1, 0, trial⟩, ⟨true, 0, 0, false⟩] } }

def tExp : State := { tUpd (fun b => { b with update := 4, slot := 1 }) true with dev := { (tUpd (fun b => { b with update := 4, slot := 1 }) true).dev with time := { Time.reset with elapsed := 2 ^ 62 } } }

/-- No transfer waits: the background queue has its turn. -/
def tBu3 : State := { tBu with dev := { tBu.dev with xfers := [] } }

/-- A FREE waits for the end of its tick. -/
def tReg2 : State := { tReg1 2 with dev := { (tReg1 2).dev with tickEnd := [.freeRegion 5] } }

/-- Pavilion 0 belongs to a fused pair. -/
def tFus : State := tRelx (fun d => { d with pavs := [{ tPav0 with fused := true }, { tPav0 with fused := true }] })

/-- A statement's conclusion, its next state alone: what is left of it once the hypotheses are met. -/
theorem nx {o : Host.Outcome State Fault Refusal} {Q : State → Prop} (h : ∃ t, o = .next t ∧ Q t) : ∃ t, o = .next t :=
  h.elim fun t e => ⟨t, e.1⟩

/-- `nx` where the conclusion also names a packet. -/
theorem nx2 {α : Type} {o : Host.Outcome State Fault Refusal} {Q : State → α → Prop} (h : ∃ t q, o = .next t ∧ Q t q) :
    ∃ t, o = .next t :=
  h.elim fun t e => e.elim fun _ f => ⟨t, f.1⟩

/-- `nx` where the conclusion is an equation. -/
theorem nx0 {o : Host.Outcome State Fault Refusal} {t : State} (h : o = .next t) : ∃ t, o = .next t := ⟨t, h⟩

/-! Witnesses of ScalarResultReadableAtLatency. -/

theorem witness_ScalarResultReadableAtLatency_iMov (h : Obligations.ScalarResultReadableAtLatency) : ∃ t, exec (.iMov (tI .idx) 3 (.imm 7)) (tOp .idx (.iMov 3 (.imm 7)) tS) = .next t :=
  nx ((h (tOp .idx (.iMov 3 (.imm 7)) tS) (tI .idx)).1 3 (.imm 7) (by decide))
theorem witness_ScalarResultReadableAtLatency_iMovParam (h : Obligations.ScalarResultReadableAtLatency) : ∃ t, exec (.iMov (tI .idx) 0 (.param 2)) (tOp .idx (.iMov 0 (.param 2)) tS) = .next t :=
  nx ((h (tOp .idx (.iMov 0 (.param 2)) tS) (tI .idx)).1 0 (.param 2) (by decide))
theorem witness_ScalarResultReadableAtLatency_iAdd (h : Obligations.ScalarResultReadableAtLatency) : ∃ t, exec (.iAdd (tI .idx) 63 1 (.imm (-1))) (tOp .idx (.iAdd 63 1 (.imm (-1))) tS) = .next t :=
  nx (((h (tOp .idx (.iAdd 63 1 (.imm (-1))) tS) (tI .idx)).2).1 63 1 (.imm (-1)) (by decide))
theorem witness_ScalarResultReadableAtLatency_iMul (h : Obligations.ScalarResultReadableAtLatency) : ∃ t, exec (.iMul (tI .idx) 5 1 (.reg 2)) (tOp .idx (.iMul 5 1 (.reg 2)) tS) = .next t :=
  nx ((((h (tOp .idx (.iMul 5 1 (.reg 2)) tS) (tI .idx)).2).2).1 5 1 (.reg 2) (by decide))
theorem witness_ScalarResultReadableAtLatency_pred (h : Obligations.ScalarResultReadableAtLatency) : ∃ t, exec (.pred (tI .ctl) 15 (.cmp 0 .eq (.imm 0))) (tOp .ctl (.pred 15 (.cmp 0 .eq (.imm 0))) tS) = .next t :=
  nx (((((h (tOp .ctl (.pred 15 (.cmp 0 .eq (.imm 0))) tS) (tI .ctl)).2).2).2).1 15 (.cmp 0 .eq (.imm 0)) (by decide))
theorem witness_ScalarResultReadableAtLatency_pld (h : Obligations.ScalarResultReadableAtLatency) : ∃ t, exec (.pld (tI .ctl) ⟨63, 31⟩ ⟨255, none⟩ 8) (tOp .ctl (.pld ⟨63, 31⟩ ⟨255, none⟩ 8) tS) = .next t :=
  nx ((((((h (tOp .ctl (.pld ⟨63, 31⟩ ⟨255, none⟩ 8) tS) (tI .ctl)).2).2).2).2).1 ⟨63, 31⟩ ⟨255, none⟩ 8 (by decide))
theorem witness_ScalarResultReadableAtLatency_timeRd (h : Obligations.ScalarResultReadableAtLatency) : ∃ t, exec (.timeRd (tI .ctl) ⟨2, 0⟩) (tOp .ctl (.timeRd ⟨2, 0⟩) tS) = .next t :=
  nx (((((((h (tOp .ctl (.timeRd ⟨2, 0⟩) tS) (tI .ctl)).2).2).2).2).2).1 ⟨2, 0⟩ (by decide))
theorem witness_ScalarResultReadableAtLatency_statRd (h : Obligations.ScalarResultReadableAtLatency) : ∃ t, exec (.statRd (tI .ctl) ⟨2, 0⟩ .pavilion 0x100) (tOp .ctl (.statRd ⟨2, 0⟩ .pavilion 0x100) tS) = .next t :=
  nx ((((((((h (tOp .ctl (.statRd ⟨2, 0⟩ .pavilion 0x100) tS) (tI .ctl)).2).2).2).2).2).2).1 ⟨2, 0⟩ 0x100 (by decide))
theorem witness_ScalarResultReadableAtLatency_statRdStep (h : Obligations.ScalarResultReadableAtLatency) : ∃ t, exec (.statRd (tI .ctl) ⟨2, 0⟩ .step 0x400) (tOp .ctl (.statRd ⟨2, 0⟩ .step 0x400) tS) = .next t :=
  nx ((((((((h (tOp .ctl (.statRd ⟨2, 0⟩ .step 0x400) tS) (tI .ctl)).2).2).2).2).2).2).2 ⟨2, 0⟩ 0x400 (by decide))

/-! Witnesses of MovesLeaveTheirBytesAtLatency. -/

theorem witness_MovesLeaveTheirBytesAtLatency_ld (h : Obligations.MovesLeaveTheirBytesAtLatency) : ∃ t, exec (.ld (tI (.rd 0)) ⟨1, true⟩ ⟨64, none⟩ none []) (tOp (.rd 0) (.ld ⟨1, true⟩ ⟨64, none⟩ none) tSt) = .next t :=
  nx ((h (tOp (.rd 0) (.ld ⟨1, true⟩ ⟨64, none⟩ none) tSt) (tI (.rd 0))).1 ⟨1, true⟩ ⟨64, none⟩ none [] (by decide) (by decide) (by decide))
theorem witness_MovesLeaveTheirBytesAtLatency_st (h : Obligations.MovesLeaveTheirBytesAtLatency) : ∃ t, exec (.st (tI (.wr 0)) ⟨1024, none⟩ ⟨0, false⟩) (tOp (.wr 0) (.st ⟨1024, none⟩ ⟨0, false⟩) tS) = .next t :=
  nx (((h (tOp (.wr 0) (.st ⟨1024, none⟩ ⟨0, false⟩) tS) (tI (.wr 0))).2).1 ⟨1024, none⟩ ⟨0, false⟩ (by decide))
theorem witness_MovesLeaveTheirBytesAtLatency_gather (h : Obligations.MovesLeaveTheirBytesAtLatency) : ∃ t, exec (.gather (tI (.rd 0)) ⟨0, false⟩ 0 4096 ⟨2, 0⟩ none []) (tOp (.rd 0) (.gather ⟨0, false⟩ 0 4096 ⟨2, 0⟩ none) tS) = .next t :=
  nx ((((h (tOp (.rd 0) (.gather ⟨0, false⟩ 0 4096 ⟨2, 0⟩ none) tS) (tI (.rd 0))).2).2).1 ⟨0, false⟩ 0 4096 ⟨2, 0⟩ none [] (by decide) (by decide) (by decide))
theorem witness_MovesLeaveTheirBytesAtLatency_scatter (h : Obligations.MovesLeaveTheirBytesAtLatency) : ∃ t, exec (.scatter (tI (.wr 1)) 0 4096 ⟨2, 0⟩ ⟨0, false⟩) (tOp (.wr 1) (.scatter 0 4096 ⟨2, 0⟩ ⟨0, false⟩) tSg) = .next t :=
  nx (((((h (tOp (.wr 1) (.scatter 0 4096 ⟨2, 0⟩ ⟨0, false⟩) tSg) (tI (.wr 1))).2).2).2).1 0 4096 ⟨2, 0⟩ ⟨0, false⟩ (by decide))
theorem witness_MovesLeaveTheirBytesAtLatency_perm (h : Obligations.MovesLeaveTheirBytesAtLatency) : ∃ t, exec (.perm (tI .shuf) 3 0 2 4) (tOp .shuf (.perm 3 0 2 4) tSg) = .next t :=
  nx ((((((h (tOp .shuf (.perm 3 0 2 4) tSg) (tI .shuf)).2).2).2).2).1 3 0 2 4 (by decide))
theorem witness_MovesLeaveTheirBytesAtLatency_xpose (h : Obligations.MovesLeaveTheirBytesAtLatency) : ∃ t, exec (.xpose (tI .shuf) 4 0 16) (tOp .shuf (.xpose 4 0 16) tSg) = .next t :=
  nx ((((((h (tOp .shuf (.xpose 4 0 16) tSg) (tI .shuf)).2).2).2).2).2 4 0 16 (by decide))

/-! Witnesses of BedInstructionsLeaveTheirRows. -/

theorem witness_BedInstructionsLeaveTheirRows_mm (h : Obligations.BedInstructionsLeaveTheirRows) : ∃ t, exec (.mm (tI (.bed 2)) tMm [] []) (tOp (.bed 2) (.mm tMm) tSg) = .next t :=
  nx ((h (tOp (.bed 2) (.mm tMm) tSg) (tI (.bed 2)) 2 (by decide +kernel)).1 tMm (by decide +kernel) (by decide +kernel) (by decide +kernel) (by decide +kernel))
theorem witness_BedInstructionsLeaveTheirRows_mmHalf (h : Obligations.BedInstructionsLeaveTheirRows) : ∃ t, exec (.mm (tI (.bed 2)) tMmH [] []) (tOp (.bed 2) (.mm tMmH) tSg) = .next t :=
  nx ((h (tOp (.bed 2) (.mm tMmH) tSg) (tI (.bed 2)) 2 (by decide +kernel)).1 tMmH (by decide +kernel) (by decide +kernel) (by decide +kernel) (by decide +kernel))
theorem witness_BedInstructionsLeaveTheirRows_zero (h : Obligations.BedInstructionsLeaveTheirRows) : ∃ t, exec (.zero (tI (.bed 3)) ⟨3, 0, 63⟩) (tOp (.bed 3) (.zero ⟨3, 0, 63⟩) tSac) = .next t :=
  nx (((h (tOp (.bed 3) (.zero ⟨3, 0, 63⟩) tSac) (tI (.bed 3)) 3 (by decide)).2).1 ⟨3, 0, 63⟩ (by decide) (by decide) (by decide) (by decide))
theorem witness_BedInstructionsLeaveTheirRows_drain (h : Obligations.BedInstructionsLeaveTheirRows) : ∃ t, exec (.drain (tI (.bed 0)) tDrain) (tOp (.bed 0) (.drain tDrain) tS) = .next t :=
  nx ((((h (tOp (.bed 0) (.drain tDrain) tS) (tI (.bed 0)) 0 (by decide)).2).2).1 tDrain (by decide) (by decide) (by decide))
theorem witness_BedInstructionsLeaveTheirRows_chkRd (h : Obligations.BedInstructionsLeaveTheirRows) : ∃ t, exec (.chkRd (tI (.bed 0)) ⟨1, 3, 4⟩ ⟨9, 0⟩) (tOp (.bed 0) (.chkRd ⟨1, 3, 4⟩ ⟨9, 0⟩) tS) = .next t :=
  nx ((((h (tOp (.bed 0) (.chkRd ⟨1, 3, 4⟩ ⟨9, 0⟩) tS) (tI (.bed 0)) 0 (by decide)).2).2).2 ⟨1, 3, 4⟩ ⟨9, 0⟩ (by decide) (by decide))

/-! Witnesses of LaneArrayLeavesItsElements. -/

theorem witness_LaneArrayLeavesItsElements_add (h : Obligations.LaneArrayLeavesItsElements) : ∃ t, exec (.vAdd (tI (.vec 0)) tLane) (tOp (.vec 0) (.lane .add tLane) tSv) = .next t :=
  nx ((h (tOp (.vec 0) (.lane .add tLane) tSv) (tI (.vec 0)) tLane).1 (by decide))
theorem witness_LaneArrayLeavesItsElements_sub (h : Obligations.LaneArrayLeavesItsElements) : ∃ t, exec (.vSub (tI (.vec 0)) tLane) (tOp (.vec 0) (.lane .sub tLane) tSv) = .next t :=
  nx (((h (tOp (.vec 0) (.lane .sub tLane) tSv) (tI (.vec 0)) tLane).2).1 (by decide))
theorem witness_LaneArrayLeavesItsElements_mul (h : Obligations.LaneArrayLeavesItsElements) : ∃ t, exec (.vMul (tI (.vec 0)) tLane) (tOp (.vec 0) (.lane .mul tLane) tSv) = .next t :=
  nx ((((h (tOp (.vec 0) (.lane .mul tLane) tSv) (tI (.vec 0)) tLane).2).2).1 (by decide))
theorem witness_LaneArrayLeavesItsElements_fma (h : Obligations.LaneArrayLeavesItsElements) : ∃ t, exec (.vFma (tI (.vec 0)) tLane) (tOp (.vec 0) (.lane .fma tLane) tSv) = .next t :=
  nx (((((h (tOp (.vec 0) (.lane .fma tLane) tSv) (tI (.vec 0)) tLane).2).2).2).1 (by decide))
theorem witness_LaneArrayLeavesItsElements_min (h : Obligations.LaneArrayLeavesItsElements) : ∃ t, exec (.vMin (tI (.vec 0)) tLane) (tOp (.vec 0) (.lane .min tLane) tSv) = .next t :=
  nx ((((((h (tOp (.vec 0) (.lane .min tLane) tSv) (tI (.vec 0)) tLane).2).2).2).2).1 (by decide))
theorem witness_LaneArrayLeavesItsElements_max (h : Obligations.LaneArrayLeavesItsElements) : ∃ t, exec (.vMax (tI (.vec 0)) tLane) (tOp (.vec 0) (.lane .max tLane) tSv) = .next t :=
  nx (((((((h (tOp (.vec 0) (.lane .max tLane) tSv) (tI (.vec 0)) tLane).2).2).2).2).2).1 (by decide))
theorem witness_LaneArrayLeavesItsElements_cmp (h : Obligations.LaneArrayLeavesItsElements) : ∃ t, exec (.vCmp (tI (.vec 0)) .lt tLane) (tOp (.vec 0) (.lane (.cmp .lt) tLane) tSv) = .next t :=
  nx ((((((((h (tOp (.vec 0) (.lane (.cmp .lt) tLane) tSv) (tI (.vec 0)) tLane).2).2).2).2).2).2).1 .lt (by decide))
theorem witness_LaneArrayLeavesItsElements_sel (h : Obligations.LaneArrayLeavesItsElements) : ∃ t, exec (.vSel (tI (.vec 0)) tLane) (tOp (.vec 0) (.lane .sel tLane) tSv) = .next t :=
  nx (((((((((h (tOp (.vec 0) (.lane .sel tLane) tSv) (tI (.vec 0)) tLane).2).2).2).2).2).2).2).1 (by decide))
theorem witness_LaneArrayLeavesItsElements_rot (h : Obligations.LaneArrayLeavesItsElements) : ∃ t, exec (.vRot (tI (.vec 0)) (.imm (-1)) tLane) (tOp (.vec 0) (.lane (.rot (.imm (-1))) tLane) tSv) = .next t :=
  nx (((((((((h (tOp (.vec 0) (.lane (.rot (.imm (-1))) tLane) tSv) (tI (.vec 0)) tLane).2).2).2).2).2).2).2).2 (.imm (-1)) (by decide))

/-! Witnesses of ReductionsLeaveTheirFirstRow. -/

theorem witness_ReductionsLeaveTheirFirstRow_sum (h : Obligations.ReductionsLeaveTheirFirstRow) : ∃ t, exec (.vSum (tI (.vec 1)) tRed) (tOp (.vec 1) (.red .sum tRed) tSv) = .next t :=
  nx ((h (tOp (.vec 1) (.red .sum tRed) tSv) (tI (.vec 1)) tRed (by decide) (by decide)).1 (by decide))
theorem witness_ReductionsLeaveTheirFirstRow_rmax (h : Obligations.ReductionsLeaveTheirFirstRow) : ∃ t, exec (.vRmax (tI (.vec 1)) tRed) (tOp (.vec 1) (.red .rmax tRed) tSv) = .next t :=
  nx (((h (tOp (.vec 1) (.red .rmax tRed) tSv) (tI (.vec 1)) tRed (by decide) (by decide)).2).1 (by decide))
theorem witness_ReductionsLeaveTheirFirstRow_argmax (h : Obligations.ReductionsLeaveTheirFirstRow) : ∃ t, exec (.vArgmax (tI (.vec 1)) tRed) (tOp (.vec 1) (.red .argmax tRed) tSv) = .next t :=
  nx ((((h (tOp (.vec 1) (.red .argmax tRed) tSv) (tI (.vec 1)) tRed (by decide) (by decide)).2).2).1 (by decide))
theorem witness_ReductionsLeaveTheirFirstRow_topk (h : Obligations.ReductionsLeaveTheirFirstRow) : ∃ t, exec (.vTopk (tI (.vec 1)) tRed) (tOp (.vec 1) (.topk tRed) tSv) = .next t :=
  nx ((((h (tOp (.vec 1) (.topk tRed) tSv) (tI (.vec 1)) tRed (by decide) (by decide)).2).2).2 (by decide))

/-! Witnesses of ConvertDrawAndSample. -/

theorem witness_ConvertDrawAndSample_cvt (h : Obligations.ConvertDrawAndSample) : ∃ t, exec (.vCvt (tI (.vec 0)) tCvt) (tOp (.vec 0) (.cvt tCvt) tSv) = .next t :=
  nx ((h (tOp (.vec 0) (.cvt tCvt) tSv) (tI (.vec 0))).1 tCvt (by decide) (by decide))
theorem witness_ConvertDrawAndSample_rng (h : Obligations.ConvertDrawAndSample) : ∃ t, exec (.vRng (tI (.vec 0)) tRng) (tOp (.vec 0) (.rng tRng) tSv) = .next t :=
  nx (((h (tOp (.vec 0) (.rng tRng) tSv) (tI (.vec 0))).2).1 tRng (by decide))
theorem witness_ConvertDrawAndSample_rngEntropy (h : Obligations.ConvertDrawAndSample) : ∃ t, exec (.vRng (tI (.vec 0)) { tRng with seed := .entropy, pos := .idx 1 }) (tOp (.vec 0) (.rng { tRng with seed := .entropy, pos := .idx 1 }) tSv) = .next t :=
  nx (((h (tOp (.vec 0) (.rng { tRng with seed := .entropy, pos := .idx 1 }) tSv) (tI (.vec 0))).2).1 { tRng with seed := .entropy, pos := .idx 1 } (by decide))
theorem witness_ConvertDrawAndSample_sample (h : Obligations.ConvertDrawAndSample) : ∃ t, exec (.vSample (tI (.vec 0)) tSam) (tOp (.vec 0) (.sample tSam) tSv) = .next t :=
  nx ((((((h (tOp (.vec 0) (.sample tSam) tSv) (tI (.vec 0))).2.2 tSam (by decide) (by decide) (by decide))).2).2).2 )

/-! Witnesses of SpecialFunctionsAndTreemask. -/

theorem witness_SpecialFunctionsAndTreemask_exp (h : Obligations.SpecialFunctionsAndTreemask) : ∃ t, exec (.sfExp (tI .sfu) tSf) (tOp .sfu (.sf .exp tSf) tSv) = .next t :=
  nx (((h (tOp .sfu (.sf .exp tSf) tSv) (tI .sfu)).1 tSf).1 (by decide))
theorem witness_SpecialFunctionsAndTreemask_log (h : Obligations.SpecialFunctionsAndTreemask) : ∃ t, exec (.sfLog (tI .sfu) tSf) (tOp .sfu (.sf .log tSf) tSv) = .next t :=
  nx ((((h (tOp .sfu (.sf .log tSf) tSv) (tI .sfu)).1 tSf).2).1 (by decide))
theorem witness_SpecialFunctionsAndTreemask_rsqrt (h : Obligations.SpecialFunctionsAndTreemask) : ∃ t, exec (.sfRsqrt (tI .sfu) tSf) (tOp .sfu (.sf .rsqrt tSf) tSv) = .next t :=
  nx (((((h (tOp .sfu (.sf .rsqrt tSf) tSv) (tI .sfu)).1 tSf).2).2).1 (by decide))
theorem witness_SpecialFunctionsAndTreemask_tanh (h : Obligations.SpecialFunctionsAndTreemask) : ∃ t, exec (.sfTanh (tI .sfu) tSf) (tOp .sfu (.sf .tanh tSf) tSv) = .next t :=
  nx ((((((h (tOp .sfu (.sf .tanh tSf) tSv) (tI .sfu)).1 tSf).2).2).2).1 (by decide))
theorem witness_SpecialFunctionsAndTreemask_sigm (h : Obligations.SpecialFunctionsAndTreemask) : ∃ t, exec (.sfSigm (tI .sfu) { tSf with ty := .fp32, tto := some .bf16 }) (tOp .sfu (.sf .sigm { tSf with ty := .fp32, tto := some .bf16 }) tSv) = .next t :=
  nx ((((((h (tOp .sfu (.sf .sigm { tSf with ty := .fp32, tto := some .bf16 }) tSv) (tI .sfu)).1 { tSf with ty := .fp32, tto := some .bf16 }).2).2).2).2 (by decide))
theorem witness_SpecialFunctionsAndTreemask_treemask (h : Obligations.SpecialFunctionsAndTreemask) : ∃ t, exec (.vTreemask (tI (.vec 0)) tTree) (tOp (.vec 0) (.treemask tTree) tSv) = .next t :=
  nx ((h (tOp (.vec 0) (.treemask tTree) tSv) (tI (.vec 0))).2 tTree (by decide) (by decide) (by decide))
theorem witness_SpecialFunctionsAndTreemask_treemaskRows (h : Obligations.SpecialFunctionsAndTreemask) : ∃ t, exec (.vTreemask (tI (.vec 0)) { tTree with vld := none }) (tOp (.vec 0) (.treemask { tTree with vld := none }) tSv) = .next t :=
  nx ((h (tOp (.vec 0) (.treemask { tTree with vld := none }) tSv) (tI (.vec 0))).2 { tTree with vld := none } (by decide) (by decide) (by decide))

/-! Witnesses of ControlInstructionsComplete. -/

theorem witness_ControlInstructionsComplete_nop (h : Obligations.ControlInstructionsComplete) : ∃ t, exec (.nop (tI .ctl)) (tOp .ctl (.nop) tS) = .next t :=
  nx0 ((h (tOp .ctl (.nop) tS) (tI .ctl)).1 (by decide))
theorem witness_ControlInstructionsComplete_beat (h : Obligations.ControlInstructionsComplete) : ∃ t, exec (.beat (tI .ctl) 3) (tOp .ctl (.beat 3) tS) = .next t :=
  nx0 (((h (tOp .ctl (.beat 3) tS) (tI .ctl)).2).1 3 (by decide))
theorem witness_ControlInstructionsComplete_await (h : Obligations.ControlInstructionsComplete) : ∃ t, exec (.await (tI .ctl) 4 (.imm 0)) (tOp .ctl (.await 4 (.imm 0)) tS) = .next t :=
  nx0 ((((h (tOp .ctl (.await 4 (.imm 0)) tS) (tI .ctl)).2).2).1 4 (.imm 0) (by decide) (by decide))
theorem witness_ControlInstructionsComplete_fence (h : Obligations.ControlInstructionsComplete) : ∃ t, exec (.fence (tI .ctl) 4 0) (tOp .ctl (.fence 4 0) tS) = .next t :=
  nx0 (((((h (tOp .ctl (.fence 4 0) tS) (tI .ctl)).2).2).2).1 4 0 (by decide) (by decide))
theorem witness_ControlInstructionsComplete_loop (h : Obligations.ControlInstructionsComplete) : ∃ t, exec (.loop (tI .ctl) 8 (some (.imm 3)) (some 2)) (tOp .ctl (.loop 8 (some (.imm 3)) (some 2)) tS) = .next t :=
  nx ((((((h (tOp .ctl (.loop 8 (some (.imm 3)) (some 2)) tS) (tI .ctl)).2).2).2).2).1 8 (some (.imm 3)) (some 2) (by decide))
theorem witness_ControlInstructionsComplete_endloop (h : Obligations.ControlInstructionsComplete) : ∃ t, exec (.endloop (tI .ctl)) (tOp .ctl (.endloop) tLp) = .next t :=
  nx (((((((h (tOp .ctl (.endloop) tLp) (tI .ctl)).2).2).2).2).2).1 _ _ (by decide) rfl)
theorem witness_ControlInstructionsComplete_endloopLast (h : Obligations.ControlInstructionsComplete) : ∃ t, exec (.endloop (tI .ctl)) (tOp .ctl (.endloop) tLpl) = .next t :=
  nx (((((((h (tOp .ctl (.endloop) tLpl) (tI .ctl)).2).2).2).2).2).1 _ _ (by decide) rfl)
theorem witness_ControlInstructionsComplete_stepEnd (h : Obligations.ControlInstructionsComplete) : ∃ t, exec (.stepEnd (tI .ctl)) (tOp .ctl (.stepEnd) tS) = .next t :=
  nx (((((((h (tOp .ctl (.stepEnd) tS) (tI .ctl)).2).2).2).2).2).2 (by decide) (by decide))

/-! Witnesses of FlitsCrossOneByOne. -/

theorem witness_FlitsCrossOneByOne_xsend (h : Obligations.FlitsCrossOneByOne) : ∃ t, exec (.xsend (tI (.xing 2)) 2 ⟨3, 0⟩ none) (tOp (.xing 2) (.xsend 2 ⟨3, 0⟩ none) tCr) = .next t :=
  nx ((h (tOp (.xing 2) (.xsend 2 ⟨3, 0⟩ none) tCr) (tI (.xing 2)) 2).1 ⟨3, 0⟩ (by decide) (by decide))
theorem witness_FlitsCrossOneByOne_xrecv (h : Obligations.FlitsCrossOneByOne) : ∃ t, exec (.xrecv (tI (.xing 2)) 2 ⟨3, 0⟩ none) (tOp (.xing 2) (.xrecv 2 ⟨3, 0⟩ none) tCr) = .next t :=
  nx (((h (tOp (.xing 2) (.xrecv 2 ⟨3, 0⟩ none) tCr) (tI (.xing 2)) 2).2).1 ⟨3, 0⟩ _ _ (by decide) rfl)
theorem witness_FlitsCrossOneByOne_arrival (h : Obligations.FlitsCrossOneByOne) : ∃ t, exec (.flitArrival 0 2) tCr = .next t :=
  nx ((((h tCr (tI .ctl) 2).2).2).1 0 1 _ _ (by decide) (by decide) (by decide) (by decide) rfl rfl (by decide))
theorem witness_FlitsCrossOneByOne_stale (h : Obligations.FlitsCrossOneByOne) : ∃ t, exec (.flitArrival 0 2) tCrs = .next t :=
  nx ((((h tCrs (tI .ctl) 2).2).2).1 0 1 _ _ (by decide) (by decide) (by decide) (by decide) rfl rfl (by decide))
theorem witness_FlitsCrossOneByOne_freed (h : Obligations.FlitsCrossOneByOne) : ∃ t, exec (.freeEntryReturn 0 2) tCrs = .next t :=
  nx ((((h tCrs (tI .ctl) 2).2).2).2 0 1 _ (by decide) (by decide) (by decide) (by decide) rfl (by decide))

/-! Witnesses of StallsHoldResumeAndTimeOut. -/

theorem witness_StallsHoldResumeAndTimeOut_stall (h : Obligations.StallsHoldResumeAndTimeOut) : ∃ t, exec (.await (tI .ctl) 4 (.imm 1)) (tOp .ctl (.await 4 (.imm 1)) tS) = .next t :=
  nx ((h (tOp .ctl (.await 4 (.imm 1)) tS)).1 (tI .ctl) 4 (.imm 1) (by decide) (by decide))
theorem witness_StallsHoldResumeAndTimeOut_resume (h : Obligations.StallsHoldResumeAndTimeOut) : ∃ t, exec (.stallResume 0) tStall = .next t :=
  nx (((h tStall).2).1 0 ⟨4, 0, .fabric, 0, 10, 50⟩ (tI .ctl) 4 (.imm 1) false (by decide) (by decide) rfl rfl rfl (by decide))
theorem witness_StallsHoldResumeAndTimeOut_timeout (h : Obligations.StallsHoldResumeAndTimeOut) : ∃ t, exec (.stallTimeout 0) tStuck = .next t :=
  nx (((h tStuck).2).2 0 ⟨4, 0, .fabric, 0, 10, 50⟩ (by decide) rfl (by decide) (by decide) (by decide))

/-! Witnesses of TransferInstructionsOpenATransfer. -/

theorem witness_TransferInstructionsOpenATransfer_pageIn (h : Obligations.TransferInstructionsOpenATransfer) : ∃ t, exec (.pageIn (tI .dma) 4096 tPgA tDone) (tOp .dma (.pageIn 4096 tPgA tDone) tPg) = .next t :=
  nx ((h (tOp .dma (.pageIn 4096 tPgA tDone) tPg) (tI .dma) tDone (by decide)).1 4096 tPgA (by decide) (by decide))
theorem witness_TransferInstructionsOpenATransfer_pageOutPart (h : Obligations.TransferInstructionsOpenATransfer) : ∃ t, exec (.pageOut (tI .dma) 4096 tPgA (some (.imm 64, 128)) tDone) (tOp .dma (.pageOut 4096 tPgA (some (.imm 64, 128)) tDone) tPg) = .next t :=
  nx (((h (tOp .dma (.pageOut 4096 tPgA (some (.imm 64, 128)) tDone) tPg) (tI .dma) tDone (by decide)).2).1 4096 tPgA _ _ (by decide) (by decide))
theorem witness_TransferInstructionsOpenATransfer_pageOut (h : Obligations.TransferInstructionsOpenATransfer) : ∃ t, exec (.pageOut (tI .dma) 4096 tPgA none tDone) (tOp .dma (.pageOut 4096 tPgA none tDone) tPg) = .next t :=
  nx ((((h (tOp .dma (.pageOut 4096 tPgA none tDone) tPg) (tI .dma) tDone (by decide)).2).2).1 4096 tPgA (by decide) (by decide))
theorem witness_TransferInstructionsOpenATransfer_fput (h : Obligations.TransferInstructionsOpenATransfer) : ∃ t, exec (.fput (tI .dma) ⟨1, none⟩ 0 64 none false tDone) (tOp .dma (.fput ⟨1, none⟩ 0 64 none false tDone) tB) = .next t :=
  nx (((((h (tOp .dma (.fput ⟨1, none⟩ 0 64 none false tDone) tB) (tI .dma) tDone (by decide)).2).2).2).1 ⟨1, none⟩ 0 64 none false (by decide) (by decide))
theorem witness_TransferInstructionsOpenATransfer_fget (h : Obligations.TransferInstructionsOpenATransfer) : ∃ t, exec (.fget (tI .dma) ⟨1, none⟩ 4096 64 tDone) (tOp .dma (.fget ⟨1, none⟩ 4096 64 tDone) tB) = .next t :=
  nx ((((((h (tOp .dma (.fget ⟨1, none⟩ 4096 64 tDone) tB) (tI .dma) tDone (by decide)).2).2).2).2).1 ⟨1, none⟩ 4096 64 (by decide))
theorem witness_TransferInstructionsOpenATransfer_fmcast (h : Obligations.TransferInstructionsOpenATransfer) : ∃ t, exec (.fmcast (tI .dma) 1 0 64 8192 none tDone) (tOp .dma (.fmcast 1 0 64 8192 none tDone) tB) = .next t :=
  nx (((((((h (tOp .dma (.fmcast 1 0 64 8192 none tDone) tB) (tI .dma) tDone (by decide)).2).2).2).2).2).1 1 0 64 8192 none _ _ (by decide) rfl rfl (by decide))
theorem witness_TransferInstructionsOpenATransfer_fredXw (h : Obligations.TransferInstructionsOpenATransfer) : ∃ t, exec (.fredXw (tI .dma) .n32 (.tree 5) 0 1024 64 (-20) 3 tDone) (tOp .dma (.fredXw .n32 (.tree 5) 0 1024 64 (-20) 3 tDone) tB) = .next t :=
  nx ((((((((h (tOp .dma (.fredXw .n32 (.tree 5) 0 1024 64 (-20) 3 tDone) tB) (tI .dma) tDone (by decide)).2).2).2).2).2).2).1 .n32 (.tree 5) 0 1024 64 (-20) 3 (by decide) (by decide) (by decide))
theorem witness_TransferInstructionsOpenATransfer_fredF (h : Obligations.TransferInstructionsOpenATransfer) : ∃ t, exec (.fredF (tI .dma) (.toAddr 2) 0 64 3 tDone) (tOp .dma (.fredF (.toAddr 2) 0 64 3 tDone) tB) = .next t :=
  nx (((((((((h (tOp .dma (.fredF (.toAddr 2) 0 64 3 tDone) tB) (tI .dma) tDone (by decide)).2).2).2).2).2).2).2).1 (.toAddr 2) 0 64 3 (by decide) (by decide))
theorem witness_TransferInstructionsOpenATransfer_faddI64 (h : Obligations.TransferInstructionsOpenATransfer) : ∃ t, exec (.faddI64 (tI .dma) ⟨1, none⟩ 2 (some 4) tDone) (tOp .dma (.faddI64 ⟨1, none⟩ 2 (some 4) tDone) tB) = .next t :=
  nx ((((((((((h (tOp .dma (.faddI64 ⟨1, none⟩ 2 (some 4) tDone) tB) (tI .dma) tDone (by decide)).2).2).2).2).2).2).2).2).1 ⟨1, none⟩ 2 (some 4) (by decide))
theorem witness_TransferInstructionsOpenATransfer_faddXw (h : Obligations.TransferInstructionsOpenATransfer) : ∃ t, exec (.faddXw (tI .dma) .n64 ⟨1, none⟩ 0 1024 32 (-20) (some 3) tDone) (tOp .dma (.faddXw .n64 ⟨1, none⟩ 0 1024 32 (-20) (some 3) tDone) tB) = .next t :=
  nx ((((((((((h (tOp .dma (.faddXw .n64 ⟨1, none⟩ 0 1024 32 (-20) (some 3) tDone) tB) (tI .dma) tDone (by decide)).2).2).2).2).2).2).2).2).2 .n64 ⟨1, none⟩ 0 1024 32 (-20) (some 3) (by decide) (by decide) (by decide))

/-! Witnesses of StagingFillsAndTransfersComplete. -/

theorem witness_StagingFillsAndTransfersComplete_kib (h : Obligations.StagingFillsAndTransfersComplete) : ∃ t, exec (.stagingKibPlaced 7 0) (tXs id) = .next t := nx ((h (tXs id) 7 _ (by decide) rfl (by decide)).1 0 _ _ (by decide) (by decide) (by decide) (by decide) (by decide) rfl (by decide))
theorem witness_StagingFillsAndTransfersComplete_past (h : Obligations.StagingFillsAndTransfersComplete) : ∃ t, exec (.stagingKibPlaced 7 1) (tXs (fun x => { x with loc := 7168 })) = .next t := nx ((h (tXs (fun x => { x with loc := 7168 })) 7 _ (by decide) rfl (by decide)).2.1 1 _ _ (by decide) (by decide) (by decide) (by decide) (by decide) rfl (by decide))
theorem witness_StagingFillsAndTransfersComplete_done (h : Obligations.StagingFillsAndTransfersComplete) : ∃ t, exec (.transferComplete 7 0) (tXs (fun x => { x with placed := [0, 1] })) = .next t := nx (((h (tXs (fun x => { x with placed := [0, 1] })) 7 _ (by decide) rfl (by decide)).2.2).1 0 (by decide) (by decide) (by decide) (by decide))
theorem witness_StagingFillsAndTransfersComplete_failed (h : Obligations.StagingFillsAndTransfersComplete) : ∃ t, exec (.transferComplete 7 0) (tXs (fun x => { x with err := some 8 })) = .next t := nx (((h (tXs (fun x => { x with err := some 8 })) 7 _ (by decide) rfl (by decide)).2.2).2 0 8 (by decide) rfl (by decide) (by decide))

/-! Witnesses of BurstsMoveAndScrub. -/

theorem witness_BurstsMoveAndScrub_read (h : Obligations.BurstsMoveAndScrub) : ∃ t, exec (.lpddrBurstRead 0 (some 7) 3 false) (tBu) = .next t := nx ((h tBu 0 7 3 0 false (by decide) (by decide)).1 _ rfl (by decide) rfl (by decide) (by decide) (by decide) (by decide))
theorem witness_BurstsMoveAndScrub_fail (h : Obligations.BurstsMoveAndScrub) : ∃ t, exec (.lpddrBurstRead 0 (some 7) 2 false) (tBu1) = .next t := nx (((h tBu1 0 7 2 0 false (by decide) (by decide)).2).1 _ rfl (by decide) rfl (by decide))
theorem witness_BurstsMoveAndScrub_write (h : Obligations.BurstsMoveAndScrub) : ∃ t, exec (.lpddrBurstWrite 1 7) (tBu2) = .next t := nx ((((h tBu2 1 7 0 1 false (by decide) (by decide)).2).2).1 _ rfl (by decide) (by decide) rfl (by decide) (by decide) (by decide))
theorem witness_BurstsMoveAndScrub_scrub (h : Obligations.BurstsMoveAndScrub) : ∃ t, exec (.memctlPatrolScrub 9 0 true) tBu3 = .next t :=
  nx ((h tBu3 9 7 0 1 true (by decide) (by decide)).2.2.2 (by decide) (by decide) (by decide) (by decide))

/-! Witnesses of ScrubsAndRefresh. -/

theorem witness_ScrubsAndRefresh_store (h : Obligations.ScrubsAndRefresh) : ∃ t, exec (.storeScrubRead 0 1 [(4, false)]) (tSoft) = .next t := nx ((h tSoft (by decide)).1 0 1 [(4, false)] (by decide) (by decide) (by decide) (by decide))
theorem witness_ScrubsAndRefresh_tier (h : Obligations.ScrubsAndRefresh) : ∃ t, exec (.wtierScrub 0 6291455 []) tSoft = .next t :=
  nx ((h tSoft (by decide)).2.1 0 [] (by decide) (by decide) (by decide) (by decide) (by decide))
theorem witness_ScrubsAndRefresh_refresh (h : Obligations.ScrubsAndRefresh) : ∃ t, exec (.refreshDoubling 0 1361) tRel = .next t :=
  nx ((h tRel (by decide)).2.2.2.1 0 1361 (by decide) (by decide))
theorem witness_ScrubsAndRefresh_recalibration (h : Obligations.ScrubsAndRefresh) : ∃ t, exec (.phyRecalibration 0) tRel = .next t :=
  nx0 ((h tRel (by decide)).2.2.2.2 0)
theorem witness_ScrubsAndRefresh_writeBack : tSoft.dev.powered = true ∧ (0 : Nat) < tSoft.dev.pavs.length := by decide

/-! Witnesses of RegionCommands. -/

theorem witness_RegionCommands_create (h : Obligations.RegionCommands) : ∃ t, exec (.regionCreate tR 5) tReg0 = .next t :=
  nx ((h tReg0 tR 5 (by decide)).1 ⟨by decide, by decide, by decide⟩ (by decide))
theorem witness_RegionCommands_createRefused (h : Obligations.RegionCommands) : ∃ t, exec (.regionCreate tR 5) tRel = .next t :=
  nx ((h tRel tR 5 (by decide)).2.1 ⟨by decide, by decide, by decide⟩ (by decide))
theorem witness_RegionCommands_free (h : Obligations.RegionCommands) : ∃ t, exec (.regionFree tR 5) (tReg1 2) = .next t :=
  nx ((h (tReg1 2) tR 5 (by decide)).2.2.1 ⟨by decide, by decide, by decide⟩ (by decide))
theorem witness_RegionCommands_abandon (h : Obligations.RegionCommands) : ∃ t, exec (.regionAbandon tR 5) (tReg1 1) = .next t :=
  nx ((h (tReg1 1) tR 5 (by decide)).2.2.2.2.2.1 ⟨by decide, by decide, by decide⟩ (by decide))
theorem witness_RegionCommands_abandonRefused (h : Obligations.RegionCommands) : ∃ t, exec (.regionAbandon tR 5) (tReg1 2) = .next t :=
  nx ((h (tReg1 2) tR 5 (by decide)).2.2.2.2.2.2 ⟨by decide, by decide, by decide⟩ (by decide))
theorem witness_RegionCommands_freed : (tReg2).dev.tickEnd = [.freeRegion 5] ∧ ((tReg2).dev.region 5).st = 2 := by decide
theorem witness_RegionCommands_freeRefused0 (h : Obligations.RegionCommands) : ∃ t, exec (.regionFree tR 5) (tReg1 0) = .next t :=
  nx ((h (tReg1 0) tR 5 (by decide)).2.2.2.2.1 ⟨by decide, by decide, by decide⟩ (by decide))
theorem witness_RegionCommands_freeRefused1 (h : Obligations.RegionCommands) : ∃ t, exec (.regionFree tR 5) (tReg1 1) = .next t :=
  nx ((h (tReg1 1) tR 5 (by decide)).2.2.2.2.1 ⟨by decide, by decide, by decide⟩ (by decide))
theorem witness_RegionCommands_freeRefused3 (h : Obligations.RegionCommands) : ∃ t, exec (.regionFree tR 5) (tReg1 3) = .next t :=
  nx ((h (tReg1 3) tR 5 (by decide)).2.2.2.2.1 ⟨by decide, by decide, by decide⟩ (by decide))

/-! Witnesses of KeySlotCommands. -/

theorem witness_KeySlotCommands_generate (h : Obligations.KeySlotCommands) : ∃ t, exec (.keyGenerate tR 15) tRel = .next t :=
  nx ((h tRel tR 15 (by decide)).1 ⟨by decide, by decide, by decide⟩ (by decide))
theorem witness_KeySlotCommands_generateRefused (h : Obligations.KeySlotCommands) : ∃ t, exec (.keyGenerate tR 0) (tKey true) = .next t :=
  nx ((h (tKey true) tR 0 (by decide)).2.1 ⟨by decide, by decide, by decide⟩ (by decide))
theorem witness_KeySlotCommands_destroy (h : Obligations.KeySlotCommands) : ∃ t, exec (.keyDestroy tR 0) (tKey true) = .next t :=
  nx ((h (tKey true) tR 0 (by decide)).2.2.1 ⟨by decide, by decide, by decide⟩ (by decide))
theorem witness_KeySlotCommands_destroyRefused (h : Obligations.KeySlotCommands) : ∃ t, exec (.keyDestroy tR 0) tRel = .next t :=
  nx ((h tRel tR 0 (by decide)).2.2.2.2 ⟨by decide, by decide, by decide⟩ (by decide))
theorem witness_KeySlotCommands_destroyed : ({ tKey true with dev := { (tKey true).dev with tickEnd := [.killKey 0] } } : State).dev.tickEnd = [.killKey 0] := by decide

/-! Witnesses of StepsStartBeatAndEnd. -/

theorem witness_StepsStartBeatAndEnd_release (h : Obligations.StepsStartBeatAndEnd) : ∃ t, exec (.stepRelease 0) (tRel) = .next t := nx ((h tRel (by decide)).1 0 _ _ _ _ _ _ rfl (by decide) (by decide) (by decide) (by decide))
theorem witness_StepsStartBeatAndEnd_beat (h : Obligations.StepsStartBeatAndEnd) : ∃ t, exec (.beatRelease 0) (tBt 1 511) = .next t := nx (((h (tBt 1 511) (by decide)).2).1 0 (by decide) (by decide) (by decide))
theorem witness_StepsStartBeatAndEnd_end (h : Obligations.StepsStartBeatAndEnd) : ∃ t, exec (.stepEndBarrier 0) (tBt 3 1023) = .next t := nx ((((h (tBt 3 1023) (by decide)).2).2).1 0 (by decide) (by decide) (by decide))
theorem witness_StepsStartBeatAndEnd_stretch (h : Obligations.StepsStartBeatAndEnd) : ∃ t, exec (.cycleStretch 0 [0, 63, 63, 63, 63, 63, 63, 63]) (tS) = .next t := nx ((((h tS (by decide)).2).2).2 0 [0, 63, 63, 63, 63, 63, 63, 63] (by decide) (by decide) (by decide) (by decide) (by decide))
theorem witness_StepsStartBeatAndEnd_noStretch (h : Obligations.StepsStartBeatAndEnd) : ∃ t, exec (.cycleStretch 0 [63, 63, 63, 63, 63, 63, 63, 63]) (tS) = .next t := nx ((((h tS (by decide)).2).2).2 0 [63, 63, 63, 63, 63, 63, 63, 63] (by decide) (by decide) (by decide) (by decide) (by decide))
theorem witness_StepsStartBeatAndEnd_stretchLast (h : Obligations.StepsStartBeatAndEnd) : ∃ t, exec (.cycleStretch 0 [0, 63, 63, 63, 63, 63, 63, 63]) (tSp (fun p => { p with cycle := 255 })) = .next t :=
  nx ((h (tSp (fun p => { p with cycle := 255 })) (by decide)).2.2.2 0 [0, 63, 63, 63, 63, 63, 63, 63] (by decide) (by decide) (by decide) (by decide) (by decide))

/-! Witnesses of OscillatorsAndCrossingResets. -/

theorem witness_OscillatorsAndCrossingResets_lock (h : Obligations.OscillatorsAndCrossingResets) : ∃ t, exec (.oscLock 1) (tRel) = .next t := nx ((h tRel 1 (by decide) (by decide) (by decide)).1 (by decide) (by decide) (by decide))
theorem witness_OscillatorsAndCrossingResets_window (h : Obligations.OscillatorsAndCrossingResets) : ∃ t, exec (.fllWindow 0 2001 true) (tRel) = .next t := nx (((h tRel 0 (by decide) (by decide) (by decide)).2).1 2001 true (by decide) (by decide) (by decide))
theorem witness_OscillatorsAndCrossingResets_lost (h : Obligations.OscillatorsAndCrossingResets) : ∃ t, exec (.fllWindow 0 0 false) (tRel) = .next t := nx ((((h tRel 0 (by decide) (by decide) (by decide)).2).2).1 0 false (by decide) (by decide) (by decide) (by decide))
theorem witness_OscillatorsAndCrossingResets_fourth (h : Obligations.OscillatorsAndCrossingResets) : ∃ t, exec (.fllWindow 0 (-2001) true) (tOsc3) = .next t := nx ((((h tOsc3 0 (by decide) (by decide) (by decide)).2).2).1 (-2001) true (by decide) (by decide) (by decide) (by decide))
theorem witness_OscillatorsAndCrossingResets_unfence (h : Obligations.OscillatorsAndCrossingResets) : ∃ t, exec (.unfence tR 0) (tFen) = .next t := nx (((((h tFen 0 (by decide) (by decide) (by decide)).2).2).2).1 tR (by decide) (by decide) (by decide) (by decide))
theorem witness_OscillatorsAndCrossingResets_fill (h : Obligations.OscillatorsAndCrossingResets) : ∃ t, exec (.issueFill 0 true) (tFil) = .next t := nx ((((((h tFil 0 (by decide) (by decide) (by decide)).2).2).2).2).1 0 _ _ _ rfl (by decide) (by decide))
theorem witness_OscillatorsAndCrossingResets_fillEcc (h : Obligations.OscillatorsAndCrossingResets) : ∃ t, exec (.issueFill 0 false) (tFil) = .next t := nx (((((((h tFil 0 (by decide) (by decide) (by decide)).2).2).2).2).2).1 0 _ _ _ rfl)
theorem witness_OscillatorsAndCrossingResets_notice (h : Obligations.OscillatorsAndCrossingResets) : ∃ t, exec (.resetNotice 0 2) (tHs) = .next t := nx ((((((((h tHs 0 (by decide) (by decide) (by decide)).2).2).2).2).2).2).1 2 _ rfl (by decide) (by decide) (by decide))
theorem witness_OscillatorsAndCrossingResets_ready (h : Obligations.OscillatorsAndCrossingResets) : ∃ t, exec (.readyNotice 0 2) tRdy = .next t :=
  nx ((h tRdy 0 (by decide) (by decide) (by decide)).2.2.2.2.2.2.2.1 2 _ rfl (by decide) (by decide) (by decide) (by decide) (by decide) (by decide))
theorem witness_OscillatorsAndCrossingResets_timeout (h : Obligations.OscillatorsAndCrossingResets) : ∃ t, exec (.handshakeTimeout 0 2) tHt = .next t :=
  nx ((h tHt 0 (by decide) (by decide) (by decide)).2.2.2.2.2.2.2.2 2 _ 10 rfl (by decide) (by decide))

/-! Witnesses of GatehouseCommands. -/

theorem witness_GatehouseCommands_verify (h : Obligations.GatehouseCommands) : ∃ t, exec (.bundleVerifyDone 0 tBody) (tVer) = .next t := nx ((h tVer tR 0 (by decide)).1 tBody (by decide) (by decide) (by decide))
theorem witness_GatehouseCommands_activate (h : Obligations.GatehouseCommands) : ∃ t, exec (.loadActivate tR 0) (tAct none 0) = .next t := nx (((h (tAct none 0) tR 0 (by decide)).2).1 _ ⟨by decide, by decide⟩ rfl (by decide))
theorem witness_GatehouseCommands_activateWaits (h : Obligations.GatehouseCommands) : ∃ t, exec (.loadActivate tR 0) (tAct (some tBun) 256) = .next t := nx ((((h (tAct (some tBun) 256) tR 0 (by decide)).2).2).1 _ _ ⟨by decide, by decide⟩ rfl rfl (by decide))
theorem witness_GatehouseCommands_discardStaged (h : Obligations.GatehouseCommands) : ∃ t, exec (.loadDiscardStaged tR 0) (tAct none 0) = .next t := nx (((((h (tAct none 0) tR 0 (by decide)).2).2).2).1 ⟨by decide, by decide⟩)
theorem witness_GatehouseCommands_discardActive (h : Obligations.GatehouseCommands) : ∃ t, exec (.loadDiscardActive tR 0) (tAct (some tBun) 0) = .next t := nx ((((((h (tAct (some tBun) 0) tR 0 (by decide)).2).2).2).2).1 _ ⟨by decide, by decide⟩ rfl)
theorem witness_GatehouseCommands_paramCommit (h : Obligations.GatehouseCommands) : ∃ t, exec (.paramCommit tR 0) (tRel) = .next t := nx (((((((h tRel tR 0 (by decide)).2).2).2).2).2).1 ⟨by decide, by decide⟩)
theorem witness_GatehouseCommands_digest (h : Obligations.GatehouseCommands) : ∃ t, exec (.sysDigestWrite (.space3 9) (toBytes 48 77)) (tRel) = .next t := nx ((((((((h tRel (.space3 9) 0 (by decide)).2).2).2).2).2).2).1 (toBytes 48 77) ⟨by decide, by decide⟩)
theorem witness_GatehouseCommands_image (h : Obligations.GatehouseCommands) : ∃ t, exec (.programImageDmaLoad 0 (2 ^ 49 + 0) (List.replicate 256 (0 : Byte))) tIma = .next t :=
  nx ((((((((h tIma tR 0 (by decide +kernel)).2).2).2).2).2).2).2 (2 ^ 49 + 0) (List.replicate 256 (0 : Byte)) (by decide +kernel) (by decide +kernel) (by decide +kernel) (by decide +kernel) (by decide +kernel) (by decide +kernel))

/-! Witnesses of RingCommands. -/

theorem witness_RingCommands_submit (h : Obligations.RingCommands) : ∃ t, exec (.ringDoorbell tR 0 1 3) (tKi 1 id) = .next t := nx ((h (tKi 1 id) tR 0 (by decide)).1 1 3 (by decide) ⟨by decide, by decide⟩)
theorem witness_RingCommands_output (h : Obligations.RingCommands) : ∃ t, exec (.ringDoorbell tR 1 1 0) (tKi 1 id) = .next t := nx ((h (tKi 1 id) tR 1 (by decide)).1 1 0 (by decide) ⟨by decide, by decide⟩)
theorem witness_RingCommands_stale (h : Obligations.RingCommands) : ∃ t, exec (.ringDoorbell tR 0 2 3) (tKi 1 id) = .next t := nx ((h (tKi 1 id) tR 0 (by decide)).1 2 3 (by decide) ⟨by decide, by decide⟩)
theorem witness_RingCommands_create (h : Obligations.RingCommands) : ∃ t, exec (.ringCreate tR 1) (tKi 1 tNoR) = .next t := nx (((h (tKi 1 tNoR) tR 1 (by decide)).2).1 _ ⟨by decide, by decide⟩ (by decide) (by decide) rfl (by decide) (by decide) (by decide) rfl)
theorem witness_RingCommands_createBusy (h : Obligations.RingCommands) : ∃ t, exec (.ringCreate tR 1) (tKi 1 id) = .next t := nx ((((h (tKi 1 id) tR 1 (by decide)).2).2).1 ⟨by decide, by decide⟩ (by decide))
theorem witness_RingCommands_destroy (h : Obligations.RingCommands) : ∃ t, exec (.ringDestroy tR 1) (tKi 1 id) = .next t := nx (((((h (tKi 1 id) tR 1 (by decide)).2).2).2).1 ⟨by decide, by decide⟩ (by decide) (by decide))
theorem witness_RingCommands_mirror (h : Obligations.RingCommands) : ∃ t, exec (.mirrorFailed 1) (tMir) = .next t := nx (((((h tMir tR 1 (by decide)).2).2).2).2 (by decide) (by decide) (by decide))

/-! Witnesses of KioskTakesCommands. -/

theorem witness_KioskTakesCommands_submit (h : Obligations.KioskTakesCommands) : ∃ t, exec (.cmdSubmit 0) (tKi 1 id) = .next t := nx ((h (tKi 1 id) 0 _ (by decide) rfl).1 (by decide) (by decide) (by decide) (by decide))
theorem witness_KioskTakesCommands_submitBad (h : Obligations.KioskTakesCommands) : ∃ t, exec (.cmdSubmit 0) (tKi 1 (tSeq .running 0)) = .next t := nx (((h (tKi 1 (tSeq .running 0)) 0 _ (by decide) rfl).2).1 (by decide) (by decide))
theorem witness_KioskTakesCommands_cancel (h : Obligations.KioskTakesCommands) : ∃ t, exec (.cmdCancel 0) (tKi 2 (tSeq .running 1)) = .next t := nx ((((h (tKi 2 (tSeq .running 1)) 0 _ (by decide) rfl).2).2).1 (by decide) (by decide) (by decide) (by decide))
theorem witness_KioskTakesCommands_stale (h : Obligations.KioskTakesCommands) : ∃ t, exec (.cmdCancel 0) (tKi 2 (tSeq .running 2)) = .next t := nx (((((h (tKi 2 (tSeq .running 2)) 0 _ (by decide) rfl).2).2).2).1 (by decide) (by decide) (by decide))
theorem witness_KioskTakesCommands_park (h : Obligations.KioskTakesCommands) : ∃ t, exec (.cmdPark 0) (tKi 3 (tSeq .running 1)) = .next t := nx ((((((h (tKi 3 (tSeq .running 1)) 0 _ (by decide) rfl).2).2).2).2).1 (by decide) (by decide) (by decide) (by decide) (by decide) (by decide))
theorem witness_KioskTakesCommands_resume (h : Obligations.KioskTakesCommands) : ∃ t, exec (.cmdResume 0) (tKi 4 (tSeq .parked 1)) = .next t := nx ((((((h (tKi 4 (tSeq .parked 1)) 0 _ (by decide) rfl).2).2).2).2).2 (by decide) (by decide) (by decide) (by decide) (by decide) (by decide) (by decide) (by decide) (by decide))

/-! Witnesses of ComposeAndCommitPoints. -/

theorem witness_ComposeAndCommitPoints_commit (h : Obligations.ComposeAndCommitPoints) : ∃ t, exec (.commit 0) (tCom) = .next t :=
  nx (((h tCom 0 (by decide)).2).1 _ _ rfl rfl (by decide) (by decide) (by decide) (by decide) (by decide))
theorem witness_ComposeAndCommitPoints_idle (h : Obligations.ComposeAndCommitPoints) : ∃ t, exec (.idleCommit 0) (tIdle) = .next t :=
  nx ((((h tIdle 0 (by decide)).2).2).1 _ (by decide) (by decide) (by decide) (by decide) (by decide) (by decide) (by decide) rfl (by decide) (by decide) (by decide) (by decide))
theorem witness_ComposeAndCommitPoints_compaction (h : Obligations.ComposeAndCommitPoints) : ∃ t, exec (.compactionDone 0) (tMov) = .next t := nx ((((h tMov 0 (by decide)).2).2).2 (by decide))
theorem witness_ComposeAndCommitPoints_compose (h : Obligations.ComposeAndCommitPoints) : ∃ t, exec (.kioskCompose 0) (tCmp) = .next t := nx ((h tCmp 0 (by decide)).1 _ _ _ _ _ _ (by decide) (by decide) (by decide) (by decide) (by decide) (by decide) (by decide) (by decide) (by decide) (by decide) rfl rfl (by decide))

/-! Witnesses of RemoteParksAndInbox. -/

theorem witness_RemoteParksAndInbox_park (h : Obligations.RemoteParksAndInbox) : ∃ t, exec (.remoteParkDone 0 5) (tPar false) = .next t := nx ((h (tPar false) 0 5 (by decide)).1 _ rfl (by decide))
theorem witness_RemoteParksAndInbox_fetch (h : Obligations.RemoteParksAndInbox) : ∃ t, exec (.resumeFetchDone 0 5) (tPar true) = .next t := nx (((h (tPar true) 0 5 (by decide)).2).1 _ rfl (by decide))
theorem witness_RemoteParksAndInbox_inbox (h : Obligations.RemoteParksAndInbox) : ∃ t, exec (.inboxRead 0 2 (.park 0 7 [70] 500)) (tInb) = .next t := nx ((((h tInb 0 5 (by decide)).2).2).1 2 (.park 0 7 [70] 500) (by decide) (by decide))
theorem witness_RemoteParksAndInbox_release (h : Obligations.RemoteParksAndInbox) : ∃ t, exec (.inboxRead 0 2 (.release 0 7 [70])) (tInr) = .next t := nx ((((h tInr 0 5 (by decide)).2).2).1 2 (.release 0 7 [70]) (by decide) (by decide))
theorem witness_RemoteParksAndInbox_expiry (h : Obligations.RemoteParksAndInbox) : ∃ t, exec (.remoteParkExpiry 0 7) (tInr) = .next t := nx ((((h tInr 0 5 (by decide)).2).2).2 0 7)

/-! Witnesses of PacketsArePlaced. -/

theorem witness_PacketsArePlaced_put (h : Obligations.PacketsArePlaced) : ∃ t, exec (.put (tPk 0 (2 * 2 ^ 48 + 1024))) (tNet) = .next t := nx ((h tNet (tPk 0 (2 * 2 ^ 48 + 1024)) false (by decide)).1 0 (.put (tPk 0 (2 * 2 ^ 48 + 1024))) (by decide) ⟨by decide, by decide, by decide, by decide, by decide, by decide, by decide⟩)
theorem witness_PacketsArePlaced_mcast (h : Obligations.PacketsArePlaced) : ∃ t, exec (.mcast (tPk 7 4096)) (tNet) = .next t := nx ((h tNet (tPk 7 4096) false (by decide)).1 7 (.mcast (tPk 7 4096)) (by decide) ⟨by decide, by decide, by decide, by decide, by decide, by decide, by decide⟩)
theorem witness_PacketsArePlaced_get (h : Obligations.PacketsArePlaced) : ∃ t, exec (.getReq (tPk 1 (2 * 2 ^ 48 + 1024))) (tNet) = .next t := nx (((h tNet (tPk 1 (2 * 2 ^ 48 + 1024)) false (by decide)).2).1 ⟨by decide, by decide, by decide, by decide, by decide, by decide, by decide⟩ (by decide) (by decide))
theorem witness_PacketsArePlaced_fadd (h : Obligations.PacketsArePlaced) : ∃ t, exec (.faddI64Packet (tPk 4 (2 * 2 ^ 48 + 1024))) (tNet) = .next t := nx ((((h tNet (tPk 4 (2 * 2 ^ 48 + 1024)) false (by decide)).2).2).1 ⟨by decide, by decide, by decide, by decide, by decide, by decide, by decide⟩ (by decide))
theorem witness_PacketsArePlaced_xw (h : Obligations.PacketsArePlaced) : ∃ t, exec (.xwAdd tXwP) (tNet) = .next t := nx (((((h tNet tXwP false (by decide)).2).2).2).1 _ _ _ ⟨by decide, by decide, by decide, by decide, by decide, by decide, by decide⟩ rfl rfl (by decide) (by decide))
theorem witness_PacketsArePlaced_f (h : Obligations.PacketsArePlaced) : ∃ t, exec (.fAdd tFP) (tNet) = .next t := nx ((((((h tNet tFP false (by decide)).2).2).2).2).1 _ _ ⟨by decide, by decide, by decide, by decide, by decide, by decide, by decide⟩ rfl (by decide) (by decide))
theorem witness_PacketsArePlaced_null (h : Obligations.PacketsArePlaced) : ∃ t, exec (.nullPacket (tPk 8 0)) (tNet) = .next t := nx (((((((h tNet (tPk 8 0) false (by decide)).2).2).2).2).2).1 ⟨by decide, by decide, by decide, by decide, by decide, by decide, by decide⟩)
theorem witness_PacketsArePlaced_load (h : Obligations.PacketsArePlaced) : ∃ t, exec (.loadPacket tLoadP) (tLd) = .next t := nx (((((((h tLd tLoadP false (by decide)).2).2).2).2).2).2 _ _ ⟨by decide, by decide, by decide, by decide, by decide, by decide, by decide⟩ rfl (by decide) (by decide))

/-! Witnesses of RefusedPacketsPlaceNothing. -/

theorem witness_RefusedPacketsPlaceNothing_status (h : Obligations.RefusedPacketsPlaceNothing) : ∃ t, exec (.put (tPk 0 (3 * 2 ^ 48))) (tNet) = .next t := nx (h tNet (tPk 0 (3 * 2 ^ 48)) 0 (.put (tPk 0 (3 * 2 ^ 48))) (by decide) (by decide) rfl (by decide) (by decide) (by decide))
theorem witness_RefusedPacketsPlaceNothing_gen (h : Obligations.RefusedPacketsPlaceNothing) : ∃ t, exec (.xwAdd { tPk 5 (4 * 2 ^ 48) with plotGen := 2 }) (tNet) = .next t := nx (h tNet { tPk 5 (4 * 2 ^ 48) with plotGen := 2 } 5 (.xwAdd { tPk 5 (4 * 2 ^ 48) with plotGen := 2 }) (by decide) (by decide) rfl (by decide) (by decide) (by decide))
theorem witness_RefusedPacketsPlaceNothing_step (h : Obligations.RefusedPacketsPlaceNothing) : ∃ t, exec (.nullPacket { tPk 8 0 with plan := true, stepGen := 5 }) (tNet) = .next t := nx (h tNet { tPk 8 0 with plan := true, stepGen := 5 } 8 (.nullPacket { tPk 8 0 with plan := true, stepGen := 5 }) (by decide) (by decide) rfl (by decide) (by decide) (by decide))
theorem witness_RefusedPacketsPlaceNothing_fenced (h : Obligations.RefusedPacketsPlaceNothing) : ∃ t, exec (.put (tPk 0 1024)) (tFnc) = .next t := nx (h tFnc (tPk 0 1024) 0 (.put (tPk 0 1024)) (by decide) (by decide) rfl (by decide) (by decide) (by decide))

/-! Witnesses of AnswersMeetTheirTransfer. -/

theorem witness_AnswersMeetTheirTransfer_completion (h : Obligations.AnswersMeetTheirTransfer) : ∃ t, exec (.completion (tPk 3 0)) (tFs id) = .next t := nx (((h (tFs id) (tPk 3 0) tFx (by decide)).1 (by decide) rfl).1 (by decide) (by decide) (by decide))
theorem witness_AnswersMeetTheirTransfer_last (h : Obligations.AnswersMeetTheirTransfer) : ∃ t, exec (.completion { tPk 3 0 with pcount := 2 }) (tFs id) = .next t := nx (((h (tFs id) { tPk 3 0 with pcount := 2 } tFx (by decide)).1 (by decide) rfl).1 (by decide) (by decide) (by decide))
theorem witness_AnswersMeetTheirTransfer_getResp (h : Obligations.AnswersMeetTheirTransfer) : ∃ t, exec (.getResp { tPk 2 0 with pseq := 1 }) (tFs (fun x => { x with kind := .get })) = .next t := nx ((((h (tFs (fun x => { x with kind := .get })) { tPk 2 0 with pseq := 1 } { tFx with kind := .get } (by decide)).1 (by decide) rfl).2).1 0 (by decide) (by decide) (by decide) (by decide) (by decide))
theorem witness_AnswersMeetTheirTransfer_error (h : Obligations.AnswersMeetTheirTransfer) : ∃ t, exec (.errorResp { tPk 0x0A 0 with aux := 4 }) (tFs id) = .next t := nx (((((h (tFs id) { tPk 0x0A 0 with aux := 4 } tFx (by decide)).1 (by decide) rfl).2).2).1 (by decide))
theorem witness_AnswersMeetTheirTransfer_flush (h : Obligations.AnswersMeetTheirTransfer) : ∃ t, exec (.flushNotice { tPk 0x0C 0 with aux := 6 }) (tFs id) = .next t := nx ((((((h (tFs id) { tPk 0x0C 0 with aux := 6 } tFx (by decide)).1 (by decide) rfl).2).2).2).1 (by decide))
theorem witness_AnswersMeetTheirTransfer_fence (h : Obligations.AnswersMeetTheirTransfer) : ∃ t, exec (.fenceNotice (tPk 0x0B 0)) (tFs id) = .next t := nx ((((((h (tFs id) (tPk 0x0B 0) tFx (by decide)).1 (by decide) rfl).2).2).2).2 (by decide) (by decide))
theorem witness_AnswersMeetTheirTransfer_timeout (h : Obligations.AnswersMeetTheirTransfer) : ∃ t, exec (.xferTimeout 7) (tFs id) = .next t :=
  nx ((h (tFs id) tPkR tFx (by decide)).2.2.1 7 rfl (by decide) (by decide) (by decide))
theorem witness_AnswersMeetTheirTransfer_timer (h : Obligations.AnswersMeetTheirTransfer) : ∃ t, exec (.completionTimer 9 5) tUn = .next t :=
  nx ((h tUn tPkR tFx (by decide)).2.2.2.1 9 5 _ rfl (by decide) (by decide))
theorem witness_AnswersMeetTheirTransfer_reap (h : Obligations.AnswersMeetTheirTransfer) : ∃ t, exec (.arrivalReap 9 5) tUn = .next t :=
  nx ((h tUn tPkR tFx (by decide)).2.2.2.2.1 9 5 _ rfl (by decide))
theorem witness_AnswersMeetTheirTransfer_faddCmd (h : Obligations.AnswersMeetTheirTransfer) : ∃ t, exec (.faddCmd tR) tRel = .next t :=
  nx ((h tRel tPkR tFx (by decide)).2.2.2.2.2 tR ⟨by decide, by decide, by decide⟩ (by decide))
theorem witness_AnswersMeetTheirTransfer_late (h : Obligations.AnswersMeetTheirTransfer) : ∃ t, exec (.completion (tPk 3 0)) tNet = .next t :=
  nx ((h tNet (tPk 3 0) tFx (by decide)).2.1 0x03 (.completion (tPk 3 0)) (by decide) (by decide) (by decide) (by decide) (by decide))

/-! Witnesses of RouterCommands. -/

theorem witness_RouterCommands_eject (h : Obligations.RouterCommands) : ∃ t, exec (.packetRoute [(3, tPkR)]) (tRt id) = .next t :=
  nx (((h (tRt id) (tPkR) (by decide)).1 3 (by decide) (by decide) (by decide) (by decide) (by decide) (by decide) (by decide) (by decide)).1 0 (by decide) (by decide) (by decide) rfl)
theorem witness_RouterCommands_forward (h : Obligations.RouterCommands) : ∃ t, exec (.packetRoute [(3, tTo7 tPkR)]) (tRt tTo7) = .next t :=
  nx (((h (tRt tTo7) (tTo7 tPkR) (by decide)).1 3 (by decide) (by decide) (by decide) (by decide) (by decide) (by decide) (by decide) (by decide)).2.1 0 3 (by decide) (by decide) (by decide) rfl (by decide) (by decide))
theorem witness_RouterCommands_malformed (h : Obligations.RouterCommands) : ∃ t, exec (.packetRoute [(3, tBad tPkR)]) (tRt tBad) = .next t :=
  nx (((h (tRt tBad) (tBad tPkR) (by decide)).1 3 (by decide) (by decide) (by decide) (by decide) (by decide) (by decide) (by decide) (by decide)).2.2.1 (by decide))
theorem witness_RouterCommands_combine (h : Obligations.RouterCommands) : ∃ t, exec (.combineSend 5 1024) tRc = .next t :=
  nx ((h tRc tPkR (by decide)).2.1 5 1024 _ rfl (by decide))
theorem witness_RouterCommands_arm (h : Obligations.RouterCommands) : ∃ t, exec (.switchArm (.space3 9) 255) (tRel) = .next t := nx ((((h tRel tPkR (by decide)).2).2).1 (.space3 9) 255 ⟨by decide, by decide⟩)
theorem witness_RouterCommands_switch (h : Obligations.RouterCommands) : ∃ t, exec (.routeSwitch) (tRc) = .next t := nx (((((h tRc tPkR (by decide)).2).2).2).1 _ rfl (by decide))
theorem witness_RouterCommands_retain (h : Obligations.RouterCommands) : ∃ t, exec (.bankRetainEnd) (tRh) = .next t := nx0 ((((((h tRh tPkR (by decide)).2).2).2).2).1 (by decide) (by decide))
theorem witness_RouterCommands_fenceSet (h : Obligations.RouterCommands) : ∃ t, exec (.fenceSet (tPk 0x11 0)) tMgr = .next t :=
  nx0 ((h tMgr (tPk 0x11 0) (by decide)).2.2.2.2.2.1 (by decide) (by decide) (by decide))
theorem witness_RouterCommands_fenceMap (h : Obligations.RouterCommands) : ∃ t, exec (.fenceMapWrite (.space3 9) 127 0x80000001) tRel = .next t :=
  nx ((h tRel tPkR (by decide)).2.2.2.2.2.2.2.1 (.space3 9) 127 0x80000001 (by decide) ⟨by decide, by decide, by decide⟩)
theorem witness_RouterCommands_linkMgmt (h : Obligations.RouterCommands) : ∃ t, exec (.linkMgmt (tPk 0x12 0)) tRel = .next t :=
  nx0 ((h tRel (tPk 0x12 0) (by decide)).2.2.2.2.2.2.2.2 (by decide) (by decide))
theorem witness_RouterCommands_hops (h : Obligations.RouterCommands) : ∃ t, exec (.packetRoute [(3, tFar tPkR)]) (tRt tFar) = .next t :=
  nx (((h (tRt tFar) (tFar tPkR) (by decide)).1 3 (by decide) (by decide) (by decide) (by decide) (by decide) (by decide) (by decide) (by decide)).2.2.2 (by decide) (by decide) (by decide) (by decide) (by decide))
theorem witness_RouterCommands_fenceSetOther (h : Obligations.RouterCommands) : ∃ t, exec (.fenceSet { tPk 0x11 0 with src := 8 }) tMgr = .next t :=
  nx0 ((h tMgr { tPk 0x11 0 with src := 8 } (by decide)).2.2.2.2.2.2.1 (by decide) (by decide) (by decide))

/-! Witnesses of FramesAreJudged. -/

theorem witness_FramesAreJudged_accept (h : Obligations.FramesAreJudged) : ∃ t, exec (.framePacket 3 (tFh id) (tPk 0 0)) tPrt0 = .next t :=
  nx ((h.2 tPrt0 3 (tFh id) (tPk 0 0) (by decide) (by decide) (by decide) (by decide)).1 (by decide) (by decide) (by decide) (by decide) (by decide) (by decide) (by decide))
theorem witness_FramesAreJudged_repeated (h : Obligations.FramesAreJudged) : ∃ t, exec (.framePacket 3 (tFh (fun h => { h with seq := 0 })) (tPk 0 0)) tPrt0 = .next t :=
  nx ((h.2 tPrt0 3 (tFh (fun h => { h with seq := 0 })) (tPk 0 0) (by decide) (by decide) (by decide) (by decide)).2.1 (by decide) (by decide) (by decide) (by decide) (by decide) (by decide))
theorem witness_FramesAreJudged_crc (h : Obligations.FramesAreJudged) : ∃ t, exec (.framePacket 3 (tFh (fun h => { h with crcOk := false })) (tPk 0 0)) (tPrt0) = .next t := nx ((((h.2 tPrt0 3 (tFh (fun h => { h with crcOk := false })) (tPk 0 0) (by decide) (by decide) (by decide) (by decide)).2).2).1 (by decide))
theorem witness_FramesAreJudged_generation (h : Obligations.FramesAreJudged) : ∃ t, exec (.framePacket 3 (tFh (fun h => { h with gen := 4 })) (tPk 0 0)) (tPrt0) = .next t := nx (((((h.2 tPrt0 3 (tFh (fun h => { h with gen := 4 })) (tPk 0 0) (by decide) (by decide) (by decide) (by decide)).2).2).2).1 (by decide) (by decide) (by decide))
theorem witness_FramesAreJudged_idle (h : Obligations.FramesAreJudged) : ∃ t, exec (.frameIdle 3 (tFh id)) (tPrt (fun p => { p with rxGen := 5, rxE := 7, replay := [(0, 0, tPk 0 0), (1, 0, tPk 0 0)] })) = .next t :=
  nx ((h.2 (tPrt (fun p => { p with rxGen := 5, rxE := 7, replay := [(0, 0, tPk 0 0), (1, 0, tPk 0 0)] })) 3 (tFh id) (tPk 0 0) (by decide) (by decide) (by decide) (by decide)).2.2.2.2.1 (by decide) (by decide) (by decide) (by decide) (by decide))
theorem witness_FramesAreJudged_ackTimer (h : Obligations.FramesAreJudged) : ∃ t, exec (.ackTimer 3) (tPrt (fun p => { p with unacked := 2, rxE := 0 })) = .next t :=
  nx ((h.2 (tPrt (fun p => { p with unacked := 2, rxE := 0 })) 3 (tFh id) (tPk 0 0) (by decide) (by decide) (by decide) (by decide)).2.2.2.2.2.2.1 (by decide) (by decide))
theorem witness_FramesAreJudged_replay (h : Obligations.FramesAreJudged) : ∃ t, exec (.replayTimer 3) (tPrt (fun p => { p with replay := [(4, 6, tPk 0 0)], replaysNoAck := 14 })) = .next t :=
  nx ((h.2 (tPrt (fun p => { p with replay := [(4, 6, tPk 0 0)], replaysNoAck := 14 })) 3 (tFh id) (tPk 0 0) (by decide) (by decide) (by decide) (by decide)).2.2.2.2.2.2.2.1 _ _ rfl (by decide) (by decide) (by decide))
theorem witness_FramesAreJudged_held (h : Obligations.FramesAreJudged) : ∃ t, exec (.replayTimer 3) (tPrt (fun p => { p with replay := [(4, 6, tPk 0 0)], replaysNoAck := 15 })) = .next t :=
  nx ((h.2 (tPrt (fun p => { p with replay := [(4, 6, tPk 0 0)], replaysNoAck := 15 })) 3 (tFh id) (tPk 0 0) (by decide) (by decide) (by decide) (by decide)).2.2.2.2.2.2.2.2 _ _ rfl (by decide) (by decide) (by decide))
theorem witness_FramesAreJudged_nak (h : Obligations.FramesAreJudged) : ∃ t, exec (.frameIdle 3 (tFh (fun h => { h with nak := true, ackValid := true, ack := 0 }))) (tPrt (fun p => { p with rxGen := 5, rxE := 7, replay := [(0, 0, tPk 0 0), (1, 0, tPk 0 0)] })) = .next t :=
  nx ((h.2 (tPrt (fun p => { p with rxGen := 5, rxE := 7, replay := [(0, 0, tPk 0 0), (1, 0, tPk 0 0)] })) 3 (tFh (fun h => { h with nak := true, ackValid := true, ack := 0 })) (tPk 0 0) (by decide) (by decide) (by decide) (by decide)).2.2.2.2.2.1 (1, 0, tPk 0 0) (by decide) (by decide) (by decide) (by decide) (by decide) (by decide) (by decide) (by decide) (by decide) (by decide))
theorem witness_FramesAreJudged_nakFirst (h : Obligations.FramesAreJudged) : ∃ t, exec (.frameIdle 3 (tFh (fun h => { h with nak := true, ackValid := false }))) (tPrt (fun p => { p with rxGen := 5, rxE := 7, replay := [(0, 0, tPk 0 0), (1, 0, tPk 0 0)] })) = .next t :=
  nx ((h.2 (tPrt (fun p => { p with rxGen := 5, rxE := 7, replay := [(0, 0, tPk 0 0), (1, 0, tPk 0 0)] })) 3 (tFh (fun h => { h with nak := true, ackValid := false })) (tPk 0 0) (by decide) (by decide) (by decide) (by decide)).2.2.2.2.2.1 (0, 0, tPk 0 0) (by decide) (by decide) (by decide) (by decide) (by decide) (by decide) (by decide) (by decide) (by decide) (by decide))
theorem witness_FramesAreJudged_header : packetOk { tPk 0 0 with win := -512, aux := 15 } = true ∧ (tPk 0 0).rsv = false := by decide

/-! Witnesses of PortStates. -/

theorem witness_PortStates_enable (h : Obligations.PortStates) : ∃ t, exec (.linkEnable tR 3) (tPrt (fun p => { p with st := .failed })) = .next t := nx ((h (tPrt (fun p => { p with st := .failed })) tR 3 (by decide) (by decide)).1 ⟨by decide, by decide⟩ (by decide) (by decide))
theorem witness_PortStates_drain (h : Obligations.PortStates) : ∃ t, exec (.linkDrain tR 3) (tPrt id) = .next t := nx (((h (tPrt id) tR 3 (by decide) (by decide)).2).1 ⟨by decide, by decide⟩ (by decide))
theorem witness_PortStates_undrain (h : Obligations.PortStates) : ∃ t, exec (.linkUndrain tR 3) (tPrt (fun p => { p with st := .drained })) = .next t := nx ((((h (tPrt (fun p => { p with st := .drained })) tR 3 (by decide) (by decide)).2).2).1 ⟨by decide, by decide⟩ (by decide))
theorem witness_PortStates_recal (h : Obligations.PortStates) : ∃ t, exec (.linkRecalibrate tR 3) (tPrt id) = .next t := nx (((((h (tPrt id) tR 3 (by decide) (by decide)).2).2).2).1 ⟨by decide, by decide⟩ (by decide))
theorem witness_PortStates_drained (h : Obligations.PortStates) : ∃ t, exec (.drainComplete 3) (tPrt (fun p => { p with st := .draining })) = .next t := nx ((((((h (tPrt (fun p => { p with st := .draining })) tR 3 (by decide) (by decide)).2).2).2).2 (by decide)).1 (by decide) (by decide))
theorem witness_PortStates_fec (h : Obligations.PortStates) : ∃ t, exec (.fecAlarmWindow 3 40 50) (tPrt id) = .next t := nx (((((((h (tPrt id) tR 3 (by decide) (by decide)).2).2).2).2 (by decide)).2).1 40 50 (by decide))
theorem witness_PortStates_calibrated (h : Obligations.PortStates) : ∃ t, exec (.bringupPhaseDone 3 0x1FFFF) (tPrt (fun p => { p with st := .calibrate, phase := .calibrate })) = .next t := nx ((((((((h (tPrt (fun p => { p with st := .calibrate, phase := .calibrate })) tR 3 (by decide) (by decide)).2).2).2).2 (by decide)).2).2).1 (by decide) 0x1FFFF (by decide))
theorem witness_PortStates_trained (h : Obligations.PortStates) : ∃ t, exec (.bringupPhaseDone 3 0) (tPrt (fun p => { p with st := .train, phase := .train, txGen := 255 })) = .next t := nx (((((((((h (tPrt (fun p => { p with st := .train, phase := .train, txGen := 255 })) tR 3 (by decide) (by decide)).2).2).2).2 (by decide)).2).2).2).1 (by decide) (by decide) 0)
theorem witness_PortStates_timeout (h : Obligations.PortStates) : ∃ t, exec (.bringupPhaseTimeout 3) (tPrt (fun p => { p with st := .train, phase := .train, fails := 1 })) = .next t := nx ((((((((((h (tPrt (fun p => { p with st := .train, phase := .train, fails := 1 })) tR 3 (by decide) (by decide)).2).2).2).2 (by decide)).2).2).2).2).1 (by decide) (by decide) (by decide) (by decide))
theorem witness_PortStates_failed (h : Obligations.PortStates) : ∃ t, exec (.bringupPhaseTimeout 3) (tPrt (fun p => { p with st := .train, phase := .train, fails := 2 })) = .next t := nx ((((((((((h (tPrt (fun p => { p with st := .train, phase := .train, fails := 2 })) tR 3 (by decide) (by decide)).2).2).2).2 (by decide)).2).2).2).2).1 (by decide) (by decide) (by decide) (by decide))
theorem witness_PortStates_lockLoss (h : Obligations.PortStates) : ∃ t, exec (.lockLoss 3 20) (tPrt (fun p => { p with replay := [(4, 6, tPk 0 0)] })) = .next t := nx (((((((((((h (tPrt (fun p => { p with replay := [(4, 6, tPk 0 0)] })) tR 3 (by decide) (by decide)).2).2).2).2 (by decide)).2).2).2).2).2).1 20 (by decide) (by decide))
theorem witness_PortStates_grace (h : Obligations.PortStates) : ∃ t, exec (.graceExpiry 3) (tPrt (fun p => { p with st := .held, graceOpen := true, replay := [(4, 6, tPk 0 0)] })) = .next t := nx ((((((((((((h (tPrt (fun p => { p with st := .held, graceOpen := true, replay := [(4, 6, tPk 0 0)] })) tR 3 (by decide) (by decide)).2).2).2).2 (by decide)).2).2).2).2).2).2).1 (by decide) (by decide) (by decide))
theorem witness_PortStates_initRepeat (h : Obligations.PortStates) : ∃ t, exec (.initRepeat 3) (tPrt (fun p => { p with st := .init, phase := .init, txGen := 6 })) = .next t := nx (((((((((((((h (tPrt (fun p => { p with st := .init, phase := .init, txGen := 6 })) tR 3 (by decide) (by decide)).2).2).2).2 (by decide)).2).2).2).2).2).2).2).1 (by decide) (by decide) (by decide) (by decide))
theorem witness_PortStates_init (h : Obligations.PortStates) : ∃ t, exec (.frameInit 3 (tFh id) tIb) (tPrt (fun p => { p with st := .init, phase := .init, rxE := 9 })) = .next t := nx ((((((((((((((h (tPrt (fun p => { p with st := .init, phase := .init, rxE := 9 })) tR 3 (by decide) (by decide)).2).2).2).2 (by decide)).2).2).2).2).2).2).2).2).1 (tFh id) tIb (by decide) (by decide) (by decide) (by decide) (by decide) (by decide))
theorem witness_PortStates_initThenUp (h : Obligations.PortStates) : ∃ t, exec (.frameInit 3 (tFh id) tIb) (tPrt (fun p => { p with st := .init, phase := .init, rxE := 9, gotInitAck := true, peer := some (9, 4) })) = .next t := nx ((((((((((((((h (tPrt (fun p => { p with st := .init, phase := .init, rxE := 9, gotInitAck := true, peer := some (9, 4) })) tR 3 (by decide) (by decide)).2).2).2).2 (by decide)).2).2).2).2).2).2).2).2).1 (tFh id) tIb (by decide) (by decide) (by decide) (by decide) (by decide) (by decide))
theorem witness_PortStates_initAck (h : Obligations.PortStates) : ∃ t, exec (.frameInitAck 3 (tFh id) tIb) (tPrt (fun p => { p with st := .init, phase := .init, initDepart := 10 })) = .next t := nx ((((((((((((((h (tPrt (fun p => { p with st := .init, phase := .init, initDepart := 10 })) tR 3 (by decide) (by decide)).2).2).2).2 (by decide)).2).2).2).2).2).2).2).2).2 (tFh id) tIb (by decide) (by decide) (by decide) (by decide) (by decide))
theorem witness_PortStates_initAckHeld (h : Obligations.PortStates) : ∃ t, exec (.frameInitAck 3 (tFh id) tIb) (tPrt (fun p => { p with st := .held, phase := .init, initDepart := 10, gotInit := true, peer := some (8, 1) })) = .next t := nx ((((((((((((((h (tPrt (fun p => { p with st := .held, phase := .init, initDepart := 10, gotInit := true, peer := some (8, 1) })) tR 3 (by decide) (by decide)).2).2).2).2 (by decide)).2).2).2).2).2).2).2).2).2 (tFh id) tIb (by decide) (by decide) (by decide) (by decide) (by decide))

/-! Witnesses of TimeAndLaunches. -/

theorem witness_TimeAndLaunches_exchange (h : Obligations.TimeAndLaunches) : ∃ t, exec (.timeExchange 3) (tPrt id) = .next t := nx (((h (tPrt id) tR 3 (by decide)).1 (by decide)).1 (by decide) (by decide) (by decide))
theorem witness_TimeAndLaunches_request (h : Obligations.TimeAndLaunches) : ∃ t, exec (.timePacket 3 ⟨800, 400, 6, 1, false, false⟩ 900) (tTim 1) = .next t := nx (((((h (tTim 1) tR 3 (by decide)).1 (by decide)).2).1 ⟨800, 400, 6, 1, false, false⟩ _ 900 rfl (by decide)).1 (by decide))
theorem witness_TimeAndLaunches_answer (h : Obligations.TimeAndLaunches) : ∃ t, exec (.timePacket 3 ⟨800, 400, 6, 2, false, false⟩ 900) (tTim 2) = .next t := nx (((((h (tTim 2) tR 3 (by decide)).1 (by decide)).2).1 ⟨800, 400, 6, 2, false, false⟩ _ 900 rfl (by decide)).2 (by decide) (by decide) (by decide) (by decide))
theorem witness_TimeAndLaunches_lost (h : Obligations.TimeAndLaunches) : ∃ t, exec (.exchangeLost 3) (tTim 2) = .next t := nx (((((h (tTim 2) tR 3 (by decide)).1 (by decide)).2).2).1 (by decide) (by decide) (by decide))
theorem witness_TimeAndLaunches_refLoss (h : Obligations.TimeAndLaunches) : ∃ t, exec (.refLoss) (tPrt id) = .next t := nx ((((((h (tPrt id) tR 0 (by decide)).1 (by decide)).2).2).2).1 (by decide))
theorem witness_TimeAndLaunches_refReturn (h : Obligations.TimeAndLaunches) : ∃ t, exec (.refReturn) (tRelx (fun d => { d with power := { d.power with refOk := false }, time := { Time.reset with holdover := true, expired := true } })) = .next t := nx (((((((h (tRelx (fun d => { d with power := { d.power with refOk := false }, time := { Time.reset with holdover := true, expired := true } })) tR 0 (by decide)).1 (by decide)).2).2).2).2).1 (by decide))
theorem witness_TimeAndLaunches_holdover (h : Obligations.TimeAndLaunches) : ∃ t, exec (.holdoverExpiry) (tRelx (fun d => { d with time := { Time.reset with holdover := true, sync := 3, elapsed := 10 ^ 13 } })) = .next t := nx ((((((((h (tRelx (fun d => { d with time := { Time.reset with holdover := true, sync := 3, elapsed := 10 ^ 13 } })) tR 0 (by decide)).1 (by decide)).2).2).2).2).2).1 (by decide) (by decide) (by decide))
theorem witness_TimeAndLaunches_pll (h : Obligations.TimeAndLaunches) : ∃ t, exec (.timePllUnlock) (tS) = .next t := nx (((((((((h tS tR 0 (by decide)).1 (by decide)).2).2).2).2).2).2).1 (by decide) (by decide))
theorem witness_TimeAndLaunches_launch (h : Obligations.TimeAndLaunches) : ∃ t, exec (.launch) (tLau 5 9) = .next t := nx (((((((((h (tLau 5 9) tR 0 (by decide)).1 (by decide)).2).2).2).2).2).2).2 _ _ _ _ _ _ (by decide) (by decide) rfl (by decide) (by decide))
theorem witness_TimeAndLaunches_arm (h : Obligations.TimeAndLaunches) : ∃ t, exec (.launchArm (.space3 9) 0) (tPrt id) = .next t := nx (((h (tPrt id) (.space3 9) 0 (by decide)).2).1 0 (by decide) ⟨by decide, by decide⟩)
theorem witness_TimeAndLaunches_cancel (h : Obligations.TimeAndLaunches) : ∃ t, exec (.launchCancel (.space3 9) 0) (tLau 90 9) = .next t :=
  nx ((((h (tLau 90 9) (.space3 9) 0 (by decide)).2).2).1 0 (by decide) ⟨by decide, by decide⟩ (by decide) rfl (by decide))
theorem witness_TimeAndLaunches_jump (h : Obligations.TimeAndLaunches) : ∃ t, exec (.timeJumpCmd (.space3 9)) (tRelx (fun d => { d with ctxs := [], regs := tPut [(rk 0x004 0x470 0, 77)] })) = .next t := nx ((((h (tRelx (fun d => { d with ctxs := [], regs := tPut [(rk 0x004 0x470 0, 77)] })) (.space3 9) 0 (by decide)).2).2).2 ⟨by decide, by decide⟩ (by decide) (by decide))

/-! Witnesses of HostPortEvents. -/

theorem witness_HostPortEvents_up (h : Obligations.HostPortEvents) : ∃ t, exec (.hostInterfaceUp 4) (tHp (fun h => { h with up := 0, fec := 0, inReset := true }) [(rk 0x071 0x400 0, 9)]) = .next t := nx ((h (tHp (fun h => { h with up := 0, fec := 0, inReset := true }) [(rk 0x071 0x400 0, 9)]) 1 0 (by decide) (by decide) (by decide) (by decide)).1 (by decide))
theorem witness_HostPortEvents_down (h : Obligations.HostPortEvents) : ∃ t, exec (.hostInterfaceDown 6) (tHp id []) = .next t := nx ((((h (tHp id []) 1 2 (by decide) (by decide) (by decide) (by decide)).2).1 (by decide)).1)
theorem witness_HostPortEvents_frame (h : Obligations.HostPortEvents) : ∃ t, exec (.ethFrameReceive 1 0 64 (some 7) 0 0 true none) (tHp id []) = .next t := nx ((((((h (tHp id []) 1 0 (by decide) (by decide) (by decide) (by decide)).2).1 (by decide)).2).1 64 (some 7) 0 true (by decide) (by decide) (by decide)).1 (by decide))
theorem witness_HostPortEvents_dropped (h : Obligations.HostPortEvents) : ∃ t, exec (.ethFrameReceive 1 0 64 none 31 0 true none) (tHp (fun h => { h with held := [(3, 2 ^ 20 - 60)] }) [(rk 0x071 0x434 0, 8)]) = .next t := nx ((((((h (tHp (fun h => { h with held := [(3, 2 ^ 20 - 60)] }) [(rk 0x071 0x434 0, 8)]) 1 0 (by decide) (by decide) (by decide) (by decide)).2).1 (by decide)).2).1 64 none 31 true (by decide) (by decide) (by decide)).2 (by decide))
theorem witness_HostPortEvents_macsecFrame (h : Obligations.HostPortEvents) : ∃ t, exec (.ethFrameReceive 1 0 64 none 31 0 true none) (tHp id [(rk 0x071 0x40C 0, 4)]) = .next t := nx (((((h (tHp id [(rk 0x071 0x40C 0, 4)]) 1 0 (by decide) (by decide) (by decide) (by decide)).2).1 (by decide)).2).2 64 none 31 0 true (by decide))
theorem witness_HostPortEvents_pfc (h : Obligations.HostPortEvents) : ∃ t, exec (.pfcReceived 1 4 7) (tHp id [(rk 0x071 0x434 0, 16)]) = .next t := nx ((((h (tHp id [(rk 0x071 0x434 0, 16)]) 1 0 (by decide) (by decide) (by decide) (by decide)).2).2).1 4 7 (by decide) (by decide))
theorem witness_HostPortEvents_arp (h : Obligations.HostPortEvents) : ∃ t, exec (.arpNdIcmp 4 2) (tHp id []) = .next t := nx (((((h (tHp id []) 1 0 (by decide) (by decide) (by decide) (by decide)).2).2).2).1 2 (by decide) ⟨by decide, by decide, by decide⟩)
theorem witness_HostPortEvents_ptpSync (h : Obligations.HostPortEvents) : ∃ t, exec (.ptpSync 500 77 (-3) true) (tHp id [(rk 0x070 0x480 0, 12)]) = .next t := nx ((((((h (tHp id [(rk 0x070 0x480 0, 12)]) 1 0 (by decide) (by decide) (by decide) (by decide)).2).2).2).2).1 500 77 (-3) true (by decide) (by decide) (by decide) (by decide))
theorem witness_HostPortEvents_ptpLost (h : Obligations.HostPortEvents) : ∃ t, exec (.ptpLost) (tHp id []) = .next t := nx (((((((h (tHp id []) 1 0 (by decide) (by decide) (by decide) (by decide)).2).2).2).2).2).1 (by decide) (by decide))
theorem witness_HostPortEvents_saInstall (h : Obligations.HostPortEvents) : ∃ t, exec (.saInstall tR 1 3 1) (tHp id [(rk 0x071 0x444 0, 77)]) = .next t := nx ((((((((h (tHp id [(rk 0x071 0x444 0, 77)]) 1 0 (by decide) (by decide) (by decide) (by decide)).2).2).2).2).2).2 tR 3 1 (by decide) (by decide)).1 ⟨by decide, by decide⟩)
theorem witness_HostPortEvents_saDelete (h : Obligations.HostPortEvents) : ∃ t, exec (.saDelete tR 1 3 0) (tHp (fun h => { h with sas := [(saKey 0 2 0, ⟨[], 0⟩), (saKey 0 3 0, ⟨[], 0⟩)] }) []) = .next t := nx (((((((((h (tHp (fun h => { h with sas := [(saKey 0 2 0, ⟨[], 0⟩), (saKey 0 3 0, ⟨[], 0⟩)] }) []) 1 0 (by decide) (by decide) (by decide) (by decide)).2).2).2).2).2).2 tR 3 0 (by decide) (by decide)).2).1 ⟨by decide, by decide⟩)
theorem witness_HostPortEvents_saUse (h : Obligations.HostPortEvents) : ∃ t, exec (.saUse tR 1 3) (tHp (fun h => { h with sas := [(saKey 0 3 0, ⟨[], 0⟩)] }) []) = .next t := nx (((((((((h (tHp (fun h => { h with sas := [(saKey 0 3 0, ⟨[], 0⟩)] }) []) 1 0 (by decide) (by decide) (by decide) (by decide)).2).2).2).2).2).2 tR 3 0 (by decide) (by decide)).2).2 ⟨by decide, by decide⟩ (by decide))

/-! Witnesses of QueuePairsServe. -/

theorem witness_QueuePairsServe_read (h : Obligations.QueuePairsServe) : ∃ t, exec (.rdmaReadRequest 9 (2 ^ 24 - 1) (2 ^ 49 + 4096) tKy 4 true) (tQp id) = .next t := nx (((h (tQp id) tR 9 (by decide)).1 (by decide) (by decide) ⟨by decide, by decide, by decide⟩).1 (2 ^ 49 + 4096) tKy 4 true (by decide))
theorem witness_QueuePairsServe_write (h : Obligations.QueuePairsServe) : ∃ t, exec (.rdmaWriteRequest 9 (2 ^ 24 - 1) (2 ^ 49 + 4098) tKy [1, 2] false) (tQp id) = .next t := nx ((((h (tQp id) tR 9 (by decide)).1 (by decide) (by decide) ⟨by decide, by decide, by decide⟩).2).1 (2 ^ 49 + 4098) tKy [1, 2] false (by decide))
theorem witness_QueuePairsServe_nak (h : Obligations.QueuePairsServe) : ∃ t, exec (.rdmaReadRequest 9 (2 ^ 24 - 1) (2 ^ 49 + 12284) tKy 8 true) (tQp id) = .next t := nx ((((((h (tQp id) tR 9 (by decide)).1 (by decide) (by decide) ⟨by decide, by decide, by decide⟩).2).2).1 (2 ^ 49 + 12284) tKy 8 (List.replicate 8 0) true).1 (by decide))
theorem witness_QueuePairsServe_writeNak (h : Obligations.QueuePairsServe) : ∃ t, exec (.rdmaWriteRequest 9 (2 ^ 24 - 1) (2 ^ 49 + 12284) tKy (List.replicate 8 0) false) (tQp id) = .next t := nx ((((((h (tQp id) tR 9 (by decide)).1 (by decide) (by decide) ⟨by decide, by decide, by decide⟩).2).2).1 (2 ^ 49 + 12284) tKy 8 (List.replicate 8 0) false).2 (by decide))
theorem witness_QueuePairsServe_cnp (h : Obligations.QueuePairsServe) : ∃ t, exec (.rdmaReadRequest 9 12 0 3 8 true) (tQp id) = .next t := nx ((((((h (tQp id) tR 9 (by decide)).1 (by decide) (by decide) ⟨by decide, by decide, by decide⟩).2).2).2 12 0 3 8 (List.replicate 8 0) (by decide)).1)
theorem witness_QueuePairsServe_cnp2 (h : Obligations.QueuePairsServe) : ∃ t, exec (.rdmaWriteRequest 9 12 0 3 [] true) (tQp id) = .next t := nx ((((((h (tQp id) tR 9 (by decide)).1 (by decide) (by decide) ⟨by decide, by decide, by decide⟩).2).2).2 12 0 3 8 [] (by decide)).2)
theorem witness_QueuePairsServe_connect (h : Obligations.QueuePairsServe) : ∃ t, exec (.qpConnect tR 0) (tRelx (fun d => { d with regs := tPut [(rk 0x073 0x404 0, 16 * 6 + 1024 * 2 + 5), (rk 0x073 0x41C 0, 2 ^ 25 + 6)] })) = .next t := nx (((h (tRelx (fun d => { d with regs := tPut [(rk 0x073 0x404 0, 16 * 6 + 1024 * 2 + 5), (rk 0x073 0x41C 0, 2 ^ 25 + 6)] })) tR 0 (by decide)).2).1 ⟨by decide, by decide⟩ rfl (by decide))
theorem witness_QueuePairsServe_reset (h : Obligations.QueuePairsServe) : ∃ t, exec (.qpReset tR 0) (tRel) = .next t := nx ((((h tRel tR 0 (by decide)).2).2).1 ⟨by decide, by decide⟩ rfl)
theorem witness_QueuePairsServe_mrCreate (h : Obligations.QueuePairsServe) : ∃ t, exec (.mrCreate tR 0) (tRelx (fun d => { d with regs := tPut [(rk 0x073 0x438 0, 131072), (rk 0x073 0x43C 0, 2)], mrs := [(0, { Mr.free with gen := 255 })] })) = .next t := nx (((((h (tRelx (fun d => { d with regs := tPut [(rk 0x073 0x438 0, 131072), (rk 0x073 0x43C 0, 2)], mrs := [(0, { Mr.free with gen := 255 })] })) tR 0 (by decide)).2).2).2).1 0 ⟨by decide, by decide⟩ rfl (by decide))
theorem witness_QueuePairsServe_mrDestroy (h : Obligations.QueuePairsServe) : ∃ t, exec (.mrDestroy tR 0) (tRelx (fun d => { d with mrs := [(0, ⟨true, 1, 2 ^ 49 + 4096, 8192, 5, true, true, 0⟩)] })) = .next t := nx (((((h (tRelx (fun d => { d with mrs := [(0, ⟨true, 1, 2 ^ 49 + 4096, 8192, 5, true, true, 0⟩)] })) tR 0 (by decide)).2).2).2).2 0 ⟨by decide, by decide⟩ rfl)

/-! Witnesses of QueuePairsTakeAnswers. -/

theorem witness_QueuePairsTakeAnswers_ack (h : Obligations.QueuePairsTakeAnswers) : ∃ t, exec (.rdmaAck 9 2) (tQp (fun q => { q with retries := 2, ops := [⟨true, 2 ^ 24 - 1, 0, 1, 0, 16, 0⟩, ⟨false, 1, 0, 1, 0, 16, 0⟩, ⟨true, 3, 0, 1, 0, 16, 0⟩] })) = .next t := nx ((h (tQp (fun q => { q with retries := 2, ops := [⟨true, 2 ^ 24 - 1, 0, 1, 0, 16, 0⟩, ⟨false, 1, 0, 1, 0, 16, 0⟩, ⟨true, 3, 0, 1, 0, 16, 0⟩] })) 9 (by decide) (by decide)).1 2)
theorem witness_QueuePairsTakeAnswers_timeout (h : Obligations.QueuePairsTakeAnswers) : ∃ t, exec (.rdmaAckTimeout 9) (tQp (fun q => { q with ops := [⟨true, 3, 0, 1, 0, 16, 0⟩], retries := 1 })) = .next t := nx ((((h (tQp (fun q => { q with ops := [⟨true, 3, 0, 1, 0, 16, 0⟩], retries := 1 })) 9 (by decide) (by decide)).2).1 _ _ rfl (by decide)).1 (by decide))
theorem witness_QueuePairsTakeAnswers_retries (h : Obligations.QueuePairsTakeAnswers) : ∃ t, exec (.rdmaAckTimeout 9) (tQp (fun q => { q with ops := [⟨true, 3, 0, 1, 0, 16, 0⟩], retries := 2 })) = .next t := nx ((((h (tQp (fun q => { q with ops := [⟨true, 3, 0, 1, 0, 16, 0⟩], retries := 2 })) 9 (by decide) (by decide)).2).1 _ _ rfl (by decide)).2 (by decide))
theorem witness_QueuePairsTakeAnswers_cnp (h : Obligations.QueuePairsTakeAnswers) : ∃ t, exec (.cnpReceived 9) (tQp id) = .next t := nx ((((h (tQp id) 9 (by decide) (by decide)).2).2).1)
theorem witness_QueuePairsTakeAnswers_timer (h : Obligations.QueuePairsTakeAnswers) : ∃ t, exec (.dcqcnTimer 9) (tQp (fun q => { q with incr := 4 })) = .next t := nx (((((h (tQp (fun q => { q with incr := 4 })) 9 (by decide) (by decide)).2).2).2).1 (by decide))
theorem witness_QueuePairsTakeAnswers_partial (h : Obligations.QueuePairsTakeAnswers) : ∃ t, exec (.rdmaReadResponse 9 5 (List.replicate 64 1) (List.replicate 64 2) none) (tRd id) = .next t := nx ((((((h (tRd id) 9 (by decide) (by decide)).2).2).2).2 ⟨false, 5, 4, 0, 0, 80, 0⟩ _ (List.replicate 64 1) (List.replicate 64 2) none rfl (by decide) rfl (by decide) (by decide) (by decide)).1 (by decide))
theorem witness_QueuePairsTakeAnswers_tag (h : Obligations.QueuePairsTakeAnswers) : ∃ t, exec (.rdmaReadResponse 9 5 (List.replicate 16 1) [] (some true)) (tRd (fun j => { j with recvd := 64 })) = .next t := nx ((((((h (tRd (fun j => { j with recvd := 64 })) 9 (by decide) (by decide)).2).2).2).2 ⟨false, 5, 4, 0, 0, 80, 0⟩ _ (List.replicate 16 1) [] (some true) rfl (by decide) rfl (by decide) (by decide) (by decide)).2 (by decide))
theorem witness_QueuePairsTakeAnswers_badTag (h : Obligations.QueuePairsTakeAnswers) : ∃ t, exec (.rdmaReadResponse 9 5 (List.replicate 80 1) (List.replicate 64 1) (some false)) (tRd id) = .next t := nx ((((((h (tRd id) 9 (by decide) (by decide)).2).2).2).2 ⟨false, 5, 4, 0, 0, 80, 0⟩ _ (List.replicate 80 1) (List.replicate 64 1) (some false) rfl (by decide) rfl (by decide) (by decide) (by decide)).2 (by decide))

/-! Witnesses of WeightsLoadAndSweep. -/

theorem witness_WeightsLoadAndSweep_manifest (h : Obligations.WeightsLoadAndSweep) : ∃ t, exec (.manifestCmd tR 0 true) tMan = .next t :=
  nx ((h tMan tR 0).1 0 ((tMan.dev.manifest 0).getD ⟨true, [], 0, []⟩) 0 (by decide +kernel) ⟨by decide +kernel, by decide +kernel⟩ (by decide +kernel) (by decide +kernel) (by decide +kernel) (by decide +kernel) (by decide +kernel) (by decide +kernel))
theorem witness_WeightsLoadAndSweep_submit (h : Obligations.WeightsLoadAndSweep) : ∃ t, exec (.jobSubmit tR) (tRelx (fun d => { d with regs := tPut [(rk 0x090 0x540 0, 99), (rk 0x090 0x530 0, 3)] })) = .next t := nx ((((h (tRelx (fun d => { d with regs := tPut [(rk 0x090 0x540 0, 99), (rk 0x090 0x530 0, 3)] })) tR 0).2).1 ⟨by decide, by decide⟩).1 rfl)
theorem witness_WeightsLoadAndSweep_full (h : Obligations.WeightsLoadAndSweep) : ∃ t, exec (.jobSubmit tR) (tRelx (fun d => { d with jobs := (List.range 64).map (fun k => (k, tJob)) })) = .next t := nx ((((h (tRelx (fun d => { d with jobs := (List.range 64).map (fun k => (k, tJob)) })) tR 0).2).1 ⟨by decide +kernel, by decide +kernel⟩).2 (by decide +kernel))
theorem witness_WeightsLoadAndSweep_start (h : Obligations.WeightsLoadAndSweep) : ∃ t, exec (.jobStart 4) (tJo id) = .next t := nx (((((h (tJo id) tR 4).2).2 (by decide)).1 (by decide) (by decide) (by decide)).1 _ _ rfl rfl (by decide))
theorem witness_WeightsLoadAndSweep_noShard (h : Obligations.WeightsLoadAndSweep) : ∃ t, exec (.jobStart 4) (tJo (fun j => { j with shard := 8 })) = .next t := nx (((((h (tJo (fun j => { j with shard := 8 })) tR 4).2).2 (by decide)).1 (by decide) (by decide) (by decide)).2 (by decide))
theorem witness_WeightsLoadAndSweep_complete (h : Obligations.WeightsLoadAndSweep) : ∃ t, exec (.jobComplete 4) (tRd (fun j => { j with tagOk := some true })) = .next t := nx (((((h (tRd (fun j => { j with tagOk := some true })) tR 4).2).2 (by decide)).2).1 (by decide) rfl (by decide))
theorem witness_WeightsLoadAndSweep_readback (h : Obligations.WeightsLoadAndSweep) : ∃ t, exec (.shardReadbackDone 3) (tWs .writing tDg) = .next t := nx (((((((h (tWs .writing tDg) tR 3).2).2 (by decide +kernel)).2).2 _ _ _ rfl rfl (by decide +kernel)).1 (by decide +kernel) (by decide +kernel) (by decide +kernel)).1 (by decide +kernel))
theorem witness_WeightsLoadAndSweep_mismatch (h : Obligations.WeightsLoadAndSweep) : ∃ t, exec (.shardReadbackDone 3) (tWs .writing []) = .next t := nx (((((((h (tWs .writing []) tR 3).2).2 (by decide +kernel)).2).2 _ _ _ rfl rfl (by decide +kernel)).1 (by decide +kernel) (by decide +kernel) (by decide +kernel)).2 (by decide +kernel))
theorem witness_WeightsLoadAndSweep_sweep (h : Obligations.WeightsLoadAndSweep) : ∃ t, exec (.weightSweep 3) (tWs .done tDg) = .next t := nx (((((((h (tWs .done tDg) tR 3).2).2 (by decide +kernel)).2).2 _ _ _ rfl rfl (by decide +kernel)).2 (by decide +kernel) (by decide +kernel) (by simp) (by decide +kernel)).1 (by decide +kernel))
theorem witness_WeightsLoadAndSweep_sweepBad (h : Obligations.WeightsLoadAndSweep) : ∃ t, exec (.weightSweep 3) (tWs .done []) = .next t := nx (((((((h (tWs .done []) tR 3).2).2 (by decide +kernel)).2).2 _ _ _ rfl rfl (by decide +kernel)).2 (by decide +kernel) (by decide +kernel) (by simp) (by decide +kernel)).2 (by decide +kernel))

/-! Witnesses of PlotsAreAssignedAndRemoved. -/

theorem witness_PlotsAreAssignedAndRemoved_assign (h : Obligations.PlotsAreAssignedAndRemoved) : ∃ t, exec (.plotAssign tR 0) (tAs tDesc) = .next t := nx (((h (tAs tDesc) tR 0 (by decide)).1 ⟨by decide, by decide⟩).1 (by decide))
theorem witness_PlotsAreAssignedAndRemoved_refused (h : Obligations.PlotsAreAssignedAndRemoved) : ∃ t, exec (.plotAssign tR 0) (tAs []) = .next t := nx (((h (tAs []) tR 0 (by decide)).1 ⟨by decide, by decide⟩).2 (by decide))
theorem witness_PlotsAreAssignedAndRemoved_remove (h : Obligations.PlotsAreAssignedAndRemoved) : ∃ t, exec (.plotRemove tR 0) (tRel) = .next t := nx (((h tRel tR 0 (by decide)).2).1 ⟨by decide, by decide⟩ (by decide) (by decide))
theorem witness_PlotsAreAssignedAndRemoved_done (h : Obligations.PlotsAreAssignedAndRemoved) : ∃ t, exec (.plotAssignDone 0) (tRelx (fun d => { d with plots := [(0, { tPlot with st := 0, assigning := true })], pages := [(5, { PageEntry.free with st := 1, plot := 3 }), (64, { PageEntry.free with st := 1, plot := 3 })] })) = .next t := nx ((((h (tRelx (fun d => { d with plots := [(0, { tPlot with st := 0, assigning := true })], pages := [(5, { PageEntry.free with st := 1, plot := 3 }), (64, { PageEntry.free with st := 1, plot := 3 })] })) tR 0 (by decide)).2).2 (by decide)).1 (by decide))
theorem witness_PlotsAreAssignedAndRemoved_final (h : Obligations.PlotsAreAssignedAndRemoved) : ∃ t, exec (.plotRemoveFinal 0) (tPl (fun p => { p with st := 2 })) = .next t := nx (((((h (tPl (fun p => { p with st := 2 })) tR 0 (by decide)).2).2 (by decide)).2).1 (by decide) (by decide) (by decide))
theorem witness_PlotsAreAssignedAndRemoved_free (h : Obligations.PlotsAreAssignedAndRemoved) : ∃ t, exec (.plotFree 0) (tPl (fun p => { p with st := 2, tickF := some 5 })) = .next t := nx (((((h (tPl (fun p => { p with st := 2, tickF := some 5 })) tR 0 (by decide)).2).2 (by decide)).2).2 _ (by decide) rfl (by decide))

/-! Witnesses of ClearsAndContexts. -/

theorem witness_ClearsAndContexts_clear (h : Obligations.ClearsAndContexts) : ∃ t, exec (.clearCmd tR 1) (tAs []) = .next t := nx (((h (tAs []) tR).1 1 (by decide) ⟨by decide, by decide⟩).1 (by decide) (by decide))
theorem witness_ClearsAndContexts_busy (h : Obligations.ClearsAndContexts) : ∃ t, exec (.clearCmd tR 4) (tCl) = .next t := nx (((h tCl tR).1 4 (by decide) ⟨by decide, by decide⟩).2 (by decide))
theorem witness_ClearsAndContexts_done (h : Obligations.ClearsAndContexts) : ∃ t, exec (.clearDone 0) (tCl) = .next t := nx (((h tCl tR).2).1 _ 0 (by decide) rfl (by decide))
theorem witness_ClearsAndContexts_bad (h : Obligations.ClearsAndContexts) : ∃ t, exec (.clearDone 1) (tCl) = .next t := nx (((h tCl tR).2).1 _ 1 (by decide) rfl (by decide))
theorem witness_ClearsAndContexts_create (h : Obligations.ClearsAndContexts) : ∃ t, exec (.ctxCreate tR 7) (tRelx (fun d => { d with regs := tPut [(rk 0x008 0x524 7, 192)] })) = .next t := nx ((((h (tRelx (fun d => { d with regs := tPut [(rk 0x008 0x524 7, 192)] })) tR).2).2).1 7 (by decide) ⟨by decide, by decide⟩ (by decide) (by decide) (by decide) (by decide))
theorem witness_ClearsAndContexts_destroy (h : Obligations.ClearsAndContexts) : ∃ t, exec (.ctxDestroy tR 0) (tRelx (fun d => { d with ctxs := [(0, { Ctx.free with st := 1 })] })) = .next t := nx ((((h (tRelx (fun d => { d with ctxs := [(0, { Ctx.free with st := 1 })] })) tR).2).2).2 0 (by decide) ⟨by decide, by decide⟩ (by decide) (by decide) (by decide))

/-! Witnesses of CalendarsAndSlices. -/

theorem witness_CalendarsAndSlices_arm (h : Obligations.CalendarsAndSlices) : ∃ t, exec (.calArm tR 0) (tRelx (fun d => { d with regs := tPut [(rk 0x008 0x56C 0, 20000), (rk 0x008 0x580 0, 5), (rk 0x008 0x570 0, 256), (rk 0x008 0x578 0, 10000)] })) = .next t := nx (((h (tRelx (fun d => { d with regs := tPut [(rk 0x008 0x56C 0, 20000), (rk 0x008 0x580 0, 5), (rk 0x008 0x570 0, 256), (rk 0x008 0x578 0, 10000)] })) tR 0 (by decide)).1 ⟨by decide, by decide⟩).1 (by decide))
theorem witness_CalendarsAndSlices_refused (h : Obligations.CalendarsAndSlices) : ∃ t, exec (.calArm tR 0) (tRel) = .next t := nx (((h tRel tR 0 (by decide)).1 ⟨by decide, by decide⟩).2 (by decide))
theorem witness_CalendarsAndSlices_switch (h : Obligations.CalendarsAndSlices) : ∃ t, exec (.calendarSwitch 0) (tPl (fun p => { p with running := none, armed := some (tCal, 7) })) = .next t := nx (((h (tPl (fun p => { p with running := none, armed := some (tCal, 7) })) tR 0 (by decide)).2 (by decide)).1 _ _ rfl (by decide) (by decide) (by decide))
theorem witness_CalendarsAndSlices_resident (h : Obligations.CalendarsAndSlices) : ∃ t, exec (.sliceStart 0 0) (tPl id) = .next t := nx (((((h (tPl id) tR 0 (by decide)).2 (by decide)).2).1 0 _ rfl (by decide) (by decide) (by decide) (by decide) (by decide) (by decide)).1 rfl (by decide))
theorem witness_CalendarsAndSlices_other (h : Obligations.CalendarsAndSlices) : ∃ t, exec (.sliceStart 0 0) (tPl (fun p => { p with resident := none })) = .next t := nx (((((h (tPl (fun p => { p with resident := none })) tR 0 (by decide)).2 (by decide)).2).1 0 _ rfl (by decide) (by decide) (by decide) (by decide) (by decide) (by decide)).2 (by decide) (by decide))
theorem witness_CalendarsAndSlices_restored (h : Obligations.CalendarsAndSlices) : ∃ t, exec (.contextRestoreDone 0 true) (tPl (fun p => { p with resident := none, switching := some ⟨none, 0, 10⟩ })) = .next t :=
  nx (((((h (tPl (fun p => { p with resident := none, switching := some ⟨none, 0, 10⟩ })) tR 0 (by decide)).2 (by decide)).2).2 _ rfl).1 rfl)
theorem witness_CalendarsAndSlices_restoreFailed (h : Obligations.CalendarsAndSlices) : ∃ t, exec (.contextRestoreDone 0 false) (tPl (fun p => { p with resident := none, switching := some ⟨none, 0, 10⟩ })) = .next t :=
  nx (((((h (tPl (fun p => { p with resident := none, switching := some ⟨none, 0, 10⟩ })) tR 0 (by decide)).2 (by decide)).2).2 _ rfl).2.2)
theorem witness_CalendarsAndSlices_restoreBad (h : Obligations.CalendarsAndSlices) : ∃ t, exec (.contextRestoreDone 0 false) (tPl (fun p => { p with resident := none, switching := some ⟨none, 0, 10⟩ })) = .next t :=
  nx (((((h (tPl (fun p => { p with resident := none, switching := some ⟨none, 0, 10⟩ })) tR 0 (by decide)).2 (by decide)).2).2 _ rfl).2.1 false (Or.inl rfl))

/-! Witnesses of SpdmRequestsAreAnswered. -/

theorem witness_SpdmRequestsAreAnswered_version (h : Obligations.SpdmRequestsAreAnswered) : ∃ t, exec (.spdmGetVersion 0) (tRel) = .next t := nx (((h tRel 0 (by decide)).1 (by decide)).1)
theorem witness_SpdmRequestsAreAnswered_challenge (h : Obligations.SpdmRequestsAreAnswered) : ∃ t, exec (.spdmChallenge 3) (tRel) = .next t := nx ((((h tRel 3 (by decide)).2 (by decide)).1 (by decide)).1)
theorem witness_SpdmRequestsAreAnswered_key (h : Obligations.SpdmRequestsAreAnswered) : ∃ t, exec (.spdmKeyExchange 3) (tRel) = .next t := nx ((((((h tRel 3 (by decide)).2 (by decide)).1 (by decide)).2).2).1 (by decide))
theorem witness_SpdmRequestsAreAnswered_limit (h : Obligations.SpdmRequestsAreAnswered) : ∃ t, exec (.spdmKeyExchange 3) (tRelx (fun d => { d with sess := (List.range 64).map (fun k => (k, ⟨none, 3, 0, 0, false⟩)) })) = .next t := nx (((((((h (tRelx (fun d => { d with sess := (List.range 64).map (fun k => (k, ⟨none, 3, 0, 0, false⟩)) })) 3 (by decide)).2 (by decide)).1 (by decide)).2).2).2).1 (by decide))
theorem witness_SpdmRequestsAreAnswered_ready (h : Obligations.SpdmRequestsAreAnswered) : ∃ t, exec (.spdmRespondIfReady 3) (tRelx (fun d => { d with links := [(3, 0)] })) = .next t := nx (((((((h (tRelx (fun d => { d with links := [(3, 0)] })) 3 (by decide)).2 (by decide)).1 (by decide)).2).2).2).2 rfl)
theorem witness_SpdmRequestsAreAnswered_notSettled (h : Obligations.SpdmRequestsAreAnswered) : ∃ t, exec (.spdmChallenge 3) (tRelx (fun d => { d with regs := tPut [(rk 0x002 0x030 0, 1)] })) = .next t := nx ((((h (tRelx (fun d => { d with regs := tPut [(rk 0x002 0x030 0, 1)] })) 3 (by decide)).2 (by decide)).2).1 (by decide))
theorem witness_SpdmRequestsAreAnswered_nothing (h : Obligations.SpdmRequestsAreAnswered) : ∃ t, exec (.spdmRespondIfReady 3) (tRel) = .next t := nx ((((h tRel 3 (by decide)).2 (by decide)).2).2 (by decide))
theorem witness_SpdmRequestsAreAnswered_capabilities (h : Obligations.SpdmRequestsAreAnswered) : ∃ t, exec (.spdmGetCapabilities 1) (tRel) = .next t := nx ((((h tRel 1 (by decide)).1 (by decide)).2).1)
theorem witness_SpdmRequestsAreAnswered_algorithms (h : Obligations.SpdmRequestsAreAnswered) : ∃ t, exec (.spdmNegotiateAlgorithms 1) (tRel) = .next t := nx (((((h tRel 1 (by decide)).1 (by decide)).2).2).1)
theorem witness_SpdmRequestsAreAnswered_digests (h : Obligations.SpdmRequestsAreAnswered) : ∃ t, exec (.spdmGetDigests 1) (tRel) = .next t := nx ((((((h tRel 1 (by decide)).1 (by decide)).2).2).2).1)
theorem witness_SpdmRequestsAreAnswered_certificate (h : Obligations.SpdmRequestsAreAnswered) : ∃ t, exec (.spdmGetCertificate 1 0) (tRel) = .next t := nx (((((((h tRel 1 (by decide)).1 (by decide)).2).2).2).2).1)
theorem witness_SpdmRequestsAreAnswered_unsupported (h : Obligations.SpdmRequestsAreAnswered) : ∃ t, exec (.spdmUnsupported 1 0x99) (tRel) = .next t := nx (((((((h tRel 1 (by decide)).1 (by decide)).2).2).2).2).2 0x99)
theorem witness_SpdmRequestsAreAnswered_measurements (h : Obligations.SpdmRequestsAreAnswered) : ∃ t, exec (.spdmGetMeasurements 1 17) (tRel) = .next t := nx (((((h tRel 1 (by decide)).2 (by decide)).1 (by decide)).2).1 17)

/-! Witnesses of SessionsKeysAndLogins. -/

theorem witness_SessionsKeysAndLogins_finish (h : Obligations.SessionsKeysAndLogins) : ∃ t, exec (.spdmFinish 3 6 (List.replicate 48 8) true) (tSes (fun x => { x with cls := none })) = .next t := nx (((h (tSes (fun x => { x with cls := none })) 6 (by decide)).1 (by decide) _ rfl).1 3 (List.replicate 48 8) _ rfl)
theorem witness_SessionsKeysAndLogins_finishBad (h : Obligations.SessionsKeysAndLogins) : ∃ t, exec (.spdmFinish 3 6 [] false) (tSes id) = .next t := nx ((((h (tSes id) 6 (by decide)).1 (by decide) _ rfl).2).1 3 [])
theorem witness_SessionsKeysAndLogins_encap (h : Obligations.SessionsKeysAndLogins) : ∃ t, exec (.spdmGetEncapsulatedRequest 6) (tSes id) = .next t := nx (((((h (tSes id) 6 (by decide)).1 (by decide) _ rfl).2).2).1)
theorem witness_SessionsKeysAndLogins_encapAck (h : Obligations.SessionsKeysAndLogins) : ∃ t, exec (.spdmDeliverEncapsulatedResponse 6) (tSes id) = .next t := nx ((((((h (tSes id) 6 (by decide)).1 (by decide) _ rfl).2).2).2).1)
theorem witness_SessionsKeysAndLogins_beat (h : Obligations.SessionsKeysAndLogins) : ∃ t, exec (.spdmHeartbeat 6) (tSes id) = .next t := nx (((((((h (tSes id) 6 (by decide)).1 (by decide) _ rfl).2).2).2).2 (by decide)).1)
theorem witness_SessionsKeysAndLogins_update (h : Obligations.SessionsKeysAndLogins) : ∃ t, exec (.spdmKeyUpdate 6) (tSes id) = .next t := nx ((((((((h (tSes id) 6 (by decide)).1 (by decide) _ rfl).2).2).2).2 (by decide)).2).1)
theorem witness_SessionsKeysAndLogins_end (h : Obligations.SessionsKeysAndLogins) : ∃ t, exec (.spdmEndSession 6) (tSes id) = .next t := nx (((((((((h (tSes id) 6 (by decide)).1 (by decide) _ rfl).2).2).2).2 (by decide)).2).2).1)
theorem witness_SessionsKeysAndLogins_key (h : Obligations.SessionsKeysAndLogins) : ∃ t, exec (.weightKey 6 1 0 0 99 (List.replicate 32 1) true) (tSes id) = .next t := nx (((((((((((h (tSes id) 6 (by decide)).1 (by decide) _ rfl).2).2).2).2 (by decide)).2).2).2).1 0 0 99 (List.replicate 32 1) true (by decide)).1 (by decide) (by decide))
theorem witness_SessionsKeysAndLogins_publisher (h : Obligations.SessionsKeysAndLogins) : ∃ t, exec (.weightKey 6 2 0 3 99 (List.replicate 96 1) true) (tSes id) = .next t := nx (((((((((((h (tSes id) 6 (by decide)).1 (by decide) _ rfl).2).2).2).2 (by decide)).2).2).2).1 0 3 99 (List.replicate 96 1) true (by decide)).2 (by decide) (by decide) (by decide))
theorem witness_SessionsKeysAndLogins_keyRefused (h : Obligations.SessionsKeysAndLogins) : ∃ t, exec (.weightKey 6 1 1 3 99 (List.replicate 32 1) true) (tSes id) = .next t := nx ((((((((((h (tSes id) 6 (by decide)).1 (by decide) _ rfl).2).2).2).2 (by decide)).2).2).2).2 1 1 3 99 (List.replicate 32 1) true (by decide))
theorem witness_SessionsKeysAndLogins_timeout (h : Obligations.SessionsKeysAndLogins) : ∃ t, exec (.heartbeatTimeout 6) ({ tSes id with dev := { (tSes id).dev with time := { Time.reset with elapsed := 10 ^ 13 } } }) = .next t := nx (((h { tSes id with dev := { (tSes id).dev with time := { Time.reset with elapsed := 10 ^ 13 } } } 6 (by decide)).2).1 _ rfl (by decide))
theorem witness_SessionsKeysAndLogins_login (h : Obligations.SessionsKeysAndLogins) : ∃ t, exec (.mgmtLogin none 1 true false) (tAcc) = .next t := nx (((((h tAcc 1 (by decide)).2).2).1 (by decide) _ false rfl (by decide) (by decide)).1 (by decide) (by decide) (by decide))
theorem witness_SessionsKeysAndLogins_loginBad (h : Obligations.SessionsKeysAndLogins) : ∃ t, exec (.mgmtLogin none 1 false false) ({ tAcc with dev := { tAcc.dev with logins := [(1, 4)] } }) = .next t := nx (((((h { tAcc with dev := { tAcc.dev with logins := [(1, 4)] } } 1 (by decide)).2).2).1 (by decide) _ false rfl (by decide) (by decide)).2)
theorem witness_SessionsKeysAndLogins_unlock (h : Obligations.SessionsKeysAndLogins) : ∃ t, exec (.loginLockExpiry 1) ({ tMan0 with dev := { tMan0.dev with lockedAt := [(1, 0)], logins := [(1, 5)] } }) = .next t := nx ((((h { tMan0 with dev := { tMan0.dev with lockedAt := [(1, 0)], logins := [(1, 5)] } } 1 (by decide)).2).2).2 _ rfl (by decide))

/-! Witnesses of FusesAndDelegation. -/

theorem witness_FusesAndDelegation_svn (h : Obligations.FusesAndDelegation) : ∃ t, exec (.svnCommit tR) (tRel) = .next t := nx ((h tRel tR).1 (by decide) (by decide) (by decide))
theorem witness_FusesAndDelegation_revoke (h : Obligations.FusesAndDelegation) : ∃ t, exec (.keyRevocation 1 2 true) (tRel) = .next t := nx0 ((((h tRel tR).2).1 1 2 (by decide) (by decide) (by decide) (by decide)).1)
theorem witness_FusesAndDelegation_delegation (h : Obligations.FusesAndDelegation) : ∃ t, exec (.delegationWrite tR 0x5) (tRel) = .next t := nx ((((h tRel tR).2).2).1 0x5 ⟨by decide, by decide⟩)
theorem witness_FusesAndDelegation_plotSel (h : Obligations.FusesAndDelegation) : ∃ t, exec (.plotSelWrite tR 0) (tRel) = .next t := nx ((((h tRel tR).2).2).2 0 (by decide) ⟨by decide, by decide⟩)
theorem witness_FusesAndDelegation_unsigned (h : Obligations.FusesAndDelegation) : ∃ t, exec (.keyRevocation 1 2 false) (tRel) = .next t := nx0 ((((h tRel tR).2).1 1 2 (by decide) (by decide) (by decide) (by decide)).2)

/-! Witnesses of BellsFatesAndShadows. -/

theorem witness_BellsFatesAndShadows_nobody (h : Obligations.BellsFatesAndShadows) : ∃ t, exec (.bellAbort 3 (tBellP 1 0)) (tRel) = .next t := nx ((((h tRel tR).1 (by decide)).1 3 (tBellP 1 0) (by decide) (by decide) (by decide) (by decide)).1 (by decide))
theorem witness_BellsFatesAndShadows_running (h : Obligations.BellsFatesAndShadows) : ∃ t, exec (.bellAbort 3 (tBellP 1 0)) (tBe id id []) = .next t := nx (((((h (tBe id id []) tR).1 (by decide)).1 3 (tBellP 1 0) (by decide) (by decide) (by decide) (by decide)).2 _ rfl).1 (by decide) rfl (by decide))
theorem witness_BellsFatesAndShadows_later (h : Obligations.BellsFatesAndShadows) : ∃ t, exec (.bellAbort 3 (tBellP 1 0)) (tBe id tStop []) = .next t := nx (((((h (tBe id tStop []) tR).1 (by decide)).1 3 (tBellP 1 0) (by decide) (by decide) (by decide) (by decide)).2 _ rfl).2 (by decide) (by decide) (by decide))
theorem witness_BellsFatesAndShadows_seen (h : Obligations.BellsFatesAndShadows) : ∃ t, exec (.bellAbort 3 (tBellP 1 0)) (tBe id id [(9, 3)]) = .next t := nx ((((h (tBe id id [(9, 3)]) tR).1 (by decide)).2).1 3 (tBellP 1 0) (by decide) (by decide) (by decide))
theorem witness_BellsFatesAndShadows_verdict (h : Obligations.BellsFatesAndShadows) : ∃ t, exec (.bellVerdict (tBellP 2 0)) ({ tBe id id [] with dev := { (tBe id id []).dev with eject := [tBellP 2 0] } }) = .next t := nx (((((h { tBe id id [] with dev := { (tBe id id []).dev with eject := [tBellP 2 0] } } tR).1 (by decide)).2).2).1 (tBellP 2 0) _ (by decide) (by decide) (by decide) (by decide) rfl)
theorem witness_BellsFatesAndShadows_timeout (h : Obligations.BellsFatesAndShadows) : ∃ t, exec (.verdictTimeout 0) (tVd) = .next t := nx ((((((h tVd tR).1 (by decide)).2).2).2).1 0 tEnded 7 rfl (by decide) (by decide) (by decide) (by decide) (by decide) (by decide))
theorem witness_BellsFatesAndShadows_canary (h : Obligations.BellsFatesAndShadows) : ∃ t, exec (.canaryInterval) (tRelx (fun d => { d with regs := tPut [(rk 0x000 0x840 0, 256 + 7)], time := { Time.reset with elapsed := 10 ^ 13 } })) = .next t := nx (((((((h (tRelx (fun d => { d with regs := tPut [(rk 0x000 0x840 0, 256 + 7)], time := { Time.reset with elapsed := 10 ^ 13 } })) tR).1 (by decide)).2).2).2).2).1 (by decide) (by decide))
theorem witness_BellsFatesAndShadows_shadow (h : Obligations.BellsFatesAndShadows) : ∃ t, exec (.shadowStart) (tRelx (fun d => { d with regs := tPut [(rk 0x000 0x820 0, 4096)] })) = .next t := nx ((((((((h (tRelx (fun d => { d with regs := tPut [(rk 0x000 0x820 0, 4096)] })) tR).1 (by decide)).2).2).2).2).2).1 (by decide) (by decide))
theorem witness_BellsFatesAndShadows_promote (h : Obligations.BellsFatesAndShadows) : ∃ t, exec (.promoteRelease) (tRelx (fun d => { d with recov := { d.recov with promoteAt := some 0 } })) = .next t := nx ((((((((h (tRelx (fun d => { d with recov := { d.recov with promoteAt := some 0 } })) tR).1 (by decide)).2).2).2).2).2).2 _ rfl (by decide))
theorem witness_BellsFatesAndShadows_shadowCfg (h : Obligations.BellsFatesAndShadows) : ∃ t, exec (.shadowCfgWrite (.space3 9) 0x1FFF) (tRelx (fun d => { d with recov := { d.recov with following := true } })) = .next t := nx (((h (tRelx (fun d => { d with recov := { d.recov with following := true } })) (.space3 9)).2).1 0x1FFF ⟨by decide, by decide⟩)
theorem witness_BellsFatesAndShadows_fence (h : Obligations.BellsFatesAndShadows) : ∃ t, exec (.fateFenceSet (.space3 9) 0 1) (tFt) = .next t := nx (((((h tFt (.space3 9)).2).2).1 0 1 (by decide) (by decide) (by decide) (by decide)).1 ⟨by decide, by decide⟩ (by decide))
theorem witness_BellsFatesAndShadows_unfence (h : Obligations.BellsFatesAndShadows) : ∃ t, exec (.fateFenceClear (.space3 9) 1 9) (tFt) = .next t := nx (((((h tFt (.space3 9)).2).2).1 1 9 (by decide) (by decide) (by decide) (by decide)).2 ⟨by decide, by decide⟩)
theorem witness_BellsFatesAndShadows_notManager (h : Obligations.BellsFatesAndShadows) : ∃ t, exec (.fateFenceSet (.space3 9) 0 1) (tRelx (fun d => { d with regs := tPut [(rk 0x000 0x410 0, 1)] })) = .next t := nx ((((h (tRelx (fun d => { d with regs := tPut [(rk 0x000 0x410 0, 1)] })) (.space3 9)).2).2).2 0 1 (by decide) (by decide) (by decide) ⟨by decide, by decide⟩)

/-! Witnesses of LogKeepsItsEntries. -/

theorem witness_LogKeepsItsEntries_intake (h : Obligations.LogKeepsItsEntries) : ∃ t, exec (.logIntake) (tLog (fun l => { l with queue := [tLe 1], head := 65535 })) = .next t := nx ((h (tLog (fun l => { l with queue := [tLe 1], head := 65535 })) tR).1 _ _ (by decide) rfl (by decide))
theorem witness_LogKeepsItsEntries_lost (h : Obligations.LogKeepsItsEntries) : ∃ t, exec (.logEntryLost (tLe 2)) (tLog (fun l => { l with queue := List.replicate 256 (tLe 1) })) = .next t := nx (((h (tLog (fun l => { l with queue := List.replicate 256 (tLe 1) })) tR).2).1 (tLe 2) (by decide +kernel) (by decide +kernel))
theorem witness_LogKeepsItsEntries_sel (h : Obligations.LogKeepsItsEntries) : ∃ t, exec (.logEntrySel tR 3) (tLog (fun l => { l with head := 4, entries := [(3, { tLe 1 with seq := 3 })] })) = .next t := nx ((((h (tLog (fun l => { l with head := 4, entries := [(3, { tLe 1 with seq := 3 })] })) tR).2).2).1 3 (by decide) ⟨by decide, by decide⟩)
theorem witness_LogKeepsItsEntries_clear (h : Obligations.LogKeepsItsEntries) : ∃ t, exec (.logClear tR) (tLog (fun l => { l with head := 4, entries := [(3, { tLe 1 with seq := 3 })] })) = .next t := nx ((((h (tLog (fun l => { l with head := 4, entries := [(3, { tLe 1 with seq := 3 })] })) tR).2).2).2 ⟨by decide, by decide⟩)

/-! Witnesses of RegistersReadAndWrite. -/

theorem witness_RegistersReadAndWrite_write (h : Obligations.RegistersReadAndWrite) : ∃ t, exec (.regWriteGeneric tR 0x011 0x01C 0xFFFF0003) tRel = .next t :=
  nx (((h tRel tR 0x011 0x01C).1 0xFFFF0003 _ (by decide) (by decide) (by decide) rfl (by decide) (by decide) (by decide) (by unfold plainReg; decide)).2.1 (by decide) (by decide))
theorem witness_RegistersReadAndWrite_power (h : Obligations.RegistersReadAndWrite) : ∃ t, exec (.regWriteGeneric tR 0x006 0x404 1) tRel = .next t :=
  nx (((h tRel tR 0x006 0x404).1 1 _ (by decide) (by decide) (by decide) rfl (by decide) (by decide) (by decide) (by unfold plainReg; decide)).2.1 (by decide) (by decide))
theorem witness_RegistersReadAndWrite_refused (h : Obligations.RegistersReadAndWrite) : ∃ t, exec (.regWriteGeneric (.belvedere .readOnly) 0x013 0x01C 3) tRel = .next t :=
  nx (((h tRel (.belvedere .readOnly) 0x013 0x01C).1 3 _ (by decide) (by decide) (by decide) rfl (by decide) (by decide) (by decide) (by unfold plainReg; decide)).2.2 (by decide))
theorem witness_RegistersReadAndWrite_counter (h : Obligations.RegistersReadAndWrite) : ∃ t, exec (.counterRead tR 0x008 0x108) (tRelx (fun d => { d with regs := tPut [(rk 0x008 0x108 0, 55)] })) = .next t := nx (((h (tRelx (fun d => { d with regs := tPut [(rk 0x008 0x108 0, 55)] })) tR 0x008 0x108).2).1 _ (by decide) (by decide) (by decide) (by decide) rfl (by decide) (by decide))
theorem witness_RegistersReadAndWrite_errClear (h : Obligations.RegistersReadAndWrite) : ∃ t, exec (.errStatusClear tR 0x008 0xF) (tRelx (fun d => { d with regs := tPut [(rk 0x008 0x018 0, 0x35)], alertN := true })) = .next t := nx ((((h (tRelx (fun d => { d with regs := tPut [(rk 0x008 0x018 0, 0x35)], alertN := true })) tR 0x008 0x01C).2).2).1 0xF ⟨by decide, by decide⟩)
theorem witness_RegistersReadAndWrite_intClear (h : Obligations.RegistersReadAndWrite) : ∃ t, exec (.intStatusClear tR 0x008 0xF) (tRelx (fun d => { d with regs := tPut [(rk 0x008 0x028 0, 0x35)], alertN := true })) = .next t := nx (((((h (tRelx (fun d => { d with regs := tPut [(rk 0x008 0x028 0, 0x35)], alertN := true })) tR 0x008 0x01C).2).2).2).1 0xF ⟨by decide, by decide⟩)
theorem witness_RegistersReadAndWrite_lock (h : Obligations.RegistersReadAndWrite) : ∃ t, exec (.lockWrite tR 0x008 1) (tRelx (fun d => { d with regs := tPut [(rk 0x008 0x034 0, 2)] })) = .next t := nx ((((((h (tRelx (fun d => { d with regs := tPut [(rk 0x008 0x034 0, 2)] })) tR 0x008 0x01C).2).2).2).2).1 1 ⟨by decide, by decide⟩)
theorem witness_RegistersReadAndWrite_lockSet (h : Obligations.RegistersReadAndWrite) : ∃ t, exec (.lockWrite tR 0x008 2) (tRel) = .next t := nx ((((((h tRel tR 0x008 0x01C).2).2).2).2).1 2 ⟨by decide, by decide⟩)
theorem witness_RegistersReadAndWrite_inject (h : Obligations.RegistersReadAndWrite) : ∃ t, exec (.errInject tR 0x008 5) (tRelx (fun d => { d with regs := tPut [(rk 0x008 0x010 0, 16), (rk 0x008 0x014 0, 16)] })) = .next t := nx (((((((h (tRelx (fun d => { d with regs := tPut [(rk 0x008 0x010 0, 16), (rk 0x008 0x014 0, 16)] })) tR 0x008 0x01C).2).2).2).2).2).1 5 _ (by decide) ⟨by decide, by decide⟩ rfl (by decide) (by decide))
theorem witness_RegistersReadAndWrite_role (h : Obligations.RegistersReadAndWrite) : ∃ t, exec (.roleWrite (.space3 9) 6) (tRel) = .next t := nx ((((((((h tRel (.space3 9) 0x008 0x01C).2).2).2).2).2).2).1 6 ⟨by decide, by decide⟩)
theorem witness_RegistersReadAndWrite_portEnable (h : Obligations.RegistersReadAndWrite) : ∃ t, exec (.portEnableWrite tR true 3) (tPm) = .next t := nx (((((((((h tPm tR 0x008 0x01C).2).2).2).2).2).2).2).1 3 ⟨by decide, by decide⟩)
theorem witness_RegistersReadAndWrite_portMap (h : Obligations.RegistersReadAndWrite) : ∃ t, exec (.portEnableWrite (.space3 9) false 7) (tPm) = .next t := nx (((((((((h tPm (.space3 9) 0x008 0x01C).2).2).2).2).2).2).2).2 7 (by decide) ⟨by decide, by decide⟩)
theorem witness_RegistersReadAndWrite_fused (h : Obligations.RegistersReadAndWrite) : ∃ t, exec (.regWriteGeneric tR 0x010 0x01C 3) tFus = .next t :=
  nx (((h tFus tR 0x010 0x01C).1 3 _ (by decide) (by decide) (by decide) rfl (by decide) (by decide) (by decide) (by unfold plainReg; decide)).1 (by decide) (by decide))

/-! Witnesses of SpaceThreeRequests. -/

theorem witness_SpaceThreeRequests_read (h : Obligations.SpaceThreeRequests) : ∃ t, exec (.regReq (tReq [1] 9)) (tMgr) = .next t := nx2 (((h tMgr (tReq [1] 9) (by decide) (by decide)).1 (by decide) (by decide) (by decide)).1 _ _ (by decide) (by decide) rfl (by decide))
theorem witness_SpaceThreeRequests_write (h : Obligations.SpaceThreeRequests) : ∃ t, exec (.regReq (tReq [257, 1] 9)) (tMgr) = .next t := nx2 (((h tMgr (tReq [257, 1] 9) (by decide) (by decide)).1 (by decide) (by decide) (by decide)).2 _ _ _ (by decide) (by decide) rfl rfl (by decide))
theorem witness_SpaceThreeRequests_other (h : Obligations.SpaceThreeRequests) : ∃ t, exec (.regReq (tReq [1] 8)) (tMgr) = .next t := nx2 (((h tMgr (tReq [1] 8) (by decide) (by decide)).2).1 (by decide) (by decide) (by decide) (by decide))
theorem witness_SpaceThreeRequests_resp (h : Obligations.SpaceThreeRequests) : ∃ t, exec (.regResp { tPk 0x0E (3 * 2 ^ 48 + 0x800) with payload := toBytes 4 0 ++ toBytes 4 (5 + 6 * 65536) ++ toBytes 4 (7 + 8 * 65536) }) tFt = .next t :=
  nx ((h tFt { tPk 0x0E (3 * 2 ^ 48 + 0x800) with payload := toBytes 4 0 ++ toBytes 4 (5 + 6 * 65536) ++ toBytes 4 (7 + 8 * 65536) } (by decide) (by decide)).2.2.2.2 (by decide) (by decide) (by decide) (by decide) (by decide) (by decide))
theorem witness_SpaceThreeRequests_fencedReq (h : Obligations.SpaceThreeRequests) : ∃ t, exec (.regReq (tReq [1] 8)) tFnc = .next t :=
  nx2 ((h tFnc (tReq [1] 8) (by decide) (by decide)).2.2.1 (by decide) (by decide) (by decide) (by decide))
theorem witness_SpaceThreeRequests_fencedResp (h : Obligations.SpaceThreeRequests) : ∃ t, exec (.regResp { tPk 0x0E (3 * 2 ^ 48 + 0x800) with payload := toBytes 4 0 ++ toBytes 4 (5 + 6 * 65536) ++ toBytes 4 (7 + 8 * 65536) }) tFnc = .next t :=
  nx2 ((h tFnc { tPk 0x0E (3 * 2 ^ 48 + 0x800) with payload := toBytes 4 0 ++ toBytes 4 (5 + 6 * 65536) ++ toBytes 4 (7 + 8 * 65536) } (by decide) (by decide)).2.2.2.1 (by decide) (by decide) (by decide))

/-! Witnesses of GctRequestsExecuteInTurn. -/

theorem witness_GctRequestsExecuteInTurn_read (h : Obligations.GctRequestsExecuteInTurn) : ∃ t, exec (.gctRegRead (tMsg id) (4096 * 0x006 + 0x404) 2) (tGc id) = .next t := nx (((h (tGc id) (tMsg id) (by decide)).1 ⟨⟨by decide, by decide, by decide, by decide, by decide, by decide⟩, by decide, by decide, by decide, by decide⟩).1 (4096 * 0x006 + 0x404) 2 _ _ (by decide) (by decide) rfl ⟨by decide, by decide, by decide, Or.inl rfl⟩)
theorem witness_GctRequestsExecuteInTurn_write (h : Obligations.GctRequestsExecuteInTurn) : ∃ t, exec (.gctRegWrite (tMsg id) (4096 * 0x006 + 0x404) [3]) (tGc id) = .next t := nx ((((h (tGc id) (tMsg id) (by decide)).1 ⟨⟨by decide, by decide, by decide, by decide, by decide, by decide⟩, by decide, by decide, by decide, by decide⟩).2).1 (4096 * 0x006 + 0x404) [3] _ _ (by decide) (by decide) rfl ⟨by decide, by decide, by decide, Or.inl rfl⟩)
theorem witness_GctRequestsExecuteInTurn_subscribe (h : Obligations.GctRequestsExecuteInTurn) : ∃ t, exec (.alertSubscribe (tMsg id) true) (tGc id) = .next t := nx (((((h (tGc id) (tMsg id) (by decide)).1 ⟨⟨by decide, by decide, by decide, by decide, by decide, by decide⟩, by decide, by decide, by decide, by decide⟩).2).2).1 true (by decide) (by decide) (Or.inl rfl))
theorem witness_GctRequestsExecuteInTurn_doorbell (h : Obligations.GctRequestsExecuteInTurn) : ∃ t, exec (.gctDoorbell (tMsg id) [(0, 3, 1), (1, 2, 1)]) (tGc id) = .next t := nx (((((((h (tGc id) (tMsg id) (by decide)).1 ⟨⟨by decide, by decide, by decide, by decide, by decide, by decide⟩, by decide, by decide, by decide, by decide⟩).2).2).2).1 (by decide) (by decide)).1 [(0, 3, 1), (1, 2, 1)] _ _ (by decide) (by decide) (by decide) rfl ⟨by decide, by decide, by decide, Or.inl rfl⟩)
theorem witness_GctRequestsExecuteInTurn_patch (h : Obligations.GctRequestsExecuteInTurn) : ∃ t, exec (.paramPatch (tMsg id) 0 [(3, 5)]) (tGc id) = .next t := nx ((((((((h (tGc id) (tMsg id) (by decide)).1 ⟨⟨by decide, by decide, by decide, by decide, by decide, by decide⟩, by decide, by decide, by decide, by decide⟩).2).2).2).1 (by decide) (by decide)).2 0 (by decide) (by decide)).1 [(3, 5)] _ _ (by decide) (by decide) (by decide) rfl ⟨by decide, by decide, by decide, Or.inl rfl⟩)
theorem witness_GctRequestsExecuteInTurn_begin (h : Obligations.GctRequestsExecuteInTurn) : ∃ t, exec (.progBegin (tMsg id) 0 1024) (tGc id) = .next t := nx (((((((((h (tGc id) (tMsg id) (by decide)).1 ⟨⟨by decide, by decide, by decide, by decide, by decide, by decide⟩, by decide, by decide, by decide, by decide⟩).2).2).2).1 (by decide) (by decide)).2 0 (by decide) (by decide)).2).1 1024 _ _ rfl ⟨by decide, by decide, by decide, Or.inl rfl⟩)
theorem witness_GctRequestsExecuteInTurn_data (h : Obligations.GctRequestsExecuteInTurn) : ∃ t, exec (.progData (tMsg id) 0 0 [1]) (tGc id) = .next t := nx (((((((((h (tGc id) (tMsg id) (by decide)).1 ⟨⟨by decide, by decide, by decide, by decide, by decide, by decide⟩, by decide, by decide, by decide, by decide⟩).2).2).2).1 (by decide) (by decide)).2 0 (by decide) (by decide)).2).2 0 [1] _ _ rfl ⟨by decide, by decide, by decide, Or.inl rfl⟩)
theorem witness_GctRequestsExecuteInTurn_spdm (h : Obligations.GctRequestsExecuteInTurn) : ∃ t, exec (.gctSpdm (tMsg id) 0x84) (tGc id) = .next t := nx ((((((h (tGc id) (tMsg id) (by decide)).1 ⟨⟨by decide, by decide, by decide, by decide, by decide, by decide⟩, by decide, by decide, by decide, by decide⟩).2).2).2).2 0x84 _ (by decide) (by decide) (by decide) rfl ⟨by decide, by decide, by decide, Or.inl rfl⟩)
theorem witness_GctRequestsExecuteInTurn_repeat (h : Obligations.GctRequestsExecuteInTurn) : ∃ t, exec (.gctRegWrite (tMsg (fun m => { m with seq := 8 })) 0 []) (tGc id) = .next t := nx ((h (tGc id) (tMsg (fun m => { m with seq := 8 })) (by decide)).2 ⟨by decide, by decide, by decide, by decide, by decide, by decide⟩ (Or.inl rfl) ⟨8, 0x11, 0, []⟩ rfl (by decide) (.gctRegWrite (tMsg (fun m => { m with seq := 8 })) 0 []) (by decide))
theorem witness_GctRequestsExecuteInTurn_repeatProg (h : Obligations.GctRequestsExecuteInTurn) : ∃ t, exec (.progBegin (tMsg (fun m => { m with seq := 8 })) 0 0) (tGc id) = .next t := nx ((h (tGc id) (tMsg (fun m => { m with seq := 8 })) (by decide)).2 ⟨by decide, by decide, by decide, by decide, by decide, by decide⟩ (Or.inl rfl) ⟨8, 0x11, 0, []⟩ rfl (by decide) (.progBegin (tMsg (fun m => { m with seq := 8 })) 0 0) (by decide))

/-! Witnesses of GctConnectionsOpenAndClose. -/

theorem witness_GctConnectionsOpenAndClose_connect (h : Obligations.GctConnectionsOpenAndClose) : ∃ t, exec (.gctConnect 8 77 5 6 2 8 4096) (tGc id) = .next t := nx ((h (tGc id) (tMsg id) 0 (by decide)).1 8 77 5 6 2 8 4096 (by decide) (Or.inl rfl) (by decide) (by decide) rfl)
theorem witness_GctConnectionsOpenAndClose_close (h : Obligations.GctConnectionsOpenAndClose) : ∃ t, exec (.gctClose (tMsg id)) (tGc id) = .next t := nx (((h (tGc id) (tMsg id) 2 (by decide)).2).1 ⟨⟨by decide, by decide, by decide, by decide, by decide, by decide⟩, by decide, by decide, by decide, by decide⟩ (Or.inl rfl))
theorem witness_GctConnectionsOpenAndClose_idle (h : Obligations.GctConnectionsOpenAndClose) : ∃ t, exec (.gctIdleTimeout 2) (tGc id) = .next t := nx ((((h (tGc id) (tMsg id) 2 (by decide)).2).2).1 (by decide) (by decide))
theorem witness_GctConnectionsOpenAndClose_ack (h : Obligations.GctConnectionsOpenAndClose) : ∃ t, exec (.gctAlertAck (tMsg id)) (tGc id) = .next t := nx (((((h (tGc id) (tMsg id) 2 (by decide)).2).2).2).1 ⟨by decide, by decide, by decide, by decide, by decide, by decide⟩)
theorem witness_GctConnectionsOpenAndClose_retx (h : Obligations.GctConnectionsOpenAndClose) : ∃ t, exec (.gctAlertRetx 2 0) (tGc id) = .next t := nx ((((((h (tGc id) (tMsg id) 2 (by decide)).2).2).2).2 ⟨0, 0x010, 3, 7, 0, 0⟩ (by decide) rfl (by decide)).1 (by decide) (Or.inl rfl))
theorem witness_GctConnectionsOpenAndClose_retxLast (h : Obligations.GctConnectionsOpenAndClose) : ∃ t, exec (.gctAlertRetx 2 1) (tGc id) = .next t := nx ((((((h (tGc id) (tMsg id) 2 (by decide)).2).2).2).2 ⟨1, 0x010, 4, 7, 0, 8⟩ (by decide) rfl (by decide)).2 (by decide))

/-! Witnesses of ManagementAnswers. -/

theorem witness_ManagementAnswers_period (h : Obligations.ManagementAnswers) : ∃ t, exec (.telemetryPeriod false) (tMan0) = .next t := nx (((h tMan0 (by decide)).1 (by decide) (by decide)).1)
theorem witness_ManagementAnswers_busy (h : Obligations.ManagementAnswers) : ∃ t, exec (.telemetryPeriod true) (tMan0) = .next t := nx (((h tMan0 (by decide)).1 (by decide) (by decide)).2)
theorem witness_ManagementAnswers_redfish (h : Obligations.ManagementAnswers) : ∃ t, exec (.redfishRequest (some 1) 3 false 0 [] 100 5) (tMan0) = .next t := nx (((h tMan0 (by decide)).2).1 _ _ 3 0 [] 100 5 (by decide) rfl (by decide) (by decide) (by decide) (by decide))
theorem witness_ManagementAnswers_noSession (h : Obligations.ManagementAnswers) : ∃ t, exec (.redfishRequest none 9 true 0 [] 100 5) (tMan0) = .next t := nx ((((h tMan0 (by decide)).2).2).1 9 0 [] 100 5 (by decide) (by decide) (by decide) (by decide) (by decide) (by decide))
theorem witness_ManagementAnswers_sessionTimeout (h : Obligations.ManagementAnswers) : ∃ t, exec (.redfishSessionTimeout 1) (tMan0) = .next t := nx (((((h tMan0 (by decide)).2).2).2).1 1 _ rfl (by decide))
theorem witness_ManagementAnswers_status (h : Obligations.ManagementAnswers) : ∃ t, exec (.smbusStatus) (tRel) = .next t := nx2 ((((((h tRel (by decide)).2).2).2).2 (by decide)).1)
theorem witness_ManagementAnswers_identity (h : Obligations.ManagementAnswers) : ∃ t, exec (.smbusIdentity) (tRel) = .next t := nx2 (((((((h tRel (by decide)).2).2).2).2 (by decide)).2).1)
theorem witness_ManagementAnswers_firmware (h : Obligations.ManagementAnswers) : ∃ t, exec (.smbusFirmware) (tRel) = .next t := nx2 ((((((((h tRel (by decide)).2).2).2).2 (by decide)).2).2).1)
theorem witness_ManagementAnswers_alert (h : Obligations.ManagementAnswers) : ∃ t, exec (.smbusAlertResponse) (tRelx (fun d => { d with alertN := true })) = .next t := nx ((((((((((h (tRelx (fun d => { d with alertN := true })) (by decide)).2).2).2).2 (by decide)).2).2).2).2).2 (by decide))
theorem witness_ManagementAnswers_boot (h : Obligations.ManagementAnswers) : ∃ t, exec (.smbusBoot) (tRel) = .next t := nx (((((((((h tRel (by decide)).2).2).2).2 (by decide)).2).2).2).1)
theorem witness_ManagementAnswers_digest (h : Obligations.ManagementAnswers) : ∃ t, exec (.smbusCertDigest) (tRel) = .next t := nx ((((((((((h tRel (by decide)).2).2).2).2 (by decide)).2).2).2).2).1)

/-! Witnesses of PowerUpAndBoot. -/

theorem witness_PowerUpAndBoot_on (h : Obligations.PowerUpAndBoot) : ∃ t, exec (.pwrEnAssert true true) (tOff (10 ^ 10)) = .next t := nx ((((h (tOff (10 ^ 10)) tR).1 (by decide)).1 (by decide)).1)
theorem witness_PowerUpAndBoot_waits (h : Obligations.PowerUpAndBoot) : ∃ t, exec (.pwrEnAssert true false) (tOff (10 ^ 10)) = .next t := nx ((((h (tOff (10 ^ 10)) tR).1 (by decide)).1 (by decide)).2)
theorem witness_PowerUpAndBoot_timeout (h : Obligations.PowerUpAndBoot) : ∃ t, exec (.pwrGoodTimeout) (tPw (fun p => { p with en := true, phase := .waiting, good := false })) = .next t := nx0 (((h (tPw (fun p => { p with en := true, phase := .waiting, good := false })) tR).2).1 (by decide) (by decide) (by decide))
theorem witness_PowerUpAndBoot_off (h : Obligations.PowerUpAndBoot) : ∃ t, exec (.pwrEnDeassert) (tPw (fun p => { p with en := true })) = .next t := nx ((((h (tPw (fun p => { p with en := true })) tR).2).2).1 (by decide))
theorem witness_PowerUpAndBoot_conversion (h : Obligations.PowerUpAndBoot) : ∃ t, exec (.conversionStop 35999) (tPw id) = .next t := nx (((((h (tPw id) tR).2).2).2).1 35999 (by decide) (by decide))
theorem witness_PowerUpAndBoot_fullReset (h : Obligations.PowerUpAndBoot) : ∃ t, exec (.fullReset tR) ({ tPw id with dev := { (tPw id).dev with lpddr := [(5, 6)], keys := [(0, ⟨true, 2, 9, []⟩)] } }) = .next t := nx ((((((h { tPw id with dev := { (tPw id).dev with lpddr := [(5, 6)], keys := [(0, ⟨true, 2, 9, []⟩)] } } tR).2).2).2).2).1 ⟨by decide, by decide⟩)
theorem witness_PowerUpAndBoot_rstN (h : Obligations.PowerUpAndBoot) : ∃ t, exec (.rstNLow 1000) ({ tPw id with dev := { (tPw id).dev with lpddr := [(5, 6)], keys := [(0, ⟨true, 2, 9, []⟩)] } }) = .next t := nx (((((((h { tPw id with dev := { (tPw id).dev with lpddr := [(5, 6)], keys := [(0, ⟨true, 2, 9, []⟩)] } } tR).2).2).2).2).2 (by decide)).1 1000 (by decide))
theorem witness_PowerUpAndBoot_stage1 (h : Obligations.PowerUpAndBoot) : ∃ t, exec (.romStage1Check) (State.reset) = .next t := nx (((((((((h State.reset tR).2).2).2).2).2 (by decide)).2).1 (by decide) (by decide)).1 (by decide) (by decide))
theorem witness_PowerUpAndBoot_fallback (h : Obligations.PowerUpAndBoot) : ∃ t, exec (.romStage1Check) (tRom id (fun n => { n with desc := [⟨true, 1, 1, false⟩] })) = .next t := nx (((((((((h (tRom id (fun n => { n with desc := [⟨true, 1, 1, false⟩] })) tR).2).2).2).2).2 (by decide)).2).1 (by decide) (by decide)).2 (by decide))
theorem witness_PowerUpAndBoot_bothFail (h : Obligations.PowerUpAndBoot) : ∃ t, exec (.romStage1Check) (tRom (fun b => { b with bootTried := [0] }) id) = .next t := nx (((((((((h (tRom (fun b => { b with bootTried := [0] }) id) tR).2).2).2).2).2 (by decide)).2).2).1 0 (by decide) (by decide) rfl (by decide))
theorem witness_PowerUpAndBoot_component (h : Obligations.PowerUpAndBoot) : ∃ t, exec (.componentVerify) (tBt2 6) = .next t := nx (((((((((((h (tBt2 6) tR).2).2).2).2).2 (by decide)).2).2).2).1 (by decide) (by decide)).1 (by decide))
theorem witness_PowerUpAndBoot_lastComponent (h : Obligations.PowerUpAndBoot) : ∃ t, exec (.componentVerify) (tBt2 7) = .next t := nx (((((((((((h (tBt2 7) tR).2).2).2).2).2 (by decide)).2).2).2).1 (by decide) (by decide)).2 (by decide))
theorem witness_PowerUpAndBoot_pairInit (h : Obligations.PowerUpAndBoot) : ∃ t, exec (.pairInitDone 1) ({ tMc id with dev := { (tMc id).dev with pavs := List.replicate 4 { tPav0 with store := [(3, 4)] } } }) = .next t := nx (((((((((((h { tMc id with dev := { (tMc id).dev with pavs := List.replicate 4 { tPav0 with store := [(3, 4)] } } } tR).2).2).2).2).2 (by decide)).2).2).2).2).1 1 (by decide) (by decide) (by decide))
theorem witness_PowerUpAndBoot_train (h : Obligations.PowerUpAndBoot) : ∃ t, exec (.memctlTrainAttemptEnd 0 15 77 [1, 2, 3, 4]) (tMc (fun c => { c with phy := 1 })) = .next t := nx (((((((((((((h (tMc (fun c => { c with phy := 1 })) tR).2).2).2).2).2 (by decide)).2).2).2).2).2).1 0 15 77 [1, 2, 3, 4] (by decide) (by decide) (by decide)).1 (by decide))
theorem witness_PowerUpAndBoot_trainAgain (h : Obligations.PowerUpAndBoot) : ∃ t, exec (.memctlTrainAttemptEnd 0 7 77 [1, 2, 3, 4]) (tMc (fun c => { c with phy := 1, attempts := 1 })) = .next t := nx ((((((((((((((h (tMc (fun c => { c with phy := 1, attempts := 1 })) tR).2).2).2).2).2 (by decide)).2).2).2).2).2).1 0 7 77 [1, 2, 3, 4] (by decide) (by decide) (by decide)).2).1 (by decide) (by decide))
theorem witness_PowerUpAndBoot_trainFails (h : Obligations.PowerUpAndBoot) : ∃ t, exec (.memctlTrainAttemptEnd 0 7 77 [1, 2, 3, 4]) (tMc (fun c => { c with phy := 1, attempts := 2 })) = .next t := nx ((((((((((((((h (tMc (fun c => { c with phy := 1, attempts := 2 })) tR).2).2).2).2).2 (by decide)).2).2).2).2).2).1 0 7 77 [1, 2, 3, 4] (by decide) (by decide) (by decide)).2).2 (by decide) (by decide))
theorem witness_PowerUpAndBoot_ready (h : Obligations.PowerUpAndBoot) : ∃ t, exec (.readyEntry) (tReady) = .next t := nx ((((((((((((h tReady tR).2).2).2).2).2 (by decide)).2).2).2).2).2).2 (by decide) (by decide))
theorem witness_PowerUpAndBoot_limits (h : Obligations.PowerUpAndBoot) : exec (.pwrEnAssert false true) (tOff 0) = .fault .outsideLimits := ((h (tOff 0) tR).1 (by decide)).2 true

/-! Witnesses of PartialResetsHoldAndRun. -/

theorem witness_PartialResetsHoldAndRun_holdPort (h : Obligations.PartialResetsHoldAndRun) : ∃ t, exec (.resetHold tR (portPage 3)) (tRun id) = .next t := nx ((h (tRun id) tR (portPage 3)).1 ⟨by decide, by decide⟩ (by decide) (by decide))
theorem witness_PartialResetsHoldAndRun_holdPair (h : Obligations.PartialResetsHoldAndRun) : ∃ t, exec (.resetHold tR 0x010) (tRun (fun d => { d with pavs := [tPav, tPav, tPav] })) = .next t := nx ((h (tRun (fun d => { d with pavs := [tPav, tPav, tPav] })) tR 0x010).1 ⟨by decide, by decide⟩ (by decide) (by decide))
theorem witness_PartialResetsHoldAndRun_holdMem (h : Obligations.PartialResetsHoldAndRun) : ∃ t, exec (.resetHold tR (mcPage 0)) (tRun id) = .next t := nx ((h (tRun id) tR (mcPage 0)).1 ⟨by decide, by decide⟩ (by decide) (by decide))
theorem witness_PartialResetsHoldAndRun_holdHost (h : Obligations.PartialResetsHoldAndRun) : ∃ t, exec (.resetHold tR 0x070) (tRun id) = .next t := nx ((h (tRun id) tR 0x070).1 ⟨by decide, by decide⟩ (by decide) (by decide))
theorem witness_PartialResetsHoldAndRun_holdBelv (h : Obligations.PartialResetsHoldAndRun) : ∃ t, exec (.resetHold tR 0x001) (tRun id) = .next t := nx ((h (tRun id) tR 0x001).1 ⟨by decide, by decide⟩ (by decide) (by decide))
theorem witness_PartialResetsHoldAndRun_pair (h : Obligations.PartialResetsHoldAndRun) : ∃ t, exec (.pairReset tR 0x010) (tHeld 0x010 id) = .next t := nx (((h (tHeld 0x010 id) tR 0x010).2).1 0 (by decide) (by decide) ⟨by decide, by decide⟩ (by decide))
theorem witness_PartialResetsHoldAndRun_port (h : Obligations.PartialResetsHoldAndRun) : ∃ t, exec (.fportReset tR 3) (tHeld (portPage 3) id) = .next t := nx ((((h (tHeld (portPage 3) id) tR 0x003).2).2).1 3 (by decide) (by decide) ⟨by decide, by decide⟩ (by decide) (by decide))
theorem witness_PartialResetsHoldAndRun_host (h : Obligations.PartialResetsHoldAndRun) : ∃ t, exec (.hportReset tR 1) (tHeld 0x071 id) = .next t := nx (((((h (tHeld 0x071 id) tR 0x003).2).2).2).1 1 (by decide) ⟨by decide, by decide⟩ (by decide))
theorem witness_PartialResetsHoldAndRun_mem (h : Obligations.PartialResetsHoldAndRun) : ∃ t, exec (.memctlReset tR 0) (tHeld (mcPage 0) (fun d => { d with memctl := [{ MemCtl.off true with phy := 4 }] })) = .next t := nx ((((((h (tHeld (mcPage 0) (fun d => { d with memctl := [{ MemCtl.off true with phy := 4 }] })) tR 0x003).2).2).2).2).1 0 (by decide) (by decide) ⟨by decide, by decide⟩ (by decide) (by decide) (by decide))
theorem witness_PartialResetsHoldAndRun_kiosk (h : Obligations.PartialResetsHoldAndRun) : ∃ t, exec (.kioskReset tR) (tHeld 0x003 id) = .next t := nx (((((((h (tHeld 0x003 id) tR 0x003).2).2).2).2).2).1 ⟨by decide, by decide⟩ (by decide))
theorem witness_PartialResetsHoldAndRun_gatehouse (h : Obligations.PartialResetsHoldAndRun) : ∃ t, exec (.gatehouseReset tR) (tHeld 0x002 id) = .next t := nx ((((((((h (tHeld 0x002 id) tR 0x003).2).2).2).2).2).2).1 ⟨by decide, by decide⟩ (by decide))
theorem witness_PartialResetsHoldAndRun_belvedere (h : Obligations.PartialResetsHoldAndRun) : ∃ t, exec (.belvedereReset (.space3 9)) (tHeld 0x001 (fun d => { d with sess := [(6, ⟨none, 0, 0, 0, false⟩)] })) = .next t := nx ((((((((h (tHeld 0x001 (fun d => { d with sess := [(6, ⟨none, 0, 0, 0, false⟩)] })) (.space3 9) 0x003).2).2).2).2).2).2).2 ⟨by decide, by decide⟩ (by decide))
theorem witness_PartialResetsHoldAndRun_gatehouseVerifying (h : Obligations.PartialResetsHoldAndRun) : ∃ t, exec (.gatehouseReset tR) (tHeld 0x002 (fun d => { d with ctxs := [(0, { tRelC with staged := ⟨2, 1024, 1024, 0, none⟩ })] })) = .next t :=
  nx ((h (tHeld 0x002 (fun d => { d with ctxs := [(0, { tRelC with staged := ⟨2, 1024, 1024, 0, none⟩ })] })) tR 0x003).2.2.2.2.2.2.1 ⟨by decide, by decide, by decide⟩ (by decide))

/-! Witnesses of DomainsAndRest. -/

theorem witness_DomainsAndRest_on (h : Obligations.DomainsAndRest) : ∃ t, exec (.domainCmdOn tR 0) (tLive (fun p => { p with domains := 2 ^ 24 - 2 })) = .next t := nx (((h (tLive (fun p => { p with domains := 2 ^ 24 - 2 })) tR 0 (by decide)).1 ⟨by decide, by decide⟩).1 (by decide) (by decide) (by decide) (by decide))
theorem witness_DomainsAndRest_fabricOn (h : Obligations.DomainsAndRest) : ∃ t, exec (.domainCmdOn tR 20) (tLive (fun p => { p with domains := 2 ^ 24 - 1 - 2 ^ 20 })) = .next t := nx (((h (tLive (fun p => { p with domains := 2 ^ 24 - 1 - 2 ^ 20 })) tR 20 (by decide)).1 ⟨by decide, by decide⟩).1 (by decide) (by decide) (by decide) (by decide))
theorem witness_DomainsAndRest_quadOn (h : Obligations.DomainsAndRest) : ∃ t, exec (.domainCmdOn tR 17) (tLive (fun p => { p with domains := 2 ^ 24 - 1 - 2 ^ 17 })) = .next t := nx (((h (tLive (fun p => { p with domains := 2 ^ 24 - 1 - 2 ^ 17 })) tR 17 (by decide)).1 ⟨by decide, by decide⟩).1 (by decide) (by decide) (by decide) (by decide))
theorem witness_DomainsAndRest_onRange (h : Obligations.DomainsAndRest) : ∃ t, exec (.domainCmdOn tR 24) (tLive id) = .next t := nx (((h (tLive id) tR 24 (by decide)).1 ⟨by decide, by decide⟩).2 (by decide))
theorem witness_DomainsAndRest_off (h : Obligations.DomainsAndRest) : ∃ t, exec (.domainCmdOff tR 1) (tLive id) = .next t := nx ((((h (tLive id) tR 1 (by decide)).2).1 ⟨by decide, by decide⟩).1 (by decide) (by decide) (by decide) (by decide))
theorem witness_DomainsAndRest_offRefused (h : Obligations.DomainsAndRest) : ∃ t, exec (.domainCmdOff tR 23) (tLive id) = .next t := nx ((((h (tLive id) tR 23 (by decide)).2).1 ⟨by decide, by decide⟩).2 (by decide))
theorem witness_DomainsAndRest_rest (h : Obligations.DomainsAndRest) : ∃ t, exec (.restEnter tR) (tLive id) = .next t := nx ((((h (tLive id) tR 0 (by decide)).2).2).1 ⟨by decide, by decide⟩ (by decide) (by decide) (fun p a b => (by decide : ∀ p, p < 16 → 0 < p → ((tLive id).dev.plot p).st ≠ 1) p b a))
theorem witness_DomainsAndRest_restExit (h : Obligations.DomainsAndRest) : ∃ t, exec (.restExit tR) (tLive (fun p => { p with phase := .rest, domains := 2 ^ 21 + 2 ^ 23 })) = .next t := nx ((((h (tLive (fun p => { p with phase := .rest, domains := 2 ^ 21 + 2 ^ 23 })) tR 0 (by decide)).2).2).2 ⟨by decide, by decide⟩ (by decide))

/-! Witnesses of ThrottleSupplyAndHeat. -/

theorem witness_ThrottleSupplyAndHeat_window (h : Obligations.ThrottleSupplyAndHeat) : ∃ t, exec (.powerWindow 900000 [(0, 500)]) (tLive (fun p => { p with hp := 1000, warned := true })) = .next t := nx ((h (tLive (fun p => { p with hp := 1000, warned := true })) (by decide)).1 900000 [(0, 500)])
theorem witness_ThrottleSupplyAndHeat_windowDown (h : Obligations.ThrottleSupplyAndHeat) : ∃ t, exec (.powerWindow 100 []) (tLive (fun p => { p with hp := 6 })) = .next t := nx ((h (tLive (fun p => { p with hp := 6 })) (by decide)).1 100 [])
theorem witness_ThrottleSupplyAndHeat_warning (h : Obligations.ThrottleSupplyAndHeat) : ∃ t, exec (.currentWarning 3) (tLive id) = .next t := nx (((h (tLive id) (by decide)).2).1 3 (by decide))
theorem witness_ThrottleSupplyAndHeat_input (h : Obligations.ThrottleSupplyAndHeat) : ∃ t, exec (.inputRange 60001) (tLive id) = .next t := nx ((((h (tLive id) (by decide)).2).2).1 60001 (by decide) (by decide))
theorem witness_ThrottleSupplyAndHeat_inputEnd (h : Obligations.ThrottleSupplyAndHeat) : ∃ t, exec (.inputRangeEnd 40000) (tLive (fun p => { p with inputBad := true, hc := 1024 })) = .next t := nx (((((h (tLive (fun p => { p with inputBad := true, hc := 1024 })) (by decide)).2).2).2).1 40000 (by decide) (by decide) (by decide))
theorem witness_ThrottleSupplyAndHeat_pairSupply (h : Obligations.ThrottleSupplyAndHeat) : ∃ t, exec (.pairSupplyFault 15 700) (tLive id) = .next t := nx ((((((h (tLive id) (by decide)).2).2).2).2).1 15 700 (by decide) (by decide) (by decide) (by decide) (by decide))
theorem witness_ThrottleSupplyAndHeat_domainSupply (h : Obligations.ThrottleSupplyAndHeat) : ∃ t, exec (.domainSupplyFault 16 700) ({ tLive id with dev := { (tLive id).dev with pavs := [tPav, tPav] } }) = .next t := nx (((((((h { tLive id with dev := { (tLive id).dev with pavs := [tPav, tPav] } } (by decide)).2).2).2).2).2).1 16 700 (by decide) (by decide))
theorem witness_ThrottleSupplyAndHeat_trip (h : Obligations.ThrottleSupplyAndHeat) : ∃ t, exec (.thermTrip 5 1840) ({ tLive id with dev := { (tLive id).dev with pavs := [tPav, tPav] } }) = .next t := nx ((((((((h { tLive id with dev := { (tLive id).dev with pavs := [tPav, tPav] } } (by decide)).2).2).2).2).2).2).1 5 1840 (by decide) (by decide) (by decide))
theorem witness_ThrottleSupplyAndHeat_invalid (h : Obligations.ThrottleSupplyAndHeat) : ∃ t, exec (.sensorInvalid 5 2401) (tLive id) = .next t := nx (((((((((h (tLive id) (by decide)).2).2).2).2).2).2).2).1 5 2401 (by decide) (by decide))
theorem witness_ThrottleSupplyAndHeat_recovery (h : Obligations.ThrottleSupplyAndHeat) : ∃ t, exec (.sensorRecovery 5 (-640)) (tLive (fun p => { p with invalid := 32 })) = .next t := nx (((((((((h (tLive (fun p => { p with invalid := 32 })) (by decide)).2).2).2).2).2).2).2).2 5 (-640) (by decide) (by decide) (by decide))

/-! Witnesses of BelvedereRestartsAndUpdates. -/

theorem witness_BelvedereRestartsAndUpdates_watchdog (h : Obligations.BelvedereRestartsAndUpdates) : ∃ t, exec (.belvedereWatchdog) (tUpd id false) = .next t := nx (((h (tUpd id false) tR).1 (by decide)).1 (by decide) (by decide))
theorem witness_BelvedereRestartsAndUpdates_third (h : Obligations.BelvedereRestartsAndUpdates) : ∃ t, exec (.belvedereSramEcc false) (tUpd (fun b => { b with restarts := [10 ^ 12 - 5, 10 ^ 12 - 600 * 10 ^ 9 + 1] }) false) = .next t := nx ((((h (tUpd (fun b => { b with restarts := [10 ^ 12 - 5, 10 ^ 12 - 600 * 10 ^ 9 + 1] }) false) tR).1 (by decide)).2).1 (by decide))
theorem witness_BelvedereRestartsAndUpdates_logEcc (h : Obligations.BelvedereRestartsAndUpdates) : ∃ t, exec (.belvedereSramEcc true) ({ tUpd id false with dev := { (tUpd id false).dev with log := { Log.empty with entries := [(0, tLe 1)], head := 1 } } }) = .next t := nx (((((h { tUpd id false with dev := { (tUpd id false).dev with log := { Log.empty with entries := [(0, tLe 1)], head := 1 } } } tR).1 (by decide)).2).2).1)
theorem witness_BelvedereRestartsAndUpdates_done (h : Obligations.BelvedereRestartsAndUpdates) : ∃ t, exec (.belvedereRestartDone true) (tUpd (fun b => { b with st := 1 }) false) = .next t := nx (((((((h (tUpd (fun b => { b with st := 1 }) false) tR).1 (by decide)).2).2).2).1 (by decide) (by decide)).1 (by decide))
theorem witness_BelvedereRestartsAndUpdates_halts (h : Obligations.BelvedereRestartsAndUpdates) : ∃ t, exec (.belvedereRestartDone false) (tUpd (fun b => { b with st := 1 }) false) = .next t := nx (((((((h (tUpd (fun b => { b with st := 1 }) false) tR).1 (by decide)).2).2).2).1 (by decide) (by decide)).2)
theorem witness_BelvedereRestartsAndUpdates_image (h : Obligations.BelvedereRestartsAndUpdates) : ∃ t, exec (.slotImageWrite tR ⟨true, (List.range 8).map Comp.shipped⟩) (tUpd id false) = .next t := nx (((((((h (tUpd id false) tR).1 (by decide)).2).2).2).2).1 ⟨true, (List.range 8).map Comp.shipped⟩ (by decide) (by decide) (by decide) (by decide) (by decide) (by decide))
theorem witness_BelvedereRestartsAndUpdates_partImage (h : Obligations.BelvedereRestartsAndUpdates) : ∃ t, exec (.slotImageWrite tR ⟨false, []⟩) (tUpd id false) = .next t := nx (((((((h (tUpd id false) tR).1 (by decide)).2).2).2).2).1 ⟨false, []⟩ (by decide) (by decide) (by decide) (by decide) (by decide) (by decide))
theorem witness_BelvedereRestartsAndUpdates_expiry (h : Obligations.BelvedereRestartsAndUpdates) : ∃ t, exec (.confirmWindowExpiry) (tExp) = .next t := nx (((((((h tExp tR).1 (by decide)).2).2).2).2).2 (by decide) (by decide) (by decide) (by decide))
theorem witness_BelvedereRestartsAndUpdates_restart (h : Obligations.BelvedereRestartsAndUpdates) : ∃ t, exec (.belvedereRestart (.space3 9)) (tUpd id false) = .next t := nx (((h (tUpd id false) (.space3 9)).2).1 ⟨by decide, by decide⟩ (by decide))
theorem witness_BelvedereRestartsAndUpdates_activate (h : Obligations.BelvedereRestartsAndUpdates) : ∃ t, exec (.updateActivate tR) (tUpd (fun b => { b with update := 2 }) false) = .next t := nx ((((h (tUpd (fun b => { b with update := 2 }) false) tR).2).2).1 ⟨by decide, by decide⟩ (by decide) (by decide) (by decide))
theorem witness_BelvedereRestartsAndUpdates_confirm (h : Obligations.BelvedereRestartsAndUpdates) : ∃ t, exec (.updateConfirm tR) (tUpd (fun b => { b with update := 4 }) true) = .next t := nx (((((h (tUpd (fun b => { b with update := 4 }) true) tR).2).2).2).1 ⟨by decide, by decide⟩ (by decide) (by decide))
theorem witness_BelvedereRestartsAndUpdates_revert (h : Obligations.BelvedereRestartsAndUpdates) : ∃ t, exec (.updateRevert tR) (tUpd (fun b => { b with update := 4, slot := 1 }) true) = .next t := nx (((((h (tUpd (fun b => { b with update := 4, slot := 1 }) true) tR).2).2).2).2 ⟨by decide, by decide⟩ (by decide) (by decide) (by decide))

/-! Witnesses of StepRunsTheFrontCommand. -/

theorem witness_StepRunsTheFrontCommand_front : { State.reset with pending := [.refLoss] }.pending = Instr.refLoss :: [] := by decide
theorem witness_StepRunsTheFrontCommand_tick : State.reset.pending = [] ∧ State.reset.dev.powered = true ∧ State.reset.dev.time.everLocked = true := by decide
theorem witness_StepRunsTheFrontCommand_quiet : State.reset.pending = [] ∧ State.reset.dev.tickEnd = [] ∧ State.reset.dev.fencePrev = [] ∧ (∀ n, (State.reset.dev.port n).waiting = []) ∧ (∀ n, (State.reset.dev.pav n).scrubQ = []) := 
  ⟨rfl, rfl, rfl, Laws.nthD_all (fun p : Port => p.waiting = []) _ _ rfl (by decide), Laws.nthD_all (fun p : Pav => p.scrubQ = []) _ _ rfl (by decide)⟩

/-! Witnesses of StepKeepsTheFusesLegal. -/

theorem witness_StepKeepsTheFusesLegal : ({ State.reset with pending := [.keyRevocation 1 2 true] } : State).fusesOk ∧ step { State.reset with pending := [.keyRevocation 1 2 true] } = .next { State.reset with nv := { NonVol.shipped with keyRevoked := 2 } } := ⟨by unfold State.fusesOk; decide, rfl⟩

/-! Witnesses of StepNeverClearsAFuse. -/

theorem witness_StepNeverClearsAFuse : State.reset.fusesOk ∧ ∃ t, step State.reset = .next t := ⟨by unfold State.fusesOk; decide, _, rfl⟩

/-! Witnesses of StepConsumesOneCommand. -/

theorem witness_StepConsumesOneCommand : ({ State.reset with pending := [.refLoss, .launch] } : State).pending = .refLoss :: [.launch] ∧ ∃ t, step { State.reset with pending := [.refLoss, .launch] } = .next t := ⟨rfl, _, rfl⟩

/-! Witnesses of FaultsAreRecordedUnderTheirMask. -/

theorem witness_FaultsAreRecordedUnderTheirMask_first : (0x013 : Nat) < 4096 ∧ (31 : Nat) < 32 ∧ tRel.dev.rgN 0x013 0x018 0 = 0 ∧ bitN (tRel.dev.rgN 0x013 0x01C 0) 31 = false ∧ bitN (tRel.dev.rgN 0x013 0x02C 0) 31 = false ∧ FaultClass.d ≠ .c ∧ tRel.dev.log.queue.length < 256 := by decide
theorem witness_FaultsAreRecordedUnderTheirMask_masked : bitN ((tRelx (fun d => { d with regs := tPut [(rk 0x013 0x01C 0, 4)] })).dev.rgN 0x013 0x01C 0) 2 = true := by decide
theorem witness_FaultsAreRecordedUnderTheirMask_alert : bitN ((tRelx (fun d => { d with regs := tPut [(rk 0x013 0x02C 0, 4)] })).dev.rgN 0x013 0x02C 0) 2 = true := by decide

/-! Witnesses of LpddrReadsBackWhatWasWritten. -/

theorem witness_LpddrReadsBackWhatWasWritten : (tKey true).dev.key ((tKey true).dev.keyPlot 4096) = ⟨true, 255, 4, []⟩ ∧ (4 : Nat) ≠ 0 ∧ (tKey true).dev.lpddr.wf = true := by decide

/-! Witnesses of XwSumsAreTheSameInAnyOrder. -/

theorem witness_XwSumsAreTheSameInAnyOrder_tree : (XwTree.meet (.meet (.one 1 0) (.one (2 ^ 32 - 1) 9)) (.one 7 2)).leaves.length ≤ 4096 ∧ (∀ e ∈ (XwTree.meet (.meet (.one 1 0) (.one (2 ^ 32 - 1) 9)) (.one 7 2)).leaves, XwInRange 32 e) ∧ (XwTree.meet (.one 7 2) (.meet (.one 1 0) (.one (2 ^ 32 - 1) 9))).leaves.Perm (XwTree.meet (.meet (.one 1 0) (.one (2 ^ 32 - 1) 9)) (.one 7 2)).leaves := ⟨by decide, by unfold XwInRange; decide, by decide⟩
theorem witness_XwSumsAreTheSameInAnyOrder_packets : xwnOf 1 = some .n32 ∧ 1 ≤ XwN.n32.perPacket ∧ ({ Packet.blank with payload := toBytes 4 5 ++ toBytes 2 1, xwn := 1 } : Packet).payload.length = 1 * (XwN.n32.bits / 8 + 2) := by decide
theorem witness_XwSumsAreTheSameInAnyOrder_store : tPav.store.wf = true ∧ (⟨0, 8192, 16384, some .n32, 64, 0⟩ : RedBuf).off + XwN.n32.bits / 8 * (63 + 1) ≤ (⟨0, 8192, 16384, some .n32, 64, 0⟩ : RedBuf).cmpOff := by decide

/-! ### Results worked by hand in the spec -/

/-- "FP32 300.0 to E4M3, RNE", under R119: 0x79. -/
theorem test_e4m3_of_300 : encodeScalar .e4m3 .rne ⟨fp32 0x43960000, false⟩ = 0x79 := by decide

/-- "FP32 470.0 to E4M3", under R119: NaN under RNE, 448 under RZ and RNE-SAT. -/
theorem test_e4m3_of_470 :
    [RMode.rne, .rz, .rnesat].map (fun m => encodeScalar .e4m3 m ⟨fp32 0x43EB0000, false⟩) = [0x7F, 0x7E, 0x7E] := by decide

/-- "3 × 2⁻¹⁷ to E5M2, a subnormal": the tie goes to the even code. -/
theorem test_e5m2_subnormal :
    [RMode.rne, .rz].map (fun m => encodeScalar .e5m2 m ⟨.fin false 3 (-17), false⟩) = [0x02, 0x01] := by decide

/-- "accumulator to BF16": v = 20,000,001 at W = -24. -/
theorem test_accumulator_to_bf16 :
    [RMode.rne, .rz].map (fun m => encodeScalar .bf16 m ⟨(Xw.unpack 112 20000001 0).val (-24), false⟩) = [0x3F99, 0x3F98] := by decide

/-- "an MXFP4 block": 5.2, -0.3 and 2.6 with the draw 0x6B3A_0000, at scale 0x7F. -/
theorem test_mxfp4_block :
    mxBlock .e2m1 [.rne, .rne, .sr 0x6B3A0000] [⟨fp32 0x40A66666, false⟩, ⟨fp32 0xBE99999A, false⟩, ⟨fp32 0x40266666, false⟩]
      = (0x7F, [0x7, 0x9, 0x5]) := by decide

/-- "truncation at the window": each term alone, in either order -1. -/
theorem test_truncation_per_term :
    ((placeTerm 1001 (-12) (-8)).plus (placeTerm (-1001) (-12) (-8))).sum = -1 ∧
      ((placeTerm (-1001) (-12) (-8)).plus (placeTerm 1001 (-12) (-8))).sum = -1 := by decide

/-- "a checksum over one block": the totals of column 5 and of any other, and the checksum product from the weights 120 and 64. -/
theorem test_checksum_block :
    let a (k : Nat) : MulEl := if k = 0 then .of .e4m3 false 0x3C else if k = 1 then .of .e4m3 false 0xA8 else .of .e4m3 false 0
    let col (bits : Nat) := (blockSum a [(0, .of .e2m1 false bits), (1, .of .e2m1 false 0x1)]).1
    col 0x2 = 1408 ∧ col 0xD = -4736 ∧ 63 * col 0x2 + col 0xD = 83968 ∧ (a 0).int * 120 + (a 1).int * 64 = 83968 := by decide

/-- The same example's column 0 under a weight scale of 0x7C at W = -24. -/
theorem test_checksum_column_placed :
    (placeTerm 1408 (-9 - 1 + 0 - 3) (-24)).sum = 2883584 ∧ (placeTerm 1408 (-9 - 1 + 0 - 3) (-24)).res = 4 := by decide

/-- "an exact reduction over four devices": the first tree's partial overflows XW32, its EXCESS carries 1, and both
trees end at 32,762.75. -/
theorem test_exact_reduction :
    let x (v : Int) : Xw := ⟨v, false, false, false, false⟩
    let p := ((x 2147418112).combine (x 212992)).pack 32
    let q := ((x 2147418112).combine (x (-524288))).pack 32
    (Xw.unpack 32 p.1 p.2).sum = 2147631104 ∧ signedN 32 p.1 = -2147336192 ∧ signedN 12 (p.2 / 16) = 1 ∧ q.2 = 0 ∧
      toFp32 (((Xw.unpack 32 p.1 p.2).combine (x (-524288 + 32768))).val (-16)) = 0x46FFF580 ∧
      toFp32 (((Xw.unpack 32 q.1 q.2).combine (x (212992 + 32768))).val (-16)) = 0x46FFF580 := by decide

/-- "a tree-masked score row": node 4 has ancestors 1 and 0; rows 6 and 7 keep only their diagonal. -/
theorem test_treemask_rows :
    let par := [0xFF, 0, 0, 1, 1, 2]
    let cols (i : Nat) := (List.range 8).filter (fun j => treeAllowed par (treeDepths par 6) 6 i j)
    cols 4 = [0, 1, 4] ∧ cols 6 = [6] ∧ cols 7 = [7] := by decide

/-- "a worked tree under GREEDY": nodes 1 and 3 are accepted; 17, 44 and the final 8 come out at 1,277 to 1,279. -/
theorem test_greedy_tree :
    let node (dr sm : Nat) : List Byte := toBytes 4 dr ++ toBytes 4 sm ++ toBytes 4 0 ++ toBytes 4 0
    let raw : List Byte := [0xFF, 0, 0, 1, 1, 2, 3] ++ List.replicate 57 0 ++ toBytes 4 7 ++ List.replicate 60 0 ++
      node 901 17 ++ node 17 44 ++ node 23 5 ++ node 44 8 ++ node 45 30 ++ node 5 61 ++ node 9 12
    let w := treeWalk false true 0 0 raw 64 0
    w.1 = [1, 3] ∧ (pathToks false raw 1276 w).map (fun t => (t.tok, t.pos, t.flags)) =
      [(17, 1277, fDraft), (44, 1278, fDraft), (8, 1279, 0)] := by decide

/-- "one beat at two budget classes": L is 716 at class 6 and 616 at class 5. -/
theorem test_ledger_limit :
    [6, 5].map (fun k => ({ Dev.powerUp Module.a512 with regs := [(rk 0x006 0x400 0, BitVec.ofNat 32 k)] } : Dev).ledgerLimit)
      = [716, 616] := by decide

/-- "the configuration ID of a ZG2-B512": pair 5 fused, stepping B0, all ports, 400 W. -/
theorem test_config_id :
    ({ Dev.powerUp { Module.a512 with code := 3, stepB := true, fusedPair := some 5 } with regs := [(rk 0x006 0x400 0, 6)] } : Dev).configId =
      0x02 * 2 ^ 56 + 0xFFFFF3FF * 2 ^ 24 + 0xFFF * 2 ^ 12 + 0x2 * 2 ^ 8 + 0x6 * 2 ^ 4 := by decide

/-- The table of R292, by hand: DEST 5, SRC 9, TC 2, TYPE 3, TAG 0x1234, TAG_GEN 5, ADDR in space 2, LEN 64, PCOUNT 3. -/
theorem test_packet_header :
    ({ Packet.blank with dest := 5, src := 9, mid := 0, phase := false, tc := 2, typ := 3, epoch := 0, plan := false, tag := 0x1234, tagGen := 5, addr := 0x2000000000040, len := 64, pcount := 3 } : Packet).header =
      [0x05, 0x90, 0, 0, 0xC0, 0x01, 0, 0, 0x34, 0x12, 0x05, 0, 0, 0, 0, 0, 0x40, 0, 0, 0, 0, 0, 2, 0, 0x40, 0x06, 0, 0, 0, 0, 0, 0] := by decide

/-- The CRC-32 of IEEE 802.3 of the nine digits "123456789" (R331): its published check value. -/
theorem test_crc32 : crc32 [0x31, 0x32, 0x33, 0x34, 0x35, 0x36, 0x37, 0x38, 0x39] = 0xCBF43926 := by decide +kernel

/-! ### Well-formedness refuses an ill-formed term of each check -/

/-- One command for each check of `Instr.wellFormed`, refused. -/
theorem test_wellFormed_refuses :
    [Instr.oscLock 32, .fullReset (.gct 256), .fullReset (.space3 4096), .nop ⟨32, 0, .ctl, none⟩,
      .counterRead (.belvedere .admin) 0 2, .gctClose ⟨2, 3, 44, 9, 6, 9, 0, true, true⟩, .put { Packet.blank with dest := 4096 }, .put { Packet.blank with payload := List.replicate 449 0 }, .put { Packet.blank with win := 512 }].all (fun i => !i.wellFormed) = true := by decide +kernel

/-- And accepts their neighbours. -/
theorem test_wellFormed_accepts :
    [Instr.oscLock 31, .fullReset (.gct 255), .fullReset (.space3 4095), .nop ⟨31, 0, .ctl, none⟩,
      .counterRead (.belvedere .admin) 0 4, .gctClose ⟨2, 3, 44, 8, 6, 9, 0, true, true⟩, .put { Packet.blank with dest := 4095 }, .put { Packet.blank with payload := List.replicate 448 0 }, .put { Packet.blank with win := 511 }].all (·.wellFormed) = true := by decide +kernel

/-! ### The block's host interface -/

/-- No row of the table has bits: no word spells a command, and placing one changes nothing. -/
theorem test_no_words (n w : Nat) : decodeTableWord n w = none ∧ State.reset.withFetchWord n w = State.reset := ⟨rfl, rfl⟩

/-- A command waiting in front is taken by the next step, and the queue keeps the rest. -/
theorem test_step_takes_the_front : ∃ t, step { State.reset with pending := [.refLoss, .launch] } = .next t ∧ t.pending = [.launch] :=
  ⟨_, rfl, rfl⟩

end Sys2Proof.Tests
end

section
/-! SUPPORT. Which registers the record of a fault and its consequence touch, and that the fault flags stick: no ERR_STATUS bit is lost, and
ERR_FIRST of a page that holds a fault only ever gives way to a lower bit (R595). -/
namespace Sys2Proof.Laws
open Sys2Proof.Machine

/-! ### Bits of numbers -/

theorem bitN_eq_testBit (v i : Nat) : bitN v i = v.testBit i := by
  rw [Nat.testBit_eq_decide_div_mod_eq]; rfl

theorem bitN_or (v w i : Nat) : bitN (v ||| w) i = (bitN v i || bitN w i) := by simp [bitN_eq_testBit]

theorem bitN_mod_two_pow_32 {v i : Nat} (h : i < 32) : bitN (v % 2 ^ 32) i = bitN v i := by
  rw [bitN_eq_testBit, bitN_eq_testBit, Nat.testBit_mod_two_pow]; simp [h]

theorem bitN_lt_32_of_set {v i : Nat} (hv : v < 2 ^ 32) (h : bitN v i = true) : i < 32 := by
  rw [bitN_eq_testBit] at h
  exact (Nat.pow_lt_pow_iff_right (by decide)).1 (Nat.lt_of_le_of_lt (Nat.ge_two_pow_of_testBit h) hv)

theorem bitN_two_pow_self (i : Nat) : bitN (2 ^ i) i = true := by simp [bitN_eq_testBit]

theorem exists_bitN_of_ne_zero {v : Nat} (h : v ≠ 0) : ∃ i, bitN v i = true := by
  obtain ⟨i, hi⟩ := Nat.exists_testBit_of_ne_zero h
  exact ⟨i, by rw [bitN_eq_testBit]; exact hi⟩

theorem ne_zero_of_bitN {v i : Nat} (h : bitN v i = true) : v ≠ 0 := by
  rintro rfl; simp [bitN] at h

/-- A register store is told apart by the offset of a register, whatever its page and item. -/
theorem rk_ne_of_off {pg o b pg' o' b' : Nat} (h : o < 4096) (h' : o' < 4096) (hne : o' ≠ o) : rk pg' o' b' ≠ rk pg o b := by
  simp only [rk]; omega

/-! ### The relation -/

/-- The fault flags of every page stick: an ERR_STATUS bit stays, and ERR_FIRST of a page that holds a fault stays or comes to name a
lower bit. -/
def FlagsStick (d e : Dev) : Prop :=
  ∀ pg bk, pg < 4096 →
    (∀ k, bitN (d.rgN pg 0x018 bk) k = true → bitN (e.rgN pg 0x018 bk) k = true) ∧
    (d.rgN pg 0x018 bk ≠ 0 → e.rgN pg 0x020 bk = d.rgN pg 0x020 bk ∨
      (e.rgN pg 0x020 bk % 32 < d.rgN pg 0x020 bk % 32 ∧ bitN (e.rgN pg 0x020 bk) 31 = true))

/-- From `d` to `e` only registers that `W` holds are written, and the fault flags stick. -/
def Touches (W : Nat → Nat → Bool) (d e : Dev) : Prop :=
  (∀ pg o b, pg < 4096 → o < 4096 → W pg o = false → e.rgN pg o b = d.rgN pg o b) ∧ FlagsStick d e

theorem FlagsStick.refl (d : Dev) : FlagsStick d d := fun _ _ _ => ⟨fun _ h => h, fun _ => .inl rfl⟩

theorem FlagsStick.trans {d e f : Dev} (h : FlagsStick d e) (g : FlagsStick e f) : FlagsStick d f := by
  intro pg bk hpg
  obtain ⟨hbits, hfirst⟩ := h pg bk hpg
  obtain ⟨gbits, gfirst⟩ := g pg bk hpg
  refine ⟨fun k hk => gbits k (hbits k hk), fun h0 => ?_⟩
  obtain ⟨i, hi⟩ := exists_bitN_of_ne_zero h0
  rcases gfirst (ne_zero_of_bitN (hbits i hi)) with he | ⟨hlt, hv⟩ <;> rcases hfirst h0 with hd | ⟨hlt', hv'⟩
  · exact .inl (he.trans hd)
  · exact .inr ⟨by rw [he]; exact hlt', by rw [he]; exact hv'⟩
  · exact .inr ⟨by rw [← hd]; exact hlt, hv⟩
  · exact .inr ⟨Nat.lt_trans hlt hlt', hv⟩

/-- Flags that are where they were stick. -/
theorem FlagsStick.of_same {d e : Dev} (h18 : ∀ pg bk, pg < 4096 → e.rgN pg 0x018 bk = d.rgN pg 0x018 bk)
    (h20 : ∀ pg bk, pg < 4096 → e.rgN pg 0x020 bk = d.rgN pg 0x020 bk) : FlagsStick d e := by
  intro pg bk hpg
  rw [h18 pg bk hpg, h20 pg bk hpg]
  exact ⟨fun _ h => h, fun _ => .inl rfl⟩

variable {W : Nat → Nat → Bool}

theorem Touches.refl (W : Nat → Nat → Bool) (d : Dev) : Touches W d d := ⟨fun _ _ _ _ _ _ => rfl, .refl d⟩

theorem Touches.trans {d e f : Dev} (h : Touches W d e) (g : Touches W e f) : Touches W d f :=
  ⟨fun pg o b hp ho hw => (g.1 pg o b hp ho hw).trans (h.1 pg o b hp ho hw), h.2.trans g.2⟩

theorem Touches.mono {W' : Nat → Nat → Bool} {d e : Dev} (h : Touches W d e) (hW : ∀ pg o, W pg o = true → W' pg o = true) :
    Touches W' d e :=
  ⟨fun pg o b hp ho hw => h.1 pg o b hp ho (Bool.eq_false_iff.2 (fun ht => Bool.eq_false_iff.1 hw (hW pg o ht))), h.2⟩

/-- A register store that is what it was. -/
theorem Touches.of_regs {d e : Dev} (h : e.regs = d.regs) : Touches W d e :=
  ⟨fun pg o b _ _ _ => rgN_of_regs h pg o b,
   .of_same (fun pg bk _ => rgN_of_regs h pg 0x018 bk) (fun pg bk _ => rgN_of_regs h pg 0x020 bk)⟩

theorem Touches.ite {d e f : Dev} (c : Prop) [Decidable c] (he : Touches W d e) (hf : Touches W d f) :
    Touches W d (if c then e else f) := by
  split
  · exact he
  · exact hf

theorem Touches.forEach {α : Type} (l : List α) (d : Dev) (f : Dev → α → Dev) (h : ∀ e x, x ∈ l → Touches W e (f e x)) :
    Touches W d (forEach l d f) := by
  unfold Sys2Proof.Machine.forEach
  induction l generalizing d with
  | nil => exact .refl W d
  | cons x rest ih => exact (h d x (by simp)).trans (ih (f d x) (fun e y hy => h e y (by simp [hy])))

/-- A register other than ERR_STATUS and ERR_FIRST written. -/
theorem touches_setN (d : Dev) {pg o : Nat} (b v : Nat) (hpg : pg < 4096) (ho : o < 4096) (h18 : o ≠ 0x018) (h20 : o ≠ 0x020)
    (hW : W pg o = true) : Touches W d (d.setN pg o b v) := by
  refine ⟨fun pg' o' b' hp' ho' hw => rgN_setN_other d v (fun hk => ?_), .of_same (fun pg' bk _ => ?_) (fun pg' bk _ => ?_)⟩
  · obtain ⟨rfl, rfl, -⟩ := rk_inj hp' ho' hpg ho hk
    simp [hW] at hw
  · exact rgN_setN_other d v (rk_ne_of_off ho (by decide) h18.symm)
  · exact rgN_setN_other d v (rk_ne_of_off ho (by decide) h20.symm)

theorem touches_set64 (d : Dev) {pg o : Nat} (b v : Nat) (hpg : pg < 4096) (ho : o + 4 < 4096) (hlo : 0x020 < o)
    (hW : W pg o = true) (hW' : W pg (o + 4) = true) : Touches W d (d.set64 pg o b v) :=
  (touches_setN d b _ hpg (by omega) (by omega) (by omega) hW).trans
    (touches_setN _ b _ hpg ho (by omega) (by omega) hW')

theorem touches_countB (d : Dev) {pg o : Nat} (b n : Nat) (hpg : pg < 4096) (ho : o < 4096) (hlo : 0x020 < o) (hW : W pg o = true) :
    Touches W d (d.countB pg o b n) := by
  unfold Dev.countB
  split
  · exact .refl W d
  · exact touches_setN d b _ hpg ho (by omega) (by omega) hW

theorem touches_count (d : Dev) {pg o : Nat} (n : Nat) (hpg : pg < 4096) (ho : o < 4096) (hlo : 0x020 < o) (hW : W pg o = true) :
    Touches W d (d.count pg o n) := touches_countB d 0 n hpg ho hlo hW

/-- ERR_STATUS with bits added. -/
theorem touches_orStatus (d : Dev) {pg : Nat} (b x : Nat) (hpg : pg < 4096) (hW : W pg 0x018 = true) :
    Touches W d (d.setN pg 0x018 b (d.rgN pg 0x018 b ||| x)) := by
  refine ⟨fun pg' o' b' hp' ho' hw => rgN_setN_other d _ (fun hk => ?_), fun pg' bk hp' => ⟨fun k hk => ?_, fun _ => .inl ?_⟩⟩
  · obtain ⟨rfl, rfl, -⟩ := rk_inj hp' ho' hpg (by decide) hk
    simp [hW] at hw
  · by_cases he : pg' = pg ∧ bk = b
    · obtain ⟨rfl, rfl⟩ := he
      rw [rgN_setN_same, bitN_mod_two_pow_32 (bitN_lt_32_of_set (rgN_lt d pg' 0x018 bk) hk), bitN_or, hk, Bool.true_or]
    · rw [rgN_setN_other d _ (fun h => he ⟨(rk_inj hp' (by decide) hpg (by decide) h).1, (rk_inj hp' (by decide) hpg (by decide) h).2.2⟩)]
      exact hk
  · exact rgN_setN_other d _ (rk_ne_of_off (by decide) (by decide) (by decide))

/-- ERR_FIRST of a page that holds no fault, or a lower bit in it. -/
theorem touches_first (d : Dev) {pg : Nat} (b v : Nat) (hpg : pg < 4096) (hW : W pg 0x020 = true)
    (h : d.rgN pg 0x018 b = 0 ∨ (v % 32 < d.rgN pg 0x020 b % 32 ∧ bitN v 31 = true)) :
    Touches W d (d.setN pg 0x020 b v) := by
  refine ⟨fun pg' o' b' hp' ho' hw => rgN_setN_other d _ (fun hk => ?_), fun pg' bk hp' => ⟨fun k hk => ?_, fun h0 => ?_⟩⟩
  · obtain ⟨rfl, rfl, -⟩ := rk_inj hp' ho' hpg (by decide) hk
    simp [hW] at hw
  · rw [rgN_setN_other d _ (rk_ne_of_off (by decide) (by decide) (by decide))]
    exact hk
  · by_cases he : pg' = pg ∧ bk = b
    · obtain ⟨rfl, rfl⟩ := he
      obtain ⟨hlt, h31⟩ := h.resolve_left h0
      rw [rgN_setN_same, bitN_mod_two_pow_32 (by decide)]
      exact .inr ⟨by omega, h31⟩
    · exact .inl (rgN_setN_other d _
        (fun hk => he ⟨(rk_inj hp' (by decide) hpg (by decide) hk).1, (rk_inj hp' (by decide) hpg (by decide) hk).2.2⟩))

/-! ### The record of a fault -/

/-- The registers that the record of a fault writes: the flags of a page, DEVICE.ALERTS, LOG's counts of entries lost and left out, and the
frames that a host port sends. -/
def recordWrites (pg o : Nat) : Bool :=
  [0x018, 0x020, 0x028, 0x038, 0x03C].contains o ||
    [(0x000, 0x110), (0x009, 0x104), (0x009, 0x108), (0x070, 0x104), (0x071, 0x104)].contains (pg, o)

/-- ERR_FIRST and ERR_TIME as a fault finds and leaves them: taken in an ERR_STATUS that was 0; the lowest bit of one tick (R595). -/
def firstTaken (d : Dev) (page bank bit : Nat) (injected : Bool) : Dev :=
  if d.rgN page 0x018 bank = 0 then
    (d.setN page 0x020 bank (bit + (if injected then 256 else 0) + 2 ^ 31)).set64 page 0x038 bank d.time.count.toNat
  else if d.firstNow page bank bit then d.setN page 0x020 bank (bit + (if injected then 256 else 0) + 2 ^ 31)
  else d

/-- The flags of a fault set in their page: ERR_FIRST and ERR_TIME where they take it, then ERR_STATUS. -/
def flagged (d : Dev) (page bank bit : Nat) (injected : Bool) : Dev :=
  (firstTaken d page bank bit injected).setN page 0x018 bank (d.rgN page 0x018 bank ||| 2 ^ bit)

/-- The log's part of a record: its entry, or, of a class C fault that has one in this millisecond, its count (R503). -/
def logged (d : Dev) (page bank bit : Nat) (cls : FaultClass) (alert : Bool) (w : Where) : Dev :=
  let key := (page * 16 + bank) * 32 + bit
  let ms := d.time.elapsed / ticksMs + 1
  if cls = .c ∧ d.log.lastC.get key 0 = ms then d.count 0x009 0x108 1
  else
    let d1 := if cls = .c then { d with log := { d.log with lastC := d.log.lastC.put key ms } } else d
    d1.logPush (d1.faultEntry page bit cls alert w)

/-- What a record does once the flags are set: INT_STATUS, the alert, the log (R595, R596). -/
def announced (d : Dev) (page bank bit : Nat) (cls : FaultClass) (w : Where) (send : Dev → Dev) : Dev :=
  if bitN (d.rgN page 0x01C bank) bit then d
  else
    let int := d.rgN page 0x028 bank
    let newly := !bitN int bit && bitN (d.rgN page 0x02C bank) bit
    let d1 := (d.setN page 0x028 bank (int ||| 2 ^ bit)).alertUpdate
    logged (if newly then send d1 else d1) page bank bit cls newly w

/-- A record is its flags and what they announce. -/
theorem recordRaw_eq (d : Dev) (page bank bit : Nat) (cls : FaultClass) (inj : Bool) (w : Where) (send : Dev → Dev) :
    d.recordRaw page bank bit cls inj w send = announced (flagged d page bank bit inj) page bank bit cls w send := rfl

/-- The flags of its own page are registers that a record writes. -/
theorem recordWrites_flag (pg : Nat) {o : Nat} (h : o ∈ [0x018, 0x020, 0x028, 0x038, 0x03C]) : recordWrites pg o = true := by
  rw [recordWrites, List.contains_iff_mem.2 h, Bool.true_or]

/-- ERR_FIRST as a record writes it names its bit, and is valid. -/
theorem firstWord_names {bit : Nat} (inj : Bool) (hb : bit < 32) :
    (bit + (if inj then 256 else 0) + 2 ^ 31) % 32 = bit ∧ bitN (bit + (if inj then 256 else 0) + 2 ^ 31) 31 = true := by
  simp only [bitN, decide_eq_true_eq]
  cases inj <;> simp only [Bool.false_eq_true, if_true, if_false] <;> omega

theorem firstNow_lt {d : Dev} {page bank bit : Nat} (h : d.firstNow page bank bit = true) : bit < d.rgN page 0x020 bank % 32 := by
  simp only [Dev.firstNow, Bool.and_eq_true, decide_eq_true_eq] at h
  exact h.2

theorem firstTaken_status (d : Dev) (page bank bit : Nat) (inj : Bool) :
    (firstTaken d page bank bit inj).rgN page 0x018 bank = d.rgN page 0x018 bank := by
  have h18 : ∀ (e : Dev) (o v : Nat), o < 4096 → o ≠ 0x018 → (e.setN page o bank v).rgN page 0x018 bank = e.rgN page 0x018 bank :=
    fun e o v ho hne => rgN_setN_other e v (rk_ne_of_off ho (by decide) hne.symm)
  unfold firstTaken
  split
  · rw [Dev.set64, h18 _ _ _ (by decide) (by decide), h18 _ _ _ (by decide) (by decide), h18 _ _ _ (by decide) (by decide)]
  · split
    · exact h18 _ _ _ (by decide) (by decide)
    · rfl

theorem touches_firstTaken (d : Dev) {page : Nat} (bank bit : Nat) (inj : Bool) (hpg : page < 4096) :
    Touches recordWrites d (firstTaken d page bank bit inj) := by
  have hflag : ∀ o ∈ [0x018, 0x020, 0x028, 0x038, 0x03C], recordWrites page o = true := fun o ho => recordWrites_flag page ho
  unfold firstTaken
  split
  next h0 =>
    exact (touches_first d bank _ hpg (hflag _ (by decide)) (.inl h0)).trans
      (touches_set64 _ bank _ hpg (by decide) (by decide) (hflag _ (by decide)) (hflag _ (by decide)))
  next =>
    split
    next hnow =>
      have hlt := firstNow_lt hnow
      obtain ⟨hbit, hvalid⟩ := firstWord_names inj (show bit < 32 by omega)
      exact touches_first d bank _ hpg (hflag _ (by decide)) (.inr ⟨by omega, hvalid⟩)
    next => exact .refl _ d

theorem touches_flagged (d : Dev) {page : Nat} (bank bit : Nat) (inj : Bool) (hpg : page < 4096) :
    Touches recordWrites d (flagged d page bank bit inj) := by
  rw [flagged, ← firstTaken_status d page bank bit inj]
  exact (touches_firstTaken d bank bit inj hpg).trans (touches_orStatus _ bank _ hpg (recordWrites_flag page (by decide)))

/-- A record sets its bit in ERR_STATUS. -/
theorem flagged_status (d : Dev) (page bank : Nat) {bit : Nat} (inj : Bool) (hb : bit < 32) :
    bitN ((flagged d page bank bit inj).rgN page 0x018 bank) bit = true := by
  rw [flagged, rgN_setN_same, bitN_mod_two_pow_32 hb, bitN_or, bitN_two_pow_self, Bool.or_true]

/-- The first fault of a page is named in ERR_FIRST. -/
theorem flagged_first (d : Dev) (page bank : Nat) {bit : Nat} (inj : Bool) (hb : bit < 32) (h0 : d.rgN page 0x018 bank = 0) :
    (flagged d page bank bit inj).rgN page 0x020 bank = bit + (if inj then 256 else 0) + 2 ^ 31 := by
  rw [flagged, firstTaken, if_pos h0, Dev.set64, rgN_setN_other _ _ (rk_ne_of_off (by decide) (by decide) (by decide)),
    rgN_setN_other _ _ (rk_ne_of_off (by decide) (by decide) (by decide)),
    rgN_setN_other _ _ (rk_ne_of_off (by decide) (by decide) (by decide)), rgN_setN_same]
  exact Nat.mod_eq_of_lt (by split <;> omega)

theorem touches_alertUpdate (d : Dev) : Touches recordWrites d d.alertUpdate := by
  unfold Dev.alertUpdate
  split
  · exact (touches_count { d with alertN := true } 1 (by decide) (by decide) (by decide) (by decide))
  · exact .refl _ d

theorem touches_logPush (d : Dev) (e : LogEntry) : Touches recordWrites d (d.logPush e) := by
  unfold Dev.logPush
  split
  · exact .of_regs rfl
  · exact (touches_orStatus { d with log := _ } 0 1 (by decide) (by decide)).trans
      (touches_count _ 1 (by decide) (by decide) (by decide) (by decide))

theorem touches_logged (d : Dev) (page bank bit : Nat) (cls : FaultClass) (alert : Bool) (w : Where) :
    Touches recordWrites d (logged d page bank bit cls alert w) := by
  unfold logged
  extract_lets key ms log d1
  have hregs : d1.regs = d.regs := by simp only [d1]; split <;> rfl
  split
  · exact touches_count d 1 (by decide) (by decide) (by decide) (by decide)
  · exact (Touches.of_regs hregs).trans (touches_logPush d1 _)

theorem touches_announced (d : Dev) {page : Nat} (bank bit : Nat) (cls : FaultClass) (w : Where) (send : Dev → Dev) (hpg : page < 4096)
    (hs : ∀ e, Touches recordWrites e (send e)) : Touches recordWrites d (announced d page bank bit cls w send) := by
  unfold announced
  extract_lets int newly d1
  have hint : Touches recordWrites d d1 :=
    (touches_setN d bank _ hpg (by decide) (by decide) (by decide) (recordWrites_flag page (by decide))).trans (touches_alertUpdate _)
  split
  · exact .refl _ d
  · exact (Touches.ite _ (hint.trans (hs d1)) hint).trans (touches_logged _ page bank bit cls newly w)

theorem touches_recordRaw (d : Dev) {page : Nat} (bank bit : Nat) (cls : FaultClass) (inj : Bool) (w : Where) (send : Dev → Dev)
    (hpg : page < 4096) (hs : ∀ e, Touches recordWrites e (send e)) :
    Touches recordWrites d (d.recordRaw page bank bit cls inj w send) := by
  rw [recordRaw_eq]
  exact (touches_flagged d bank bit inj hpg).trans (touches_announced _ bank bit cls w send hpg hs)

/-- A host port counts the frames it sends. -/
theorem recordWrites_frames {i : Nat} (h : i < 8) : recordWrites (0x070 + i / 4) 0x104 = true := by
  have : i / 4 = 0 ∨ i / 4 = 1 := by omega
  rcases this with h | h <;> rw [h] <;> decide

theorem touches_hostSend (d : Dev) (i n : Nat) (o : Out) : Touches recordWrites d (d.hostSend i n o) := by
  by_cases hi : 8 ≤ i
  · simp only [Dev.hostSend, hi, if_true]
    exact .of_regs rfl
  have hpg : 0x070 + i / 4 < 4096 := by omega
  have hcount : ∀ e : Dev, e.regs = d.regs → Touches recordWrites d (e.count (0x070 + i / 4) 0x104 n) := fun e he =>
    (Touches.of_regs he).trans (touches_count e n hpg (by decide) (by decide) (recordWrites_frames (by omega)))
  simp only [Dev.hostSend, hi, if_false]
  repeat' split
  · exact .refl _ d
  · exact hcount _ rfl
  · exact .refl _ d
  · exact .refl _ d
  · exact touches_recordRaw d 0 1 .none false Where.none id hpg (fun e => .refl _ e)
  · exact hcount _ rfl

theorem touches_alertSend (d : Dev) (page bit : Nat) : Touches recordWrites d (d.alertSend page bit) := by
  unfold Dev.alertSend
  extract_lets send d1
  have hsend : ∀ e k, Touches recordWrites e (send e k) := by
    intro e k
    simp only [send]
    split
    · exact (Touches.of_regs rfl).trans (touches_hostSend (e.setConn k _) _ 1 _)
    · exact .refl _ e
  have hall : Touches recordWrites d d1 := .forEach _ d send (fun e k _ => hsend e k)
  exact .ite _ (hall.trans (.of_regs rfl)) hall

theorem touches_recordB (d : Dev) {page : Nat} (bank bit : Nat) (cls : FaultClass) (inj : Bool) (w : Where) (hpg : page < 4096) :
    Touches recordWrites d (d.recordB page bank bit cls inj w) :=
  touches_recordRaw d bank bit cls inj w _ hpg (fun e => touches_alertSend e page bit)

theorem touches_record (d : Dev) {page : Nat} (bit : Nat) (w : Where) (hpg : page < 4096) :
    Touches recordWrites d (d.record page bit w) := touches_recordB d 0 bit _ false w hpg

/-- Once its flags are set, a record and what it announces keep them. -/
theorem touches_recordB_of_flagged (d : Dev) {page : Nat} (bank bit : Nat) (cls : FaultClass) (inj : Bool) (w : Where) (hpg : page < 4096) :
    Touches recordWrites (flagged d page bank bit inj) (d.recordB page bank bit cls inj w) := by
  rw [Dev.recordB, recordRaw_eq]
  exact touches_announced _ bank bit cls w _ hpg (fun e => touches_alertSend e page bit)

end Sys2Proof.Laws
end

section
/-! SUPPORT. What the consequence of a fault touches of the register window: page counters and what a record writes; the fault flags stick
through every abandon, bell, fence and choice of sets (R25, R498 to R500, R508, R512, R595). -/
namespace Sys2Proof.Laws
open Sys2Proof.Machine

/-- The registers that a fault and its consequence write: what a record writes, and page counters, which lie from 0x100 on. -/
def faultWrites (pg o : Nat) : Bool := recordWrites pg o || (decide (0x100 ≤ o) && decide (o < 0x400))

theorem Touches.fault {d e : Dev} (h : Touches recordWrites d e) : Touches faultWrites d e :=
  h.mono (fun pg o hw => by rw [faultWrites, hw, Bool.true_or])

theorem faultWrites_counter (pg : Nat) {o : Nat} (hlo : 0x100 ≤ o) (hhi : o < 0x400) : faultWrites pg o = true := by
  simp [faultWrites, hlo, hhi]

/-- A page counter advances. -/
theorem faultTouches_countB (d : Dev) {pg o : Nat} (b n : Nat) (hpg : pg < 4096) (hlo : 0x100 ≤ o) (hhi : o < 0x400) :
    Touches faultWrites d (d.countB pg o b n) :=
  touches_countB d b n hpg (by omega) (by omega) (faultWrites_counter pg hlo hhi)

theorem faultTouches_count (d : Dev) {pg o : Nat} (n : Nat) (hpg : pg < 4096) (hlo : 0x100 ≤ o) (hhi : o < 0x400) :
    Touches faultWrites d (d.count pg o n) := faultTouches_countB d 0 n hpg hlo hhi

/-- A register store that only a page counter changes. -/
theorem faultTouches_count_of_regs {d e : Dev} {pg o : Nat} (n : Nat) (h : e.regs = d.regs) (hpg : pg < 4096) (hlo : 0x100 ≤ o) (hhi : o < 0x400) :
    Touches faultWrites d (e.count pg o n) := (Touches.of_regs h).trans (faultTouches_count e n hpg hlo hhi)

theorem faultTouches_recordB (d : Dev) {page : Nat} (bank bit : Nat) (cls : FaultClass) (inj : Bool) (w : Where) (hpg : page < 4096) :
    Touches faultWrites d (d.recordB page bank bit cls inj w) := (touches_recordB d bank bit cls inj w hpg).fault

theorem mem_bitList_lt {v n k : Nat} (h : k ∈ bitList v n) : k < n := by
  simp only [bitList, List.mem_filter, List.mem_range] at h
  exact h.1

/-! ### Packets and bells -/

theorem departing_regs (d : Dev) (n : Nat) (pk : Packet) : (d.departing n pk).2.regs = d.regs := by
  unfold Dev.departing
  dsimp only
  split
  · rfl
  · unfold Dev.when
    split <;> rfl

theorem onPort_regs (d : Dev) (n : Nat) (f : Port → Port) : (d.onPort n f).regs = d.regs := rfl

theorem sendFrame_regs (d : Dev) (n : Nat) (body : FrameBody) (seq : Nat) (nak : Bool) : (d.sendFrame n body seq nak).regs = d.regs := rfl

theorem faultTouches_portSend (d : Dev) {n : Nat} (pk : Packet) (hn : n < 12) : Touches faultWrites d (d.portSend n pk) := by
  unfold Dev.portSend
  extract_lets r d1
  refine faultTouches_count_of_regs 1 ?_ (by unfold portPage; omega) (by decide) (by decide)
  rw [sendFrame_regs, onPort_regs, departing_regs]

theorem faultTouches_portOffer (d : Dev) {n : Nat} (pk : Packet) (hn : n < 12) : Touches faultWrites d (d.portOffer n pk) :=
  .ite _ (faultTouches_portSend d pk hn) (.of_regs rfl)

theorem faultTouches_flood (d : Dev) (skip : Option Nat) (pk : Packet) : Touches faultWrites d (d.flood skip pk) :=
  .forEach _ d _ (fun e _ hn => faultTouches_portOffer e pk (List.mem_range.1 (List.mem_filter.1 hn).1))

theorem post_regs (d : Dev) (pk : Packet) : (d.post pk).regs = d.regs := by unfold Dev.post; split <;> rfl

theorem faultTouches_ring (d : Dev) (c : Nat) (step : W64) (r : Reason) : Touches faultWrites d (d.ring_ c step r) := by
  unfold Dev.ring_
  extract_lets x
  split
  · exact .refl _ d
  · split
    · exact .refl _ d
    · refine Touches.trans (Touches.trans (.of_regs ?_) (faultTouches_flood _ none _)) (faultTouches_count _ 1 (by decide) (by decide) (by decide))
      rfl

theorem faultTouches_verdictSend (d : Dev) (c : Nat) (step : W64) (clean : Bool) : Touches faultWrites d (d.verdictSend c step clean) := by
  unfold Dev.verdictSend
  extract_lets x
  split
  · split
    · exact .refl _ d
    · exact faultTouches_count_of_regs 1 (post_regs d _) (by decide) (by decide) (by decide)
  · exact .refl _ d

theorem faultTouches_ringPlotStep (d : Dev) (p : Nat) (r : Reason) : Touches faultWrites d (d.ringPlotStep p r) :=
  .ite _ (faultTouches_ring d _ _ r) (.refl _ d)

/-! ### A step withheld or abandoned -/

theorem withhold_regs (d : Dev) (p : Nat) : (d.withhold p).regs = d.regs := by unfold Dev.withhold; dsimp only; split <;> rfl

theorem faultTouches_closeStall (d : Dev) {n : Nat} (hn : n < 32) : Touches faultWrites d (d.closeStall n) := by
  unfold Dev.closeStall
  extract_lets p
  split
  · exact .refl _ d
  · exact faultTouches_count_of_regs _ rfl (by unfold pavPage; omega) (by decide) (by decide)

theorem faultTouches_closeGate (d : Dev) {n : Nat} (hn : n < 32) : Touches faultWrites d (d.closeGate n) :=
  .ite _ (faultTouches_count_of_regs _ rfl (by unfold pavPage; omega) (by decide) (by decide)) (.refl _ d)

theorem faultTouches_dropGate (d : Dev) {n : Nat} (hn : n < 32) : Touches faultWrites d (d.dropGate n) :=
  .ite _ ((Touches.of_regs rfl).trans (faultTouches_closeGate (d.onPav n _) hn)) (.refl _ d)

theorem faultTouches_sliceLate (d : Dev) (p : Nat) : Touches faultWrites d (d.sliceLate p) := by
  unfold Dev.sliceLate
  split
  · have hcount : ∀ n, Touches faultWrites d (d.countB 0x005 0x128 p n) :=
      fun n => faultTouches_countB d p n (by decide) (by decide) (by decide)
    exact .ite _ ((hcount _).trans (faultTouches_recordB _ p 2 .none false _ (by decide))) (.refl _ d)
  · exact .refl _ d

theorem faultTouches_chargeStep (d : Dev) (p : Nat) : Touches faultWrites d (d.chargeStep p) := by
  have hstep : ∀ (e : Dev) (o n : Nat), 0x100 ≤ o → o < 0x400 → Touches faultWrites e (e.countB 0x005 o p n) :=
    fun e o n hlo hhi => faultTouches_countB e p n (by decide) hlo hhi
  exact (((((hstep d 0x108 _ (by decide) (by decide)).trans (hstep _ 0x10C _ (by decide) (by decide))).trans
    (hstep _ 0x110 _ (by decide) (by decide))).trans (hstep _ 0x114 _ (by decide) (by decide))).trans
    (hstep _ 0x118 _ (by decide) (by decide))).trans (hstep _ 0x11C _ (by decide) (by decide))

/-- What every pass of a fold keeps, the fold keeps. -/
theorem forEach_keeps {α β : Type} (view : Dev → β) (l : List α) (d : Dev) (f : Dev → α → Dev) (h : ∀ e x, view (f e x) = view e) :
    view (forEach l d f) = view d := by
  unfold forEach
  induction l generalizing d with
  | nil => rfl
  | cons x rest ih => rw [List.foldl_cons, ih, h]

theorem faultTouches_abandon (d : Dev) (p : Nat) (r : Reason) (origin launch : Nat) : Touches faultWrites d (d.abandon p r origin launch) := by
  unfold Dev.abandon
  extract_lets sc no grp d1 d2 d3 d4 now dur d5 d6 d7 recov d8
  have h1 : Touches faultWrites d d1 := .forEach _ d _ (fun e n hn =>
    (faultTouches_closeStall e (mem_bitList_lt hn)).trans (faultTouches_dropGate _ (mem_bitList_lt hn)))
  have h2 : Touches faultWrites d1 d2 := (faultTouches_chargeStep d1 p).trans (faultTouches_sliceLate _ p)
  have h4 : d4.regs = d2.regs := forEach_keeps Dev.regs grp d2 _ (fun _ _ => rfl)
  have h6 : Touches faultWrites d4 d6 :=
    (faultTouches_recordB d4 p 1 .d false _ (by decide)).trans (faultTouches_countB _ p 1 (by decide) (by decide) (by decide))
  have h8 : d8.regs = d6.regs := by simp only [d8]; split <;> rfl
  split
  · exact .refl _ d
  · exact ((((h1.trans h2).trans (.of_regs h4)).trans h6).trans (.of_regs h8)).trans
      ((Touches.of_regs rfl).trans (faultTouches_verdictSend (d8.onCtx sc.ctx _) sc.ctx no false))

/-! ### Sets chosen anew, fences and drains -/

theorem abortAll_regs (d : Dev) (c : Nat) : (d.abortAll c).regs = d.regs := by unfold Dev.abortAll; dsimp only; split <;> rfl

theorem faultTouches_reselect (d : Dev) (c : Nat) : Touches faultWrites d (d.reselect c) := by
  unfold Dev.reselect
  extract_lets x
  split
  · exact .refl _ d
  · split
    · exact .of_regs rfl
    · refine Touches.trans (.of_regs (e := (d.setCtx c _).abortAll c) ?_) (faultTouches_recordB _ 0 2 .f false _ (by decide))
      exact abortAll_regs (d.setCtx c _) c

theorem faultTouches_reselectPlot (d : Dev) (p : Nat) : Touches faultWrites d (d.reselectPlot p) :=
  .forEach _ d _ (fun e x _ => faultTouches_reselect e x.1)

theorem faultTouches_reselectAll (d : Dev) : Touches faultWrites d d.reselectAll :=
  .forEach _ d _ (fun e p _ => faultTouches_reselectPlot e p)

theorem drainPort_regs (d : Dev) (n : Nat) : (d.drainPort n).regs = d.regs := by unfold Dev.drainPort; split <;> rfl

theorem faultDrain_regs (d : Dev) (n : Nat) : (d.faultDrain n).regs = d.regs := by
  unfold Dev.faultDrain
  split
  · exact drainPort_regs d n
  · exact drainPort_regs d n
  all_goals rfl

theorem faultTouches_fencePav (d : Dev) (n : Nat) : Touches faultWrites d (d.fencePav n) := by
  unfold Dev.fencePav
  extract_lets d1
  split
  · exact (Touches.of_regs rfl).trans (faultTouches_reselectPlot (d1.onStep _ _) _)
  · exact .of_regs rfl

/-- A step's bell rung and its outputs withheld. -/
theorem faultTouches_ring_withhold (d : Dev) (p : Nat) (r : Reason) : Touches faultWrites d ((d.ringPlotStep p r).withhold p) :=
  (faultTouches_ringPlotStep d p r).trans (.of_regs (withhold_regs _ p))

/-! ### The consequence of each class -/

theorem faultTouches_consD (d : Dev) (w : Where) (r : Reason) : Touches faultWrites d (d.consD w r) :=
  .forEach _ d _ (fun e p _ => faultTouches_ring_withhold e p r)

theorem faultTouches_consFPav (d : Dev) (n : Nat) (abandon : Bool) (w : Where) : Touches faultWrites d (d.consFPav n abandon w) := by
  unfold Dev.consFPav
  extract_lets d1 d2
  have h2 : Touches faultWrites d1 d2 := by
    simp only [d2]
    split
    · exact .ite _ (faultTouches_abandon d1 _ _ _ _) (.refl _ d1)
    · exact .refl _ d1
  exact ((faultTouches_consD d w .localFault).trans h2).trans (faultTouches_fencePav d2 n)

theorem faultTouches_consFPort (d : Dev) (n : Nat) : Touches faultWrites d (d.consFPort n) :=
  ((Touches.forEach _ d _ (fun e p _ => faultTouches_ring_withhold e p .localFault)).trans (.of_regs (faultDrain_regs _ n))).trans
    (faultTouches_reselectAll _)

theorem faultTouches_fatalStop (d : Dev) : Touches faultWrites d d.fatalStop :=
  (Touches.forEach _ d _ (fun e p _ => (faultTouches_ringPlotStep e p .localFault).trans (faultTouches_abandon _ p _ _ _))).trans (.of_regs rfl)

/-- The consequence of a fault, whatever its class. -/
theorem faultTouches_consequence (d : Dev) (page : Nat) (cls : FaultClass) (abandon : Bool) (w : Where) (r : Reason) :
    Touches faultWrites d (d.consequence page cls abandon w r) := by
  unfold Dev.consequence
  cases cls with
  | none => exact .refl _ d
  | c => exact .refl _ d
  | d => exact faultTouches_consD d w r
  | f =>
    refine .ite _ (faultTouches_consFPort d _) ?_
    split
    · exact faultTouches_consFPav d _ abandon w
    · exact faultTouches_consD d w r
  | x => exact .ite _ (faultTouches_fatalStop d) ((faultTouches_fatalStop d).trans (faultTouches_recordB _ 0 20 .x false _ (by decide)))

/-- A fault raised: its record and its consequence. -/
theorem faultTouches_raise (d : Dev) {page : Nat} (bit : Nat) (w : Where) (hpg : page < 4096) : Touches faultWrites d (d.raise page bit w) :=
  (faultTouches_recordB d 0 bit _ false w hpg).trans (faultTouches_consequence _ page _ false w .localFault)

end Sys2Proof.Laws
end

section
/-! SUPPORT. The register window: what a route sees of the device, one register read or written by a message, and the plain write (R9, R564,
R586, R588, R600). -/
namespace Sys2Proof.Laws
open Sys2Proof.Machine

/-! ### Items, rights and counts under way -/

/-- The item that a route's selectors name depends on the route's copies of the selectors alone. -/
theorem bank_of_sels {d e : Dev} (h : e.sels = d.sels) (r : Route) (g : Rights) (page off : Nat) : e.bank r g page off = d.bank r g page off := by
  simp only [Dev.bank, Dev.plotView, Dev.sel, h]

@[simp] theorem bank_count (d : Dev) (pg o n : Nat) (r : Route) (g : Rights) (page off : Nat) :
    (d.count pg o n).bank r g page off = d.bank r g page off := bank_of_sels (by simp) r g page off

/-- What the rights of a route and the items it names rest on. -/
def routeView (d : Dev) : SMap Conn × SMap Sess × SMap W32 := (d.conns, d.sess, d.sels)

/-- The rights of a route rest on its connection and session. -/
theorem rights_of_routeView (s : State) {d : Dev} (h : routeView d = routeView s.dev) (r : Route) :
    ({ s with dev := d } : State).rights r = s.rights r := by
  simp only [routeView, Prod.mk.injEq] at h
  obtain ⟨hconns, hsess, -⟩ := h
  cases r with
  | gct c =>
    unfold State.rights State.connRights Dev.conn
    rw [hconns, hsess]
  | space3 src => rfl
  | belvedere role => rfl

theorem routeView_count (d : Dev) (pg o n : Nat) : routeView (d.count pg o n) = routeView d := by simp [routeView]

theorem routeView_closeStall (d : Dev) (n : Nat) : routeView (d.closeStall n) = routeView d := by
  unfold Dev.closeStall
  dsimp only
  split
  · rfl
  · exact routeView_count _ _ _ _

theorem routeView_chargeVerify (d : Dev) (c : Nat) : routeView (d.chargeVerify c) = routeView d := by
  unfold Dev.chargeVerify
  dsimp only
  split
  · rfl
  · exact routeView_count _ _ _ _

/-- Counting what is under way changes no route's rights or items. -/
theorem routeView_settleCounts (d : Dev) (page : Nat) : routeView (d.settleCounts page) = routeView d := by
  unfold Dev.settleCounts
  extract_lets now n d1 p
  have h1 : routeView d1 = routeView d := by
    simp only [d1]
    split
    · exact routeView_closeStall d n
    · rfl
  split
  · split
    · exact (routeView_count _ _ _ _).trans h1
    · exact h1
  · split
    · refine forEach_keeps routeView _ d _ (fun e x => ?_)
      split
      · exact routeView_count _ _ _ _
      · rfl
    · split
      · exact forEach_keeps routeView _ d _ (fun e c => routeView_chargeVerify e c)
      · rfl

/-- The registers of every page but DEVICE. -/
def offDevice (pg _off : Nat) : Bool := decide (pg ≠ 0)

theorem offDeviceTouches_count_of_regs {d e : Dev} {pg o : Nat} (n : Nat) (h : e.regs = d.regs) (hpg : pg < 4096) (h0 : pg ≠ 0)
    (hlo : 0x020 < o) (hhi : o < 4096) : Touches offDevice d (e.count pg o n) :=
  (Touches.of_regs h).trans (touches_count e n hpg hhi hlo (by simpa [offDevice] using h0))

/-- Counting what is under way writes no register of DEVICE. -/
theorem touches_settleCounts (d : Dev) (page : Nat) : Touches offDevice d (d.settleCounts page) := by
  unfold Dev.settleCounts
  extract_lets now n d1 p
  split
  next hpav =>
    have h1 : Touches offDevice d d1 := by
      simp only [d1]
      split
      · refine Touches.trans ?_ (.of_regs (d := d.closeStall n) rfl)
        unfold Dev.closeStall
        dsimp only
        split
        · exact .refl _ d
        · exact offDeviceTouches_count_of_regs _ rfl (by unfold pavPage; omega) (by unfold pavPage; omega) (by decide) (by decide)
      · exact .refl _ d
    exact .ite _ (h1.trans (offDeviceTouches_count_of_regs _ rfl (by omega) (by omega) (by decide) (by decide))) h1
  next =>
    refine .ite _ (.forEach _ d _ (fun e x _ => ?_)) (.ite _ (.forEach _ d _ (fun e c _ => ?_)) (.refl _ d))
    · split
      · exact offDeviceTouches_count_of_regs _ rfl (by decide) (by decide) (by decide) (by decide)
      · exact .refl _ e
    · unfold Dev.chargeVerify
      dsimp only
      split
      · exact .refl _ e
      · exact offDeviceTouches_count_of_regs _ rfl (by decide) (by decide) (by decide) (by decide)

/-! ### Messages of one register -/

theorem msg_page {off : Nat} (page : Nat) (ho : off < 4096) : (4096 * page + off) / 4096 = page := by omega

theorem msg_off {off : Nat} (page : Nat) (ho : off < 4096) : (4096 * page + off) % 4096 = off := by omega

theorem page_lt_of_msgFits {page off n : Nat} (h : msgFits (4096 * page + off) n = true) : page < 4096 := by
  simp only [msgFits, Bool.and_eq_true, decide_eq_true_eq] at h
  omega

/-- A read message of one register whose check passes. -/
theorem readMsg_one (s : State) (r : Route) {page off : Nat} (hfit : msgFits (4096 * page + off) 1 = true) (ho : off < 4096)
    (hst : s.readStatus r page off = 0) :
    s.readMsg r (4096 * page + off) 1 = (0, [(s.readReg r page off).1], (s.readReg r page off).2) := by
  simp [State.readMsg, hfit, msg_page page ho, msg_off page ho, hst, firstStatus, State.readRegs]

/-- A write message of one register of the table: refused by its status, or written. -/
theorem writeMsg_one (s : State) (r : Route) {page off : Nat} (v : Nat) (hfit : msgFits (4096 * page + off) 1 = true) (ho : off < 4096)
    (hrow : (regRow page off).isSome = true) :
    (s.writeMsg r (4096 * page + off) [v]).2 =
      if s.writeStatus r page off v = 0 then s.putReg r page off v
      else { s with dev := s.dev.refuse page off (s.writeStatus r page off v) (s.accessStatus r page off v = 0) } := by
  have hnone : (regRow page off).isNone = false := by rw [Option.isNone_eq_false_iff]; exact hrow
  by_cases h : s.writeStatus r page off v = 0 <;>
    simp [State.writeMsg, hfit, msg_page page ho, msg_off page ho, State.checkRegs, hnone, h, State.putRegs, List.range_succ]

/-- A counter read: its value goes back, and it is cleared. -/
theorem readReg_rc (s : State) (r : Route) {page off : Nat} {row : RegRow} (hrow : regRow page off = some row) (hrc : row.acc = .rc) :
    s.readReg r page off =
      (({ s with dev := s.dev.settleCounts page } : State).readValue r (s.rights r) page off,
        { s with dev := ((s.dev.settleCounts page).setN page off (s.dev.bank r (s.rights r) page off) 0).count 0x000 0x100 1 }) := by
  have hview := routeView_settleCounts s.dev page
  have hsels : (s.dev.settleCounts page).sels = s.dev.sels := congrArg (fun v => v.2.2) hview
  simp only [State.readReg, hrow, hrc, if_true, rights_of_routeView s hview, bank_of_sels hsels]

/-! ### The plain write -/

/-- Nothing is under way that a page's counters count, on a page that counts only events. -/
theorem settleCounts_power (d : Dev) : d.settleCounts 0x006 = d := rfl

/-- INT_ENABLE and RESET_CTRL, which act, are no plain registers. -/
theorem plain_acts_on_nothing {page off : Nat} (hplain : plainReg page off) : off ≠ 0x02C ∧ off ≠ 0x030 := by
  rcases hplain with rfl | ⟨-, h2C, h30⟩
  · decide
  · exact ⟨h2C, h30⟩

theorem storeReg_plain (d : Dev) (r : Route) (g : Rights) {page off : Nat} (v : Nat) {row : RegRow} (hrow : regRow page off = some row)
    (hrw : row.acc = .rw) (hpair : row.pair = false) (hsel : isSel page off = false) (hplain : plainReg page off) :
    d.storeReg r g page off v = d.setN page off (d.bank r g page off) (v &&& plainMask row page off) := by
  obtain ⟨h2C, h30⟩ := plain_acts_on_nothing hplain
  have hbase : (if off = 0x010 then d.settleCounts page
      else if (page = 0x051 && inOff off 0x800 0x9FC) = true then d.noteFence ((off - 0x800) / 4) else d) = d := by
    rcases hplain with rfl | ⟨rfl, -, -⟩
    · simp [inOff]
    · simp [settleCounts_power]
  simp only [Dev.storeReg, hrow, hsel, hrw, hpair, h30, h2C, hbase, plainMask]
  simp

/-- ERR_MASK and the plain registers of POWER act on nothing else. -/
theorem afterWrite_plain (d d0 : Dev) (r : Route) (g : Rights) {page off : Nat} (hplain : plainReg page off) :
    d.afterWrite d0 r g page off = d := by
  unfold Dev.afterWrite
  dsimp only
  rcases hplain with rfl | ⟨rfl, h, -⟩
  · rw [if_neg (by decide)]
    split <;> simp [inOff]
  · simp [h]

/-- A plain register written. -/
theorem putReg_plain (s : State) (r : Route) {page off : Nat} (v : Nat) {row : RegRow} (hrow : regRow page off = some row)
    (hrw : row.acc = .rw) (hpair : row.pair = false) (hsel : isSel page off = false) (hplain : plainReg page off)
    (hfused : s.dev.fusedPage page = false) :
    s.putReg r page off v =
      { s with dev := (s.dev.count 0x000 0x104 1).setN page off (s.dev.bank r (s.rights r) page off) (v &&& plainMask row page off) } := by
  have hupd : ¬ (page = 0x001 ∧ off = 0x420) := by rintro ⟨rfl, rfl⟩; simp [plainReg] at hplain
  have hdel : ¬ (page = 0x008 ∧ off = 0x5EC) := by rintro ⟨rfl, rfl⟩; simp [plainReg] at hplain
  have hact : actsOn row page off = false := by
    simp [actsOn, hrw, (plain_acts_on_nothing hplain).2]
  simp only [State.putReg, hrow, hfused, hupd, hdel, hact, hrw, hpair, storeReg_plain _ r _ v hrow hrw hpair hsel hplain,
    afterWrite_plain _ _ r _ hplain, bank_count]
  simp

end Sys2Proof.Laws
end

section
/-! SUPPORT. The register commands with an effect of their own: ROLE and the sync state it chooses anew, PORT_ENABLE and the ports it takes
off, ERR_INJECT (R217, R328, R378, R595, R597, R602). -/
namespace Sys2Proof.Laws
open Sys2Proof.Machine

/-! ### The sync state chosen anew -/

/-- The alarm of a lost sync is class C: its record is all it does. -/
theorem raise_syncAlarm (d : Dev) (w : Where) : d.raise 0x004 3 w = d.recordB 0x004 0 3 .c false w := rfl

theorem faultTouches_setSync (d : Dev) (st : Nat) (up : Option Nat) : Touches faultWrites d (d.setSync st up) := by
  unfold Dev.setSync
  extract_lets time d1
  have h1 : Touches faultWrites d d1 := .of_regs rfl
  exact .ite _ ((h1.trans (faultTouches_count d1 1 (by decide) (by decide) (by decide))).trans (faultTouches_raise _ 3 _ (by decide))) h1

theorem hush_setSync (d : Dev) (st : Nat) (up : Option Nat) : hush (d.setSync st up) = hush { d with time := (d.setSync st up).time } := by
  unfold Dev.setSync
  dsimp only
  split
  · rw [raise_syncAlarm, hush_recordB, hush_count, recordB_time, Dev_count_time]
  · rfl

/-- What choosing the sync state anew can do. -/
theorem retime_cases (d : Dev) : d.retime = d ∨ ∃ st up, d.retime = d.setSync st up := by
  unfold Dev.retime
  extract_lets cand pick up
  split
  · exact .inr ⟨_, _, rfl⟩
  · split
    · exact .inr ⟨_, _, rfl⟩
    · split
      · exact .inl rfl
      · exact .inr ⟨_, _, rfl⟩

theorem faultTouches_retime (d : Dev) : Touches faultWrites d d.retime := by
  rcases retime_cases d with h | ⟨st, up, h⟩ <;> rw [h]
  · exact .refl _ d
  · exact faultTouches_setSync d st up

/-- Choosing the sync state anew changes the time domain and what a record may change. -/
theorem hush_retime (d : Dev) : hush d.retime = hush { d with time := d.retime.time } := by
  rcases retime_cases d with h | ⟨st, up, h⟩
  · rw [h]
  · rw [h]; exact hush_setSync d st up

theorem retime_ports (d : Dev) : d.retime.ports = d.ports :=
  show (hush d.retime).ports = (hush { d with time := d.retime.time }).ports from congrArg Dev.ports (hush_retime d)

theorem retime_belv (d : Dev) : d.retime.belv = d.belv :=
  show (hush d.retime).belv = (hush { d with time := d.retime.time }).belv from congrArg Dev.belv (hush_retime d)

/-! ### ROLE -/

theorem roleWrite_role (d : Dev) (v : Nat) : (d.roleWrite v).rgN 0x000 0x410 0 = v % 4 := by
  unfold Dev.roleWrite
  extract_lets d1
  rw [(faultTouches_retime _).1 0x000 0x410 0 (by decide) (by decide) (by decide)]
  exact (rgN_setN_same d 0x000 0x410 0 _).trans (Nat.mod_eq_of_lt (by omega))

theorem hush_roleWrite (d : Dev) (v : Nat) :
    hush (d.roleWrite v) = hush { d with belv := (d.roleWrite v).belv, time := (d.roleWrite v).time } := by
  unfold Dev.roleWrite
  extract_lets d1
  rw [hush_retime, retime_belv]
  rfl

/-- The measurements and the time domain are no part of what a record may change. -/
theorem hush_belv_time {d e : Dev} (h : hush d = hush e) (b : Belv) (t : Time) :
    hush { d with belv := b, time := t } = hush { e with belv := b, time := t } :=
  congrArg (fun x : Dev => { x with belv := b, time := t }) h

/-! ### PORT_ENABLE -/

theorem reselect_ports (d : Dev) (c : Nat) : (d.reselect c).ports = d.ports := by
  have habort : ∀ e : Dev, (e.abortAll c).ports = e.ports := fun e => by
    unfold Dev.abortAll
    dsimp only
    split <;> rfl
  unfold Dev.reselect
  dsimp only
  split
  · rfl
  · split
    · rfl
    · rw [recordB_ports, habort, Dev_setCtx_ports]

theorem reselectAll_ports (d : Dev) : d.reselectAll.ports = d.ports :=
  forEach_keeps Dev.ports _ d _ (fun e _ => forEach_keeps Dev.ports _ e _ (fun f x => reselect_ports f x.1))

theorem port_of_ports {d e : Dev} (h : e.ports = d.ports) (n : Nat) : e.port n = d.port n := by unfold Dev.port; rw [h]

/-- The answers to what a port flushes. -/
theorem flushAnswers_keep (d : Dev) (l : List (Nat × Nat × Packet)) :
    let e := forEach l d (fun s e => if e.2.2.unanswered then s else s.flushNotice e.2.2 7)
    e.ports = d.ports ∧ e.regs = d.regs := by
  have hpost : ∀ (e : Dev) (p : Packet), (e.flushNotice p 7).ports = e.ports ∧ (e.flushNotice p 7).regs = e.regs := by
    intro e p
    unfold Dev.flushNotice Dev.post
    split
    · exact ⟨rfl, rfl⟩
    · split <;> exact ⟨rfl, rfl⟩
  constructor
  · refine forEach_keeps Dev.ports l d _ (fun e x => ?_)
    split
    · rfl
    · exact (hpost e _).1
  · refine forEach_keeps Dev.regs l d _ (fun e x => ?_)
    split
    · rfl
    · exact (hpost e _).2

theorem portOff_ports (d : Dev) (n cause : Nat) :
    ∃ p, (d.portOff n cause).ports = setAt (setAt d.ports n p) n { Port.off with cause := cause, downTick := (d.port n).downTick } := by
  unfold Dev.portOff Dev.flushPort Dev.noLanes
  extract_lets p d1
  refine ⟨{ p with replay := [], waiting := [], graceOpen := false, drainAfter := false }, ?_⟩
  have h1 : d1.ports = d.ports := (flushAnswers_keep d p.replay).1
  rw [← h1]
  simp only [Dev.setPort, Dev_setN_ports, Dev_count_ports]

/-- A port taken off: it keeps the tick it was last down, and no other port changes. -/
theorem portOff_port (d : Dev) {n m : Nat} (hn : n < d.ports.length) :
    (d.portOff m 0).port n = if n = m then { Port.off with downTick := (d.port n).downTick } else d.port n := by
  obtain ⟨p, hp⟩ := portOff_ports d m 0
  by_cases h : n = m
  · subst h; simp [Dev.port, hp, nthD, setAt, hn]; rfl
  · simp [Dev.port, hp, nthD, setAt, h, Ne.symm h]

theorem portOff_length (d : Dev) (m : Nat) : (d.portOff m 0).ports.length = d.ports.length := by
  obtain ⟨p, hp⟩ := portOff_ports d m 0
  simp [hp, setAt]

/-- A list of ports taken off. -/
theorem portsOff_port (l : List Nat) (d : Dev) {n : Nat} (hn : n < d.ports.length) :
    (forEach l d (fun s m => s.portOff m 0)).port n =
      if n ∈ l then { Port.off with downTick := (d.port n).downTick } else d.port n := by
  induction l generalizing d with
  | nil => rfl
  | cons m rest ih =>
    have hstep := portOff_port d (m := m) hn
    rw [forEach, List.foldl_cons, ← forEach, ih (d.portOff m 0) (by rw [portOff_length]; exact hn), hstep]
    by_cases h : n = m
    · simp [h]
    · simp [h]

/-- A port taken off writes registers of its own page only. -/
theorem touches_portOff (d : Dev) {n : Nat} (cause : Nat) (hn : n < 12) : Touches offDevice d (d.portOff n cause) := by
  have hpg : portPage n < 4096 := by unfold portPage; omega
  have hW : ∀ o, offDevice (portPage n) o = true := fun o => by unfold offDevice portPage; exact decide_eq_true (by omega)
  have hset : ∀ (e : Dev) (o v : Nat), o < 4096 → 0x020 < o → Touches offDevice e (e.setN (portPage n) o 0 v) :=
    fun e o v ho hlo => touches_setN e 0 v hpg ho (by omega) (by omega) (hW o)
  have hflush : Touches offDevice d (d.flushPort n) :=
    (Touches.of_regs (flushAnswers_keep d (d.port n).replay).2).trans
      ((Touches.of_regs rfl).trans (touches_count (Dev.setPort _ n _) _ hpg (by decide) (by decide) (hW 0x14C)))
  have hlanes : ∀ e : Dev, Touches offDevice e (e.noLanes n) := fun e =>
    ((hset e 0x600 0 (by decide) (by decide)).trans (hset _ 0x604 0 (by decide) (by decide))).trans (hset _ 0x608 0 (by decide) (by decide))
  exact (hflush.trans (hlanes _)).trans (.of_regs rfl)

/-- The ports that leave PORT_MAP. -/
def portsGone (d : Dev) (v : Nat) : List Nat := (List.range 12).filter (fun n => bitN d.portMap n && !bitN v n)

/-- PORT_MAP stored and the ports that leave it taken off. -/
def portsOff (d : Dev) (v : Nat) : Dev := forEach (portsGone d v) (d.setN 0x000 0x414 0 (v % 2 ^ 12)) (fun s n => s.portOff n 0)

theorem portEnable_eq (d : Dev) (v : Nat) :
    d.portEnable v = if (portsGone d v).isEmpty then portsOff d v else (portsOff d v).reselectAll.retime := rfl

theorem portsOff_map (d : Dev) (v : Nat) : (portsOff d v).rgN 0x000 0x414 0 = v % 2 ^ 12 := by
  have hoff : Touches offDevice (d.setN 0x000 0x414 0 (v % 2 ^ 12)) (portsOff d v) :=
    .forEach _ _ _ (fun e n hn => touches_portOff e 0 (List.mem_range.1 (List.mem_filter.1 hn).1))
  rw [hoff.1 0x000 0x414 0 (by decide) (by decide) (by decide), rgN_setN_same]
  exact Nat.mod_eq_of_lt (by omega)

theorem portEnable_map (d : Dev) (v : Nat) : (d.portEnable v).rgN 0x000 0x414 0 = v % 2 ^ 12 := by
  rw [portEnable_eq]
  split
  · exact portsOff_map d v
  · rw [((faultTouches_reselectAll _).trans (faultTouches_retime _)).1 0x000 0x414 0 (by decide) (by decide) (by decide), portsOff_map]

/-- PORT_ENABLE takes off the ports that leave the map, and those alone. -/
theorem portEnable_port (d : Dev) (v : Nat) {n : Nat} (hlen : d.ports.length = 12) (hn : n < 12) :
    (d.portEnable v).port n =
      if bitN d.portMap n && !bitN v n then { Port.off with downTick := (d.port n).downTick } else d.port n := by
  have hports : (d.portEnable v).ports = (portsOff d v).ports := by
    rw [portEnable_eq]
    split
    · rfl
    · rw [retime_ports, reselectAll_ports]
  rw [port_of_ports hports, portsOff, portsOff_port _ _ (by rw [Dev_setN_ports, hlen]; exact hn),
    port_of_ports (Dev_setN_ports d 0x000 0x414 0 _)]
  simp [portsGone, hn]

/-! ### ERR_INJECT -/

/-- A fault's counter is a page counter. -/
theorem faultCounter_offset {block bit p o : Nat} (h : faultCounter block bit = some (p, o)) :
    p < 4096 ∧ 0x100 ≤ o ∧ o < 0x400 := by
  unfold faultCounter at h
  dsimp only at h
  split at h <;> simp only [Option.some.injEq, Prod.mk.injEq, reduceCtorEq] at h <;> omega

/-- The advance of a fault's own counter. -/
def injectCounts (d : Dev) (page bank bit : Nat) : Dev :=
  match faultCounter ((blockOf page).getD 0xFFF) bit with
  | some (p, o) => if p = 0xFFF then d.countB page o bank 1 else d.count p o 1
  | none => d

/-- The registers from 0x100 on: a page's counters. -/
def pastFlags (_pg off : Nat) : Bool := decide (0x100 ≤ off)

theorem touches_injectCounts (d : Dev) {page : Nat} (bank bit : Nat) (hpg : page < 4096) :
    Touches pastFlags d (injectCounts d page bank bit) := by
  unfold injectCounts
  split
  next p o h =>
    obtain ⟨hp, hlo, hhi⟩ := faultCounter_offset h
    exact .ite _ (touches_countB d bank 1 hpg (by omega) (by omega) (decide_eq_true hlo))
      (touches_count d 1 hp (by omega) (by omega) (decide_eq_true hlo))
  next => exact .refl _ d

/-- An injection that is taken: the source counts, its fault is recorded as injected, and what follows keeps the flags (R597). -/
theorem touches_inject (d : Dev) {page : Nat} (bank bit : Nat) {cls : FaultClass} (hpg : page < 4096)
    (hcls : errClass ((blockOf page).getD 0xFFF) bit = some cls) (hx : cls ≠ .x) (hlock : bitN (d.rgN page 0x034 bank) 1 = false) :
    Touches faultWrites (flagged (injectCounts d page bank bit) page bank bit true) (d.inject_ page bank bit) := by
  have hrec := (touches_recordB_of_flagged (injectCounts d page bank bit) bank bit cls true (d.injectWhere page bank) hpg).fault
  unfold Dev.inject_
  simp only [hcls, hx, hlock, decide_false, Bool.or_self, Bool.false_eq_true, if_false]
  split
  · exact (hrec.trans (faultTouches_consequence _ page cls false _ _)).trans (faultTouches_abandon _ _ _ _ _)
  · exact hrec.trans (faultTouches_consequence _ page cls false _ _)

end Sys2Proof.Laws
end

section
/-! SUPPORT. The register accesses of the window, one by one: plain, refused, clearing, locking, injecting and counting ones (R9, R587 to R602),
and the statement about them. -/
namespace Sys2Proof.Laws
open Sys2Proof.Machine

/-! ### What a register command leaves -/

/-- A page that the index holds. -/
theorem page_lt_of_block {page : Nat} (h : (blockOf page).isNone = false) : page < 4096 := by
  refine Nat.lt_of_not_le (fun hge => ?_)
  have hnone : blockOf page = none := by
    simp only [blockOf]
    repeat rw [if_neg (by omega)]
  rw [hnone] at h
  cases h

theorem page_lt_of_admits {s : State} {r : Route} {page off v : Nat} (h : s.admits r page off v) : page < 4096 := by
  obtain ⟨-, hst, -⟩ := h
  refine page_lt_of_block (Bool.eq_false_iff.2 (fun hn => ?_))
  have hrange : s.accessStatus r page off v = 4 := by simp only [State.accessStatus, hn, if_true]
  simp [State.writeStatus, hrange] at hst

/-- A register of a page other than DEVICE, or at another offset, while DEVICE counts an access. -/
theorem reg_count (d : Dev) {o n pg' o' b' : Nat} (ho : o < 4096) (ho' : o' < 4096) (hne : o' ≠ o) :
    (d.count 0x000 o n).rgN pg' o' b' = d.rgN pg' o' b' := rgN_count_other d n (rk_ne_of_off ho ho' hne)

theorem rg_count (d : Dev) {o n pg' o' b' : Nat} (ho : o < 4096) (ho' : o' < 4096) (hne : o' ≠ o) :
    (d.count 0x000 o n).rg pg' o' b' = d.rg pg' o' b' := BitVec.eq_of_toNat_eq (reg_count d ho ho' hne)

/-! ### Generic writes -/

theorem exec_regWriteGeneric (s : State) (r : Route) {page off : Nat} (v : W32) (ha : s.dev.answers = true)
    (hfit : msgFits (4096 * page + off) 1 = true) (ho : off < 4096) (hrow : (regRow page off).isSome = true) :
    exec (.regWriteGeneric r page off v) s = .next (if s.writeStatus r page off v.toNat = 0 then s.putReg r page off v.toNat
      else { s with dev := s.dev.refuse page off (s.writeStatus r page off v.toNat) (s.accessStatus r page off v.toNat = 0) }) := by
  have hexec : exec (.regWriteGeneric r page off v) s = execRegWriteGeneric r page off v s := rfl
  rw [hexec, execRegWriteGeneric, ha, if_pos rfl, writeMsg_one s r _ hfit ho hrow]

theorem putReg_fused (s : State) (r : Route) {page off : Nat} (v : Nat) (hrow : (regRow page off).isSome = true)
    (hf : s.dev.fusedPage page = true) : s.putReg r page off v = { s with dev := s.dev.count 0x000 0x104 1 } := by
  obtain ⟨row, hrow⟩ := Option.isSome_iff_exists.1 hrow
  simp only [State.putReg, hrow, hf, if_true]

/-- A plain register is no counter of DEVICE. -/
theorem plain_rk {page off : Nat} (hplain : plainReg page off) (hpg : page < 4096) (ho : off < 4096) {o : Nat} (h : o < 4096)
    (hne : o ≠ 0x01C) (b b' : Nat) : rk page off b ≠ rk 0x000 o b' := by
  rcases hplain with rfl | ⟨rfl, -, -⟩
  · exact rk_ne_of_off h (by decide) hne.symm
  · exact rk_page (by decide) h (by decide) ho (by decide)

/-- The record of a fault of DEVICE or the Gatehouse leaves the plain registers alone. -/
theorem record_keeps_plain (d : Dev) {page off pg : Nat} (bit b : Nat) (w : Where) (hplain : plainReg page off) (hpg : page < 4096)
    (ho : off < 4096) (hsrc : pg = 0x000 ∨ pg = 0x002) : (d.record pg bit w).rgN page off b = d.rgN page off b := by
  have hsrc' : pg < 4096 := by omega
  rcases hplain with rfl | ⟨rfl, -, -⟩
  · exact (touches_record d bit w hsrc').1 page 0x01C b hpg (by decide) (by simp [recordWrites])
  · exact rgN_recordB d _ false w hsrc' (by decide) ho (by omega) (by decide) (by decide) (by decide) (by decide)

/-- What a refused write of a plain register does: ACCESS_REFUSED counted and recorded, and the Gatehouse's record where a budget that a
bundle holds refuses it (R218, R592). -/
theorem refuse_plain_cases (d : Dev) {page off : Nat} (st : Nat) (own : Bool) (hplain : plainReg page off) :
    d.refuse page off st own = (d.count 0x000 0x108 1).record 0x000 0 Where.none ∨
      d.refuse page off st own = ((d.count 0x000 0x108 1).record 0x000 0 Where.none).record 0x002 4 Where.none := by
  unfold Dev.refuse
  extract_lets d1
  split
  · exact .inl rfl
  · split
    · exact .inr rfl
    · left
      rcases hplain with rfl | ⟨rfl, -, -⟩ <;> simp [d1]

/-- A refused write of a plain register leaves it as it was, and counts. -/
theorem refused_plain (s : State) {page off : Nat} (st b : Nat) (own : Bool) (hplain : plainReg page off) (hpg : page < 4096)
    (ho : off < 4096) :
    let t : State := { s with dev := s.dev.refuse page off st own }
    t.reg page off b = s.reg page off b ∧ Counts s t 0x000 0x108 1 ∧ Changes s t (fun d _ => d) := by
  have hcount : (s.dev.count 0x000 0x108 1).rgN page off b = s.dev.rgN page off b :=
    rgN_count_other s.dev 1 (plain_rk hplain hpg ho (by decide) (by decide) b 0)
  have hkeep : ∀ (e : Dev) (pg bit : Nat), (pg = 0x000 ∨ pg = 0x002) →
      (e.record pg bit Where.none).rgN page off b = e.rgN page off b ∧ (e.record pg bit Where.none).rgN 0x000 0x108 0 = e.rgN 0x000 0x108 0 :=
    fun e pg bit hsrc => ⟨record_keeps_plain e bit b _ hplain hpg ho hsrc,
      (touches_record e bit _ (by omega)).1 0x000 0x108 0 (by decide) (by decide) (by decide)⟩
  simp only [Counts, State.reg]
  rcases refuse_plain_cases s.dev st own hplain with h | h <;> rw [h]
  · exact ⟨(hkeep _ _ _ (.inl rfl)).1.trans hcount, (hkeep _ _ _ (.inl rfl)).2.trans (rgN_count_same s.dev 0x000 0x108 1),
      changes_dev s _ _ (by simp)⟩
  · exact ⟨((hkeep _ _ _ (.inr rfl)).1.trans (hkeep _ _ _ (.inl rfl)).1).trans hcount,
      ((hkeep _ _ _ (.inr rfl)).2.trans (hkeep _ _ _ (.inl rfl)).2).trans (rgN_count_same s.dev 0x000 0x108 1),
      changes_dev s _ _ (by simp)⟩

/-- A write to the page of a fused pavilion counts and changes nothing else (R95). -/
theorem fused_plain (s : State) {page off : Nat} (b : Nat) (hplain : plainReg page off) (hpg : page < 4096) (ho : off < 4096) :
    let t : State := { s with dev := s.dev.count 0x000 0x104 1 }
    t.reg page off b = s.reg page off b ∧ Counts s t 0x000 0x104 1 ∧ Changes s t (fun d _ => d) :=
  ⟨rgN_count_other s.dev 1 (plain_rk hplain hpg ho (by decide) (by decide) b 0), rgN_count_same s.dev 0x000 0x104 1,
    changes_dev s _ _ (by simp)⟩

/-- A plain write stores its value and nothing else. -/
theorem stored_plain (s : State) {page off : Nat} (b v : Nat) (hv : v < 2 ^ 32) (hplain : plainReg page off) (hpg : page < 4096)
    (ho : off < 4096) :
    let t : State := { s with dev := (s.dev.count 0x000 0x104 1).setN page off b v }
    t.reg page off b = v ∧ Counts s t 0x000 0x104 1 ∧
      (∀ pg o b', pg < 4096 → o < 4096 → (pg, o, b') ≠ (page, off, b) → (pg, o) ≠ (0x000, 0x104) → t.reg pg o b' = s.reg pg o b') ∧
      Changes s t (fun d _ => d) := by
  refine ⟨?_, ?_, fun pg o b' hp' ho' hne hne' => ?_, changes_dev s _ _ (by simp)⟩
  · exact (rgN_setN_same _ page off b v).trans (Nat.mod_eq_of_lt hv)
  · exact (rgN_setN_other _ v (plain_rk hplain hpg ho (by decide) (by decide) b 0).symm).trans (rgN_count_same s.dev 0x000 0x104 1)
  · have hrk : rk pg o b' ≠ rk page off b := fun h => by
      obtain ⟨rfl, rfl, rfl⟩ := rk_inj hp' ho' hpg ho h
      exact hne rfl
    have hrk' : rk pg o b' ≠ rk 0x000 0x104 0 := fun h => by
      obtain ⟨rfl, rfl, -⟩ := rk_inj hp' ho' (by decide) (by decide) h
      exact hne' rfl
    exact (rgN_setN_other _ v hrk).trans (rgN_count_other s.dev 1 hrk')

/-! ### Counters -/

/-- CTRL is no counter. -/
theorem ctrl_not_rc {page : Nat} {row : RegRow} (h : regRow page 0x010 = some row) : row.acc ≠ .rc := by
  unfold regRow at h
  split at h
  · cases h
  · rw [if_pos (by decide), show rowAt (regRows 0xFFF) 0x010 = some ⟨0x010, 0x010, .rw, 0x1, 0, false⟩ from rfl] at h
    cases h
    decide

theorem exec_counterRead (s : State) (r : Route) {page off : Nat} {row : RegRow} (ha : s.dev.answers = true)
    (hfit : msgFits (4096 * page + off) 1 = true) (ho : off < 4096) (hst : s.readStatus r page off = 0)
    (hrow : regRow page off = some row) (hrc : row.acc = .rc) :
    exec (.counterRead r page off) s = .next { s with
      dev := (((s.dev.settleCounts page).setN page off (s.dev.bank r (s.rights r) page off) 0).count 0x000 0x100 1).emit
        (.readback (4096 * page + off)
          (BitVec.ofNat 32 (({ s with dev := s.dev.settleCounts page } : State).readValue r (s.rights r) page off))) } := by
  have hexec : exec (.counterRead r page off) s = execCounterRead r page off s := rfl
  rw [hexec, execCounterRead, ha, if_pos rfl, State.counterRead, readMsg_one s r hfit ho hst, readReg_rc s r hrow hrc]

/-- A counter read clears it and counts the read. -/
theorem counter_cleared (d : Dev) {page off : Nat} (b : Nat) {row : RegRow} (hpg : page < 4096) (ho : off < 4096)
    (hrow : regRow page off = some row) (hrc : row.acc = .rc) (hne : (page, off) ≠ (0x000, 0x100)) :
    let e := ((d.settleCounts page).setN page off b 0).count 0x000 0x100 1
    e.rgN page off b = 0 ∧
      e.rgN 0x000 0x100 0 = if bitN (d.rgN 0x000 0x010 0) 0 then d.rgN 0x000 0x100 0 else min (2 ^ 32 - 1) (d.rgN 0x000 0x100 0 + 1) := by
  have hread : rk page off b ≠ rk 0x000 0x100 0 := fun h => by
    obtain ⟨rfl, rfl, -⟩ := rk_inj hpg ho (by decide) (by decide) h
    exact hne rfl
  have hctrl : rk 0x000 0x010 0 ≠ rk page off b := fun h => by
    obtain ⟨rfl, rfl, -⟩ := rk_inj (by decide) (by decide) hpg ho h
    exact ctrl_not_rc hrow hrc
  have hdev : ∀ o, o < 4096 → (d.settleCounts page).rgN 0x000 o 0 = d.rgN 0x000 o 0 := fun o ho =>
    (touches_settleCounts d page).1 0x000 o 0 (by decide) ho rfl
  refine ⟨?_, ?_⟩
  · rw [rgN_count_other _ 1 hread, rgN_setN_same, Nat.zero_mod]
  · rw [rgN_count_same, rgN_setN_other _ 0 hctrl, rgN_setN_other _ 0 hread.symm, hdev _ (by decide), hdev _ (by decide)]

/-! ### ERR_INJECT -/

/-- An injected fault: its bit, and, first in its page, ERR_FIRST that names it, or a lower bit that its consequence has raised. -/
theorem inject_records (d : Dev) {page : Nat} (bank : Nat) {bit : Nat} {cls : FaultClass} (hpg : page < 4096) (hb : bit < 32)
    (hcls : errClass ((blockOf page).getD 0xFFF) bit = some cls) (hx : cls ≠ .x) (hlock : bitN (d.rgN page 0x034 bank) 1 = false) :
    let e := d.inject_ page bank bit
    bitN (e.rgN page 0x018 bank) bit = true ∧
      (d.rgN page 0x018 bank = 0 → bitN (e.rgN page 0x020 bank) 31 = true ∧ e.rgN page 0x020 bank % 32 ≤ bit ∧
        (e.rgN page 0x020 bank % 32 = bit → e.rgN page 0x020 bank = bit + 256 + 2 ^ 31)) := by
  obtain ⟨hbits, hfirst⟩ := (touches_inject d bank bit hpg hcls hx hlock).2 page bank hpg
  have hset := flagged_status (injectCounts d page bank bit) page bank true hb
  refine ⟨hbits bit hset, fun h0 => ?_⟩
  have hc0 : (injectCounts d page bank bit).rgN page 0x018 bank = 0 :=
    ((touches_injectCounts d bank bit hpg).1 page 0x018 bank hpg (by decide) rfl).trans h0
  have hnamed := flagged_first _ page bank true hb hc0
  obtain ⟨hmod, hvalid⟩ := firstWord_names true hb
  have hfirst := hfirst (ne_zero_of_bitN hset)
  rw [hnamed] at hfirst
  rcases hfirst with h | ⟨hlt, hv⟩
  · rw [h]
    exact ⟨hvalid, Nat.le_of_eq hmod, fun _ => rfl⟩
  · exact ⟨hv, by omega, fun h => by omega⟩

/-! ### The clauses -/

/-- A command that is a register write with an effect, its check passed. -/
theorem exec_admits {i : Instr} {s : State} {r : Route} {page off v : Nat} (f : Dev → Dev) (hexec : exec i s = onReg r page off v f s)
    (h : s.admits r page off v) : exec i s = .next { s with dev := f (s.dev.count 0x000 0x104 1) } :=
  hexec.trans (onReg_admits r page off v f s h)

/-- A generic write of a plain register: to a fused page, taken, refused. -/
theorem regWriteGeneric_plain (s : State) (r : Route) {page off : Nat} (v : W32) {row : RegRow} (ha : s.dev.answers = true)
    (hfit : msgFits (4096 * page + off) 1 = true) (ho : off < 4096) (hrow : regRow page off = some row) (hrw : row.acc = .rw)
    (hpair : row.pair = false) (hsel : isSel page off = false) (hplain : plainReg page off) :
    let b := s.dev.bank r (s.rights r) page off
    (s.writeStatus r page off v.toNat = 0 → s.dev.fusedPage page = true →
      ∃ t, exec (.regWriteGeneric r page off v) s = .next t ∧ t.reg page off b = s.reg page off b ∧ Counts s t 0x000 0x104 1 ∧
        Changes s t (fun d _ => d)) ∧
    (s.writeStatus r page off v.toNat = 0 → s.dev.fusedPage page = false →
      ∃ t, exec (.regWriteGeneric r page off v) s = .next t ∧ t.reg page off b = v.toNat &&& plainMask row page off ∧
        Counts s t 0x000 0x104 1 ∧
        (∀ pg o b', pg < 4096 → o < 4096 → (pg, o, b') ≠ (page, off, b) → (pg, o) ≠ (0x000, 0x104) → t.reg pg o b' = s.reg pg o b') ∧
        Changes s t (fun d _ => d)) ∧
    (s.writeStatus r page off v.toNat ≠ 0 →
      ∃ t, exec (.regWriteGeneric r page off v) s = .next t ∧ t.reg page off b = s.reg page off b ∧ Counts s t 0x000 0x108 1 ∧
        Changes s t (fun d _ => d)) := by
  have hpg := page_lt_of_msgFits hfit
  have hsome : (regRow page off).isSome = true := by rw [hrow]; rfl
  have hexec := exec_regWriteGeneric s r v ha hfit ho hsome
  refine ⟨fun hst hf => ?_, fun hst hf => ?_, fun hst => ?_⟩
  · rw [if_pos hst, putReg_fused s r _ hsome hf] at hexec
    exact ⟨_, hexec, fused_plain s _ hplain hpg ho⟩
  · rw [if_pos hst, putReg_plain s r _ hrow hrw hpair hsel hplain hf] at hexec
    exact ⟨_, hexec, stored_plain s _ _ (Nat.lt_of_le_of_lt Nat.and_le_left v.isLt) hplain hpg ho⟩
  · rw [if_neg hst] at hexec
    exact ⟨_, hexec, refused_plain s _ _ _ hplain hpg ho⟩

/-- A counter read: the value goes back, the counter is cleared, the read counts. -/
theorem counterRead_clears (s : State) (r : Route) {page off : Nat} {row : RegRow} (ha : s.dev.answers = true)
    (hfit : msgFits (4096 * page + off) 1 = true) (ho : off < 4096) (hst : s.readStatus r page off = 0)
    (hrow : regRow page off = some row) (hrc : row.acc = .rc) (hne : (page, off) ≠ (0x000, 0x100)) :
    ∃ t, exec (.counterRead r page off) s = .next t ∧
      .readback (4096 * page + off)
          (BitVec.ofNat 32 (({ s with dev := s.dev.settleCounts page } : State).readValue r (s.rights r) page off)) ∈ t.dev.out ∧
      t.reg page off (s.dev.bank r (s.rights r) page off) = 0 ∧ Counts s t 0x000 0x100 1 ∧
      Changes s t (fun d _ => d.settleCounts page) := by
  obtain ⟨hzero, hcount⟩ :=
    counter_cleared s.dev (s.dev.bank r (s.rights r) page off) (page_lt_of_msgFits hfit) ho hrow hrc hne
  refine ⟨_, exec_counterRead s r ha hfit ho hst hrow hrc, ?_, hzero, hcount, changes_dev s _ _ (by simp)⟩
  simp [Dev.emit]

/-- ERR_STATUS clears by 1s; ERR_FIRST and ALERT_N stay. -/
theorem errStatusClear_clears (s : State) (r : Route) {page : Nat} (mask : W32) (h : s.admits r page 0x018 mask.toNat) :
    let b := s.dev.bank r (s.rights r) page 0x018
    ∃ t, exec (.errStatusClear r page mask) s = .next t ∧ t.dev.rg page 0x018 b = s.dev.rg page 0x018 b &&& ~~~mask ∧
      (∀ b, t.reg page 0x020 b = s.reg page 0x020 b) ∧ t.dev.alertN = s.dev.alertN ∧ Changes s t (fun d _ => d) := by
  refine ⟨_, exec_admits (fun d => d.errClear page (d.bank r (s.rights r) page 0x018) mask.toNat) rfl h,
    ?_, fun b => ?_, ?_, changes_dev s _ _ (by simp [Dev.errClear])⟩
  · simp only [Dev.errClear, bank_count, rg_setRg_same, BitVec.ofNat_toNat, BitVec.setWidth_eq]
    rw [rg_count s.dev (by decide) (by decide) (by decide)]
  · simp only [State.reg, Dev.rgN, Dev.errClear]
    rw [rg_setRg_other _ _ (rk_ne_of_off (by decide) (by decide) (by decide)), rg_count s.dev (by decide) (by decide) (by decide)]
  · simp [Dev.errClear]

/-- INT_STATUS clears by 1s; ALERT_N stays until the next tick drops it. -/
theorem intStatusClear_clears (s : State) (r : Route) {page : Nat} (mask : W32) (h : s.admits r page 0x028 mask.toNat) :
    let b := s.dev.bank r (s.rights r) page 0x028
    ∃ t, exec (.intStatusClear r page mask) s = .next t ∧ t.dev.rg page 0x028 b = s.dev.rg page 0x028 b &&& ~~~mask ∧
      t.dev.alertN = s.dev.alertN ∧ t.dev.alertDrop.alertN = (s.dev.alertN && t.dev.alertWanted) ∧ Changes s t (fun d _ => d) := by
  refine ⟨_, exec_admits (fun d => d.intClear page (d.bank r (s.rights r) page 0x028) mask.toNat) rfl h,
    ?_, ?_, ?_, changes_dev s _ _ (by simp [Dev.intClear])⟩
  · simp only [Dev.intClear, bank_count, rg_setRg_same, BitVec.ofNat_toNat, BitVec.setWidth_eq]
    rw [rg_count s.dev (by decide) (by decide) (by decide)]
  · simp [Dev.intClear]
  · simp [Dev.alertDrop, Dev.intClear]

/-- LOCK only sets. -/
theorem lockWrite_sets (s : State) (r : Route) {page : Nat} (v : W32) (h : s.admits r page 0x034 v.toNat) :
    let b := s.dev.bank r (s.rights r) page 0x034
    ∃ t, exec (.lockWrite r page v) s = .next t ∧
      (∀ k, k < 2 → bitN (t.reg page 0x034 b) k = (bitN (s.reg page 0x034 b) k || bitN v.toNat k)) ∧ Changes s t (fun d _ => d) := by
  refine ⟨_, exec_admits (fun d => d.lock page (d.bank r (s.rights r) page 0x034) v.toNat) rfl h,
    fun k hk => ?_, changes_dev s _ _ (by simp [Dev.lock])⟩
  simp only [State.reg, Dev.rgN, Dev.lock, bank_count, rg_setRg_same, BitVec.toNat_or, bitN_or]
  rw [rg_count s.dev (by decide) (by decide) (by decide), BitVec.toNat_ofNat, bitN_mod_two_pow_32 (by omega)]
  congr 1
  rw [bitN_eq_testBit, bitN_eq_testBit, show (4 : Nat) = 2 ^ 2 from rfl, Nat.testBit_mod_two_pow]
  simp [hk]

/-- ERR_INJECT records its fault. -/
theorem errInject_records (s : State) (r : Route) {page bit : Nat} {cls : FaultClass} (hb : bit < 32)
    (h : s.admits r page 0x024 (bit + 256)) (hcls : errClass ((blockOf page).getD 0xFFF) bit = some cls) (hx : cls ≠ .x)
    (hlock : bitN (s.reg page 0x034 (s.dev.bank r (s.rights r) page 0x024)) 1 = false) :
    let b := s.dev.bank r (s.rights r) page 0x024
    ∃ t, exec (.errInject r page bit) s = .next t ∧ bitN (t.reg page 0x018 b) bit = true ∧
      (s.reg page 0x018 b = 0 → bitN (t.reg page 0x020 b) 31 = true ∧ t.reg page 0x020 b % 32 ≤ bit ∧
        (t.reg page 0x020 b % 32 = bit → t.reg page 0x020 b = bit + 256 + 2 ^ 31)) := by
  have hexec : exec (.errInject r page bit) s =
      onReg r page 0x024 (bit % 32 + 256) (fun d => d.inject_ page (d.bank r (s.rights r) page 0x024) (bit % 32)) s := rfl
  rw [Nat.mod_eq_of_lt hb, onReg_admits r page 0x024 _ _ s h, bank_count] at hexec
  have hcount : ∀ o b, o < 4096 → o ≠ 0x104 → (s.dev.count 0x000 0x104 1).rgN page o b = s.reg page o b :=
    fun o b ho hne => reg_count s.dev (by decide) ho hne
  have hrec := inject_records (s.dev.count 0x000 0x104 1) (s.dev.bank r (s.rights r) page 0x024) (page_lt_of_admits h) hb hcls hx
    (by rw [hcount _ _ (by decide) (by decide)]; exact hlock)
  rw [hcount _ _ (by decide) (by decide)] at hrec
  exact ⟨_, hexec, hrec⟩

/-- ROLE is stored; the measurement of it and the time domain follow. -/
theorem roleWrite_stores (s : State) (r : Route) (v : W32) (h : s.admits r 0x000 0x410 v.toNat) :
    ∃ t, exec (.roleWrite r v) s = .next t ∧ t.reg 0x000 0x410 0 = v.toNat % 4 ∧
      Changes s t (fun d e => { d with belv := e.belv, time := e.time }) := by
  refine ⟨_, exec_admits (·.roleWrite v.toNat) rfl h, roleWrite_role _ _, rfl, rfl, ?_⟩
  rw [hush_roleWrite]
  exact hush_belv_time (hush_count s.dev 0x000 0x104 1) _ _

/-- BUDGET_CLASS is stored. -/
theorem budgetWrite_stores (s : State) (r : Route) (v : W32) (h : s.admits r 0x006 0x400 v.toNat) :
    ∃ t, exec (.portEnableWrite r true v) s = .next t ∧ t.reg 0x006 0x400 0 = v.toNat % 16 ∧ Changes s t (fun d _ => d) :=
  ⟨_, exec_admits (·.setN 0x006 0x400 0 (v.toNat % 16)) rfl h, (rgN_setN_same _ 0x006 0x400 0 _).trans (Nat.mod_eq_of_lt (by omega)),
    changes_dev s _ _ (by simp)⟩

/-- PORT_ENABLE is stored, and the ports that leave it go off. -/
theorem portEnableWrite_stores (s : State) (r : Route) (v : W32) (hlen : s.dev.ports.length = 12) (h : s.admits r 0x000 0x414 v.toNat) :
    ∃ t, exec (.portEnableWrite r false v) s = .next t ∧ t.reg 0x000 0x414 0 = v.toNat % 2 ^ 12 ∧
      (∀ n, n < 12 → t.dev.port n =
        if bitN s.dev.portMap n && !bitN v.toNat n then { Port.off with downTick := (s.dev.port n).downTick } else s.dev.port n) := by
  refine ⟨_, exec_admits (·.portEnable v.toNat) rfl h, portEnable_map _ _, fun n hn => ?_⟩
  have hmap : (s.dev.count 0x000 0x104 1).portMap = s.dev.portMap := by
    simp only [Dev.portMap, reg_count s.dev (show (0x104 : Nat) < 4096 by decide) (show (0x414 : Nat) < 4096 by decide) (by decide)]
  have hport := port_of_ports (Dev_count_ports s.dev 0x000 0x104 1) n
  simp only [portEnable_port (s.dev.count 0x000 0x104 1) v.toNat (by rw [Dev_count_ports, hlen]) hn, hmap, hport]

end Sys2Proof.Laws
end

section
/-! SUPPORT. The statement about the register accesses of the window. -/
namespace Sys2Proof
open Sys2Proof.Machine Sys2Proof.Laws

/-- Settles O43, access by access: each command is its check and one operation on the device, whose reads back are the laws above; for
ERR_INJECT the flags it sets stick through whatever its fault entails. -/
theorem registersReadAndWrite : Obligations.RegistersReadAndWrite := by
  intro s r page off
  exact ⟨fun v row ha hfit ho hrow hrw hpair hsel hplain => regWriteGeneric_plain s r v ha hfit ho hrow hrw hpair hsel hplain,
    fun row ha hfit ho hst hrow hrc hne => counterRead_clears s r ha hfit ho hst hrow hrc hne,
    fun mask h => errStatusClear_clears s r mask h,
    fun mask h => intStatusClear_clears s r mask h,
    fun v h => lockWrite_sets s r v h,
    fun bit cls hb h hcls hx hlock => errInject_records s r hb h hcls hx hlock,
    fun v h => roleWrite_stores s r v h,
    fun v h => budgetWrite_stores s r v h,
    fun v hlen h => portEnableWrite_stores s r v hlen h⟩

end Sys2Proof
end

section
/-! SUPPORT. What a control instruction, a send, a read and a stall leave once their pavilion stands at the issue cycle (R19, R23, R84,
R163, R193 to R203). -/
namespace Sys2Proof.Laws
open Sys2Proof.Machine

/-! ### Pavilions read back -/

theorem pav_onPav_same (d : Dev) {n : Nat} (f : Pav → Pav) (h : n < d.pavs.length) : (d.onPav n f).pav n = f (d.pav n) :=
  pav_setPav_same d n _ h

theorem pav_onPav_other (d : Dev) {n m : Nat} (f : Pav → Pav) (h : m ≠ n) : (d.onPav n f).pav m = d.pav m :=
  pav_setPav_other d _ h

theorem pav_of_pavs {d e : Dev} (h : e.pavs = d.pavs) (n : Nat) : e.pav n = d.pav n := by simp only [Dev.pav, h]

theorem onPav_length (d : Dev) (n : Nat) (f : Pav → Pav) : (d.onPav n f).pavs.length = d.pavs.length := by
  simp [Dev.onPav, Dev.setPav, setAt]

theorem pav_of_length_le (d : Dev) {n : Nat} (h : d.pavs.length ≤ n) : d.pav n = Pav.off true := by
  simp [Dev.pav, nthD, List.getElem?_eq_none h]

/-- What an update of one pavilion keeps of it, it keeps of every pavilion. -/
theorem onPav_keeps {β : Type} (view : Pav → β) (d : Dev) (n m : Nat) {f : Pav → Pav} (h : ∀ p, view (f p) = view p) :
    view ((d.onPav n f).pav m) = view (d.pav m) := by
  by_cases hm : m = n
  · subst hm
    by_cases hlen : m < d.pavs.length
    · rw [pav_onPav_same d f hlen, h]
    · rw [pav_of_length_le d (by omega), pav_of_length_le _ (by rw [onPav_length]; omega)]
  · rw [pav_onPav_other d f hm]

/-! ### Instructions that nothing blocks -/

theorem powered_of_issues {d : Dev} {i : Issue} {op : PlanOp} (h : d.issues i op = true) : d.powered = true := by
  simp only [Dev.issues, Bool.and_eq_true] at h
  exact h.1.1.1.1.1

theorem pav_lt_of_issues {d : Dev} {i : Issue} {op : PlanOp} (h : d.issues i op = true) : i.pav < (d.atIssue i).pavs.length := by
  simp only [Dev.issues, Bool.and_eq_true, decide_eq_true_eq] at h
  have := h.1.1.1.1.2
  omega

theorem markVar_unmarked (d : Dev) (n : Nat) {op : PlanOp} (h : op.vMarked = false) : d.markVar n op = d := by
  simp [Dev.markVar, h]

/-- A command that issues an instruction which nothing blocks performs it. -/
theorem exec_performs {x : Instr} {s : State} {i : Issue} {op : PlanOp} (hexec : exec x s = onDev (·.issueOp i op []) s)
    (h : s.dev.issues i op = true) (hv : op.vMarked = false) (hb : (s.dev.atIssue i).blocked i.pav false op = none) :
    exec x s = .next { s with dev := (s.dev.atIssue i).perform i op false [] } := by
  have hmark := markVar_unmarked (s.dev.atIssue i) i.pav hv
  rw [hexec, onDev_powered _ s (powered_of_issues h), issueOp_eq h (by rw [hmark]; exact hb), hmark]

/-- The same of an instruction that is an update of its pavilion. -/
theorem exec_updates {x : Instr} {s : State} {i : Issue} {op : PlanOp} (f : Pav → Pav) (hexec : exec x s = onDev (·.issueOp i op []) s)
    (h : s.dev.issues i op = true) (hv : op.vMarked = false) (hb : (s.dev.atIssue i).blocked i.pav false op = none)
    (hf : (s.dev.atIssue i).perform i op false [] = (s.dev.atIssue i).onPav i.pav f) :
    ∃ t, exec x s = .next t ∧ t.dev.pav i.pav = f (s.dev.pavAt i) :=
  ⟨_, exec_performs hexec h hv hb, by rw [hf]; exact pav_onPav_same _ f (pav_lt_of_issues h)⟩

/-! ### Loops -/

/-- A value on its way into an index register reads there from its cycle on. -/
theorem ireg_settle_later (p : Pav) (r j : Nat) (v : W64) : ((p.later r (.idx j v)).settle r).ireg j = v := by
  rw [settle_later]
  exact smap_get_put_same _ j v 0

theorem loopStart_loops (p : Pav) (c n : Nat) (act : Option IdxImm) (ctr : Option Nat) :
    (p.loopStart c n act ctr false).loops = ⟨c, n, act.map (fun x => (p.idxImm x).toNat), ctr, 0⟩ :: p.loops := by
  cases ctr <;> rfl

theorem loopStart_counter (p : Pav) (c n : Nat) (act : Option IdxImm) (j : Nat) :
    ((p.loopStart c n act (some j) false).settle (c + 1)).ireg j = 0 := ireg_settle_later _ (c + 1) j 0

theorem loopEnd_last (p : Pav) (c : Nat) {f : LoopFrame} {rest : List LoopFrame} (hl : p.loops = f :: rest) (h : f.n ≤ f.pass + 1) :
    (p.loopEnd c).loops = rest := by
  simp [Pav.loopEnd, hl, h]

theorem loopEnd_next (p : Pav) (c : Nat) {f : LoopFrame} {rest : List LoopFrame} (hl : p.loops = f :: rest) (h : f.pass + 1 < f.n) :
    (p.loopEnd c).loops = { f with pass := f.pass + 1 } :: rest ∧
      (∀ j, f.ctr = some j → ((p.loopEnd c).settle (c + 1)).ireg j = BitVec.ofNat 64 (f.pass + 1)) := by
  have hn : ¬ f.n ≤ f.pass + 1 := by omega
  simp only [Pav.loopEnd, hl, if_neg hn]
  cases hc : f.ctr with
  | none => exact ⟨rfl, fun j hj => nomatch hj⟩
  | some k =>
    refine ⟨rfl, fun j hj => ?_⟩
    cases hj
    exact ireg_settle_later _ (c + 1) k _

/-! ### The control instructions -/

theorem await_met (d : Dev) (n : Nat) (killed : Bool) {k : Nat} {l : Level} (h : levelMet ((d.pav n).level l) ((d.pav n).ctr k) = true) :
    d.blocked n killed (.await k l) = none := by simp [Dev.blocked, h]

theorem fence_met (d : Dev) (n : Nat) (killed : Bool) {t c : Nat} (h : c ≤ (d.tracker t).cur) : d.blocked n killed (.fence t c) = none := by
  simp [Dev.blocked, h]

theorem stepEnd_met (d : Dev) (n : Nat) (killed : Bool) (h : d.openPlan n = false) : d.blocked n killed .stepEnd = none := by
  simp [Dev.blocked, h]

end Sys2Proof.Laws
end

section
/-! SUPPORT. What a send, a read, an arrival and a returned entry leave in the pavilions on the two sides of a crossing (R84, R163, R164,
R369). -/
namespace Sys2Proof.Laws
open Sys2Proof.Machine

/-! ### Sends and reads -/

theorem xsend_met (d : Dev) (n x : Nat) (src : LineRef) (h : (d.pav n).free x ≠ 0) : d.blocked n false (.xsend x src none) = none := by
  simp [Dev.blocked, Dev.waitBlock, h]

theorem xrecv_met (d : Dev) (n x : Nat) (dst : LineRef) {f : Flit} {rest : List Flit} (h : (d.pav n).fifos.get x [] = f :: rest) :
    d.blocked n false (.xrecv x dst none) = none := by
  simp [Dev.blocked, Dev.waitBlock, h]

theorem xsend_wire (p : Pav) (x : Nat) (src : LineRef) :
    (p.xsend x src).wires.get x [] = p.wires.get x [] ++ [⟨p.flitOf src, p.outGen.get x 0⟩] := smap_get_put_same _ x _ []

theorem xsend_free (p : Pav) (x : Nat) (src : LineRef) : (p.xsend x src).free x = p.free x - 1 := smap_get_put_same _ x _ 16

/-- A read takes the head flit, frees its entry, and its bytes land after two cycles. -/
theorem xrecv_takes (p : Pav) {x : Nat} (dst : LineRef) (c : Nat) {f : Flit} {rest : List Flit} (h : p.fifos.get x [] = f :: rest) :
    (p.xrecv x dst c).fifos.get x [] = rest ∧ (p.xrecv x dst c).freed.get x 0 = p.freed.get x 0 + 1 ∧
      ((p.xrecv x dst c).settle (c + 2)).visible = ((p.settle (c + 2)).land (.bytes dst.byte (toBytes 256 f.toNat))).visible := by
  simp only [Pav.xrecv, h]
  refine ⟨smap_get_put_same _ x _ [], smap_get_put_same _ x _ 0, ?_⟩
  rw [settle_later]
  exact land_visible _ _ _ (reads_visible (settle_reads (c + 2) _ p rfl rfl))

/-! ### Arrivals -/

/-- The counters that an arrival advances are all that it changes of a pavilion. -/
theorem countFlit_keeps {β : Type} (view : Pav → β) (hview : ∀ p (c : SMap W32), view { p with ctrs := c } = view p) (d : Dev) (n x m : Nat) :
    view ((d.countFlit n x).pav m) = view (d.pav m) := by
  unfold Dev.countFlit
  split
  · rfl
  · exact forEach_keeps (fun e => view (e.pav m)) _ d _ (fun e b => onPav_keeps view e n m (fun p => hview p _))

theorem staleFlit_pavs (d : Dev) (n : Nat) : (d.staleFlit n).pavs = d.pavs := by
  unfold Dev.staleFlit
  dsimp only
  split <;> rfl

/-- The wire of a pavilion without its front flit. -/
def wireTaken (y : Nat) (rest : List FlitG) (p : Pav) : Pav := { p with wires := p.wires.put y rest }

/-- A flit of another generation leaves the wire and is counted. -/
theorem flitArrival_stale (d : Dev) {n x q : Nat} {f : FlitG} {rest : List FlitG} (hq : neighbour n x = some q)
    (hw : (d.pav q).wires.get (facing x) [] = f :: rest) (hg : f.gen ≠ (d.pav n).inGen.get x 0) :
    d.flitArrival n x = (d.onPav q (wireTaken (facing x) rest)).staleFlit n := by
  simp only [Dev.flitArrival, hq, hw, if_pos hg]
  rfl

/-- A flit of the accepted generation that no through route takes leaves the wire, enters the FIFO and counts. -/
theorem flitArrival_enters (d : Dev) {n x q : Nat} {f : FlitG} {rest : List FlitG} (hq : neighbour n x = some q)
    (hw : (d.pav q).wires.get (facing x) [] = f :: rest) (hg : f.gen = (d.pav n).inGen.get x 0) (ht : d.throughOf n x = none) :
    d.flitArrival n x = ((d.onPav q (wireTaken (facing x) rest)).onPav n
      (fun p => { p with fifos := p.fifos.put x (p.fifos.get x [] ++ [f.data]) })).countFlit n x := by
  have hsame : ¬ f.gen ≠ (d.pav n).inGen.get x 0 := fun hne => hne hg
  simp only [Dev.flitArrival, hq, hw, if_neg hsame, ht]
  rfl

theorem flitArrival_discards (d : Dev) {n x q : Nat} {f : FlitG} {rest : List FlitG} (hlen : q < d.pavs.length) (hne : q ≠ n)
    (hq : neighbour n x = some q) (hw : (d.pav q).wires.get (facing x) [] = f :: rest) (hg : f.gen ≠ (d.pav n).inGen.get x 0) :
    ((d.flitArrival n x).pav q).wires.get (facing x) [] = rest ∧ ((d.flitArrival n x).pav n).fifos = (d.pav n).fifos := by
  simp only [flitArrival_stale d hq hw hg, pav_of_pavs (staleFlit_pavs _ n)]
  rw [pav_onPav_same d _ hlen, pav_onPav_other d _ hne.symm]
  exact ⟨smap_get_put_same _ _ rest [], rfl⟩

theorem flitArrival_fifo (d : Dev) {n x q : Nat} {f : FlitG} {rest : List FlitG} (hn : n < d.pavs.length) (hlen : q < d.pavs.length)
    (hne : q ≠ n) (hq : neighbour n x = some q) (hw : (d.pav q).wires.get (facing x) [] = f :: rest)
    (hg : f.gen = (d.pav n).inGen.get x 0) (ht : d.throughOf n x = none) :
    ((d.flitArrival n x).pav q).wires.get (facing x) [] = rest ∧
      ((d.flitArrival n x).pav n).fifos.get x [] = (d.pav n).fifos.get x [] ++ [f.data] := by
  rw [flitArrival_enters d hq hw hg ht, countFlit_keeps Pav.wires (fun _ _ => rfl), countFlit_keeps Pav.fifos (fun _ _ => rfl),
    pav_onPav_other _ _ hne, pav_onPav_same d _ hlen, pav_onPav_same _ _ (by rw [onPav_length]; exact hn), pav_onPav_other d _ hne.symm]
  exact ⟨smap_get_put_same _ _ rest [], smap_get_put_same _ x _ []⟩

/-! ### Entries that come back -/

theorem freeReturn_counts (d : Dev) {n x q y : Nat} (hn : n < d.pavs.length) (hlen : q < d.pavs.length) (hne : q ≠ n)
    (hend : d.routeEnd 32 n x = some (q, y)) (hr : (d.pav q).freed.get y 0 ≠ 0) :
    ((d.freeReturn n x).pav q).freed.get y 0 = (d.pav q).freed.get y 0 - 1 ∧
      ((d.freeReturn n x).pav n).free x = min 16 ((d.pav n).free x + 1) := by
  simp only [Dev.freeReturn, hend, if_neg hr]
  rw [pav_onPav_other _ _ hne, pav_onPav_same d _ hlen, pav_onPav_same _ _ (by rw [onPav_length]; exact hn), pav_onPav_other d _ hne.symm]
  exact ⟨smap_get_put_same _ y _ 0, smap_get_put_same _ x _ 16⟩

end Sys2Proof.Laws
end

section
/-! SUPPORT. A stall that begins, ends and times out (R23 to R26, R32, R368), and the steps through the consequence of a fault: a class D
fault withholds a step and never stops it, an abandoned step stops with its outputs withheld (R25, R498). -/
namespace Sys2Proof.Laws
open Sys2Proof.Machine

/-! ### A stall begins -/

/-- A held await is no crossing read or send, so there is nothing of it to count. -/
theorem countHeld_await (d : Dev) {n : Nat} {i : Issue} {k : Nat} {l : Level} {ups : List Upset} {cnt : Bool}
    (h : (d.pav n).held = [⟨i, .await k l, ups, cnt⟩]) (hn : n < d.pavs.length) : d.countHeld n = d := by
  have hself : ({ d.pav n with held := [⟨i, .await k l, ups, cnt⟩] } : Pav) = d.pav n := by rw [← h]
  have hzero : ∀ (e : Dev) (pg o b : Nat), e.countB pg o b 0 = e := fun e pg o b => by simp [Dev.countB]
  simp [Dev.countHeld, h, Dev.count, hzero, Dev.onPav, hself, setPav_self d n hn]

/-- The stall of a blocked instruction. -/
def stallOf (d : Dev) (b : Blocked) : Stall :=
  ⟨b.kind, b.index, b.cat, d.time.count, d.time.elapsed, d.time.elapsed + d.stallTicks⟩

/-- A pavilion whose clock has stopped with one instruction held. -/
def stoppedWith (st : Stall) (h : Held) (p : Pav) : Pav := { p with stall := some st, held := [h] }

/-- An await that stalls holds its pavilion, which is otherwise as it was. -/
theorem stall_await (d : Dev) (i : Issue) (k : Nat) (l : Level) (b : Blocked) (hn : i.pav < d.pavs.length) :
    (d.stall i (.await k l) [] b).pav i.pav = stoppedWith (stallOf d b) ⟨i, .await k l, [], false⟩ (d.pav i.pav) := by
  unfold Dev.stall
  extract_lets d1
  have hpav : (d1.set64 (pavPage i.pav) 0x40C 0 d.time.count.toNat).pav i.pav =
      stoppedWith (stallOf d b) ⟨i, .await k l, [], false⟩ (d.pav i.pav) :=
    pav_onPav_same d (stoppedWith (stallOf d b) ⟨i, .await k l, [], false⟩) hn
  have hlen : (d1.set64 (pavPage i.pav) 0x40C 0 d.time.count.toNat).pavs.length = d.pavs.length :=
    onPav_length d i.pav (stoppedWith (stallOf d b) ⟨i, .await k l, [], false⟩)
  rw [countHeld_await (i := i) (k := k) (l := l) (ups := []) (cnt := false) _ (by rw [hpav]; rfl) (by rw [hlen]; exact hn), hpav]

/-- An instruction that may issue and that something blocks stops its pavilion's clock. -/
theorem issueOp_stalls {d : Dev} {i : Issue} {op : PlanOp} {ups : List Upset} {b : Blocked} (h : d.issues i op = true)
    (hb : ((d.atIssue i).markVar i.pav op).blocked i.pav false op = some b) :
    d.issueOp i op ups = ((d.atIssue i).markVar i.pav op).stall i op ups b := by
  simp only [Dev.issues, Bool.and_eq_true, Bool.not_eq_true'] at h
  obtain ⟨⟨⟨⟨-, hreach⟩, hplan⟩, hlive⟩, -⟩ := h
  obtain ⟨-, hclock, -⟩ := reach_true hreach
  have hkill : (((d.atIssue i).markVar i.pav op).killed i op) = false := by rw [markVar_killed]; exact hlive
  have hat : (d.reach i.pav i.cycle).1.markIssued i = d.atIssue i := rfl
  unfold Dev.issueOp
  dsimp only
  rw [if_neg (by simp [hclock])]
  simp only [hreach, hplan, Bool.not_true, Bool.or_self, Bool.false_eq_true, if_false]
  rw [hat, hkill, hb]

/-- A command that issues an instruction which something blocks stops the clock. -/
theorem exec_stalls {x : Instr} {s : State} {i : Issue} {op : PlanOp} {b : Blocked} (hexec : exec x s = onDev (·.issueOp i op []) s)
    (h : s.dev.issues i op = true) (hv : op.vMarked = false) (hb : (s.dev.atIssue i).blocked i.pav false op = some b) :
    exec x s = .next { s with dev := (s.dev.atIssue i).stall i op [] b } := by
  rw [hexec, onDev_powered _ s (powered_of_issues h), issueOp_stalls h (by rw [markVar_unmarked _ _ hv]; exact hb), markVar_unmarked _ _ hv]

/-! ### A stall ends -/

/-- An await held alone in its word blocks the word while its level is not reached. -/
theorem heldBlock_await (d : Dev) {n : Nat} {i : Issue} {k : Nat} {l : Level} {ups : List Upset} {cnt : Bool}
    (h : (d.pav n).held = [⟨i, .await k l, ups, cnt⟩]) (hm : levelMet ((d.pav n).level l) ((d.pav n).ctr k) = true) :
    d.heldBlock n = none := by
  simp [Dev.heldBlock, h, await_met d n _ hm]

/-- A stall closed: the clock is to start, and the lost ticks are charged to the stall's category. -/
theorem closeStall_pav (d : Dev) {n : Nat} {st : Stall} (h : (d.pav n).stall = some st) (hn : n < d.pavs.length) :
    ∃ l : Lost, (d.closeStall n).pav n = { d.pav n with lost := l, stall := none } ∧
      (st.cat = .fabric → l.fabric = (d.pav n).lost.fabric + (d.time.elapsed - st.sinceEl)) := by
  simp only [Dev.closeStall, h]
  rw [pav_of_pavs (Dev_count_pavs _ _ _ _), pav_setPav_same d n _ hn]
  refine ⟨_, rfl, fun hc => ?_⟩
  simp only [hc]

theorem closeStall_length (d : Dev) (n : Nat) : (d.closeStall n).pavs.length = d.pavs.length := by
  unfold Dev.closeStall
  dsimp only
  split
  · rfl
  · simp [setAt]

/-- A held await whose level is reached lets the clock start with nothing held. -/
theorem resume_await (d : Dev) {n : Nat} {st : Stall} {i : Issue} {k : Nat} {l : Level} {ups : List Upset} {cnt : Bool}
    (hst : (d.pav n).stall = some st) (h : (d.pav n).held = [⟨i, .await k l, ups, cnt⟩])
    (hm : levelMet ((d.pav n).level l) ((d.pav n).ctr k) = true) :
    d.resume n = (d.closeStall n).onPav n (fun p => { p with held := [] }) := by
  simp only [Dev.resume, hst, heldBlock_await d h hm, h]
  rfl

/-! ### Packets leave the steps and contexts alone -/

/-- The steps and the contexts of a device. -/
def stepsCtxs (d : Dev) : SMap StepCtl × SMap Ctx := (d.steps, d.ctxs)

theorem departing_steps (d : Dev) (n : Nat) (pk : Packet) : (d.departing n pk).2.steps = d.steps := by
  unfold Dev.departing
  dsimp only
  split
  · rfl
  · unfold Dev.when
    split <;> rfl

theorem portSend_steps (d : Dev) (n : Nat) (pk : Packet) : (d.portSend n pk).steps = d.steps := by
  have hport : ∀ (e : Dev) (f : Port → Port), (e.onPort n f).steps = e.steps := fun _ _ => rfl
  have hframe : ∀ (e : Dev) (body : FrameBody) (seq : Nat) (nak : Bool), (e.sendFrame n body seq nak).steps = e.steps :=
    fun _ _ _ _ => rfl
  unfold Dev.portSend
  extract_lets r d1
  rw [Dev_count_steps, hframe, hport, departing_steps]

theorem flood_steps (d : Dev) (skip : Option Nat) (pk : Packet) : (d.flood skip pk).steps = d.steps :=
  forEach_keeps Dev.steps _ d _ (fun e n => by
    unfold Dev.portOffer
    split
    · exact portSend_steps e n pk
    · rfl)

theorem ring_steps (d : Dev) (c : Nat) (step : W64) (r : Reason) : (d.ring_ c step r).steps = d.steps := by
  unfold Dev.ring_
  dsimp only
  split
  · rfl
  · split
    · rfl
    · rw [Dev_count_steps, flood_steps]

theorem ringPlotStep_steps (d : Dev) (p : Nat) (r : Reason) : (d.ringPlotStep p r).steps = d.steps := by
  unfold Dev.ringPlotStep
  dsimp only
  split
  · exact ring_steps d _ _ r
  · rfl

theorem verdictSend_stepsCtxs (d : Dev) (c : Nat) (step : W64) (clean : Bool) :
    stepsCtxs (d.verdictSend c step clean) = stepsCtxs d := by
  have hcount : ∀ (e : Dev) (pg o n : Nat), stepsCtxs (e.count pg o n) = stepsCtxs e := fun e pg o n => by
    rw [stepsCtxs, stepsCtxs, Dev_count_steps, Dev_count_ctxs]
  have hpost : ∀ pk, stepsCtxs (d.post pk) = stepsCtxs d := fun pk => by unfold Dev.post; split <;> rfl
  unfold Dev.verdictSend
  dsimp only
  split
  · split
    · rfl
    · exact (hcount _ _ _ _).trans (hpost _)
  · rfl

@[simp] theorem verdictSend_step (d : Dev) (c : Nat) (step : W64) (clean : Bool) (p : Nat) : (d.verdictSend c step clean).step p = d.step p :=
  congrArg (fun v => v.1.get p StepCtl.idle) (verdictSend_stepsCtxs d c step clean)

theorem verdictSend_ctx (d : Dev) (c : Nat) (step : W64) (clean : Bool) (x : Nat) : (d.verdictSend c step clean).ctx x = d.ctx x :=
  congrArg (fun v => v.2.get x Ctx.free) (verdictSend_stepsCtxs d c step clean)

/-! ### A class D fault lets every step run on -/

theorem step_of_steps {d e : Dev} (h : e.steps = d.steps) (p : Nat) : e.step p = d.step p := by simp only [Dev.step, h]

theorem onCtx_step (d : Dev) (c : Nat) (f : Ctx → Ctx) (p : Nat) : (d.onCtx c f).step p = d.step p := rfl

theorem step_setStep_other (d : Dev) {p q : Nat} (x : StepCtl) (h : q ≠ p) : (d.setStep p x).step q = d.step q :=
  smap_get_put_other d.steps x StepCtl.idle h

theorem withhold_running (d : Dev) (q p : Nat) : ((d.withhold q).step p).running = (d.step p).running := by
  unfold Dev.withhold
  dsimp only
  split
  next hr =>
    by_cases hp : p = q
    · rw [hp, step_setStep_same, hr]
    · rw [step_setStep_other d _ hp]
  next => rfl

theorem consD_running (d : Dev) (w : Where) (r : Reason) (p : Nat) : ((d.consD w r).step p).running = (d.step p).running :=
  forEach_keeps (fun e => (e.step p).running) _ d _ (fun e q => by
    rw [withhold_running, step_of_steps (ringPlotStep_steps e q r)])

/-- The blocks in which a page named as a pavilion's can lie: the page index is open above the 32 pavilions. -/
theorem block_pavPage (n : Nat) : (blockOf (pavPage n)).getD 0xFFF ∈
    [0x010, 0x040, 0x050, 0x051, 0x060, 0x070, 0x072, 0x073, 0x080, 0x090, 0x0A0, 0xFFF] := by
  unfold blockOf pavPage
  split
  · omega
  split
  · decide
  split
  · decide
  split
  next h => rcases h with h | h <;> rw [h] <;> decide
  split
  · decide
  split
  · decide
  split
  next h => rcases h with h | h | h | h | h <;> rw [h] <;> decide
  next => decide

/-- STALL_TIMEOUT, bit 4 of a pavilion's page, stops no step by its class. -/
theorem stallTimeout_class (n : Nat) :
    (errClass ((blockOf (pavPage n)).getD 0xFFF) 4).getD .none ∈ [FaultClass.none, .c, .d] :=
  (by decide : ∀ b ∈ [0x010, 0x040, 0x050, 0x051, 0x060, 0x070, 0x072, 0x073, 0x080, 0x090, 0x0A0, 0xFFF],
    (errClass b 4).getD .none ∈ [FaultClass.none, .c, .d]) _ (block_pavPage n)

/-- A fault of class D at the most lets every step run on. -/
theorem consequence_running (d : Dev) (page : Nat) {cls : FaultClass} (abandon : Bool) (w : Where) (r : Reason) (p : Nat)
    (h : cls ∈ [FaultClass.none, .c, .d]) : ((d.consequence page cls abandon w r).step p).running = (d.step p).running := by
  cases cls with
  | none => rfl
  | c => rfl
  | d => exact consD_running d w r p
  | f => simp at h
  | x => simp at h

/-! ### An abandoned step -/

/-- A step abandoned no longer runs, and its outputs are withheld (R25). -/
theorem abandon_step (d : Dev) {p : Nat} (r : Reason) (origin launch : Nat) (h : (d.step p).running = true) :
    ((d.abandon p r origin launch).step p).running = false ∧ ((d.abandon p r origin launch).step p).abandoned = true ∧
      ((d.abandon p r origin launch).step p).withheld = true := by
  unfold Dev.abandon
  extract_lets sc no grp d1 d2 d3 d4 now dur d5 d6 d7 recov d8
  have h8 : d8.steps = d7.steps := by simp only [d8]; split <;> rfl
  rw [if_neg (by simp [sc, h]), verdictSend_step, onCtx_step, step_of_steps h8, step_setStep_same]
  exact ⟨rfl, rfl, rfl⟩

/-- A stall that has reached its timeout, still blocked, abandons its plot's step. -/
theorem stallTimeout_abandons (tie : Nat) (d : Dev) {n : Nat} {st : Stall} (hst : (d.pav n).stall = some st)
    (hlim : st.limit + tie ≤ d.time.elapsed) (hb : (d.heldBlock n).isSome = true) (hr : (d.step (d.pav n).plot).running = true) :
    let e := (d.stallTimeout tie n).step (d.pav n).plot
    e.running = false ∧ e.abandoned = true ∧ e.withheld = true := by
  have hgo : ¬ (d.time.elapsed < st.limit + tie ∨ (d.heldBlock n).isNone = true) := by
    rw [Option.isSome_iff_exists] at hb
    obtain ⟨b, hb⟩ := hb
    simp [hb, hlim]
  simp only [Dev.stallTimeout, hst, if_neg hgo, Dev.onPav, step_of_steps (Dev_setPav_steps _ _ _)]
  refine abandon_step _ _ _ _ ?_
  rw [Dev.raiseB, consequence_running _ _ _ _ _ _ (stallTimeout_class n), step_of_steps (recordB_steps _ _ _ _ _ _ _),
    step_of_steps (Dev_count_steps _ _ _ _), hr]

end Sys2Proof.Laws
end

section
/-! SUPPORT. The beat barrier, the end of a step, and the margins of a cycle (R16, R18 to R20, R360 to R362, R539). -/
namespace Sys2Proof.Laws
open Sys2Proof.Machine

/-! ### What changes pavilions and registers only -/

/-- The device without its pavilions and without what a record of a fault may change. -/
def quiet (d : Dev) : Dev := { hush d with pavs := [] }

@[simp] theorem quiet_onPav (d : Dev) (n : Nat) (f : Pav → Pav) : quiet (d.onPav n f) = quiet d := rfl
@[simp] theorem quiet_countB (d : Dev) (pg o b n : Nat) : quiet (d.countB pg o b n) = quiet d := by simp [quiet]
@[simp] theorem quiet_count (d : Dev) (pg o n : Nat) : quiet (d.count pg o n) = quiet d := by simp [quiet]
@[simp] theorem quiet_recordB (d : Dev) (pg bk b : Nat) (cls : FaultClass) (inj : Bool) (w : Where) :
    quiet (d.recordB pg bk b cls inj w) = quiet d := by simp [quiet]

/-- A command that leaves the quiet part as it was has changed pavilions, and what a record may change. -/
theorem changes_of_quiet (s : State) {e : Dev} (h : quiet e = quiet s.dev) :
    Changes s { s with dev := e } (fun d x => { d with pavs := x.pavs }) :=
  changes_dev s e _ (congrArg (fun x : Dev => { x with pavs := e.pavs }) h)

theorem all_bitList {v n : Nat} {f : Nat → Bool} (h : ∀ k, k < n → bitN v k = true → f k = true) : (bitList v n).all f = true := by
  simp only [bitList, List.all_eq_true, List.mem_filter, List.mem_range]
  exact fun k hk => h k hk.1 hk.2

/-! ### The beat barrier -/

theorem closeGate_pav {β : Type} (view : Pav → β) (hview : ∀ p g, view { p with gated := g } = view p) (d : Dev) (n m : Nat) :
    view ((d.closeGate n).pav m) = view (d.pav m) := by
  unfold Dev.closeGate
  dsimp only
  split
  · rw [pav_of_pavs (Dev_count_pavs _ _ _ _)]
    exact onPav_keeps view d n m (f := fun p => { p with gated := false }) (fun p => hview p false)
  · rfl

theorem quiet_closeGate (d : Dev) (n : Nat) : quiet (d.closeGate n) = quiet d := by
  unfold Dev.closeGate
  dsimp only
  split
  · exact quiet_count _ _ _ _
  · rfl

theorem quiet_ungate (d : Dev) (h n : Nat) : quiet (d.ungate h n) = quiet d := by
  unfold Dev.ungate
  dsimp only
  split
  · exact quiet_closeGate _ n
  · rfl

/-- A gate that opens changes nothing that a plan reads. -/
theorem ungate_visible (d : Dev) (h n m : Nat) : ((d.ungate h n).pav m).visible = (d.pav m).visible := by
  unfold Dev.ungate
  dsimp only
  split
  · rw [closeGate_pav Pav.visible (fun _ _ => rfl)]
    exact onPav_keeps Pav.visible d n m (fun _ => rfl)
  · rfl

/-- While no change of H is under way a release is held for the largest of the three holds (R539). -/
theorem releaseHold_settled (d : Dev) (h : d.power.holds = []) : d.releaseHold = max d.power.hp (max d.power.ht d.power.hc) := by
  simp [Dev.releaseHold, Dev.holdAt, Dev.hold, h]

/-- The group's gates opened by a release. -/
def groupUngated (d : Dev) (p : Nat) : Dev := forEach (bitList (d.step p).group 32) d (fun s n => s.ungate d.releaseHold n)

theorem quiet_groupUngated (d : Dev) (p : Nat) : quiet (groupUngated d p) = quiet d :=
  forEach_keeps quiet _ d _ (fun e n => quiet_ungate e _ n)

theorem groupUngated_visible (d : Dev) (p m : Nat) : ((groupUngated d p).pav m).visible = (d.pav m).visible :=
  forEach_keeps (fun e => (e.pav m).visible) _ d _ (fun e n => ungate_visible e _ n m)

/-- A barrier that every pavilion of the group has reached releases the next beat. -/
theorem beatRelease_passes (d : Dev) {p : Nat} (hr : (d.step p).running = true) (hb : (d.step p).beat + 1 < (d.step p).beats)
    (hm : ∀ n, n < 32 → bitN (d.step p).group n = true → d.marked p n = true) :
    d.beatRelease p = (groupUngated d p).setStep p
      { d.step p with beat := (d.step p).beat + 1, throttle := (d.step p).throttle + d.releaseHold } := by
  have hgo : (!(d.step p).running || decide ((d.step p).beats ≤ (d.step p).beat + 1) ||
      !(bitList (d.step p).group 32).all (d.marked p ·)) = false := by simp [hr, all_bitList hm, hb]
  simp only [Dev.beatRelease, hgo, Bool.false_eq_true, if_false]
  rfl

theorem changes_beatRelease (s : State) (p : Nat) (x : StepCtl) :
    Changes s { s with dev := (groupUngated s.dev p).setStep p x } (fun d e => { d with pavs := e.pavs, steps := e.steps }) :=
  changes_dev s _ _ (congrArg (fun e : Dev => { e with
    pavs := (groupUngated s.dev p).pavs, steps := ((groupUngated s.dev p).setStep p x).steps }) (quiet_groupUngated s.dev p))

/-! ### The end of a step -/

theorem stepNo_running (d : Dev) {p : Nat} (h : (d.step p).running = true) : d.stepNo p = (d.ctx (d.step p).ctx).steps + 1 := by
  simp [Dev.stepNo, h]

theorem ctx_onCtx_same (d : Dev) (c : Nat) (f : Ctx → Ctx) : (d.onCtx c f).ctx c = f (d.ctx c) := ctx_setCtx_same d c _

/-- A step's end is one write of its controller and one of its context, whatever faults it has met, and then the verdict (R16, R20,
R33, R510). -/
theorem stepEnd_eq (d : Dev) {p : Nat} (hr : (d.step p).running = true) (hb : (d.step p).beat + 1 = (d.step p).beats)
    (hd : ∀ n, n < 32 → bitN (d.step p).group n = true → d.retired p n = true) :
    ∃ (e : Dev) (x : StepCtl) (y : EndedStep) (clean : Bool),
      d.stepEnd p = ((e.setStep p x).onCtx (d.step p).ctx (fun c => { c with steps := d.stepNo p, ended := some y })).verdictSend
        (d.step p).ctx (d.stepNo p) clean ∧
      (x.running = false ∧ x.abandoned = false ∧ x.endTick = d.time.count ∧
        x.lastDur = min (d.time.count - (d.step p).start).toNat (2 ^ 32 - 1)) ∧
      y.number = d.stepNo p ∧ y.variant = (d.step p).variant ∧ y.endTick = d.time.count := by
  have hgo : (!(d.step p).running || decide ((d.step p).beat + 1 ≠ (d.step p).beats) ||
      !(bitList (d.step p).group 32).all (d.retired p ·)) = false := by simp [hr, all_bitList hd, hb]
  unfold Dev.stepEnd
  extract_lets sc grp now no dur missed d1 d2 cats cause d3 sc3 recov d4 sc4 d6
  rw [if_neg (ne_true_of_eq_false hgo)]
  exact ⟨d4.sliceLate p, _, _, !sc4.withheld, rfl, ⟨rfl, rfl, rfl, rfl⟩, rfl, rfl, rfl⟩

/-- What the end of a step leaves in its controller and its context. -/
theorem stepEnd_leaves (d : Dev) {p : Nat} (hr : (d.step p).running = true) (hb : (d.step p).beat + 1 = (d.step p).beats)
    (hd : ∀ n, n < 32 → bitN (d.step p).group n = true → d.retired p n = true) :
    let t := d.stepEnd p
    let x := (t.ctx (d.step p).ctx)
    (t.step p).running = false ∧ (t.step p).abandoned = false ∧ (t.step p).endTick = d.time.count ∧
      (t.step p).lastDur = min (d.time.count - (d.step p).start).toNat (2 ^ 32 - 1) ∧
      x.steps = (d.ctx (d.step p).ctx).steps + 1 ∧
      ∃ e, x.ended = some e ∧ e.number = (d.ctx (d.step p).ctx).steps + 1 ∧ e.variant = (d.step p).variant ∧ e.endTick = d.time.count := by
  obtain ⟨e, x, y, clean, heq, ⟨hrun, haband, hend, hdur⟩, hnum, hvar, hyend⟩ := stepEnd_eq d hr hb hd
  rw [heq]
  simp only [verdictSend_step, verdictSend_ctx, onCtx_step, ctx_onCtx_same, step_setStep_same]
  exact ⟨hrun, haband, hend, hdur, stepNo_running d hr, y, rfl, hnum.trans (stepNo_running d hr), hvar, hyend⟩

/-! ### The margins of a cycle -/

/-- The warning level of a pavilion's monitors (R360). -/
def warnLevel (d : Dev) (n : Nat) : Nat := bitsN (d.rgN (pavPage n) 0x60C 0) 0 6

/-- The margins of a cycle as the monitors' registers show them (R360, R389). -/
def marginsShown (d : Dev) (n : Nat) (margins : List Nat) : Dev :=
  forEach ((List.range 8).zip margins) d (fun s e =>
    let m := min e.2 63
    let old := s.rgN (pavPage n) (0x620 + 4 * e.1) 0
    let low := if old = 0 then m else min m (bitsN old 8 6)
    let warned := bitN old 14 || decide (m ≤ warnLevel d n)
    s.setN (pavPage n) (0x620 + 4 * e.1) 0 (m + 256 * low + (if warned then 2 ^ 14 else 0)))

theorem marginsShown_pavs (d : Dev) (n : Nat) (margins : List Nat) : (marginsShown d n margins).pavs = d.pavs :=
  forEach_keeps Dev.pavs _ d _ (fun _ _ => rfl)

theorem quiet_marginsShown (d : Dev) (n : Nat) (margins : List Nat) : quiet (marginsShown d n margins) = quiet d :=
  forEach_keeps quiet _ d _ (fun _ _ => rfl)

/-- A pavilion whose monitors have been read: the lowest margin, and whether its next cycle is slow. -/
def marginsTaken (margins : List Nat) (slow : Bool) (p : Pav) : Pav :=
  { p with minMargin := margins.foldl min p.minMargin, slowPeriod := slow }

/-- A stretched cycle counted, in the next beat where the cycle is the last of its beat (R361, R362). -/
def stretchCounted (fs : Nat) (next : Prop) [Decidable next] (p : Pav) : Pav :=
  { p with
    stretched := if next then p.stretched else p.stretched + 1, carryStretch := if next then 1 else p.carryStretch
    lost := { p.lost with stretch := p.lost.stretch + 1, stretchFs := p.lost.stretchFs + fs } }

section
variable (d : Dev) {n : Nat} (margins : List Nat) (hn : n < d.pavs.length)

include hn in
theorem marginsTaken_pav (slow : Bool) :
    ((marginsShown d n margins).onPav n (marginsTaken margins slow)).pav n = marginsTaken margins slow (d.pav n) := by
  have hpavs := marginsShown_pavs d n margins
  rw [pav_onPav_same _ _ (by rw [hpavs]; exact hn), pav_of_pavs hpavs]

include hn in
theorem stretchCounted_pav (fs : Nat) (next : Prop) [Decidable next] :
    (((marginsShown d n margins).onPav n (marginsTaken margins true)).onPav n (stretchCounted fs next)).pav n =
      stretchCounted fs next (marginsTaken margins true (d.pav n)) := by
  rw [pav_onPav_same _ _ (by rw [onPav_length, marginsShown_pavs]; exact hn), marginsTaken_pav d margins hn]

end

/-- MARGIN_ALARM, bit 6 of a pavilion's page, is of class C or no class. -/
theorem marginAlarm_class (n : Nat) : (errClass ((blockOf (pavPage n)).getD 0xFFF) 6).getD .none ∈ [FaultClass.none, .c] :=
  (by decide : ∀ b ∈ [0x010, 0x040, 0x050, 0x051, 0x060, 0x070, 0x072, 0x073, 0x080, 0x090, 0x0A0, 0xFFF],
    (errClass b 6).getD .none ∈ [FaultClass.none, .c]) _ (block_pavPage n)

/-- A fault without a class, or of class C, has no consequence. -/
theorem consequence_none (d : Dev) (page : Nat) {cls : FaultClass} (abandon : Bool) (w : Where) (r : Reason)
    (h : cls ∈ [FaultClass.none, .c]) : d.consequence page cls abandon w r = d := by
  cases cls with
  | none => rfl
  | c => rfl
  | d => simp at h
  | f => simp at h
  | x => simp at h

/-- The margin alarm is its record alone. -/
theorem marginAlarm_eq (d : Dev) (n : Nat) (w : Where) : ∃ cls, d.raise (pavPage n) 6 w = d.recordB (pavPage n) 0 6 cls false w :=
  ⟨_, consequence_none _ _ false w .localFault (marginAlarm_class n)⟩

/-- Does a monitor of a cycle stand at or below the warning level? -/
def warned (d : Dev) (n : Nat) (margins : List Nat) : Bool := (margins.map (fun m => decide (min m 63 ≤ warnLevel d n))).any id

theorem warned_iff (d : Dev) (n : Nat) (margins : List Nat) :
    warned d n margins = true ↔ ∃ m, m ∈ margins ∧ min m 63 ≤ warnLevel d n := by
  simp only [warned, List.any_map, List.any_eq_true, Function.comp, id, decide_eq_true_eq]

section
variable (d : Dev) {n : Nat} {margins : List Nat} (hrun : (d.pav n).run = .running) (hst : (d.pav n).stall = none)
  (hg : (d.pav n).gated = false) (hlen : margins.length = 8)

include hrun hst hg hlen

/-- A cycle without a warning: its margins are taken. -/
theorem monitor_calm (h : warned d n margins = false) :
    d.monitor n margins = (marginsShown d n margins).onPav n (marginsTaken margins false) := by
  have hgo : (decide ((d.pav n).run ≠ .running) || (d.pav n).stall.isSome || (d.pav n).gated || decide (margins.length ≠ 8)) = false := by
    simp [hrun, hst, hg, hlen]
  unfold Dev.monitor
  extract_lets p pg lvl warns d1 d2 next d3
  have hw : warns.any id = false := h
  rw [if_neg (ne_true_of_eq_false hgo), hw, if_pos (by rfl)]
  simp only [d2, hw]
  rfl

/-- A cycle with a warning: its margins are taken and the stretch is counted; the 17th of a beat records the margin alarm. -/
theorem monitor_warned (hn : n < d.pavs.length) (h : warned d n margins = true) :
    (d.monitor n margins).pav n =
        stretchCounted (d.rgN (pavPage n) 0x604 0) ((d.pav n).cycle % 256 = 255) (marginsTaken margins true (d.pav n)) ∧
      quiet (d.monitor n margins) = quiet d := by
  have hgo : (decide ((d.pav n).run ≠ .running) || (d.pav n).stall.isSome || (d.pav n).gated || decide (margins.length ≠ 8)) = false := by
    simp [hrun, hst, hg, hlen]
  have hpav := stretchCounted_pav d margins hn (d.rgN (pavPage n) 0x604 0) ((d.pav n).cycle % 256 = 255)
  have hquiet := quiet_marginsShown d n margins
  unfold Dev.monitor
  extract_lets p pg lvl warns d1 d2 next d3
  have hw : warns.any id = true := h
  have hd3 : d3 = (((marginsShown d n margins).onPav n (marginsTaken margins true)).onPav n
      (stretchCounted (d.rgN (pavPage n) 0x604 0) ((d.pav n).cycle % 256 = 255))).count (pavPage n) 0x120 1 := by
    simp only [d3, d2, hw]
    rfl
  rw [if_neg (ne_true_of_eq_false hgo), hw, if_neg (by decide), hd3]
  split
  · obtain ⟨cls, hcls⟩ := marginAlarm_eq (Dev.countB _ 0x005 0x124 p.plot 1) n (pavWhere n 0 0)
    rw [hcls]
    refine ⟨(pav_of_pavs ?_ n).trans hpav, ?_⟩
    · rw [recordB_pavs, Dev_countB_pavs, Dev_count_pavs]
    · rw [quiet_recordB, quiet_countB, quiet_count, quiet_onPav, quiet_onPav, hquiet]
  · refine ⟨(pav_of_pavs (Dev_count_pavs _ _ _ _) n).trans hpav, ?_⟩
    rw [quiet_count, quiet_onPav, quiet_onPav, hquiet]

end

end Sys2Proof.Laws
end

section
/-! SUPPORT. The release of a step: what readying it leaves alone, the pavilions and trackers it starts, and what follows in the device
(R15, R16, R143, R316, R398). -/
namespace Sys2Proof.Laws
open Sys2Proof.Machine

/-! ### Updates of pavilions through a list -/

/-- What an update of one pavilion keeps of it, it keeps of the list of pavilions. -/
theorem onPav_map {β : Type} (view : Pav → β) (d : Dev) (n : Nat) {f : Pav → Pav} (h : ∀ p, view (f p) = view p) :
    (d.onPav n f).pavs.map view = d.pavs.map view := by
  apply List.ext_getElem?
  intro m
  simp only [Dev.onPav, setPav_pavs, setAt, List.getElem?_map, List.getElem?_set]
  split
  next hm =>
    subst hm
    split
    next hlt => simp [h, Dev.pav, nthD, hlt]
    next hge => rw [List.getElem?_eq_none (by omega)]
  next => rfl

theorem pav_map {β : Type} {view : Pav → β} {d e : Dev} (h : e.pavs.map view = d.pavs.map view) (n : Nat) :
    view (e.pav n) = view (d.pav n) := by
  have hget : (e.pavs[n]?).map view = (d.pavs[n]?).map view := by rw [← List.getElem?_map, ← List.getElem?_map, h]
  simp only [Dev.pav, nthD]
  cases he : e.pavs[n]? with
  | none =>
    cases hd : d.pavs[n]? with
    | none => rfl
    | some q => simp [he, hd] at hget
  | some p =>
    cases hd : d.pavs[n]? with
    | none => simp [he, hd] at hget
    | some q => simpa [he, hd] using hget

theorem length_map {β : Type} {view : Pav → β} {d e : Dev} (h : e.pavs.map view = d.pavs.map view) : e.pavs.length = d.pavs.length := by
  simpa using congrArg List.length h

/-- Pavilions updated one after another: each of the list once, the others not. -/
theorem pav_forEach_onPav (f : Pav → Pav) (l : List Nat) (d : Dev) {n : Nat} (hl : l.Nodup) (hn : n < d.pavs.length) :
    (forEach l d (fun s m => s.onPav m f)).pav n = if n ∈ l then f (d.pav n) else d.pav n := by
  unfold forEach
  induction l generalizing d with
  | nil => rfl
  | cons m rest ih =>
    obtain ⟨hm, hrest⟩ := List.nodup_cons.1 hl
    rw [List.foldl_cons, ih (d.onPav m f) hrest (by rw [onPav_length]; exact hn)]
    by_cases hnm : n = m
    · subst hnm
      rw [if_neg hm, if_pos (by simp), pav_onPav_same d f hn]
    · rw [pav_onPav_other d f hnm]
      simp [hnm]

/-! ### What readying a step leaves alone -/

/-- What the readying of a step leaves alone in a pavilion. -/
def pavCore (p : Pav) : RunState × SMap AccRow × Mem := (p.run, p.acc, p.tier)

/-- From `d` to `e` the time, the plots, the trackers and the oscillators are as they were, and so are each pavilion's run state,
accumulators and weight tier and the steps of context `c` that are to be withheld. -/
structure Readied (c : Nat) (d e : Dev) : Prop where
  time : e.time = d.time
  plots : e.plots = d.plots
  trackers : e.trackers = d.trackers
  cores : e.pavs.map pavCore = d.pavs.map pavCore
  oscs : ∀ n, n < 32 → e.oscState n = d.oscState n
  aborts : (e.ctx c).withholdNext = (d.ctx c).withholdNext

theorem Readied.refl (c : Nat) (d : Dev) : Readied c d d := ⟨rfl, rfl, rfl, rfl, fun _ _ => rfl, rfl⟩

theorem Readied.trans {c : Nat} {d e f : Dev} (h : Readied c d e) (g : Readied c e f) : Readied c d f :=
  ⟨g.time.trans h.time, g.plots.trans h.plots, g.trackers.trans h.trackers, g.cores.trans h.cores,
    fun n hn => (g.oscs n hn).trans (h.oscs n hn), g.aborts.trans h.aborts⟩

theorem Readied.forEach {α : Type} {c : Nat} (l : List α) (d : Dev) (f : Dev → α → Dev) (h : ∀ e x, Readied c e (f e x)) :
    Readied c d (forEach l d f) := by
  unfold Sys2Proof.Machine.forEach
  induction l generalizing d with
  | nil => exact .refl c d
  | cons x rest ih => exact (h d x).trans (ih (f d x))

/-- A register of the Gatehouse written. -/
theorem readied_setN (c : Nat) (d : Dev) {o : Nat} (b v : Nat) (ho : o < 4096) : Readied c d (d.setN 0x002 o b v) :=
  ⟨rfl, rfl, rfl, rfl, fun n hn => by
    rw [Dev.oscState, Dev.oscState,
      rgN_setN_page d v (by decide) ho (by unfold pavPage; omega) (by decide) (by unfold pavPage; omega)], rfl⟩

theorem readied_count (c : Nat) (d : Dev) {o : Nat} (n : Nat) (ho : o < 4096) : Readied c d (d.count 0x002 o n) := by
  unfold Dev.count Dev.countB
  split
  · exact .refl c d
  · exact readied_setN c d 0 _ ho

/-- A fault of the Gatehouse recorded. -/
theorem readied_recordB (c : Nat) (d : Dev) (bit : Nat) (cls : FaultClass) (w : Where) :
    Readied c d (d.recordB 0x002 0 bit cls false w) where
  time := by simp
  plots := by simp
  trackers := by simp
  cores := by simp
  oscs := fun n hn => by
    have hp : pavPage n < 4096 ∧ pavPage n ≠ 2 ∧ pavPage n ≠ 0 ∧ pavPage n ≠ 9 ∧ pavPage n ≠ 0x070 ∧ pavPage n ≠ 0x071 := by
      unfold pavPage; omega
    obtain ⟨hlt, h2, h0, h9, h70, h71⟩ := hp
    rw [Dev.oscState, Dev.oscState, rgN_recordB d cls false w (by decide) hlt (by decide) h2 h0 h9 h70 h71]
  aborts := by simp [Dev.ctx]

theorem readied_setCtx (d : Dev) (c : Nat) (x : Ctx) (h : x.withholdNext = (d.ctx c).withholdNext) : Readied c d (d.setCtx c x) :=
  ⟨rfl, rfl, rfl, rfl, fun _ _ => rfl, by rw [ctx_setCtx_same, h]⟩

theorem readied_onCtx (d : Dev) (c : Nat) {f : Ctx → Ctx} (h : ∀ x, (f x).withholdNext = x.withholdNext) : Readied c d (d.onCtx c f) :=
  readied_setCtx d c _ (h _)

theorem readied_onPav (c : Nat) (d : Dev) (n : Nat) {f : Pav → Pav} (h : ∀ p, pavCore (f p) = pavCore p) : Readied c d (d.onPav n f) :=
  ⟨rfl, rfl, rfl, onPav_map pavCore d n h, fun _ _ => rfl, rfl⟩

theorem readied_dropRefs (c : Nat) (d : Dev) (p : Nat) (b : Bundle) : Readied c d (d.dropRefs p b) :=
  .forEach _ d _ (fun e x => by
    split
    · exact ⟨rfl, rfl, rfl, rfl, fun _ _ => rfl, rfl⟩
    · exact .refl c e)

theorem readied_zeroLive (c : Nat) (d : Dev) (b : BundleBody) : Readied c d (d.zeroLive b) :=
  .forEach _ d _ (fun e _ => readied_onPav c e _ (fun _ => rfl))

theorem readied_abortAll (c : Nat) (d : Dev) : Readied c d (d.abortAll c) := by
  unfold Dev.abortAll
  dsimp only
  split
  · exact .refl c d
  · exact ⟨rfl, rfl, rfl, rfl, fun _ _ => rfl, rfl⟩

theorem readied_promoteBanks (c : Nat) (d : Dev) : Readied c d { d with pavs := d.pavs.map (Pav.promoteBanks · c) } :=
  ⟨rfl, rfl, rfl, by simp only [List.map_map]; rfl, fun _ _ => rfl, rfl⟩

theorem readied_activate (c : Nat) (d : Dev) : Readied c d (d.activate c) := by
  unfold Dev.activate
  extract_lets x d1 d2
  split
  · exact .refl c d
  · extract_lets k fixed pend d3 d4 d5
    have h1 : Readied c d d1 := by
      simp only [d1]
      split
      · exact readied_dropRefs c d _ _
      · exact .refl c d
    have h3 : Readied c d2 d3 := by
      simp only [d3]
      split
      · exact readied_zeroLive c d2 _
      · exact .refl c d2
    have h123 : Readied c d d3 := (h1.trans (readied_promoteBanks c d1)).trans h3
    have h4 : Readied c d3 d4 := readied_setCtx d3 c _ h123.aborts.symm
    have h5 : Readied c d d5 := (h123.trans h4).trans (readied_count c d4 (o := 0x108) 1 (by decide))
    split
    · exact h5
    · exact (h5.trans (readied_abortAll c d5)).trans (readied_recordB c _ 2 .f _)

theorem readied_switchSet (c : Nat) (d : Dev) (set : Nat) : Readied c d (d.switchSet c set) := by
  unfold Dev.switchSet
  extract_lets x
  split
  · exact .refl c d
  · have hset : Readied c d (d.setCtx c { x with set := set }) := readied_setCtx d c _ rfl
    exact (hset.trans (readied_count c _ (o := 0x114) 1 (by decide))).trans (readied_setN c _ (o := 0x430) 0 _ (by decide))

/-- A late patch that lands leaves the steps to be withheld. -/
theorem landed_withholdNext (x : Ctx) (now : Nat) : (x.landed now).withholdNext = x.withholdNext := by
  unfold Ctx.landed
  split <;> rfl

theorem readied_patch (c : Nat) (d : Dev) (owner : ParamOwner) (p : Nat) (v : W64) : Readied c d (d.patch c owner p v).1 := by
  unfold Dev.patch
  extract_lets x ok now y
  split
  · refine readied_setCtx d c _ ?_
    split
    · rfl
    · split
      · exact landed_withholdNext x now
      · rfl
  · exact (readied_count c d (o := 0x110) 1 (by decide)).trans (readied_recordB c _ 1 _ _)

/-- A device with a release's bundle, set, parameters and count in place. -/
def readyStep (d : Dev) (c set : Nat) (vals : List (Nat × Nat)) : Dev :=
  let no := (d.ctx c).steps + 1
  let d1 := if d.taking c then d.activate c else d
  let d2 := forEach vals (d1.switchSet c set) (fun s e => (s.patch c .kiosk e.1 (BitVec.ofNat 64 e.2)).1)
  (d2.onCtx c (fun x => let y := x.landed d2.time.elapsed
    { y with live := y.pend, paramReady := false, verdicts := y.verdicts.filter (fun v => decide (no.toNat ≤ v / 4096)) })).count 0x002 0x10C 1

theorem readied_readyStep (d : Dev) (c set : Nat) (vals : List (Nat × Nat)) : Readied c d (readyStep d c set vals) := by
  unfold readyStep
  extract_lets no d1 d2
  have h1 : Readied c d d1 := by
    simp only [d1]
    split
    · exact readied_activate c d
    · exact .refl c d
  have h2 : Readied c d1 d2 := (readied_switchSet c d1 set).trans (.forEach _ _ _ (fun e x => readied_patch c e .kiosk _ _))
  refine ((h1.trans h2).trans ?_).trans (readied_count c _ (o := 0x10C) 1 (by decide))
  exact readied_onCtx d2 c (fun x => landed_withholdNext x _)

/-! ### Trackers, buffers and pavilions of a step that starts -/

theorem smap_find_map {α : Type} (m : SMap α) (f : Nat → Bool) (g : α → α) (k : Nat) :
    SMap.find (m.map (fun e => if f e.1 then (e.1, g e.2) else e)) k = (SMap.find m k).map (if f k then g else id) := by
  induction m with
  | nil => rfl
  | cons e rest ih =>
    obtain ⟨a, v⟩ := e
    by_cases ha : a = k
    · subst ha
      cases hf : f a <;> simp [SMap.find, hf]
    · cases hf : f a <;> simp [SMap.find, hf, ha, ih]

/-- A tracker of the plot turns: NEXT becomes CURRENT, NEXT becomes 0 (R316). -/
theorem turnTrackers_get (d : Dev) (p : Nat) {k : Nat} (h : inRange (d.plot p).trkRange k = true) :
    (d.turnTrackers p).trackers.get k ⟨0, 0⟩ = ⟨(d.trackers.get k ⟨0, 0⟩).next, 0⟩ := by
  have hfind := smap_find_map d.trackers (inRange (d.plot p).trkRange) (fun t => ⟨t.next, 0⟩) k
  simp only [SMap.get, Dev.turnTrackers]
  rw [hfind, h, if_pos rfl]
  cases SMap.find d.trackers k <;> rfl

theorem clearRed_cores (d : Dev) (b : BundleBody) : (d.clearRed b).pavs.map pavCore = d.pavs.map pavCore :=
  forEach_keeps (fun e => e.pavs.map pavCore) _ d _ (fun e r => onPav_map pavCore e r.pav (fun _ => rfl))

/-- A device whose step has started in its trackers, reduction buffers and pavilions. -/
def startGroup (d : Dev) (p c : Nat) (b : BundleBody) : Dev :=
  forEach (d.groupOf p) ((d.turnTrackers p).clearRed b) (fun s n => s.onPav n (·.startStep p c))

section
variable {β : Type} (view : Dev → β) (hp : ∀ (e : Dev) n f, view (e.onPav n f) = view e)

include hp in
theorem clearRed_keeps (d : Dev) (b : BundleBody) : view (d.clearRed b) = view d := forEach_keeps view _ d _ (fun e r => hp e r.pav _)

include hp in
/-- Beside the trackers the start of a step changes pavilions only. -/
theorem startGroup_keeps (d : Dev) (p c : Nat) (b : BundleBody) : view (startGroup d p c b) = view (d.turnTrackers p) :=
  (forEach_keeps view _ _ _ (fun e n => hp e n _)).trans (clearRed_keeps view hp _ b)

end

theorem startGroup_trackers (d : Dev) (p c : Nat) (b : BundleBody) : (startGroup d p c b).trackers = (d.turnTrackers p).trackers :=
  startGroup_keeps Dev.trackers (fun _ _ _ => rfl) d p c b

theorem groupOf_nodup (d : Dev) (p : Nat) : (d.groupOf p).Nodup := List.nodup_range.filter _

theorem mem_groupOf {d : Dev} {p n : Nat} (hn : n < 32) (hb : bitN (d.plot p).pairs (n / 2) = true) (hr : (d.pav n).run = .idle)
    (ho : d.oscState n = 2) : n ∈ d.groupOf p := by
  simp only [Dev.groupOf, List.mem_filter, List.mem_range]
  exact ⟨hn, by simp [hb, hr, ho]⟩

/-- A pavilion of the group stands at cycle 0 with its accumulators and weight tier (R143). -/
theorem startGroup_pav (d : Dev) (p c : Nat) (b : BundleBody) {n : Nat} (hn : n < d.pavs.length) (hg : n ∈ d.groupOf p) :
    ∃ q : Pav, (startGroup d p c b).pav n = q.startStep p c ∧ pavCore q = pavCore (d.pav n) := by
  have hcores := clearRed_cores (d.turnTrackers p) b
  have hlen : ((d.turnTrackers p).clearRed b).pavs.length = d.pavs.length := length_map hcores
  refine ⟨((d.turnTrackers p).clearRed b).pav n, ?_, pav_map hcores n⟩
  unfold startGroup
  rw [pav_forEach_onPav _ _ _ (groupOf_nodup d p) (by rw [hlen]; exact hn), if_pos hg]

/-! ### What follows in the device -/

/-- A pavilion but for its fill sequences. -/
def withoutFills (p : Pav) : Pav := { p with fills := [] }

theorem reserveFill_pavs (d : Dev) (n buf serial kib : Nat) (lp : Bool) :
    (d.reserveFill n buf serial kib lp).pavs.map withoutFills = d.pavs.map withoutFills := by
  unfold Dev.reserveFill
  exact onPav_map withoutFills d n (fun _ => rfl)

/-- The steps, trackers and contexts of a device, and its pavilions but for their fill sequences. -/
def startView (d : Dev) : SMap StepCtl × SMap Tracker × SMap Ctx × List Pav :=
  (d.steps, d.trackers, d.ctxs, d.pavs.map withoutFills)

theorem startView_count (d : Dev) (pg o n : Nat) : startView (d.count pg o n) = startView d := by simp [startView]

theorem endHold_view (d : Dev) (c : Nat) : startView (d.endHold c) = startView d := by
  unfold Dev.endHold
  split
  · exact startView_count _ _ _ _
  · rfl

theorem endHold_phase (d : Dev) (c : Nat) : ((d.endHold c).kc c).phase = (d.kc c).phase := by
  unfold Dev.endHold
  split
  · have hcount : ∀ e : Dev, ∀ n, (e.count 0x003 0x14C n).kc c = e.kc c := fun e n => by
      simp only [Dev.kc, Dev_count_kctx]
    rw [hcount, Dev.onKc, kc_setKc_same]
  · rfl

/-- The input buffer's transfer opens: a transfer, and an entry of a fill sequence. -/
theorem fillInput_keeps {β : Type} (view : Dev → β) (hp : ∀ (e : Dev) n buf k j lp, view (e.reserveFill n buf k j lp) = view e)
    (hx : ∀ (e : Dev) o kind p f, view (e.openLocal o kind p f).1 = view e) (d : Dev) (c : Nat) (b : BundleBody) (img : List Byte) :
    view (d.fillInput c b img) = view d := by
  unfold Dev.fillInput
  split
  · rfl
  · extract_lets n serial r
    have hr : view r.1 = view d := hx d _ _ _ _
    split
    · rw [hp, hr]
    · exact hr

theorem fillInput_view (d : Dev) (c : Nat) (b : BundleBody) (img : List Byte) : startView (d.fillInput c b img) = startView d :=
  fillInput_keeps startView
    (fun e n buf k j lp => congrArg (fun l => (e.steps, e.trackers, e.ctxs, l)) (reserveFill_pavs e n buf k j lp))
    (fun _ _ _ _ _ => rfl) d c b img

theorem fillInput_plots (d : Dev) (c : Nat) (b : BundleBody) (img : List Byte) : (d.fillInput c b img).plots = d.plots :=
  fillInput_keeps Dev.plots (fun _ _ _ _ _ _ => rfl) (fun _ _ _ _ _ => rfl) d c b img

theorem fillInput_kctx (d : Dev) (c : Nat) (b : BundleBody) (img : List Byte) : (d.fillInput c b img).kctx = d.kctx :=
  fillInput_keeps Dev.kctx (fun _ _ _ _ _ _ => rfl) (fun _ _ _ _ _ => rfl) d c b img

/-! ### The release -/

theorem ctx_of_ctxs {d e : Dev} (h : e.ctxs = d.ctxs) (c : Nat) : e.ctx c = d.ctx c := by simp only [Dev.ctx, h]
theorem plot_of_plots {d e : Dev} (h : e.plots = d.plots) (p : Nat) : e.plot p = d.plot p := by simp only [Dev.plot, h]
theorem kc_of_kctx {d e : Dev} (h : e.kctx = d.kctx) (c : Nat) : e.kc c = d.kc c := by simp only [Dev.kc, h]

/-- The controller of a step that a release has just started (R15, R16). -/
def stepStarted (x : StepCtl) (c vn : Nat) (v : VariantBody) (now : W64) : Prop :=
  x.running = true ∧ x.ctx = c ∧ x.variant = vn ∧ x.beats = v.beats ∧ x.deadline = v.deadline ∧ x.start = now ∧ x.beat = 0 ∧
    x.withheld = false

/-- A release of a step that nothing is to withhold: on the readied device the group starts, then the controller is set, the Kiosk's
phase and the resident context follow, and nothing else of what a step shows. -/
theorem release_leaves (d : Dev) (c : Nat) (b : Bundle) (set vn : Nat) (v : VariantBody) (vals : List (Nat × Nat)) (img : List Byte)
    (hw : (d.ctx c).withholdNext = []) {t : Dev} (ht : d.release c b set vn v vals img = t) :
    let e := startGroup (readyStep d c set vals) (d.ctx c).plot c b.body
    stepStarted (t.step (d.ctx c).plot) c vn v e.time.count ∧ (t.kc c).phase = .released ∧ (t.plot (d.ctx c).plot).resident = some c ∧
      t.trackers = e.trackers ∧ t.pavs.map withoutFills = e.pavs.map withoutFills := by
  intro e
  unfold Dev.release at ht
  extract_lets x p no d1 d2 d3 grp d4 canary old fin kept d5 gap d6 recov d7 d8 d9 at ht
  have hready : Readied c d d3 := readied_readyStep d c set vals
  have he : e = d4 := rfl
  have h56 : startView d6 = startView d5 := (endHold_view _ c).trans rfl
  have h67 : startView d7 = startView d6 := by simp only [d7]; split <;> rfl
  have h9 : startView d9 = startView d5 := ((fillInput_view d8 c b.body img).trans h67).trans h56
  obtain ⟨hsteps, htrackers, hctxs, hpavs⟩ : d9.steps = d5.steps ∧ d9.trackers = d5.trackers ∧ d9.ctxs = d5.ctxs ∧
      d9.pavs.map withoutFills = d5.pavs.map withoutFills := by simpa only [startView, Prod.mk.injEq] using h9
  have hctx : d9.ctx c = d3.ctx c :=
    ctx_of_ctxs (hctxs.trans (startGroup_keeps Dev.ctxs (fun _ _ _ => rfl) d3 p c b.body)) c
  have hnone : (d9.ctx c).withholdNext = [] := by rw [hctx, hready.aborts, hw]
  rw [hnone] at ht
  simp only [List.find?_nil] at ht
  subst ht
  have h7 : d7.kctx = d6.kctx := by simp only [d7]; split <;> rfl
  refine ⟨?step, ?phase, ?resident, htrackers, hpavs⟩
  case step =>
    rw [step_of_steps hsteps, step_setStep_same]
    exact ⟨rfl, rfl, rfl, rfl, rfl, rfl, rfl, rfl⟩
  case phase =>
    rw [kc_of_kctx ((fillInput_kctx d8 c b.body img).trans h7), endHold_phase, Dev.onKc, kc_setKc_same]
  case resident =>
    rw [plot_of_plots (fillInput_plots d8 c b.body img)]
    exact congrArg Plot.resident (plot_setPlot_same d7 p _)

/-- A context whose turn it is, whose deadline fits and whose launch, where it needs one, has started, is released. -/
theorem stepRelease_releases (d : Dev) (c : Nat) {b : Bundle} {set vn : Nat} {v : VariantBody} {vals : List (Nat × Nat)} {img : List Byte}
    (hcan : d.canRelease c = some (b, set, vn, v, vals, img)) (hturn : d.turnOf c = true) (hfits : d.sliceFits c v.deadline = true)
    (hmulti : b.multi = false ∨ (d.taking c = false ∧ (d.ctx c).launch.isSome = true)) :
    d.stepRelease c = d.release c b set vn v vals img := by
  have hgo : (!d.turnOf c || !d.sliceFits c v.deadline || (b.multi && (d.taking c || (d.ctx c).launch.isNone))) = false := by
    rcases hmulti with hm | ⟨ht, hl⟩
    · simp [hturn, hfits, hm]
    · simp [hturn, hfits, ht, Option.isNone_eq_false_iff.2 hl]
  unfold Dev.stepRelease
  rw [hcan]
  exact if_neg (ne_true_of_eq_false hgo)

/-- A pavilion that has started a step: at cycle 0 with empty registers, its accumulators and weight tier as they were (R143). -/
def pavStarted (p q : Pav) : Prop :=
  q.run = .running ∧ q.cycle = 0 ∧ q.sregs = [] ∧ q.idx = [] ∧ q.preds = [] ∧ q.acc = p.acc ∧ q.tier = p.tier

theorem pavStarted_of_core {p q r : Pav} {plot c : Nat} (hr : withoutFills r = withoutFills (q.startStep plot c)) (hq : pavCore q = pavCore p) :
    pavStarted p r := by
  simp only [pavCore, Prod.mk.injEq] at hq
  obtain ⟨-, hacc, htier⟩ := hq
  exact ⟨congrArg Pav.run hr, congrArg Pav.cycle hr, congrArg Pav.sregs hr, congrArg Pav.idx hr, congrArg Pav.preds hr,
    (congrArg Pav.acc hr).trans hacc, (congrArg Pav.tier hr).trans htier⟩

/-- The idle pavilions of the plot with a locked oscillator start, and the plot's trackers turn. -/
theorem release_starts (d : Dev) (c : Nat) (b : Bundle) (set vn : Nat) (v : VariantBody) (vals : List (Nat × Nat)) (img : List Byte)
    (hw : (d.ctx c).withholdNext = []) :
    let p := (d.ctx c).plot
    let t := d.release c b set vn v vals img
    (∀ n, n < 32 → n < d.pavs.length → bitN (d.plot p).pairs (n / 2) = true → (d.pav n).run = .idle → d.oscState n = 2 →
      pavStarted (d.pav n) (t.pav n)) ∧
    (∀ k, inRange (d.plot p).trkRange k = true → t.trackers.get k ⟨0, 0⟩ = ⟨(d.trackers.get k ⟨0, 0⟩).next, 0⟩) := by
  intro p t
  have hready := readied_readyStep d c set vals
  obtain ⟨-, -, -, htrackers, hpavs⟩ := release_leaves d c b set vn v vals img hw (t := t) rfl
  have hplot : (readyStep d c set vals).plot p = d.plot p := plot_of_plots hready.plots p
  refine ⟨fun n hn hlen hpair hidle hosc => ?pav, fun k hk => ?tracker⟩
  case pav =>
    have hcore : pavCore ((readyStep d c set vals).pav n) = pavCore (d.pav n) := pav_map hready.cores n
    have hgroup : n ∈ (readyStep d c set vals).groupOf p := mem_groupOf hn (by rw [hplot]; exact hpair)
      ((congrArg Prod.fst hcore).trans hidle) ((hready.oscs n hn).trans hosc)
    obtain ⟨q, hq, hqcore⟩ := startGroup_pav (readyStep d c set vals) p c b.body (by rw [length_map hready.cores]; exact hlen) hgroup
    exact pavStarted_of_core ((pav_map hpavs n).trans (congrArg withoutFills hq)) (hqcore.trans hcore)
  case tracker =>
    rw [htrackers]
    refine (congrArg (fun m : SMap Tracker => m.get k ⟨0, 0⟩) (startGroup_trackers _ p c b.body)).trans ?_
    rw [turnTrackers_get _ p (by rw [hplot]; exact hk), hready.trackers]

end Sys2Proof.Laws
end

section
/-! SUPPORT. The statements about the instructions of a plan that control, send, receive and stall, and about steps. -/
namespace Sys2Proof
open Sys2Proof.Machine Sys2Proof.Laws

/-- Settles O8: each instruction issues, nothing blocks it, and it is one update of its pavilion or none. -/
theorem controlInstructionsComplete : Obligations.ControlInstructionsComplete := by
  intro s i
  refine ⟨fun h => exec_performs rfl h rfl rfl, fun k h => exec_performs rfl h rfl rfl,
    fun k l h hm => exec_performs rfl h rfl (await_met _ _ _ hm), fun k c h hc => exec_performs rfl h rfl (fence_met _ _ _ hc),
    fun n act ctr h => ?loop, fun f rest h hl => ?endloop, fun h ho => ?stepEnd⟩
  case loop =>
    obtain ⟨t, ht, hp⟩ := exec_updates (x := .loop i n act ctr) (·.loopStart i.cycle n act ctr false) rfl h rfl rfl rfl
    refine ⟨t, ht, by rw [hp]; exact loopStart_loops _ i.cycle n act ctr, fun j hj => ?_⟩
    rw [State.issueAfter, hp, hj]
    exact loopStart_counter _ i.cycle n act j
  case endloop =>
    obtain ⟨t, ht, hp⟩ := exec_updates (x := .endloop i) (·.loopEnd i.cycle) rfl h rfl rfl rfl
    refine ⟨t, ht, ?_⟩
    rw [State.issueAfter, hp]
    exact ⟨loopEnd_last _ i.cycle hl, loopEnd_next _ i.cycle hl⟩
  case stepEnd =>
    obtain ⟨t, ht, hp⟩ := exec_updates (x := .stepEnd i) (fun p => { p with ended := true }) rfl h rfl (stepEnd_met _ _ _ ho) rfl
    exact ⟨t, ht, by rw [hp], by rw [hp]; rfl⟩

/-- Settles O9: a send and a read are one update of their pavilion; an arrival splits by the flit's generation; an entry that comes back
updates the two ends of its route. -/
theorem flitsCrossOneByOne : Obligations.FlitsCrossOneByOne := by
  intro s i x
  refine ⟨fun src h hfree => ?send, fun dst f rest h hf => ?read, fun n q f rest hp hn hlen hne hq hw ht => ?arrival,
    fun n q y hp hn hlen hne hend hr => ⟨_, onDev_powered (·.freeReturn n x) s hp, freeReturn_counts s.dev hn hlen hne hend hr⟩⟩
  case send =>
    obtain ⟨t, ht, hp⟩ := exec_updates (x := .xsend i x src none) (·.xsend x src) rfl h rfl (xsend_met _ _ x src hfree) rfl
    exact ⟨t, ht, by rw [hp]; exact ⟨xsend_wire _ x src, xsend_free _ x src, rfl⟩⟩
  case read =>
    obtain ⟨t, ht, hp⟩ := exec_updates (x := .xrecv i x dst none) (·.xrecv x dst i.cycle) rfl h rfl (xrecv_met _ _ x dst hf) rfl
    obtain ⟨hfifo, hfreed, hland⟩ := xrecv_takes (s.dev.pavAt i) dst i.cycle hf
    refine ⟨t, ht, by rw [hp]; exact hfifo, by rw [hp]; exact hfreed, ?_⟩
    rw [Leaves, State.issueAfter, hp, hland, Dev.issuePav, settle_settle _ _ _ (Nat.le_add_right _ _)]
    rfl
  case arrival =>
    refine ⟨_, onDev_powered (·.flitArrival n x) s hp, ?_⟩
    by_cases hg : f.gen = (s.dev.pav n).inGen.get x 0
    · obtain ⟨hwire, hfifo⟩ := flitArrival_fifo s.dev hn hlen hne hq hw hg ht
      exact ⟨hwire, fun _ => hfifo, fun hno => absurd hg hno⟩
    · obtain ⟨hwire, hfifo⟩ := flitArrival_discards s.dev hlen hne hq hw hg
      exact ⟨hwire, fun hyes => absurd hyes hg, fun _ => hfifo⟩

/-- Settles O10: a stall holds the await in a pavilion that is otherwise as it was; closing it charges the ticks; its timeout raises a
class D fault, which lets the step run on, and then abandons the step. -/
theorem stallsHoldResumeAndTimeOut : Obligations.StallsHoldResumeAndTimeOut := by
  intro s
  refine ⟨fun i k l h hm => ?stall, fun n st i k l cnt hp hn hi hst hh hm => ?resume,
    fun n st hp hst hlim hb hr => ⟨_, onDev_powered (·.stallTimeout s.tie n) s hp, stallTimeout_abandons s.tie s.dev hst hlim hb hr⟩⟩
  case stall =>
    have hb : (s.dev.atIssue i).blocked i.pav false (.await k l) = some ⟨4, 0, .fabric⟩ := by
      rw [Dev.pavAt] at hm
      simp [Dev.blocked, hm]
    refine ⟨_, exec_stalls rfl h rfl hb, ?_⟩
    rw [stall_await _ i k l _ (pav_lt_of_issues h)]
    exact ⟨rfl, rfl, stallOf _ _, rfl, rfl, rfl, rfl⟩
  case resume =>
    obtain ⟨lost, hpav, hlost⟩ := closeStall_pav s.dev hst hn
    refine ⟨_, onDev_powered (·.resume n) s hp, ?_⟩
    rw [resume_await s.dev hst hh hm, pav_onPav_same _ _ (Nat.lt_of_lt_of_eq hn (closeStall_length s.dev n).symm), hpav]
    exact ⟨rfl, rfl, rfl, hlost⟩

/-- Settles O17, clause by clause: the release starts the group on the readied device; the barrier opens the gates and writes the controller;
the step's end is one write of the controller and one of the context; a cycle's margins stretch the next where one warns. -/
theorem stepsStartBeatAndEnd : Obligations.StepsStartBeatAndEnd := by
  intro s hp
  refine ⟨fun c b set vn v vals img hcan hturn hfits hmulti hw => ?release, fun p hr hb hm => ?beat, fun p hr hb hd => ?stepEnd,
    fun n margins hn hrun hst hg hlen => ?margins⟩
  case release =>
    refine ⟨_, onDev_powered (·.stepRelease c) s hp, ?_⟩
    rw [stepRelease_releases s.dev c hcan hturn hfits hmulti]
    obtain ⟨⟨hrun, hctx, hvar, hbeats, hdead, hstart, hbeat, hheld⟩, hphase, hres, -, -⟩ :=
      release_leaves s.dev c b set vn v vals img hw rfl
    obtain ⟨hpavs, htrackers⟩ := release_starts s.dev c b set vn v vals img hw
    have htime := (startGroup_keeps Dev.time (fun _ _ _ => rfl) (readyStep s.dev c set vals) (s.dev.ctx c).plot c b.body).trans
      (readied_readyStep s.dev c set vals).time
    exact ⟨hrun, hctx, hvar, hbeats, hdead, hstart.trans (congrArg Time.count htime), hbeat, hheld, hphase, hres, hpavs, htrackers⟩
  case beat =>
    refine ⟨_, onDev_powered (·.beatRelease p) s hp, ?_⟩
    rw [beatRelease_passes s.dev hr hb hm]
    exact ⟨step_setStep_same _ p _, releaseHold_settled s.dev, fun n => groupUngated_visible s.dev p n, changes_beatRelease s p _⟩
  case stepEnd =>
    refine ⟨_, onDev_powered (·.stepEnd p) s hp, ?_⟩
    obtain ⟨hrun, haband, hend, hdur, hctx⟩ := stepEnd_leaves s.dev hr hb hd
    exact ⟨hrun, haband, hend, hdur, hctx⟩
  case margins =>
    refine ⟨_, onDev_powered (·.monitor n margins) s hp, ?_⟩
    by_cases hw : warned s.dev n margins = true
    · obtain ⟨hpav, hquiet⟩ := monitor_warned s.dev hrun hst hg hlen hn hw
      obtain ⟨m, hm, hlow⟩ := (warned_iff s.dev n margins).1 hw
      refine ⟨fun hcalm => absurd (hcalm m hm) (Nat.not_lt.2 hlow), fun _ => ?_, changes_of_quiet s hquiet⟩
      rw [hpav]
      exact ⟨rfl, fun hmid => if_neg hmid, fun hlast => ⟨if_pos hlast, if_pos hlast⟩, rfl, rfl⟩
    · rw [monitor_calm s.dev hrun hst hg hlen (Bool.eq_false_iff.2 hw)]
      have hpav := marginsTaken_pav s.dev margins hn false
      refine ⟨fun _ => ?_, fun hlow => absurd ((warned_iff s.dev n margins).2 hlow) hw, changes_of_quiet s (quiet_marginsShown s.dev n margins)⟩
      rw [hpav]
      exact ⟨rfl, rfl⟩

end Sys2Proof
end

section
/-! SUPPORT. What an index, predicate, parameter, time or statistics instruction leaves in its pavilion (R66, R144, R162, R201, R202, R204),
and the mark of a V-marked one (R53, R205). -/
namespace Sys2Proof.Laws
open Sys2Proof.Machine

/-! ### Pavilions that a row reads alike -/

section
variable {p q : Pav} (h : rowReads p = rowReads q)
include h

theorem ireg_reads (k : Nat) : p.ireg k = q.ireg k := by
  have hidx : p.idx = q.idx := congrArg (fun v => v.1.2.1) h
  rw [Pav.ireg, Pav.ireg, hidx]

theorem sbytes_reads (a n : Nat) : p.sbytes a n = q.sbytes a n := by
  have hsregs : p.sregs = q.sregs := congrArg (fun v => v.1.1) h
  rw [Pav.sbytes, Pav.sbytes, hsregs]

theorem idxOpt_reads (k : Option Nat) : p.idxOpt k = q.idxOpt k := by
  cases k with
  | none => rfl
  | some j => exact congrArg BitVec.toNat (ireg_reads h j)

theorem idxOperand_reads (b : IdxImm) : idxOperand p b = idxOperand q b := by
  cases b with
  | reg k => exact ireg_reads h k
  | imm v => rfl

theorem movValue_reads (env : Env) (src : MovSrc) : movValue env p src = movValue env q src := by
  cases src with
  | idx a => exact ireg_reads h a
  | param k => rfl
  | imm v => rfl

theorem predValue_reads (env : Env) (o : PredArgs) : predValue env p o = predValue env q o := by
  cases o with
  | cmp a op b => cases b <;> simp only [predValue, ireg_reads h]
  | bit k b => rfl
  | nz l => simp only [predValue, sbytes_reads h]

end

/-! ### Instructions with one result -/

/-- The instructions whose only result goes into one register or line, and that nothing can block. -/
def scalarOp : PlanOp → Bool
  | .iMov _ _ | .iAdd _ _ _ | .iMul _ _ _ | .pred _ _ | .pld _ _ _ | .timeRd _ | .statRd _ _ _ => true
  | _ => false

/-- Nothing blocks a scalar instruction, it works inside its pavilion, in one row, and it is no mm. -/
theorem scalar_enters {op : PlanOp} (hs : scalarOp op = true) :
    (∀ d n killed, Dev.blocked d n killed op = none) ∧ (∀ d i, Dev.perform d i op false [] = d.enterOp i op false []) ∧
      rowsOf op = (1, 1) ∧ ∀ o, op ≠ .mm o := by
  cases op with
  | iMov _ _ | iAdd _ _ _ | iMul _ _ _ | pred _ _ | pld _ _ _ | timeRd _ | statRd _ _ _ =>
    exact ⟨fun _ _ _ => rfl, fun _ _ => rfl, rfl, fun _ => nofun⟩
  | _ => cases hs

/-- An instruction as it enters its pavilion, with the values it latches of a pavilion `p`. -/
def entering (d : Dev) (i : Issue) (op : PlanOp) (b : Nat) (p : Pav) : Active :=
  ⟨op, i.cycle, b, 0, false,
    latched ((d.atIssue i).env i.pav) p (((d.atIssue i).markVar i.pav op).given i.pav op).1 op, [], []⟩

/-- The first row of an instruction, in the pavilion as its issue cycle reads it, puts one result on its way. -/
def RowGives (d : Dev) (i : Issue) (op : PlanOp) (L : Nat) (e : Effect) : Prop :=
  ∀ (b : Nat) (p r : Pav), rowReads r = rowReads (d.issuePav i) →
    runRow ((d.atIssue i).env i.pav) (entering d i op b p) 0 i.cycle r = (r.later (i.cycle + L) e, [])

/-- A scalar instruction leaves the one result that its row puts on its way. -/
theorem scalar_leaves {s : State} {i : Issue} {op : PlanOp} {e : Effect} {L : Nat} (hs : scalarOp op = true)
    (h : s.dev.issues i op = true) (hrow : RowGives s.dev i op L e) :
    Leaves { s with dev := s.dev.issueOp i op [] } s.dev i L [e] := by
  obtain ⟨hfree, henter, hrows, hmm⟩ := scalar_enters hs
  exact issue_visible h (hfree _ _ _) (fun d => henter d i) hmm (by rw [hrows]; exact Nat.one_pos) (fun b p r _ hr => hrow b p r hr)

/-- The command of a scalar instruction issues it. -/
theorem exec_scalar {x : Instr} {s : State} {i : Issue} {op : PlanOp} {e : Effect} {L : Nat}
    (hexec : exec x s = onDev (·.issueOp i op []) s) (hs : scalarOp op = true) (h : s.dev.issues i op = true)
    (hrow : RowGives s.dev i op L e) : ∃ t, exec x s = .next t ∧ Leaves t s.dev i L [e] :=
  ⟨_, hexec.trans (onDev_powered _ s (powered_of_issues h)), scalar_leaves hs h hrow⟩

/-! ### V-marked instructions -/

/-- The instructions that read a word of the device: of the time counter, or a statistics counter. -/
def readsDevice : PlanOp → Bool
  | .timeRd _ | .statRd _ _ _ => true
  | _ => false

theorem reads_marked {op : PlanOp} (ho : readsDevice op = true) : scalarOp op = true ∧ op.vMarked = true := by
  cases op with
  | timeRd _ | statRd _ _ _ => exact ⟨rfl, rfl⟩
  | _ => cases ho

/-- The device's word does not depend on the step's mark. -/
theorem given_markVar (d : Dev) (m n : Nat) {op : PlanOp} (ho : readsDevice op = true) :
    ((d.markVar m op).given n op).1 = (d.given n op).1 := by
  have hregs : (d.markVar m op).regs = d.regs := by unfold Dev.markVar; split <;> rfl
  have htime : (d.markVar m op).time = d.time := by unfold Dev.markVar; split <;> rfl
  cases op <;> cases ho
  case timeRd dst => simp only [Dev.given, htime]
  case statRd dst page off => cases page <;> simp only [Dev.given, rgN_of_regs hregs, markVar_pav]

/-- A word of the device on its way into a line, `n` bytes wide. -/
theorem lineLater_word (p : Pav) (dst : LineRef) (n ready : Nat) {v w : Nat} (h : v = w) :
    (p.later ready (.bytes dst.byte ((toBytes n v ++ zeros 64).take 64)), ([] : List PavEv)) =
      (p.later ready (.bytes dst.byte ((toBytes n w ++ zeros 64).take 64)), []) := by rw [h]

/-- An instruction that enters a pavilion with no failed comparison due, and whose first row has no event, has none. -/
theorem enter_events {env : Env} {a : Active} {p : Pav} (hn : a.next = 0) (hr : 0 < (rowsOf a.op).1)
    (hk : p.checks.all (fun k => decide (a.start < k.1)) = true) (hrow : ∀ r : Pav, (runRow env a 0 a.start r).2 = []) :
    (p.enter env a).2 = [] := by
  have hdue : a.due = a.start := by simp [Active.due, hn]
  simp only [Pav.enter, hr, if_true, stepRow, hdue, hn]
  rw [takeChecks_none { p with active := p.active ++ [a] } _ hk, hrow]
  rfl

/-- A read of the device's words enters its pavilion and changes nothing else of the device. -/
theorem enterOp_reads {d : Dev} {i : Issue} {op : PlanOp} (ho : readsDevice op = true)
    (hk : (d.pav i.pav).checks.all (fun k => decide (i.cycle < k.1)) = true) :
    ∃ p, d.enterOp i op false [] = d.setPav i.pav p := by
  have hsettled : ((d.pav i.pav).settle i.cycle).checks.all (fun k => decide (i.cycle < k.1)) = true := by rw [settle_checks]; exact hk
  have hev (lat : List Nat) :
      (((d.pav i.pav).settle i.cycle).enter (d.env i.pav) ⟨op, i.cycle, i.slot.bedNo, 0, false, lat, [], []⟩).2 = [] := by
    cases op <;> cases ho <;> exact enter_events rfl Nat.one_pos hsettled (fun r => rfl)
  cases op <;> cases ho
  case timeRd dst => exact ⟨_, congrArg (Dev.pavEvents _ i.pav) (hev _)⟩
  case statRd dst page off => cases page <;> exact ⟨_, congrArg (Dev.pavEvents _ i.pav) (hev _)⟩

theorem markVar_marks (d : Dev) (n : Nat) {op : PlanOp} (h : op.vMarked = true) :
    ((d.markVar n op).step (d.pav n).plot).varExec = true := by
  rw [Dev.markVar, if_pos h, Dev.onStep, step_setStep_same]

/-- A read of the device's words leaves the mark of its step. -/
theorem reads_varMarked {s : State} {i : Issue} {op : PlanOp} (ho : readsDevice op = true) (h : s.dev.issues i op = true) :
    VarMarked { s with dev := s.dev.issueOp i op [] } s.dev i := by
  obtain ⟨hs, hv⟩ := reads_marked ho
  obtain ⟨hfree, henter, -, -⟩ := scalar_enters hs
  have hk : ((s.dev.atIssue i).pav i.pav).checks.all (fun k => decide (i.cycle < k.1)) = true := by
    simp only [Dev.issues, Bool.and_eq_true] at h
    exact h.2
  obtain ⟨p, hp⟩ := enterOp_reads (d := (s.dev.atIssue i).markVar i.pav op) ho (by rw [markVar_pav]; exact hk)
  show ((s.dev.issueOp i op []).step _).varExec = true
  rw [issueOp_eq h (hfree _ _ _), henter, hp]
  exact markVar_marks _ i.pav hv

/-- The command of a read of the device's words: its word in the line, and the mark. -/
theorem exec_reads {x : Instr} {s : State} {i : Issue} {op : PlanOp} {e : Effect} {L : Nat}
    (hexec : exec x s = onDev (·.issueOp i op []) s) (ho : readsDevice op = true) (h : s.dev.issues i op = true)
    (hrow : RowGives s.dev i op L e) : ∃ t, exec x s = .next t ∧ VarMarked t s.dev i ∧ Leaves t s.dev i L [e] :=
  ⟨_, hexec.trans (onDev_powered _ s (powered_of_issues h)), reads_varMarked ho h, scalar_leaves (reads_marked ho).1 h hrow⟩

end Sys2Proof.Laws
end

section
/-! SUPPORT. The statement about the scalar instructions. -/
namespace Sys2Proof
open Sys2Proof.Machine Sys2Proof.Laws

/-- Settles O1, instruction by instruction: the only row of each puts its one result on its way, computed from what the row reads. -/
theorem scalarResultReadableAtLatency : Obligations.ScalarResultReadableAtLatency := by
  intro s i
  refine ⟨fun d src h => ?iMov, fun d a b h => ?iAdd, fun d a b h => ?iMul, fun q o h => ?pred, fun dst src n h => ?pld,
    fun dst h => ?timeRd, fun dst off h => ?statRdPavilion, fun dst off h => ?statRdStep⟩
  case iMov =>
    refine exec_scalar rfl rfl h (fun b p r hr => ?_)
    rw [← movValue_reads hr]
    cases src <;> rfl
  case iAdd =>
    refine exec_scalar rfl rfl h (fun _ p r hr => ?_)
    rw [← ireg_reads hr, ← idxOperand_reads hr]
    rfl
  case iMul =>
    refine exec_scalar rfl rfl h (fun _ p r hr => ?_)
    rw [← ireg_reads hr, ← idxOperand_reads hr]
    rfl
  case pred =>
    refine exec_scalar rfl rfl h (fun _ p r hr => ?_)
    rw [← predValue_reads hr]
    rfl
  case pld =>
    refine exec_scalar rfl rfl h (fun _ p r hr => ?_)
    rw [← idxOpt_reads hr]
    rfl
  case timeRd => exact exec_reads rfl rfl h (fun _ _ r _ => lineLater_word r dst 8 _ (given_markVar _ _ _ rfl))
  case statRdPavilion => exact exec_reads rfl rfl h (fun _ _ r _ => lineLater_word r dst 4 _ (given_markVar _ _ _ rfl))
  case statRdStep => exact exec_reads rfl rfl h (fun _ _ r _ => lineLater_word r dst 4 _ (given_markVar _ _ _ rfl))

end Sys2Proof
end

section
/-! SUPPORT. Scrubs of the working store and of the weight tier, and the doubling of the refresh (R76, R260 to R262, R266, R621). -/
namespace Sys2Proof.Laws
open Sys2Proof.Machine

/-! ### Faults that are their record alone -/

/-- No plot owns a pavilion above the 32 that the 16 pairs of a plot can name. -/
theorem pavPlot_beyond (d : Dev) {n : Nat} (h : 32 ≤ n) : d.pavPlot n = none := by
  refine List.find?_eq_none.2 (fun p _ => ?_)
  have hlt : (d.plot p).pairs < 2 ^ (n / 2) :=
    Nat.lt_of_lt_of_le (Nat.mod_lt _ (by decide)) (Nat.pow_le_pow_right (by decide) (by omega : 16 ≤ n / 2))
  have hbit : bitN (d.plot p).pairs (n / 2) = false := by rw [bitN_eq_testBit, Nat.testBit_lt_two_pow hlt]
  simp [hbit]

/-- A class D fault in a pavilion that no plot owns withholds no step. -/
theorem consD_unowned (d : Dev) {n : Nat} (detail locus2 : Nat) (r : Reason) (h : d.pavPlot n = none) :
    d.consD (pavWhere n detail locus2) r = d := by
  have hplots : d.faultPlots (pavWhere n detail locus2) = [] := by simp [Dev.faultPlots, Dev.plotOf, pavWhere, h]
  rw [Dev.consD, hplots]
  rfl

/-- STORE_ECC_CORR, bit 2 of a pavilion's page, is of class C; a page above the pavilions may give its bit 2 class D. -/
theorem storeCorr_class (n : Nat) : (errClass ((blockOf (pavPage n)).getD 0xFFF) 2).getD .none ∈ [FaultClass.none, .c, .d] :=
  (by decide : ∀ b ∈ [0x010, 0x040, 0x050, 0x051, 0x060, 0x070, 0x072, 0x073, 0x080, 0x090, 0x0A0, 0xFFF],
    (errClass b 2).getD .none ∈ [FaultClass.none, .c, .d]) _ (block_pavPage n)

theorem blockOf_pavPage {n : Nat} (h : n < 32) : blockOf (pavPage n) = some 0x010 := by
  unfold blockOf pavPage
  rw [if_neg (by omega), if_pos (by omega)]

theorem blockOf_mcPage {m : Nat} (h : m < 16) : blockOf (mcPage m) = some 0x060 := by
  unfold blockOf mcPage
  rw [if_neg (by omega), if_neg (by omega), if_neg (by omega), if_neg (by omega), if_pos (by omega)]

/-- A fault of a pavilion whose class is C, or D above the pavilions that a plot can own, is its record alone. -/
theorem consequence_pavilion (d : Dev) (page : Nat) {n : Nat} {cls : FaultClass} (abandon : Bool) (detail locus2 : Nat) (r : Reason)
    (hcls : cls ∈ [FaultClass.none, .c, .d]) (hown : n < 32 → cls = .c) :
    d.consequence page cls abandon (pavWhere n detail locus2) r = d := by
  by_cases hn : n < 32
  · exact consequence_none d page abandon _ r (by simp [hown hn])
  · cases cls with
    | none => rfl
    | c => rfl
    | d => exact consD_unowned d detail locus2 r (pavPlot_beyond d (by omega))
    | f => simp at hcls
    | x => simp at hcls

/-- Corrected words of a working store are their count and their record. -/
theorem storeCorr_eq (d : Dev) (n k : Nat) :
    ∃ cls w, d.pavEvent n (.storeCorr k) = (d.count (pavPage n) 0x134 k).recordB (pavPage n) 0 2 cls false w :=
  ⟨_, _, consequence_pavilion _ _ false _ _ .localFault (storeCorr_class n) (fun hn => by rw [blockOf_pavPage hn]; rfl)⟩

theorem storeCorr_keeps (d : Dev) (n k : Nat) :
    (d.pavEvent n (.storeCorr k)).pavs = d.pavs ∧ quiet (d.pavEvent n (.storeCorr k)) = quiet d := by
  obtain ⟨cls, w, heq⟩ := storeCorr_eq d n k
  rw [heq, recordB_pavs, Dev_count_pavs, quiet_recordB, quiet_count]
  exact ⟨rfl, rfl⟩

/-- Corrected words found in the sweep are their record. -/
theorem tierCorr_eq (d : Dev) (w : Where) : d.raise 0x0A0 0 w = d.recordB 0x0A0 0 0 .c false w := rfl

/-- REFRESH_DOUBLED is its record. -/
theorem refreshDoubled_eq (d : Dev) {m : Nat} (w : Where) (h : m < 16) : d.raise (mcPage m) 2 w = d.recordB (mcPage m) 0 2 .none false w := by
  rw [Dev.raise, Dev.raiseB, blockOf_mcPage h]
  rfl

/-! ### Lines read by a scrubber -/

/-- A line none of whose words is marked has no marked word. -/
theorem lineWords_unmarked {line : Nat} {marks : List Nat} (h : ∀ w, w ∈ marks → w ∉ lineWords line) :
    (lineWords line).filter (fun w => marks.contains w) = [] :=
  List.filter_eq_nil_iff.2 (fun w hw hm => h w (by simpa using hm) hw)

/-- A working store with fresh check bits for corrected words. -/
def storeFreshened (soft : List Nat) (p : Pav) : Pav := { p with storeSoft := p.storeSoft.filter (fun w => !soft.contains w) }

/-- A weight tier whose sweep has read a line: its corrected words wait for write-back. -/
def tierSwept (line : Nat) (soft : List Nat) (p : Pav) : Pav :=
  { p with
    scrubQ := p.scrubQ ++ soft.filter (fun w => !p.scrubQ.contains w), sweepLine := if line + 1 = tierLines then 0 else line + 1 }

/-- A weight tier with fresh check bits for the words that waited. -/
def tierFreshened (q : List Nat) (p : Pav) : Pav := { p with scrubQ := [], tierSoft := p.tierSoft.filter (fun w => !q.contains w) }

section
variable (d : Dev) {n : Nat} (hn : n < d.pavs.length) (hf : (d.pav n).fused = false)
include hn hf

/-- A scrubbed line without an uncorrectable word has no upset word left; its bytes stand. -/
theorem storeScrub_corrects {line : Nat} {hits : Hits} (hrun : (d.pav n).run ≠ .off)
    (hbad : ∀ w, w ∈ ((d.pav n).storeHits (hits.filter (fun h => (lineWords line).contains h.1))).storeBad → w ∉ lineWords line) :
    (∀ w, w ∈ lineWords line → w ∉ ((d.storeScrub n line hits).pav n).storeSoft) ∧
      ((d.storeScrub n line hits).pav n).store = (d.pav n).store ∧ quiet (d.storeScrub n line hits) = quiet d := by
  unfold Dev.storeScrub
  extract_lets d1 ws bad soft d2
  have hd1 : d1.pav n = (d.pav n).storeHits (hits.filter (fun h => (lineWords line).contains h.1)) := pav_onPav_same d _ hn
  have hnil : bad = [] := lineWords_unmarked (by rw [hd1]; exact hbad)
  have hd2 : d2.pav n = storeFreshened soft (d1.pav n) :=
    pav_onPav_same d1 (storeFreshened soft) (by rw [onPav_length]; exact hn)
  have hgo : ¬ ((decide ((d.pav n).run = .off) || (d.pav n).fused) = true) := by simp [hrun, hf]
  have hmarks : ∀ w, w ∈ lineWords line → w ∉ (d2.pav n).storeSoft := by
    intro w hw hm
    rw [hd2] at hm
    obtain ⟨hsoft, hkept⟩ := List.mem_filter.1 hm
    have : w ∈ soft := List.mem_filter.2 ⟨hw, by simp [hnil, hsoft]⟩
    simp [this] at hkept
  have hstore : (d2.pav n).store = (d.pav n).store := by rw [hd2, hd1]; rfl
  have hev : (d2.pavEvents n (if soft.isEmpty then [] else [.storeCorr 1])).pavs = d2.pavs ∧
      quiet (d2.pavEvents n (if soft.isEmpty then [] else [.storeCorr 1])) = quiet d2 := by
    split
    · exact ⟨rfl, rfl⟩
    · exact storeCorr_keeps d2 n 1
  rw [if_neg hgo, hnil, List.map_nil, List.append_nil, pav_of_pavs hev.1]
  exact ⟨hmarks, hstore, hev.2⟩

/-- The sweep reads the line it stands at and goes on to the next; the line's corrected words wait for write-back. -/
theorem tierScrub_sweeps {hits : Hits} (hon : bitN (d.rgN 0x0A0 0x434 0) 0 = true) (hpower : bitN d.power.domains (n / 2) = true)
    (hbad : ∀ w, w ∈ ((d.pav n).tierHits (hits.filter (fun h => (lineWords (d.pav n).sweepLine).contains h.1))).tierBad →
      w ∉ lineWords (d.pav n).sweepLine) :
    ((d.tierScrub n (d.pav n).sweepLine hits).pav n).sweepLine =
        (if (d.pav n).sweepLine + 1 = 6291456 then 0 else (d.pav n).sweepLine + 1) ∧
      (∀ w, w ∈ lineWords (d.pav n).sweepLine →
        w ∈ ((d.pav n).tierHits (hits.filter (fun h => (lineWords (d.pav n).sweepLine).contains h.1))).tierSoft →
        w ∈ ((d.tierScrub n (d.pav n).sweepLine hits).pav n).scrubQ) ∧
      ((d.tierScrub n (d.pav n).sweepLine hits).pav n).tier = (d.pav n).tier ∧
      quiet (d.tierScrub n (d.pav n).sweepLine hits) = quiet d := by
  unfold Dev.tierScrub
  extract_lets d1 ws bad soft d2 d3 d4
  have hd1 : d1.pav n = (d.pav n).tierHits (hits.filter (fun h => (lineWords (d.pav n).sweepLine).contains h.1)) := pav_onPav_same d _ hn
  have hnil : bad = [] := lineWords_unmarked (by rw [hd1]; exact hbad)
  have hd2 : d2.pav n = tierSwept (d.pav n).sweepLine soft (d1.pav n) :=
    pav_onPav_same d1 (tierSwept (d.pav n).sweepLine soft) (by rw [onPav_length]; exact hn)
  have hd3 : d3.pavs = d2.pavs ∧ quiet d3 = quiet d2 := by
    simp only [d3]
    split
    · exact ⟨rfl, rfl⟩
    · rw [tierCorr_eq, recordB_pavs, Dev_count_pavs, quiet_recordB, quiet_count]
      exact ⟨rfl, rfl⟩
  have hd4 : d4 = d3 := by simp only [d4, hnil]; rfl
  have hgo : ((d.pav n).fused || decide ((d.pav n).sweepLine ≠ (d.pav n).sweepLine) || !bitN (d.rgN 0x0A0 0x434 0) 0 ||
      !bitN d.power.domains (n / 2)) = false := by simp [hf, hon, hpower]
  have hend : (if (d.pav n).sweepLine + 1 = tierLines then d4.count 0x0A0 0x114 1 else d4).pavs = d2.pavs ∧
      quiet (if (d.pav n).sweepLine + 1 = tierLines then d4.count 0x0A0 0x114 1 else d4) = quiet d2 := by
    rw [hd4]
    split
    · rw [Dev_count_pavs, quiet_count]
      exact hd3
    · exact hd3
  have hqueued : ∀ w, w ∈ lineWords (d.pav n).sweepLine → w ∈ (d1.pav n).tierSoft → w ∈ (d2.pav n).scrubQ := by
    intro w hw hm
    have hsoft : w ∈ soft := List.mem_filter.2 ⟨hw, by simp [hnil, hm]⟩
    rw [hd2]
    simp only [tierSwept, List.mem_append, List.mem_filter]
    by_cases hq : w ∈ (d1.pav n).scrubQ
    · exact .inl hq
    · exact .inr ⟨hsoft, by simp [hq]⟩
  rw [if_neg (ne_true_of_eq_false hgo), pav_of_pavs hend.1]
  refine ⟨by rw [hd2]; rfl, ?_, by rw [hd2, hd1]; rfl, hend.2⟩
  rw [← hd1]
  exact hqueued

end

/-- The write-back empties the queue of a tier and gives its words fresh check bits; its bytes stand. -/
theorem writeBack_freshens (d : Dev) {n : Nat} (hn : n < d.pavs.length) :
    ((d.writeBack n).pav n).scrubQ = [] ∧
      ((d.writeBack n).pav n).tierSoft = (d.pav n).tierSoft.filter (fun w => !(d.pav n).scrubQ.contains w) ∧
      ((d.writeBack n).pav n).tier = (d.pav n).tier := by
  unfold Dev.writeBack
  extract_lets q
  by_cases hq : q = []
  · rw [if_pos (by rw [hq]; rfl), show (d.pav n).scrubQ = [] from hq]
    exact ⟨rfl, (List.filter_eq_self.2 (fun _ _ => rfl)).symm, rfl⟩
  · have hpav : (d.onPav n (tierFreshened q)).pav n = tierFreshened q (d.pav n) := pav_onPav_same d _ hn
    rw [if_neg (by simp [hq]), pav_of_pavs (Dev_count_pavs _ _ _ _)]
    exact ⟨congrArg Pav.scrubQ hpav, congrArg Pav.tierSoft hpav, (congrArg Pav.tier hpav).trans rfl⟩

/-! ### The temperature of a package -/

theorem mc_onMc_same (d : Dev) {m : Nat} (f : MemCtl → MemCtl) (h : m < d.memctl.length) : (d.onMc m f).mc m = f (d.mc m) := by
  simp [Dev.onMc, Dev.mc, setAt, nthD, h]

/-- A temperature taken, and what follows from it: the doubling, recorded where it begins. -/
theorem refresh_takes (d : Dev) {m : Nat} (temp : Int) (hok : d.packageOk m = true) (hm : m < d.memctl.length) :
    (d.refresh m temp).mc m = { d.mc m with temp := temp, doubled := decide (85 * 16 < temp) } ∧
      hush (d.refresh m temp) = hush { d with memctl := (d.refresh m temp).memctl } := by
  have hm16 : m < 16 := by
    simp only [Dev.packageOk, Bool.and_eq_true, decide_eq_true_eq] at hok
    exact hok.1
  unfold Dev.refresh
  extract_lets hot was d1
  have hmc : d1.mc m = { d.mc m with temp := temp, doubled := decide (85 * 16 < temp) } :=
    mc_onMc_same d (fun c => { c with temp := temp, doubled := hot }) hm
  rw [if_neg (by simp [hok])]
  split
  · rw [refreshDoubled_eq _ _ hm16, hush_recordB, recordB_memctl, Dev.mc, recordB_memctl]
    exact ⟨hmc, rfl⟩
  · exact ⟨hmc, rfl⟩

end Sys2Proof.Laws
end

section
/-! SUPPORT. The statement about scrubs and refresh. -/
namespace Sys2Proof
open Sys2Proof.Machine Sys2Proof.Laws

/-- Settles O14, command by command: a scrub is its marks and a record without consequence, the write-back one update of its pavilion, and a
temperature one update of its controller. -/
theorem scrubsAndRefresh : Obligations.ScrubsAndRefresh := by
  intro s hp
  refine ⟨fun n line hits hn hrun hf hbad => ?store, fun n hits hn hf hon hpower hbad => ?tier,
    fun n hn => writeBack_freshens s.dev hn, fun m temp hok hm => ?refresh, fun m => rfl⟩
  case store =>
    obtain ⟨hmarks, hstore, hquiet⟩ := storeScrub_corrects s.dev hn hf hrun hbad
    exact ⟨_, onDev_powered (·.storeScrub n line hits) s hp, hmarks, hstore, changes_of_quiet s hquiet⟩
  case tier =>
    obtain ⟨hline, hqueue, htier, hquiet⟩ := tierScrub_sweeps s.dev hn hf hon hpower hbad
    exact ⟨_, onDev_powered (·.tierScrub n _ hits) s hp, hline, hqueue, htier, changes_of_quiet s hquiet⟩
  case refresh =>
    obtain ⟨hmc, hhush⟩ := refresh_takes s.dev temp hok hm
    exact ⟨_, onDev_powered (·.refresh m temp) s hp, hmc, changes_dev s _ _ hhush⟩

end Sys2Proof
end

section
/-! SUPPORT. Staged KiB in their fill order, and transfers that close and count (R74, R75, R186, R188, R269). -/
namespace Sys2Proof.Laws
open Sys2Proof.Machine

/-! ### Transfers read back -/

theorem serial_of_xfer {d : Dev} {k : Nat} {x : Xfer} (h : d.xfer k = some x) : x.serial = k := by
  simpa using List.find?_some h

/-- A transfer changed under its own number reads back changed. -/
theorem xfer_onXfer_same {d : Dev} {k : Nat} {x : Xfer} {f : Xfer → Xfer} (h : d.xfer k = some x) (hf : (f x).serial = x.serial) :
    (d.onXfer k f).xfer k = some (f x) := by
  simp only [Dev.xfer, Dev.onXfer] at h ⊢
  generalize d.xfers = l at h
  induction l with
  | nil => simp at h
  | cons y rest ih =>
    by_cases hy : y.serial = k
    · simp only [List.find?_cons, hy, decide_true, Option.some.injEq] at h
      subst h
      simp [hy, hf]
    · simp only [List.find?_cons, hy, decide_false] at h
      simp [hy, ih h]

/-! ### What moves a transfer's bytes changes pavilions and transfers -/

/-- The device without its pavilions and transfers and without what a record of a fault may change. -/
def unmoved (d : Dev) : Dev := { hush d with pavs := [], xfers := [] }

theorem unmoved_onPav (d : Dev) (n : Nat) (f : Pav → Pav) : unmoved (d.onPav n f) = unmoved d := rfl
theorem unmoved_onXfer (d : Dev) (k : Nat) (f : Xfer → Xfer) : unmoved (d.onXfer k f) = unmoved d := rfl
theorem unmoved_count (d : Dev) (pg o n : Nat) : unmoved (d.count pg o n) = unmoved d := by simp [unmoved]

theorem changes_of_unmoved (s : State) {e : Dev} (h : unmoved e = unmoved s.dev) :
    Changes s { s with dev := e } (fun d x => { d with pavs := x.pavs, xfers := x.xfers }) :=
  changes_dev s e _ (congrArg (fun x : Dev => { x with pavs := e.pavs, xfers := e.xfers }) h)

/-! ### The counter of a fill sequence -/

theorem ctr_advanceCtr (d : Dev) {n k : Nat} (by_ : Nat) (h : n < d.pavs.length) :
    ((d.advanceCtr n k by_).pav n).ctr k = (d.pav n).ctr k + BitVec.ofNat 32 by_ := by
  rw [Dev.advanceCtr, pav_onPav_same d _ h]
  exact smap_get_put_same _ k _ 0

theorem advanceCtr_store (d : Dev) (n k by_ m : Nat) : ((d.advanceCtr n k by_).pav m).store = (d.pav m).store :=
  onPav_keeps Pav.store d n m (fun _ => rfl)

theorem placeKib_store (d : Dev) (n buf ctr : Nat) (ps : List Nat) (m : Nat) : ((d.placeKib n buf ctr ps).pav m).store = (d.pav m).store := by
  unfold Dev.placeKib
  extract_lets f placed c d1
  have h1 : (d1.pav m).store = (d.pav m).store := onPav_keeps Pav.store d n m (fun _ => rfl)
  split
  · exact h1
  · rw [advanceCtr_store, h1]

theorem unmoved_placeKib (d : Dev) (n buf ctr : Nat) (ps : List Nat) : unmoved (d.placeKib n buf ctr ps) = unmoved d := by
  unfold Dev.placeKib
  dsimp only
  split <;> rfl

/-- The next KiB of a fill sequence with no gap advances the buffer's counter by 1. -/
theorem placeKib_next (d : Dev) {n : Nat} (buf ctr : Nat) (h : n < d.pavs.length) (hnone : ((d.pav n).fillSeq buf).placed = []) :
    ((d.placeKib n buf ctr [((d.pav n).fillSeq buf).counted]).pav n).ctr ctr = (d.pav n).ctr ctr + 1 := by
  unfold Dev.placeKib
  extract_lets f placed c d1
  have hplaced : placed = [f.counted] := by simp only [placed, f, hnone]; rfl
  have hc : c = f.counted + 1 := by
    simp only [c, hplaced]
    simp [runFrom]
  have h1 : (d1.pav n).ctr ctr = (d.pav n).ctr ctr := onPav_keeps (fun p => p.ctr ctr) d n n (fun _ => rfl)
  rw [if_neg (by omega), ctr_advanceCtr _ _ (by rw [onPav_length]; exact h), h1, hc]
  simp

/-! ### A KiB placed -/

/-- A pavilion with the bytes of a transfer's KiB in its working store. -/
def kibStored (x : Xfer) (kib : Nat) (p : Pav) : Pav :=
  p.putStore (x.off + 1024 * kib) (x.got.bytes (1024 * kib) (min 1024 (x.len - 1024 * kib)))

/-- The device with the bytes of a KiB in their staging buffer, the KiB marked as placed and counted (R74, R94). -/
def kibStaged (d : Dev) (x : Xfer) (kib : Nat) : Dev :=
  ((d.onPav x.pav (kibStored x kib)).onXfer x.serial
    (fun y => { y with placed := y.placed ++ [kib] })).count (pavPage x.pav) 0x144 1

theorem unmoved_kibStaged (d : Dev) (x : Xfer) (kib : Nat) : unmoved (kibStaged d x kib) = unmoved d := by
  rw [kibStaged, unmoved_count, unmoved_onXfer, unmoved_onPav]

theorem kibStaged_length (d : Dev) (x : Xfer) (kib : Nat) : (kibStaged d x kib).pavs.length = d.pavs.length :=
  (congrArg List.length (Dev_count_pavs _ _ _ _)).trans (onPav_length d x.pav (kibStored x kib))

theorem kibStaged_pav {d : Dev} {x : Xfer} {kib : Nat} (hn : x.pav < d.pavs.length) :
    (kibStaged d x kib).pav x.pav = kibStored x kib (d.pav x.pav) :=
  (pav_of_pavs (Dev_count_pavs _ _ _ _) x.pav).trans (pav_onPav_same d (kibStored x kib) hn)

section
variable {d : Dev} {k kib b : Nat} {x : Xfer} {st : Staging} (hx : d.xfer k = some x) (hfill : x.fills = true) (herr : x.err = none)
  (hnew : x.placed.contains kib = false) (hlen : 1024 * kib < x.len)
  (hgot : ∀ u, u < ceilDiv (min 1024 (x.len - 1024 * kib)) 64 → x.gotBursts.contains (16 * kib + u) = true)
  (hst : d.stagingAt x.pav x.off = some (b, st))
include hx hfill herr hnew hlen hgot hst

/-- A KiB whose bytes have come is judged by where it ends. -/
theorem kibPlaced_judged : d.kibPlaced k kib =
    if x.off + 1024 * kib + min 1024 (x.len - 1024 * kib) ≤ st.off + 1024 * st.kib then
      (match (((kibStaged d x kib).pav x.pav).fillSeq b).base k with
        | some base => (kibStaged d x kib).placeKib x.pav b st.ctr [base + kib]
        | none => kibStaged d x kib)
    else d.onXfer k (·.fail 0x0A) := by
  have hgo : (!x.fills || x.err.isSome || x.placed.contains kib || decide (min 1024 (x.len - 1024 * kib) = 0) ||
      !((List.range (ceilDiv (min 1024 (x.len - 1024 * kib)) 64)).map (fun u => 16 * kib + u)).all x.gotBursts.contains) = false := by
    have hall : ((List.range (ceilDiv (min 1024 (x.len - 1024 * kib)) 64)).map (fun u => 16 * kib + u)).all x.gotBursts.contains = true := by
      simp only [List.all_map, List.all_eq_true, List.mem_range]
      exact hgot
    have hn : min 1024 (x.len - 1024 * kib) ≠ 0 := by omega
    rw [hall, hfill, herr, hnew, decide_eq_false hn]
    rfl
  simp only [Dev.kibPlaced, hx, hgo, hst, Option.filter_some, Bool.false_eq_true, if_false]
  by_cases hfit : x.off + 1024 * kib + min 1024 (x.len - 1024 * kib) ≤ st.off + 1024 * st.kib
  · simp only [hfit, decide_true, if_true]
    rw [← serial_of_xfer hx]
    rfl
  · simp only [hfit, decide_false, if_false, Bool.false_eq_true]

/-- A KiB that would reach past its buffer is dropped and fails its transfer. -/
theorem kibPlaced_past (hpast : st.off + 1024 * st.kib < x.off + 1024 * kib + min 1024 (x.len - 1024 * kib)) :
    d.kibPlaced k kib = d.onXfer k (·.fail 0x0A) := by
  rw [kibPlaced_judged hx hfill herr hnew hlen hgot hst, if_neg (by omega)]

section
variable (hn : x.pav < d.pavs.length)
  (hfit : x.off + 1024 * kib + min 1024 (x.len - 1024 * kib) ≤ st.off + 1024 * st.kib)
include hfit

theorem unmoved_kibPlaced : unmoved (d.kibPlaced k kib) = unmoved d := by
  rw [kibPlaced_judged hx hfill herr hnew hlen hgot hst, if_pos hfit]
  split
  · rw [unmoved_placeKib, unmoved_kibStaged]
  · rw [unmoved_kibStaged]

include hn

/-- A KiB that fits stands in its staging buffer. -/
theorem kibPlaced_store : ((d.kibPlaced k kib).pav x.pav).store = (d.pav x.pav).store.store (x.off + 1024 * kib)
    (x.got.bytes (1024 * kib) (min 1024 (x.len - 1024 * kib))) := by
  rw [kibPlaced_judged hx hfill herr hnew hlen hgot hst, if_pos hfit]
  split
  · rw [placeKib_store, kibStaged_pav hn]
    rfl
  · rw [kibStaged_pav hn]
    rfl

/-- The next KiB of its fill sequence advances the buffer's counter. -/
theorem kibPlaced_counts (hgap : ((d.pav x.pav).fillSeq b).placed = [])
    (hbase : ((d.pav x.pav).fillSeq b).base k = some (((d.pav x.pav).fillSeq b).counted - kib))
    (hkib : kib ≤ ((d.pav x.pav).fillSeq b).counted) :
    ((d.kibPlaced k kib).pav x.pav).ctr st.ctr = (d.pav x.pav).ctr st.ctr + 1 := by
  have hseq : ((kibStaged d x kib).pav x.pav).fillSeq b = (d.pav x.pav).fillSeq b := by rw [kibStaged_pav hn]; rfl
  have hlen' : x.pav < (kibStaged d x kib).pavs.length := by rw [kibStaged_length]; exact hn
  rw [kibPlaced_judged hx hfill herr hnew hlen hgot hst, if_pos hfit, hseq, hbase]
  show (((kibStaged d x kib).placeKib x.pav b st.ctr [((d.pav x.pav).fillSeq b).counted - kib + kib]).pav x.pav).ctr st.ctr = _
  rw [Nat.sub_add_cancel hkib, ← hseq, placeKib_next _ b st.ctr hlen' (by rw [hseq]; exact hgap), kibStaged_pav hn]
  rfl

end

end

/-! ### A transfer that closes -/

/-- The device without a transfer, which is counted with the pages it has moved (R283). -/
def xferClosed (d : Dev) (x : Xfer) : Dev :=
  (({ d with xfers := d.xfers.filter (fun y => y.serial != x.serial) }).count 0x080 0x100 1).countPages x

theorem countPages_hush (d : Dev) (x : Xfer) : hush (d.countPages x) = hush d := by
  unfold Dev.countPages
  split
  · exact hush_count _ _ _ _
  · exact hush_count _ _ _ _
  · rfl

theorem xferClosed_hush (d : Dev) (x : Xfer) :
    hush (xferClosed d x) = hush { d with xfers := d.xfers.filter (fun y => y.serial != x.serial) } := by
  rw [xferClosed, countPages_hush, hush_count]

/-- No copy of the Kiosk waits for a transfer whose failure is a fault. -/
theorem noteCopy_faults (d : Dev) {x : Xfer} (cause : Nat) (h : x.owner.faults = true) : d.noteCopy x cause = d := by
  unfold Dev.noteCopy
  cases hown : x.owner <;> simp_all [XferOwner.faults]

/-- A success closes a transfer and advances its done counter. -/
theorem closeXfer_succeeds (d : Dev) {x : Xfer} (h : x.owner.faults = true) :
    d.closeXfer x 0 = match x.done with
      | some c => (xferClosed d x).advanceCtr x.pav c 1
      | none => xferClosed d x := by
  simp only [Dev.closeXfer, noteCopy_faults _ _ h]
  rfl

theorem closeXfer_leaves (d : Dev) {x : Xfer} (h : x.owner.faults = true) (hn : x.pav < d.pavs.length) :
    (d.closeXfer x 0).xfers = d.xfers.filter (fun y => y.serial != x.serial) ∧
      (∀ c, x.done = some c → ((d.closeXfer x 0).pav x.pav).ctr c = (d.pav x.pav).ctr c + 1) ∧
      unmoved (d.closeXfer x 0) = unmoved d := by
  have hhush := xferClosed_hush d x
  have hxfers : (xferClosed d x).xfers = d.xfers.filter (fun y => y.serial != x.serial) := congrArg Dev.xfers hhush
  have hpavs : (xferClosed d x).pavs = d.pavs := (congrArg Dev.pavs hhush).trans rfl
  have hunmoved : unmoved (xferClosed d x) = unmoved d := congrArg (fun e : Dev => { e with pavs := [], xfers := [] }) hhush
  rw [closeXfer_succeeds d h]
  cases hdone : x.done with
  | none => exact ⟨hxfers, nofun, hunmoved⟩
  | some c =>
    refine ⟨hxfers, fun c' hc => ?_, hunmoved⟩
    cases hc
    show (((xferClosed d x).advanceCtr x.pav c 1).pav x.pav).ctr c = _
    rw [ctr_advanceCtr _ _ (by rw [hpavs]; exact hn), pav_of_pavs hpavs]
    rfl

/-- A multicast that every member has confirmed closes as a success. -/
theorem closeMcast_complete (d : Dev) {x : Xfer} (h : x.members.all x.memberDone = true) : d.closeMcast x = d.closeXfer x 0 := by
  have hnone : x.members.filter (fun m => !x.memberDone m) = [] :=
    List.filter_eq_nil_iff.2 (fun m hm => by simp [List.all_eq_true.1 h m hm])
  simp [Dev.closeMcast, hnone]

/-- A transfer that has moved everything closes as a success. -/
theorem transferDone_complete {d : Dev} {k cause : Nat} {x : Xfer} (hx : d.xfer k = some x) (hown : x.owner.faults = true)
    (herr : x.err = none) (hdone : x.complete = true) (hentry : ¬(cause = 0x0B ∧ (x.kind = .pageIn ∨ x.kind = .pageOut))) :
    d.transferDone k cause = d.closeXfer x 0 := by
  have hentry' : ¬(cause = 0x0B ∧ (x.kind = .pageIn ∨ x.kind = .pageOut) ∧ (!x.pages.isEmpty) = true) :=
    fun ⟨hc, hk, _⟩ => hentry ⟨hc, hk⟩
  simp only [Dev.transferDone, hx, hown, herr, Bool.not_true, Bool.false_eq_true, if_false, if_neg hentry', Dev.when]
  by_cases hm : x.kind = .mcast
  · have hall : x.members.all x.memberDone = true := by simpa [Xfer.complete, hm] using hdone
    have hover : x.mcastOver = true := List.all_eq_true.2 (fun m hmem => by simp [List.all_eq_true.1 hall m hmem])
    rw [if_pos hm, if_pos hover, closeMcast_complete d hall]
  · rw [if_neg hm, if_pos hdone]

/-! ### A transfer that fails -/

/-- A fault of class D at the most lets every step run on. -/
theorem raise_running (d : Dev) (page bit : Nat) (w : Where) (p : Nat)
    (h : (errClass ((blockOf page).getD 0xFFF) bit).getD .none ∈ [FaultClass.none, .c, .d]) :
    ((d.raise page bit w).step p).running = (d.step p).running := by
  rw [Dev.raise, Dev.raiseB, consequence_running _ _ _ _ _ _ h, step_of_steps (recordB_steps _ _ _ _ _ _ _)]

/-- TRANSFER_RANGE, bit 7 of a pavilion's page, stops no step by its class. -/
theorem transferRange_class (n : Nat) : (errClass ((blockOf (pavPage n)).getD 0xFFF) 7).getD .none ∈ [FaultClass.none, .c, .d] :=
  (by decide : ∀ b ∈ [0x010, 0x040, 0x050, 0x051, 0x060, 0x070, 0x072, 0x073, 0x080, 0x090, 0x0A0, 0xFFF],
    (errClass b 7).getD .none ∈ [FaultClass.none, .c, .d]) _ (block_pavPage n)

theorem withhold_withheld (d : Dev) {p : Nat} (h : (d.step p).running = true) : ((d.withhold p).step p).withheld = true := by
  rw [Dev.withhold, if_pos h, step_setStep_same]

/-- TRANSFER_ERROR, bit 0 of the DMA page, withholds the step of the plot it names. -/
theorem dmaError_withholds (d : Dev) {w : Where} {p : Nat} (hw : w.plot = some p) (h : (d.step p).running = true) :
    ((d.raise 0x080 0 w).step p).withheld = true := by
  have hplots : (d.recordB 0x080 0 0 .d false w).faultPlots w = [p] := by simp [Dev.faultPlots, Dev.plotOf, hw]
  show (((d.recordB 0x080 0 0 .d false w).consD w .localFault).step p).withheld = true
  rw [Dev.consD, hplots]
  refine withhold_withheld _ ?_
  rw [step_of_steps (ringPlotStep_steps _ p _), step_of_steps (recordB_steps _ _ _ _ _ _ _), h]

theorem advanceCtr_steps (d : Dev) (n k by_ : Nat) : (d.advanceCtr n k by_).steps = d.steps := rfl

theorem markAbort_steps (d : Dev) (x : Xfer) (cause : Nat) : (d.markAbort x cause).steps = d.steps := by
  unfold Dev.markAbort
  extract_lets p i
  split <;> rfl

theorem lastError_steps (d : Dev) (x : Xfer) (cause addr : Nat) : (d.lastError x cause addr).steps = d.steps := by
  rw [Dev.lastError, Dev_count_steps]
  rfl

/-- A transfer that fails withholds the running step of its plot (R188). -/
theorem closeXfer_withholds (d : Dev) {x : Xfer} {cause : Nat} (h : x.owner.faults = true) (hc : cause ≠ 0)
    (hrun : (d.step x.plot).running = true) : ((d.closeXfer x cause).step x.plot).withheld = true := by
  unfold Dev.closeXfer
  extract_lets d1 d2 d3 d4 a d5 w d6 d7
  have h3 : d3.steps = d.steps := by simp only [d3, if_neg hc, d2, Dev_count_steps]; rfl
  have h4 : d4.steps = d.steps := by
    simp only [d4]
    rw [noteCopy_faults _ _ h]
    split
    · rw [advanceCtr_steps, h3]
    · exact h3
  have h5s : d5.steps = d.steps := (lastError_steps _ x cause a).trans ((markAbort_steps d4 x cause).trans h4)
  have h5 : (d5.step x.plot).running = true := by rw [step_of_steps h5s, hrun]
  have h6 : (d6.step x.plot).running = true := by
    simp only [d6]
    split
    · rw [raise_running _ _ _ _ _ (transferRange_class x.pav), h5]
    · exact h5
  have h7 : (d7.step x.plot).running = true := by
    simp only [d7]
    split
    · rw [raise_running _ _ _ _ _ (by decide), h6]
    · exact h6
  rw [if_neg (by simp [hc, h])]
  exact dmaError_withholds d7 rfl h7

theorem transferDone_failed {d : Dev} {k cause c : Nat} {x : Xfer} (hx : d.xfer k = some x) (hown : x.owner.faults = true)
    (herr : x.err = some c) : d.transferDone k cause = d.closeXfer x c := by
  simp [Dev.transferDone, hx, hown, herr]

end Sys2Proof.Laws
end

section
/-! SUPPORT. The statement about staging and the end of transfers. -/
namespace Sys2Proof
open Sys2Proof.Machine Sys2Proof.Laws

/-- Settles O12: a KiB is judged by where it ends, a transfer by its error and by what it has moved. -/
theorem stagingFillsAndTransfersComplete : Obligations.StagingFillsAndTransfersComplete := by
  intro s k x hp hx hn
  refine ⟨fun kib b st hfill herr hnew hlen hgot hst hfit => ?fits, fun kib b st hfill herr hnew hlen hgot hst hpast => ?past,
    fun cause hown herr hdone hentry => ?done, fun cause c hown herr hc hrun => ?failed⟩
  case fits =>
    exact ⟨_, onDev_powered (·.kibPlaced k kib) s hp, kibPlaced_store hx hfill herr hnew hlen hgot hst hn hfit,
      kibPlaced_counts hx hfill herr hnew hlen hgot hst hn hfit,
      changes_of_unmoved s (unmoved_kibPlaced hx hfill herr hnew hlen hgot hst hfit)⟩
  case past =>
    refine ⟨_, onDev_powered (·.kibPlaced k kib) s hp, ?_⟩
    rw [kibPlaced_past hx hfill herr hnew hlen hgot hst hpast]
    have hfail : x.fail 0x0A = { x with err := some 0x0A } := by simp [Xfer.fail, herr]
    exact ⟨(xfer_onXfer_same hx (by rw [hfail])).trans (congrArg some hfail), rfl, rfl, rfl⟩
  case done =>
    refine ⟨_, onDev_powered (·.transferDone k cause) s hp, ?_⟩
    rw [transferDone_complete hx hown herr hdone hentry]
    obtain ⟨hxfers, hctr, hunmoved⟩ := closeXfer_leaves s.dev hown hn
    exact ⟨hxfers, hctr, changes_of_unmoved s hunmoved⟩
  case failed =>
    refine ⟨_, onDev_powered (·.transferDone k cause) s hp, ?_⟩
    rw [transferDone_failed hx hown herr]
    exact closeXfer_withholds s.dev hown hc hrun

end Sys2Proof
end

section
/-! SUPPORT. What writes into LPDDR5X: the bursts a write touches, and what it leaves alone (R275, R277, R283). -/
namespace Sys2Proof.Laws
open Sys2Proof.Machine

/-! ### The ciphertext -/

/-- What a write into LPDDR5X changes and what it reads while it does: the bytes, and the key of each burst. -/
def ciphertext (d : Dev) : Mem × SMap Nat := (d.lpddr, d.burstKey)

theorem lpByte_congr {d e : Dev} (h : ciphertext d = ciphertext e) (serial off : Nat) : d.lpByte serial off = e.lpByte serial off := by
  obtain ⟨hbytes, hkeys⟩ := Prod.mk.inj h
  simp only [Dev.lpByte, hbytes, hkeys]

theorem lpBytesUnder_congr {d e : Dev} (h : ciphertext d = ciphertext e) (serial off n : Nat) :
    d.lpBytesUnder serial off n = e.lpBytesUnder serial off n := by
  induction n generalizing off with
  | zero => rfl
  | succ n ih => rw [Dev.lpBytesUnder, Dev.lpBytesUnder, lpByte_congr h, ih]

theorem lpPiece_congr {d e : Dev} (h : ciphertext d = ciphertext e) (serial off : Nat) (bs : List Byte) :
    ciphertext (d.lpPiece serial off bs) = ciphertext (e.lpPiece serial off bs) := by
  have hold := lpBytesUnder_congr h serial (64 * (off / 64)) 64
  obtain ⟨hbytes, hkeys⟩ := Prod.mk.inj h
  simp only [Dev.lpPiece, hold, hbytes, hkeys]
  split
  · simp only [ciphertext]
  · rfl

/-- Pieces of a write one after another. -/
def lpPieces (serial : Nat) (ps : List (Nat × List Byte)) (d : Dev) : Dev := forEach ps d (fun s e => s.lpPiece serial e.1 e.2)

theorem lpPieces_congr (serial : Nat) (ps : List (Nat × List Byte)) {d e : Dev} (h : ciphertext d = ciphertext e) :
    ciphertext (lpPieces serial ps d) = ciphertext (lpPieces serial ps e) := by
  induction ps generalizing d e with
  | nil => exact h
  | cons x rest ih => exact ih (lpPiece_congr h serial x.1 x.2)

/-- The bytes that a write leaves: its pieces, where the slot holds a key. -/
theorem lpWrite_lpddr (d : Dev) (off : Nat) (bs : List Byte) : (d.lpWrite off bs).lpddr =
    if (d.key (d.keyPlot off)).loaded = true then
      (lpPieces (d.key (d.keyPlot off)).serial (burstPieces (bs.length + 1) off bs) d).lpddr else d.lpddr := by
  unfold Dev.lpWrite
  extract_lets k ps d0 d1
  by_cases hk : k.loaded = true
  · have h0 : ciphertext d0 = ciphertext d := by simp [ciphertext, d0]
    rw [if_neg (by simp [hk]), if_pos hk]
    exact congrArg Prod.fst (lpPieces_congr k.serial ps h0)
  · rw [if_pos (by simp [hk]), if_neg hk, recordB_lpddr, Dev_count_lpddr]

/-! ### The bursts that a write touches -/

theorem lpBytesUnder_length (d : Dev) (serial off n : Nat) : (d.lpBytesUnder serial off n).length = n := by
  induction n generalizing off with
  | zero => rfl
  | succ n ih => rw [Dev.lpBytesUnder, List.length_cons, ih]

/-- A piece that lies in one burst leaves the other bursts alone. -/
theorem lpPiece_read_other (d : Dev) (serial : Nat) {off a : Nat} {bs : List Byte} (hin : off % 64 + bs.length ≤ 64) (ha : a / 64 ≠ off / 64) :
    (d.lpPiece serial off bs).lpddr.read a = d.lpddr.read a := by
  unfold Dev.lpPiece
  extract_lets b old
  split
  · exact read_store_other _ _ _ (by omega)
  · have hlen : old.length = 64 := lpBytesUnder_length d serial _ _
    have hb : b = off / 64 := rfl
    show ((d.lpddr.store (64 * b) old).store off bs).read a = _
    rw [read_store_other _ _ _ (by omega), read_store_other _ _ _ (by omega)]

/-- Each piece of a write lies in one burst, one of those from the write's first byte to its last. -/
theorem burstPieces_within (fuel off : Nat) (bs : List Byte) {e : Nat × List Byte} (he : e ∈ burstPieces fuel off bs) :
    e.1 % 64 + e.2.length ≤ 64 ∧ off / 64 ≤ e.1 / 64 ∧ e.1 / 64 < (off + bs.length + 63) / 64 := by
  induction fuel generalizing off bs with
  | zero => simp [burstPieces] at he
  | succ fuel ih =>
    unfold burstPieces at he
    extract_lets n at he
    have hn : n = 64 - off % 64 := rfl
    cases bs with
    | nil => simp at he
    | cons b rest =>
      rw [if_neg (by simp)] at he
      rcases List.mem_cons.1 he with rfl | hmem
      · simp only [List.length_take, List.length_cons]
        omega
      · by_cases hlong : n < (b :: rest).length
        · obtain ⟨hin, hlo, hhi⟩ := ih _ _ hmem
          rw [List.length_drop] at hhi
          exact ⟨hin, by omega, by omega⟩
        · rw [List.drop_eq_nil_of_le (by omega)] at hmem
          cases fuel <;> simp [burstPieces] at hmem

theorem lpPieces_read_other (d : Dev) (serial : Nat) (ps : List (Nat × List Byte)) {a : Nat}
    (h : ∀ e, e ∈ ps → e.1 % 64 + e.2.length ≤ 64 ∧ a / 64 ≠ e.1 / 64) : (lpPieces serial ps d).lpddr.read a = d.lpddr.read a := by
  induction ps generalizing d with
  | nil => rfl
  | cons x rest ih =>
    obtain ⟨hin, ha⟩ := h x (by simp)
    exact (ih (d.lpPiece serial x.1 x.2) (fun e he => h e (by simp [he]))).trans (lpPiece_read_other d serial hin ha)

/-- A write into LPDDR5X leaves every burst alone that it does not touch. -/
theorem lpWrite_read_other (d : Dev) (off : Nat) (bs : List Byte) {a : Nat}
    (h : a / 64 < off / 64 ∨ (off + bs.length + 63) / 64 ≤ a / 64) : (d.lpWrite off bs).lpddr.read a = d.lpddr.read a := by
  rw [lpWrite_lpddr]
  split
  · refine lpPieces_read_other d _ _ (fun e he => ?_)
    obtain ⟨hin, hlo, hhi⟩ := burstPieces_within _ off bs he
    exact ⟨hin, by omega⟩
  · rfl

/-! ### The rest of the device -/

theorem lpPiece_keeps (d : Dev) (serial off : Nat) (bs : List Byte) :
    ∃ l k, d.lpPiece serial off bs = { d with lpddr := l, burstKey := k } := by
  unfold Dev.lpPiece
  dsimp only
  split
  · exact ⟨_, d.burstKey, rfl⟩
  · exact ⟨_, _, rfl⟩

/-- The device without LPDDR5X and without what a record of a fault may change. -/
def offMemory (d : Dev) : Dev := { hush d with lpddr := [], burstKey := [], dramBad := [] }

theorem lpPieces_keeps {β : Type} (view : Dev → β) (hview : ∀ e l k, view { e with lpddr := l, burstKey := k } = view e) (serial : Nat)
    (ps : List (Nat × List Byte)) (d : Dev) : view (lpPieces serial ps d) = view d :=
  forEach_keeps view ps d _ (fun e x => by
    obtain ⟨l, k, heq⟩ := lpPiece_keeps e serial x.1 x.2
    rw [heq, hview])

/-- A write into LPDDR5X changes nothing else, but what a record may change. -/
theorem offMemory_lpWrite (d : Dev) (off : Nat) (bs : List Byte) : offMemory (d.lpWrite off bs) = offMemory d := by
  unfold Dev.lpWrite
  extract_lets k ps d0 d1
  split
  · simp [offMemory]
  · have h1 : offMemory d1 = offMemory d0 := lpPieces_keeps offMemory (fun _ _ _ => rfl) k.serial ps d0
    have h0 : offMemory d0 = offMemory d := by simp [offMemory, d0]
    exact h1.trans h0

/-- The device keeps its number through a write into LPDDR5X. -/
theorem number_lpWrite (d : Dev) (off : Nat) (bs : List Byte) : (d.lpWrite off bs).number = d.number := by
  have hoff : ∀ (e : Dev) (pg o n : Nat), o < 0x400 → (e.count pg o n).rgN 0x051 0x400 0 = e.rgN 0x051 0x400 0 :=
    fun e pg o n ho => rgN_count_other e n (by unfold rk; omega)
  unfold Dev.lpWrite
  extract_lets k ps d0 d1
  split
  · rw [Dev.number, rgN_recordB _ _ _ _ (by decide) (by decide) (by decide) (by decide) (by decide) (by decide) (by decide) (by decide),
      hoff _ _ _ _ (by decide)]
    rfl
  · have h1 : d1.number = d0.number := lpPieces_keeps Dev.number (fun _ _ _ => rfl) k.serial ps d0
    have h0 : d0.number = d.number := by
      simp only [Dev.number, d0]
      rw [hoff _ _ _ _ (by decide), hoff _ _ _ _ (by decide)]
    exact h1.trans h0

end Sys2Proof.Laws
end

section
/-! SUPPORT. Packets that pass their checks: their arrival, and what follows a placement: the tracker, the confirmation, the shadow's copy
(R284, R286, R288, R315 to R317, R517). -/
namespace Sys2Proof.Laws
open Sys2Proof.Machine

/-! ### Packets handed on -/

/-- The device without the packets that wait in it and the confirmations that are due. -/
def offPackets (d : Dev) : Dev := { d with inject := [], eject := [], unconf := [] }

theorem offPackets_post (d : Dev) (pk : Packet) : offPackets (d.post pk) = offPackets d := by
  unfold Dev.post
  split <;> rfl

theorem offPackets_confirm (d : Dev) (p : Packet) : offPackets (d.confirm p) = offPackets d := by
  unfold Dev.confirm
  extract_lets u u' d1
  split
  · rfl
  · split
    · exact offPackets_post _ _
    · rfl

theorem offPackets_shadowCopy (d : Dev) (p : Packet) : offPackets (d.shadowCopy p) = offPackets d := by
  unfold Dev.shadowCopy
  split
  · exact offPackets_post _ _
  · rfl

theorem mem_post_inject (d : Dev) (pk : Packet) {q : Packet} (h : q ∈ d.inject) : q ∈ (d.post pk).inject := by
  unfold Dev.post
  split
  · exact h
  · exact List.mem_append_left _ h

/-- A packet to another device is handed to the router. -/
theorem post_injects (d : Dev) {pk : Packet} (h : pk.dest ≠ d.number) : pk ∈ (d.post pk).inject := by
  simp [Dev.post, h]

/-! ### What follows a placement -/

theorem arrivalCount_keeps (d : Dev) (p : Packet) : ∃ as, (d.arrivalCount p).1 = { d with arrivals := as } := by
  unfold Dev.arrivalCount
  split
  · exact ⟨d.arrivals, rfl⟩
  · extract_lets a a' rest
    split <;> exact ⟨_, rfl⟩

theorem trackAdd_keeps (d : Dev) (p : Packet) (next : Bool) (k : Nat) : ∃ ts, d.trackAdd p next k = { d with trackers := ts } := by
  unfold Dev.trackAdd
  split
  · exact ⟨d.trackers, rfl⟩
  · exact ⟨_, rfl⟩

/-- Counting a placed packet changes trackers and arrival entries. -/
theorem track_keeps (d : Dev) (p : Packet) (next : Bool) : ∃ ts as, d.track p next = { d with trackers := ts, arrivals := as } := by
  have hadd : ∀ (e : Dev) k, ∃ ts as, e.trackAdd p next k = { e with trackers := ts, arrivals := as } := fun e k => by
    obtain ⟨ts, heq⟩ := trackAdd_keeps e p next k
    exact ⟨ts, e.arrivals, heq⟩
  obtain ⟨as, has⟩ := arrivalCount_keeps d p
  unfold Dev.track
  extract_lets r
  split
  · exact ⟨d.trackers, d.arrivals, rfl⟩
  · split
    · exact hadd d _
    · split
      · exact hadd d _
      · split
        · obtain ⟨ts, as', heq⟩ := hadd r.1 1
          exact ⟨ts, as', by rw [heq, has]⟩
        · exact ⟨d.trackers, as, has⟩

/-- The device without what packets in flight and their counting change. -/
def offArrivals (d : Dev) : Dev := { offPackets d with trackers := [], arrivals := [] }

theorem offPackets_placed (d : Dev) (p : Packet) (next : Bool) : offPackets (d.placed p next) = offPackets (d.track p next) := by
  unfold Dev.placed
  extract_lets d1
  rw [offPackets_shadowCopy]
  split
  · rfl
  · exact offPackets_confirm d1 p

theorem offArrivals_track (d : Dev) (p : Packet) (next : Bool) : offArrivals (d.track p next) = offArrivals d := by
  obtain ⟨ts, as, heq⟩ := track_keeps d p next
  rw [heq]
  rfl

/-- What follows a placement changes trackers, arrival entries, confirmations and packets that wait, and nothing else. -/
theorem offArrivals_placed (d : Dev) (p : Packet) (next : Bool) : offArrivals (d.placed p next) = offArrivals d :=
  (congrArg (fun e : Dev => { e with trackers := [], arrivals := [] }) (offPackets_placed d p next)).trans (offArrivals_track d p next)

theorem pavs_placed (d : Dev) (p : Packet) (next : Bool) : (d.placed p next).pavs = d.pavs :=
  (congrArg Dev.pavs (offArrivals_placed d p next)).trans rfl

theorem lpddr_placed (d : Dev) (p : Packet) (next : Bool) : (d.placed p next).lpddr = d.lpddr :=
  (congrArg Dev.lpddr (offArrivals_placed d p next)).trans rfl

/-! ### Trackers -/

theorem trackAdd_tracker (d : Dev) {p : Packet} (next : Bool) (k : Nat) (hv : p.trkValid = true) : (d.trackAdd p next k).tracker p.tracker =
    if next then { d.tracker p.tracker with next := ((d.tracker p.tracker).next + k) % 2 ^ 32 }
    else { d.tracker p.tracker with cur := ((d.tracker p.tracker).cur + k) % 2 ^ 32 } := by
  unfold Dev.trackAdd
  rw [if_neg (by simp [hv])]
  exact smap_get_put_same _ _ _ _

/-- A null packet, and a packet that is its whole transfer, counts once. -/
theorem track_once (d : Dev) {p : Packet} (next : Bool) (hv : p.trkValid = true) (h : p.typ = 0x08 ∨ (p.typ ≠ 0x05 ∧ p.pcount ≤ 1)) :
    d.track p next = d.trackAdd p next 1 := by
  have h5 : p.typ ≠ 0x05 := by omega
  unfold Dev.track
  rw [if_neg (by simp [hv]), if_neg h5]
  split
  · rfl
  next h8 =>
    have hone : p.pcount ≤ 1 := by omega
    simp only [Dev.arrivalCount, if_pos hone, if_true]

theorem tracker_placed_once (d : Dev) {p : Packet} (next : Bool) (hv : p.trkValid = true)
    (h : p.typ = 0x08 ∨ (p.typ ≠ 0x05 ∧ p.pcount ≤ 1)) : (d.placed p next).tracker p.tracker =
    if next then { d.tracker p.tracker with next := ((d.tracker p.tracker).next + 1) % 2 ^ 32 }
    else { d.tracker p.tracker with cur := ((d.tracker p.tracker).cur + 1) % 2 ^ 32 } := by
  have htrackers : (d.placed p next).trackers = (d.track p next).trackers := (congrArg Dev.trackers (offPackets_placed d p next)).trans rfl
  rw [← trackAdd_tracker d next 1 hv, ← track_once d next hv h, Dev.tracker, htrackers]
  rfl

/-! ### Arrival -/

/-- A packet that passes every check is placed in the device that has taken it from its port. -/
theorem arrive_admitted {d : Dev} {typ : Nat} {p : Packet} {next : Bool} (place : Dev → Bool → Dev) (h : Admitted d typ p next) :
    d.arrive typ p place = place (d.takeEject p) next := by
  obtain ⟨htyp, hdest, hroom, hfence, hgen, hst, hstep⟩ := h
  have hgo : ((d.takeEject p).selfFenced && !(d.takeEject p).ofOwn p) = false := by
    show (d.selfFenced && !d.ofOwn p) = false
    rcases hfence with hf | hf <;> simp [hf]
  have hgen' : ¬ ((d.takeEject p).plot p.plot).gen ≠ p.plotGen := fun hne => hne hgen
  have hst' : ¬ (d.takeEject p).packetStatus p ≠ 0 := fun hne => hne hst
  have hstep' : (d.takeEject p).stepGen p = some next := hstep
  unfold Dev.arrive
  extract_lets d0 st
  rw [if_neg (by simp [htyp, hdest, hroom]), if_neg (ne_true_of_eq_false hgo), if_neg hgen', if_neg hst', hstep']

/-- The command of a packet that passes every check places it. -/
theorem exec_arrives {x : Instr} {s : State} {typ : Nat} {p : Packet} {next : Bool} (place : Dev → Bool → Dev)
    (hexec : exec x s = onDev (fun d => d.arrive typ p place) s) (hp : s.dev.powered = true) (h : Admitted s.dev typ p next) :
    exec x s = .next { s with dev := place (s.dev.takeEject p) next } := by
  rw [hexec, onDev_powered _ s hp, arrive_admitted place h]

end Sys2Proof.Laws
end

section
/-! SUPPORT. The placement of a packet as its type says: data, fetch-adds, sums and loads (R74, R132, R198, R285, R291, R302, R450). -/
namespace Sys2Proof.Laws
open Sys2Proof.Machine

/-! ### What the checks have said -/

/-- A packet that is not null and passes its checks is one that its space takes, at an address that lies in the space. -/
theorem accepted {d : Dev} {p : Packet} (h : d.packetStatus p = 0) (h8 : p.typ ≠ 0x08) :
    spaceTakes (gaSpace p.addr) p.typ = true ∧ d.addrOk p = true := by
  unfold Dev.packetStatus at h
  rw [if_neg h8] at h
  cases htakes : spaceTakes (gaSpace p.addr) p.typ
  · simp [htakes] at h
  · cases haddr : d.addrOk p
    · simp [htakes, haddr] at h
    · exact ⟨rfl, rfl⟩

/-- Data that does not go to LPDDR5X goes to a declared staging buffer. -/
theorem staging_of_accepted {d : Dev} {p : Packet} (h : d.packetStatus p = 0) (htyp : p.typ = 0x00 ∨ p.typ = 0x07)
    (hsp : gaSpace p.addr ≠ 2) : ∃ e, d.stagingOf p.plot (gaOff p.addr) p.span = some e := by
  obtain ⟨htakes, haddr⟩ := accepted h (by omega)
  have hzero : gaSpace p.addr = 0 := by
    unfold spaceTakes at htakes
    split at htakes
    · assumption
    · rcases htyp with ht | ht <;> simp [ht] at htakes
    · exact absurd ‹_› hsp
    · rcases htyp with ht | ht <;> simp [ht] at htakes
    · cases htakes
  have hread : p.typ ≠ 0x01 := by omega
  simp only [Dev.addrOk, hzero, Bool.and_eq_true, Bool.or_eq_true, decide_eq_true_eq, hread, false_or] at haddr
  exact Option.isSome_iff_exists.1 haddr.2

/-! ### Data -/

theorem placeData_memory (d : Dev) {p : Packet} (next : Bool) (h : gaSpace p.addr = 2) :
    d.placeData p next = (d.lpWrite (gaOff p.addr) p.payload).placed p next := by
  simp only [Dev.placeData, if_pos h]

theorem placeData_staging (d : Dev) {p : Packet} (next : Bool) {k : Nat} {st : Staging} (h : gaSpace p.addr ≠ 2)
    (hst : d.stagingOf p.plot (gaOff p.addr) p.span = some (k, st)) : d.placeData p next =
      (d.putStaging (gaOff p.addr / 2 ^ 25) k st (gaOff p.addr % 2 ^ 25) p.payload).placed p next := by
  simp only [Dev.placeData, if_neg h, hst]

theorem putStaging_store (d : Dev) {n : Nat} (buf : Nat) (st : Staging) (off : Nat) (bs : List Byte) (h : n < d.pavs.length) :
    ((d.putStaging n buf st off bs).pav n).store = (d.pav n).store.store off bs := by
  unfold Dev.putStaging
  extract_lets d1 f us whole d2
  have h2 : (d2.pav n).store = (d1.pav n).store := onPav_keeps Pav.store d1 n n (fun _ => rfl)
  have h1 : (d1.pav n).store = (d.pav n).store.store off bs := congrArg Pav.store (pav_onPav_same d (·.putStore off bs) h)
  split
  · rw [h2, h1]
  · rw [pav_of_pavs (Dev_count_pavs _ _ _ _)]
    rw [advanceCtr_store, h2, h1]

theorem putStaging_trackers (d : Dev) (n buf : Nat) (st : Staging) (off : Nat) (bs : List Byte) :
    (d.putStaging n buf st off bs).trackers = d.trackers := by
  unfold Dev.putStaging
  extract_lets d1 f us whole d2
  split
  · rfl
  · exact Dev_count_trackers _ _ _ _

/-- Data counts at its tracker whatever memory it goes to. -/
theorem placeData_tracker (d : Dev) {p : Packet} (hv : p.trkValid = true) (h5 : p.typ ≠ 0x05) (hone : p.pcount ≤ 1) :
    ((d.placeData p false).tracker p.tracker).cur = ((d.tracker p.tracker).cur + 1) % 2 ^ 32 := by
  unfold Dev.placeData
  extract_lets off d1
  have h1 : d1.trackers = d.trackers := by
    simp only [d1]
    split
    · exact (congrArg Dev.trackers (offMemory_lpWrite d off p.payload)).trans rfl
    · split
      · exact putStaging_trackers d _ _ _ _ _
      · rfl
  rw [tracker_placed_once d1 false hv (.inr ⟨h5, hone⟩), if_neg Bool.false_ne_true]
  simp only [Dev.tracker, h1]

/-! ### Fetch-adds -/

/-- A write into LPDDR5X does not depend on the packets that wait. -/
theorem lpWrite_takeEject (d : Dev) (p : Packet) (off : Nat) (bs : List Byte) :
    ((d.takeEject p).lpWrite off bs).lpddr = (d.lpWrite off bs).lpddr := by
  rw [lpWrite_lpddr, lpWrite_lpddr]
  have hpieces := congrArg Prod.fst (lpPieces_congr (d.key (d.keyPlot off)).serial (burstPieces (bs.length + 1) off bs)
    (d := d.takeEject p) (e := d) rfl)
  exact congrArg (fun m => if (d.key (d.keyPlot off)).loaded = true then m else d.lpddr) hpieces

/-- The word that a fetch-add leaves (R291). -/
def faddWord (d : Dev) (p : Packet) : List Byte := toBytes 8 ((d.lpNat (gaOff p.addr) 8 + leNat (p.payload.take 8)) % 2 ^ 64)

/-- The answer to a fetch-add that no plan issued: the old word (R291). -/
def faddAnswer (d : Dev) (p : Packet) (old : Nat) : Packet :=
  { Packet.blank with
    dest := p.src, src := d.number, mid := p.src, tc := 1, typ := 0x02, epoch := d.router.epoch, tag := p.tag, tagGen := p.tagGen,
    plot := p.plot, plotGen := p.plotGen, addr := p.addr, len := 64, pcount := 1, payload := toBytes 8 old ++ List.replicate 56 0 }

theorem placeFadd_eq (d : Dev) {p : Packet} (next : Bool) (h : d.badAt p 8 = none) : d.placeFadd p next =
    if p.plan = true then (d.lpWrite (gaOff p.addr) (faddWord d p)).placed p next
    else (((d.lpWrite (gaOff p.addr) (faddWord d p)).track p next).shadowCopy p).post
      (faddAnswer (d.lpWrite (gaOff p.addr) (faddWord d p)) p (d.lpNat (gaOff p.addr) 8)) := by
  simp only [Dev.placeFadd, h]
  rfl

theorem placeFadd_lpddr (d : Dev) {p : Packet} (next : Bool) (h : d.badAt p 8 = none) :
    (d.placeFadd p next).lpddr = (d.lpWrite (gaOff p.addr) (faddWord d p)).lpddr := by
  rw [placeFadd_eq d next h]
  split
  · exact lpddr_placed _ p next
  · refine (congrArg Dev.lpddr (offPackets_post _ _)).trans ?_
    refine (congrArg Dev.lpddr (offPackets_shadowCopy _ p)).trans ?_
    exact (congrArg Dev.lpddr (offArrivals_track _ p next)).trans rfl

theorem number_shadowCopy (d : Dev) (p : Packet) : (d.shadowCopy p).number = d.number := by
  have hnum := congrArg Dev.number (offPackets_shadowCopy d p)
  exact hnum

theorem number_track (d : Dev) (p : Packet) (next : Bool) : (d.track p next).number = d.number := by
  have hnum := congrArg Dev.number (offArrivals_track d p next)
  exact hnum

/-- The old word goes back to another device where no plan issued the fetch-add. -/
theorem placeFadd_answers (d : Dev) {p : Packet} (next : Bool) (h : d.badAt p 8 = none) (hplan : p.plan = false) (hsrc : p.src ≠ d.number) :
    faddAnswer (d.lpWrite (gaOff p.addr) (faddWord d p)) p (d.lpNat (gaOff p.addr) 8) ∈ (d.placeFadd p next).inject := by
  rw [placeFadd_eq d next h, if_neg (by simp [hplan])]
  refine post_injects _ ?_
  have hnum : (((d.lpWrite (gaOff p.addr) (faddWord d p)).track p next).shadowCopy p).number = d.number :=
    ((number_shadowCopy _ p).trans (number_track _ p next)).trans (number_lpWrite d _ _)
  rw [hnum]
  exact hsrc

/-! ### Sums -/

/-- A pavilion with the values of an XW_ADD added to a buffer from element `i` on. -/
def xwAdded (r : RedBuf) (n : XwN) (i : Nat) (vs : List (Nat × Nat)) (q : Pav) : Pav :=
  forEach ((List.range vs.length).zip vs) q (fun t e => t.xwAddAt r n (i + e.1) e.2.1 e.2.2)

/-- A pavilion with the values of an F_ADD added to a buffer from element `i` on. -/
def fAdded (r : RedBuf) (i : Nat) (vs : List Nat) (q : Pav) : Pav :=
  forEach ((List.range vs.length).zip vs) q (fun t e => t.fAddAt r (i + e.1) e.2)

theorem placeXw_eq (d : Dev) {p : Packet} (next : Bool) {n : XwN} {r : RedBuf} {i : Nat} (hn : xwnOf p.xwn = some n)
    (hred : d.redOf p.plot (gaOff p.addr) (some n) p.win (p.xwValues n).length = some (r, i))
    (hbad : d.badAt p ((p.xwValues n).length * (n.bits / 8)) = none) :
    d.placeXw p next = (d.onPav r.pav (xwAdded r n i (p.xwValues n))).placed p next := by
  simp only [Dev.placeXw, hn, hred, hbad]
  rfl

theorem placeF_eq (d : Dev) {p : Packet} (next : Bool) {r : RedBuf} {i : Nat}
    (hred : d.redOf p.plot (gaOff p.addr) none 0 ((pieces 4 p.payload).map leNat).length = some (r, i))
    (hbad : d.badAt p (4 * ((pieces 4 p.payload).map leNat).length) = none) :
    d.placeF p next = (d.onPav r.pav (fAdded r i ((pieces 4 p.payload).map leNat))).placed p next := by
  simp only [Dev.placeF, hred, hbad]
  rfl

/-- An update of one pavilion, followed by what follows every placement. -/
theorem pav_onPav_placed (d : Dev) {n : Nat} (f : Pav → Pav) (p : Packet) (next : Bool) (h : n < d.pavs.length) :
    ((d.onPav n f).placed p next).pav n = f (d.pav n) := by
  rw [pav_of_pavs (pavs_placed _ p next), pav_onPav_same d f h]

/-! ### Loads -/

/-- A pavilion with the bytes of a load in its tier, the words that they replace no longer waiting for write-back (R260). -/
def tierLoaded (a : Nat) (bs : List Byte) (lost : List Nat) (q : Pav) : Pav :=
  { q.putTier a bs with scrubQ := q.scrubQ.filter (fun w => !lost.contains w) }

/-- The device with a shard in WRITING, its source as given. -/
def shardWriting (d : Dev) (k : Nat) (x : Shard) (src : Option (Nat × Nat × Nat)) : Dev :=
  { d with shards := d.shards.put k { x with st := .writing, cause := 0, src := src } }

/-- A LOAD packet of a shard that is being loaded: one update of its pavilion, counted, and one of its shard. -/
theorem placeLoad_eq (d : Dev) {p : Packet} {k : Nat} {x : Shard} (hx : d.shardOf p = some (k, x)) (hr : d.loadRegion x p.aux = true) :
    ∃ lost src, d.placeLoad p = (shardWriting
      (((d.onPav x.pav (tierLoaded (gaOff p.addr % 2 ^ 29) p.payload lost)).count 0x0A0 0x10C lost.length).arrivalCount p).1 k x src).confirm p := by
  have hgo : ¬ (!d.loadRegion x p.aux) = true := by simp [hr]
  simp only [Dev.placeLoad, hx, if_neg hgo]
  exact ⟨_, _, rfl⟩

/-- A LOAD packet in its tier: its bytes, and the shard it belongs to in WRITING. -/
theorem placeLoad_writes (d : Dev) {p : Packet} {k : Nat} {x : Shard} (hx : d.shardOf p = some (k, x)) (hr : d.loadRegion x p.aux = true)
    (hn : x.pav < d.pavs.length) :
    ((d.placeLoad p).pav x.pav).tier = (d.pav x.pav).tier.store (gaOff p.addr % 2 ^ 29) p.payload ∧
      ∃ y, (d.placeLoad p).shards.find k = some y ∧ y.st = .writing ∧ y.name = x.name ∧ y.digest = x.digest := by
  obtain ⟨lost, src, heq⟩ := placeLoad_eq d hx hr
  rw [heq]
  generalize hloaded : (d.onPav x.pav (tierLoaded (gaOff p.addr % 2 ^ 29) p.payload lost)).count 0x0A0 0x10C lost.length = e
  have hpav : e.pav x.pav = tierLoaded (gaOff p.addr % 2 ^ 29) p.payload lost (d.pav x.pav) := by
    rw [← hloaded, pav_of_pavs (Dev_count_pavs _ _ _ _), pav_onPav_same d _ hn]
  obtain ⟨as, has⟩ := arrivalCount_keeps e p
  have hkept := offPackets_confirm (shardWriting (e.arrivalCount p).1 k x src) p
  have hpavs : ((shardWriting (e.arrivalCount p).1 k x src).confirm p).pavs = (e.arrivalCount p).1.pavs :=
    (congrArg Dev.pavs hkept).trans rfl
  have hshards : ((shardWriting (e.arrivalCount p).1 k x src).confirm p).shards = (shardWriting (e.arrivalCount p).1 k x src).shards :=
    (congrArg Dev.shards hkept).trans rfl
  have hcounted : (e.arrivalCount p).1.pavs = e.pavs := by rw [has]
  rw [pav_of_pavs (hpavs.trans hcounted), hpav, hshards]
  exact ⟨rfl, _, smap_find_put_same _ k _, rfl, rfl, rfl⟩

end Sys2Proof.Laws
end

section
/-! SUPPORT. Reads answered with the bytes at their address (R76, R94, R265, R288, R293). -/
namespace Sys2Proof.Laws
open Sys2Proof.Machine

/-! ### What an answer is made of -/

/-- What an answer to a read is made of: the device without the packets that wait in it and without what a record of a fault may change,
the tenancy, and the device's number. -/
def answerView (d : Dev) : Dev × Bool × Nat := (offPackets (hush d), d.plotsMode, d.number)

/-- What the reading of a memory leaves alone: that, and the packets that wait. -/
def readView (d : Dev) : Dev × Bool × Nat := (hush d, d.plotsMode, d.number)

theorem answerView_of_readView {d e : Dev} (h : readView e = readView d) : answerView e = answerView d :=
  congrArg (fun v : Dev × Bool × Nat => (offPackets v.1, v.2)) h

theorem lpRead_congr {d e : Dev} (h : answerView e = answerView d) (off n : Nat) : e.lpRead off n = d.lpRead off n := by
  simp only [answerView, Prod.mk.injEq] at h
  obtain ⟨hdev, hmode, -⟩ := h
  have hcipher : ciphertext (offPackets (hush e)) = ciphertext (offPackets (hush d)) := congrArg ciphertext hdev
  have hkeys : e.keys = d.keys := (congrArg Dev.keys hdev).trans rfl
  have hplot : (offPackets (hush e)).pkgPlot = (offPackets (hush d)).pkgPlot := congrArg Dev.pkgPlot hdev
  have hplot : e.pkgPlot = d.pkgPlot := hplot
  have hkey : e.key (e.keyPlot off) = d.key (d.keyPlot off) := by simp only [Dev.key, Dev.keyPlot, hkeys, hmode, hplot]
  rw [Dev.lpRead, Dev.lpRead, hkey, lpBytesUnder_congr (d := e) (e := d) hcipher]

theorem spaceBytes_congr {d e : Dev} (h : answerView e = answerView d) (space off n : Nat) :
    e.spaceBytes space off n = d.spaceBytes space off n := by
  have hlp := lpRead_congr h off n
  have hpavs : e.pavs = d.pavs := (congrArg (fun v : Dev × Bool × Nat => v.1.pavs) h).trans rfl
  simp only [Dev.spaceBytes, pav_of_pavs hpavs, hlp]

/-- Packet `k` of the answer to a read (R288, R293). -/
def getAnswer (d : Dev) (p : Packet) (k : Nat) : Packet :=
  { Packet.blank with
    dest := p.src, src := d.number, mid := p.src, tc := p.tc, typ := 0x02, epoch := d.router.epoch, plan := p.plan, tag := p.tag,
    tagGen := p.tagGen, pseq := p.pseq + k, stepGen := p.stepGen, plot := p.plot, plotGen := p.plotGen, addr := p.addr + p.len * k,
    len := p.len, pcount := p.pcount, payload := d.spaceBytes (gaSpace p.addr) (gaOff p.addr + p.len * k) p.len }

theorem getAnswer_congr {d e : Dev} (h : answerView e = answerView d) (p : Packet) (k : Nat) : getAnswer e p k = getAnswer d p k := by
  have hbytes := spaceBytes_congr h (gaSpace p.addr) (gaOff p.addr + p.len * k) p.len
  have hnum : e.number = d.number := congrArg (fun v : Dev × Bool × Nat => v.2.2) h
  have hrouter : e.router = d.router := (congrArg (fun v : Dev × Bool × Nat => v.1.router) h).trans rfl
  simp only [getAnswer, hbytes, hnum, hrouter]

theorem answerView_post (d : Dev) (pk : Packet) : answerView (d.post pk) = answerView d := by
  unfold Dev.post
  split <;> rfl

/-- The packets of an answer are handed to the router one after another. -/
def answersPosted (p : Packet) (l : List Nat) (d : Dev) : Dev := forEach l d (fun s k => s.post (getAnswer s p k))

/-- Every packet of an answer to another device waits for the router, beside those that waited. -/
theorem answersPosted_inject {g : Dev} {p : Packet} (hsrc : p.src ≠ g.number) (l : List Nat) {d : Dev} (h : answerView d = answerView g) :
    (∀ q, q ∈ d.inject → q ∈ (answersPosted p l d).inject) ∧ ∀ k, k ∈ l → getAnswer g p k ∈ (answersPosted p l d).inject := by
  induction l generalizing d with
  | nil => exact ⟨fun q hq => hq, fun k hk => by simp at hk⟩
  | cons j rest ih =>
    obtain ⟨hkept, hanswers⟩ := ih ((answerView_post d (getAnswer d p j)).trans h)
    have hnum : d.number = g.number := congrArg (fun v : Dev × Bool × Nat => v.2.2) h
    refine ⟨fun q hq => hkept q (mem_post_inject d _ hq), fun k hk => ?_⟩
    rcases List.mem_cons.1 hk with rfl | hmem
    · refine hkept _ ?_
      rw [getAnswer_congr h]
      exact post_injects d (by rw [hnum]; exact hsrc)
    · exact hanswers k hmem

/-! ### Reading leaves alone what an answer is made of -/

/-- Registers of a page's commands, counters and common part are no part of an answer. -/
theorem readView_of_regs {d e : Dev} (hdev : hush e = hush d) (hmode : e.rgN 0x008 0x400 0 = d.rgN 0x008 0x400 0)
    (hnum : e.rgN 0x051 0x400 0 = d.rgN 0x051 0x400 0) : readView e = readView d := by
  simp only [readView, Dev.plotsMode, Dev.number, hdev, hmode, hnum]

theorem readView_count (d : Dev) (pg : Nat) {o : Nat} (n : Nat) (ho : o < 0x400) : readView (d.count pg o n) = readView d :=
  readView_of_regs (hush_count d pg o n) (rgN_count_other d n (by unfold rk; omega)) (rgN_count_other d n (by unfold rk; omega))

/-- A fault recorded on a pavilion's page is no part of an answer. -/
theorem readView_recordB (d : Dev) {n : Nat} (bit : Nat) (cls : FaultClass) (w : Where) (hn : n < 32) :
    readView (d.recordB (pavPage n) 0 bit cls false w) = readView d := by
  have hrg : ∀ pg, pg = 0x008 ∨ pg = 0x051 → (d.recordB (pavPage n) 0 bit cls false w).rgN pg 0x400 0 = d.rgN pg 0x400 0 := fun pg hpg =>
    rgN_recordB d cls false w (by unfold pavPage; omega) (by omega) (by decide) (by unfold pavPage; omega) (by omega) (by omega) (by omega)
      (by omega)
  exact readView_of_regs (hush_recordB _ _ _ _ _ _ _) (hrg _ (.inl rfl)) (hrg _ (.inr rfl))

/-- A burst that holds no uncorrectable error is read with nothing but its counts (R283). -/
theorem readView_controllerRead (d : Dev) {b : Nat} (plot : Option Nat) (h : d.dramBad.contains b = false) :
    readView (d.controllerRead b 0 false .none plot).1 = readView d := by
  unfold Dev.controllerRead
  extract_lets m pg limit w bad d1 d2 d3 d2'
  have hbad : bad = false := h
  rw [if_neg (by simp [hbad])]
  show readView (if false = true ∨ 0 < 0 then d2'.raise pg 0 w else d2') = readView d
  rw [if_neg (by simp)]
  show readView d1 = readView d
  simp only [d1]
  rw [readView_count _ _ _ (by decide), readView_count _ _ _ (by decide)]

/-- What every pass of a fold over a list's members keeps while it stands, the fold keeps. -/
theorem forEach_keeps_of_mem {α β : Type} (view : Dev → β) (l : List α) {d e : Dev} (f : Dev → α → Dev) (he : view e = view d)
    (h : ∀ g x, x ∈ l → view g = view d → view (f g x) = view d) : view (forEach l e f) = view d := by
  induction l generalizing e with
  | nil => exact he
  | cons x rest ih => exact ih (h e x (by simp) he) (fun g y hy => h g y (by simp [hy]))

theorem readView_bursts (d : Dev) (plot : Option Nat) (l : List Nat) (h : l.find? d.dramBad.contains = none) :
    readView (forEach l d (fun s b => (s.controllerRead b 0 false .none plot).1)) = readView d := by
  refine forEach_keeps_of_mem readView l _ rfl (fun g b hb hg => ?_)
  have hbad : g.dramBad = d.dramBad := (congrArg (fun v : Dev × Bool × Nat => v.1.dramBad) hg).trans rfl
  have hclean : g.dramBad.contains b = false := by
    rw [hbad]
    simpa using List.find?_eq_none.1 h b hb
  rw [readView_controllerRead g plot hclean, hg]

/-! ### Words of a working store without an uncorrectable error -/

/-- One word taken into the search for the lowest uncorrectable word of an access. -/
def lowerBad (off n : Nat) (b : Option Nat) (w : Nat) : Option Nat :=
  if decide (16 * w < off + n) && decide (off < 16 * w + 16) && (match b with | some v => decide (w < v) | none => true) then some w else b

theorem lowerBad_none {off n w : Nat} {b : Option Nat} (h : lowerBad off n b w = none) :
    b = none ∧ ¬ (16 * w < off + n ∧ off < 16 * w + 16) := by
  cases b with
  | none => exact ⟨rfl, fun hin => by simp [lowerBad, hin] at h⟩
  | some v =>
    simp only [lowerBad] at h
    split at h <;> cases h

theorem foldl_lowerBad_none {off n : Nat} (l : List Nat) {b : Option Nat} (h : l.foldl (lowerBad off n) b = none) :
    b = none ∧ ∀ w, w ∈ l → ¬ (16 * w < off + n ∧ off < 16 * w + 16) := by
  induction l generalizing b with
  | nil => exact ⟨h, nofun⟩
  | cons v rest ih =>
    obtain ⟨hfirst, hrest⟩ := ih h
    obtain ⟨hb, hv⟩ := lowerBad_none hfirst
    exact ⟨hb, fun w hw => (List.mem_cons.1 hw).elim (fun heq => heq ▸ hv) (hrest w)⟩

/-- An access that meets no uncorrectable word touches none. -/
theorem badWord_none {l : List Nat} {off n : Nat} (h : badWord l off n = none) :
    ∀ w, w ∈ l → ¬ (16 * w < off + n ∧ off < 16 * w + 16) := (foldl_lowerBad_none l h).2

/-- The working store read through the DMA port where no word is uncorrectable: corrected words are recorded. -/
theorem readView_portRead (d : Dev) {n off len : Nat} (hn : n < 32) (h : badWord (d.pav n).storeBad off len = none) :
    readView (d.portRead n off len) = readView d := by
  have hclean : (d.pav n).storeBad.filter (fun w => decide (off ≤ 16 * w) && decide (16 * w < off + len)) = [] := by
    refine List.filter_eq_nil_iff.2 (fun w hw hin => badWord_none h w hw ?_)
    simp only [Bool.and_eq_true, decide_eq_true_eq] at hin
    exact ⟨hin.2, by omega⟩
  unfold Dev.portRead storeEvents
  extract_lets inR c
  rw [show (d.pav n).storeBad.filter inR = [] from hclean]
  show readView (d.pavEvents n (if c = 0 then [] else [.storeCorr c])) = readView d
  split
  · rfl
  · obtain ⟨cls, w, heq⟩ := storeCorr_eq d n c
    show readView (d.pavEvent n (.storeCorr c)) = readView d
    rw [heq, readView_recordB _ 2 cls w hn, readView_count _ _ _ (by decide)]

/-! ### The answer -/

/-- A read that meets no uncorrectable error is answered from a device that has only read. -/
theorem answerGet_posts (d : Dev) {p : Packet} (hst : d.packetStatus p = 0) (htyp : p.typ = 0x01) (hbad : d.badAt p (p.len * p.pcount) = none) :
    ∃ e, readView e = readView d ∧ d.answerGet p = answersPosted p (List.range p.pcount) e := by
  obtain ⟨htakes, haddr⟩ := accepted hst (by omega)
  unfold Dev.answerGet
  extract_lets n off sp bursts d0 d1
  have hbad' : d.badAt p n = none := hbad
  have hd0 : readView d0 = readView d := by
    simp only [d0]
    split
    next h2 =>
      have hnone : bursts.find? d.dramBad.contains = none := by
        simpa only [Dev.badAt, show gaSpace p.addr = 2 from h2] using hbad
      exact readView_bursts d (some p.plot) bursts hnone
    · split
      next h0 =>
        have hzero : gaSpace p.addr = 0 := h0
        have hword : badWord (d.pav (off / 2 ^ 25)).storeBad (off % 2 ^ 25) n = none := by
          simpa only [Dev.badAt, hzero] using hbad
        have hpav : off / 2 ^ 25 < 32 := by
          simp only [Dev.addrOk, hzero, Bool.and_eq_true, decide_eq_true_eq] at haddr
          have hlt : off < 2 ^ 30 := haddr.1.1
          omega
        rw [readView_count _ _ _ (by decide), readView_portRead d hpav hword]
      · rfl
  have hd1 : readView d1 = readView d := by
    simp only [d1]
    split
    · rw [readView_count _ _ _ (by decide), hd0]
    · exact hd0
  rw [hbad']
  exact ⟨d1, hd1, rfl⟩

end Sys2Proof.Laws
end

section
/-! SUPPORT. The statement about packets that pass their checks. -/
namespace Sys2Proof
open Sys2Proof.Machine Sys2Proof.Laws

/-- Settles O24, type by type: a packet that passes its checks is placed in the device that has taken it from its port, and what follows a
placement changes neither memories nor pavilions. -/
theorem packetsArePlaced : Obligations.PacketsArePlaced := by
  intro s p next hp
  refine ⟨fun typ c hc h => ?data, fun h hbad hsrc => ?get, fun h hbad => ?fadd, fun n r i h hn hred hbad hlen => ?xw,
    fun r i h hred hbad hlen => ?f, fun h => ?null, fun k x h hx hr hlen => ?load⟩
  case data =>
    have ⟨htyp, _, _, _, _, hst, _⟩ := h
    have hdata : p.typ = 0x00 ∨ p.typ = 0x07 := by rcases hc with ⟨ht, -⟩ | ⟨ht, -⟩ <;> simp [htyp, ht]
    have hexec : exec c s = .next { s with dev := (s.dev.takeEject p).placeData p next } := by
      rcases hc with ⟨rfl, rfl⟩ | ⟨rfl, rfl⟩ <;> exact exec_arrives (·.placeData p ·) rfl hp h
    refine ⟨_, hexec, fun hsp => ?memory, fun hsp hlen => ?staging, fun hv hone hcur => ?tracker⟩
    case memory =>
      have hbytes : ((s.dev.takeEject p).placeData p next).lpddr = (s.dev.lpWrite (gaOff p.addr) p.payload).lpddr := by
        rw [placeData_memory _ next hsp, lpddr_placed, lpWrite_takeEject]
      exact ⟨hbytes, fun a ha => by rw [hbytes, lpWrite_read_other _ _ _ ha]⟩
    case staging =>
      obtain ⟨⟨k, st⟩, hbuf⟩ := staging_of_accepted hst hdata hsp
      rw [placeData_staging (s.dev.takeEject p) next hsp hbuf, pav_of_pavs (pavs_placed _ p next)]
      exact putStaging_store (s.dev.takeEject p) k st _ _ hlen
    case tracker =>
      subst hcur
      exact placeData_tracker (s.dev.takeEject p) hv (by omega) hone
  case get =>
    have ⟨htyp, _, _, _, _, hst, _⟩ := h
    obtain ⟨e, he, heq⟩ := answerGet_posts (s.dev.takeEject p) hst htyp hbad
    have hexec : exec (.getReq p) s = .next { s with dev := answersPosted p (List.range p.pcount) e } := by
      rw [← heq]
      exact exec_arrives (fun d _ => d.answerGet p) rfl hp h
    have hinject : e.inject = s.dev.inject := (congrArg (fun v : Dev × Bool × Nat => v.1.inject) he).trans rfl
    obtain ⟨hkept, hanswers⟩ := answersPosted_inject (g := s.dev) hsrc (List.range p.pcount) ((answerView_of_readView he).trans rfl)
    rw [hinject] at hkept
    exact ⟨_, hexec, hkept, fun k hk => ⟨getAnswer s.dev p k, hanswers k (List.mem_range.2 hk), rfl, rfl, rfl, rfl, rfl, rfl⟩⟩
  case fadd =>
    have hexec := exec_arrives (x := .faddI64Packet p) (·.placeFadd p ·) rfl hp h
    refine ⟨_, hexec, ?_, fun hplan hsrc => ⟨_, placeFadd_answers (s.dev.takeEject p) next hbad hplan hsrc, rfl, rfl, rfl, rfl⟩⟩
    exact (placeFadd_lpddr (s.dev.takeEject p) next hbad).trans (lpWrite_takeEject s.dev p _ _)
  case xw =>
    have hexec := exec_arrives (x := .xwAdd p) (·.placeXw p ·) rfl hp h
    refine ⟨_, hexec, ?_⟩
    rw [placeXw_eq (s.dev.takeEject p) next hn hred hbad, pav_onPav_placed (s.dev.takeEject p) _ p next hlen]
    rfl
  case f =>
    have hexec := exec_arrives (x := .fAdd p) (·.placeF p ·) rfl hp h
    refine ⟨_, hexec, ?_⟩
    rw [placeF_eq (s.dev.takeEject p) next hred hbad, pav_onPav_placed (s.dev.takeEject p) _ p next hlen]
    rfl
  case null =>
    have hexec := exec_arrives (x := .nullPacket p) (·.placed p ·) rfl hp h
    exact ⟨_, hexec, pavs_placed _ p next, lpddr_placed _ p next, fun hv => tracker_placed_once (s.dev.takeEject p) next hv (.inl h.1)⟩
  case load =>
    have hexec := exec_arrives (x := .loadPacket p) (fun d _ => d.placeLoad p) rfl hp h
    exact ⟨_, hexec, placeLoad_writes (s.dev.takeEject p) hx hr hlen⟩

end Sys2Proof
end

section
/-! SUPPORT. What a load, a store, a gather, a scatter, a shuffle, a special function or v.treemask leaves in its pavilion (R66, R144): the
law of issue for them, and what their rows read of the working store (R72, R76, R158). -/
namespace Sys2Proof.Laws
open Sys2Proof.Machine

/-! ### What a row reads of the working store -/

section
variable {p q : Pav} (h : rowReads p = rowReads q)
include h

theorem storeBytes_reads (a n : Nat) : p.store.bytes a n = q.store.bytes a n :=
  congrArg (fun v : (Mem × SMap W64 × SMap Bool × SMap AccRow × SMap W32 × Mem × Mem) × List Nat × List Nat =>
    v.1.2.2.2.2.2.1.bytes a n) h

theorem storeEvents_reads (a n : Nat) : storeEvents p a n = storeEvents q a n := by
  have hbad : p.storeBad = q.storeBad := congrArg (fun v => v.2.1) h
  have hsoft : p.storeSoft = q.storeSoft := congrArg (fun v => v.2.2) h
  rw [storeEvents, storeEvents, hbad, hsoft]

theorem wsAddr_reads (a : Addr) : p.wsAddr a = q.wsAddr a := by rw [Pav.wsAddr, Pav.wsAddr, idxOpt_reads h]

theorem spanOff_reads (base span : Nat) (idx : LineRef) (k : Nat) : spanOff p base span idx k = spanOff q base span idx k := by
  simp only [spanOff, sbytes_reads h]

theorem idxImm_reads (a : IdxImm) : p.idxImm a = q.idxImm a := by
  cases a with
  | reg k => exact congrArg BitVec.toInt (ireg_reads h k)
  | imm v => rfl

end

/-- A gather that meets no upset word: its sixteen lines, and no event (R158). -/
theorem gatherAll_clean (lc : LatClass) (dst : HalfRef) (base span : Nat) (idx : LineRef) (w : Option Wait) (t : Nat) (p : Pav)
    (h : (List.range 16).flatMap (fun k => storeEvents p (spanOff p base span idx k) 64) = []) :
    gatherAll lc false dst base span idx w t p =
      (p.later (t + 5) (.bytes dst.byte ((List.range 16).flatMap (fun k => p.store.bytes (spanOff p base span idx k) 64))), []) := by
  simp only [gatherAll, List.flatMap_map, h]
  rfl

/-! ### The law of issue for these instructions -/

/-- The moves inside a pavilion, the special functions and v.treemask. -/
def walkOp : PlanOp → Bool
  | .ld _ _ _ | .st _ _ | .gather _ _ _ _ _ | .scatter _ _ _ _ | .perm _ _ _ _ | .xpose _ _ _ | .sf _ _ | .treemask _ => true
  | _ => false

/-- Such an instruction carries no V mark, works inside its pavilion, and is no mm. -/
theorem walk_enters {op : PlanOp} (hw : walkOp op = true) :
    op.vMarked = false ∧ (∀ d i, Dev.perform d i op false [] = d.enterOp i op false []) ∧ ∀ o, op ≠ .mm o := by
  cases op with
  | ld _ _ _ | st _ _ | gather _ _ _ _ _ | scatter _ _ _ _ | perm _ _ _ _ | xpose _ _ _ | sf _ _ | treemask _ =>
    exact ⟨rfl, fun _ _ => rfl, fun _ => nofun⟩
  | _ => cases hw

/-- The first row of an instruction, in the pavilion as its issue cycle reads it, puts results on their way, all readable in one cycle. -/
def RowGivesAll (d : Dev) (i : Issue) (op : PlanOp) (L : Nat) (es : List Effect) : Prop :=
  ∀ (b : Nat) (p r : Pav), rowReads r = rowReads (d.issuePav i) →
    runRow ((d.atIssue i).env i.pav) (entering d i op b p) 0 i.cycle r = (r.laterAll (es.map (fun e => (i.cycle + L, e))), [])

/-- A command that issues such an instruction, which nothing blocks, leaves the results that its first row puts on their way. -/
theorem exec_walks {x : Instr} {s : State} {d : Dev} {i : Issue} {op : PlanOp} {es : List Effect} {L : Nat}
    (hexec : exec x s = .next { s with dev := d.issueOp i op [] }) (hw : walkOp op = true) (h : d.issues i op = true)
    (hb : (d.atIssue i).blocked i.pav false op = none) (hr : 0 < (rowsOf op).1) (hrow : RowGivesAll d i op L es) :
    ∃ t, exec x s = .next t ∧ Leaves t d i L es := by
  obtain ⟨hv, henter, hmm⟩ := walk_enters hw
  have hb' : ((d.atIssue i).markVar i.pav op).blocked i.pav false op = none := by rw [markVar_unmarked _ _ hv]; exact hb
  exact ⟨_, hexec, issue_visible h hb' (fun e => henter e i) hmm hr (fun b p r _ hreads => hrow b p r hreads)⟩

/-- The command of an instruction that meets no upset word. -/
theorem exec_issues {x : Instr} {s : State} {i : Issue} {op : PlanOp} (hexec : exec x s = onDev (·.issueOp i op []) s)
    (h : s.dev.issues i op = true) : exec x s = .next { s with dev := s.dev.issueOp i op [] } :=
  hexec.trans (onDev_powered _ s (powered_of_issues h))

/-- The command of an instruction that reads the working store, its upset words taken in first. -/
theorem exec_issues_hit {x : Instr} {s : State} {i : Issue} {op : PlanOp} {hits : Hits}
    (hexec : exec x s = onDev (fun d => (d.onPav i.pav (·.storeHits hits)).issueOp i op []) s)
    (h : (storeHit s i hits).issues i op = true) : exec x s = .next { s with dev := (storeHit s i hits).issueOp i op [] } :=
  hexec.trans (onDev_powered _ s (powered_of_issues (d := storeHit s i hits) h))

end Sys2Proof.Laws
end

section
/-! SUPPORT. The statement about loads, stores and shuffles. -/
namespace Sys2Proof
open Sys2Proof.Machine Sys2Proof.Laws

/-- Settles O2, instruction by instruction: the only row of each reads what its issue cycle shows, meets no upset word, and puts the bytes
it moves on their way. -/
theorem movesLeaveTheirBytesAtLatency : Obligations.MovesLeaveTheirBytesAtLatency := by
  intro s i
  refine ⟨fun dst src w hits h hwait hclean => ?ld, fun dst src h => ?st, fun dst base span idx w hits h hwait hclean => ?gather,
    fun base span idx src h => ?scatter, fun dst src map elt h => ?perm, fun dst src elt h => ?xpose⟩
  case ld =>
    refine exec_walks (exec_issues_hit rfl h) rfl h hwait Nat.one_pos (fun _ _ r hr => ?_)
    rw [← storeEvents_reads hr, ← wsAddr_reads hr] at hclean
    rw [← storeBytes_reads hr, ← wsAddr_reads hr]
    exact congrArg (Prod.mk _) hclean
  case st =>
    refine exec_walks (exec_issues rfl h) rfl h rfl Nat.one_pos (fun _ _ r hr => ?_)
    rw [← wsAddr_reads hr, ← sbytes_reads hr]
    rfl
  case gather =>
    refine exec_walks (exec_issues_hit rfl h) rfl h hwait Nat.one_pos (fun _ _ r hr => ?_)
    simp only [← storeEvents_reads hr, ← spanOff_reads hr] at hclean
    simp only [← storeBytes_reads hr, ← spanOff_reads hr]
    exact gatherAll_clean _ dst base span idx w i.cycle r hclean
  case scatter =>
    refine exec_walks (exec_issues rfl h) rfl h rfl Nat.one_pos (fun _ _ r hr => ?_)
    simp only [← spanOff_reads hr, ← sbytes_reads hr, List.map_map]
    rfl
  case perm =>
    refine exec_walks (exec_issues rfl h) rfl h rfl Nat.one_pos (fun _ _ r hr => ?_)
    simp only [← sbytes_reads hr]
    rfl
  case xpose =>
    refine exec_walks (exec_issues rfl h) rfl h rfl Nat.one_pos (fun _ _ r hr => ?_)
    simp only [← sbytes_reads hr]
    rfl

end Sys2Proof
end

section
/-! SUPPORT. Special functions and v.treemask (R144, R173, R179, R180, R184): their first results, an instruction without a row, and results
that become readable in cycles one after another. -/
namespace Sys2Proof.Laws
open Sys2Proof.Machine

/-! ### Special functions -/

/-- The bytes of the first part of a special-function instruction (R173, R184). -/
def sfBytes (p : Pav) (op : SfOp) (o : SfArgs) : List Byte :=
  (List.range (min 256 o.len / o.ty.bytes)).flatMap (fun k => toBytes (o.tto.getD o.ty).bytes (narrow (o.tto.getD o.ty)
    (sfResult op (widen o.ty (elemAt p (some o.src) o.ty.bytes k)))))

theorem sfBytes_reads {p q : Pav} (h : rowReads p = rowReads q) (op : SfOp) (o : SfArgs) : sfBytes p op o = sfBytes q op o := by
  simp only [sfBytes, elemAt, sbytes_reads h]

theorem sfPart_first (lc : LatClass) {a : Active} (op : SfOp) (o : SfArgs) (t : Nat) (p : Pav) (h : a.killed = false) :
    sfPart lc a op o 0 t p = (p.later (t + latency lc (.sf op o)) (.bytes o.dst.byte (sfBytes p op o)), []) := by
  simp [sfPart, h, vecEls, sfBytes, elemAt, List.flatMap_map]

/-! ### An instruction in its pavilion -/

theorem landUpTo_pend_congr (c : Nat) (l : List Pend) (p q : Pav) : (landUpTo c l p).pend = (landUpTo c l q).pend := by
  induction l generalizing p q with
  | nil => rfl
  | cons x rest ih =>
    simp only [landUpTo]
    split
    · exact ih _ _
    · rfl

/-- What is still on its way in a cycle depends on nothing but what was. -/
theorem settle_pend_congr (c : Nat) {p q : Pav} (h : p.pend = q.pend) : (p.settle c).pend = (q.settle c).pend := by
  rw [Pav.settle, Pav.settle, h]
  exact landUpTo_pend_congr c q.pend p q

/-- An instruction that nothing blocks enters a pavilion that reads as its issue cycle shows; when its first row has no event, the pavilion
after the issue is the one it has entered. -/
theorem issueOp_enters {d : Dev} {i : Issue} {op : PlanOp} (hw : walkOp op = true) (h : d.issues i op = true)
    (hb : (d.atIssue i).blocked i.pav false op = none) :
    ∃ q : Pav, rowReads q = rowReads (d.issuePav i) ∧ q.pend = (d.issuePav i).pend ∧
      q.checks.all (fun k => decide (i.cycle < k.1)) = true ∧
      ((q.enter ((d.atIssue i).env i.pav) (entering d i op i.slot.bedNo q)).2 = [] →
        (d.issueOp i op []).pav i.pav = (q.enter ((d.atIssue i).env i.pav) (entering d i op i.slot.bedNo q)).1) := by
  obtain ⟨hv, henter, hmm⟩ := walk_enters hw
  have hmark := markVar_unmarked (d.atIssue i) i.pav hv
  have hlen := pav_lt_of_issues h
  have hissues := h
  simp only [Dev.issues, Bool.and_eq_true, decide_eq_true_eq] at hissues
  obtain ⟨⟨⟨⟨⟨-, h32⟩, -⟩, -⟩, -⟩, hchecks⟩ := hissues
  obtain ⟨hreads, hpend, henv, hcount, hkept⟩ := units_facts (d.atIssue i) i.pav i.cycle op hlen (by omega)
  refine ⟨((((d.atIssue i).given i.pav op).2.countUnits i.pav i.cycle op).pav i.pav).settle i.cycle, settle_reads _ _ _ hreads hpend,
    settle_pend_congr _ hpend, by rw [settle_checks, hkept]; exact hchecks, fun hev => ?_⟩
  rw [issueOp_eq h (by rw [hmark]; exact hb), hmark, henter]
  rw [entering, hmark] at hev ⊢
  rw [Dev.enterOp, tileOf_other _ _ _ hmm, henv]
  dsimp only
  rw [hev]
  exact pav_setPav_same _ _ _ (by rw [hcount]; exact hlen)

/-- A special-function instruction of no source bytes changes nothing that a plan reads. -/
theorem sf_empty_visible {d : Dev} {i : Issue} {op : SfOp} {o : SfArgs} (h : d.issues i (.sf op o) = true) (hlen : o.len = 0) (c : Nat) :
    (((d.issueOp i (.sf op o) []).pav i.pav).settle c).visible = ((d.issuePav i).settle c).visible := by
  obtain ⟨q, hreads, hpend, -, hpav⟩ := issueOp_enters (op := .sf op o) rfl h rfl
  have hrows : ¬ 0 < (rowsOf (.sf op o)).1 := by simp [rowsOf, hlen, ceilDiv]
  have hq : q.enter ((d.atIssue i).env i.pav) (entering d i (.sf op o) i.slot.bedNo q) = (q, []) := if_neg hrows
  rw [hpav (by rw [hq]), hq]
  exact reads_visible (settle_reads c q _ hreads hpend)

/-- The command of a special-function instruction leaves the results of its first part after its latency. -/
theorem exec_sf {x : Instr} {s : State} {i : Issue} {op : SfOp} {o : SfArgs} {L : Nat}
    (hexec : exec x s = onDev (·.issueOp i (.sf op o) []) s) (h : s.dev.issues i (.sf op o) = true)
    (hL : latency ((s.dev.atIssue i).env i.pav).lc (.sf op o) = L) :
    ∃ t, exec x s = .next t ∧ Leaves t s.dev i L [.bytes o.dst.byte (sfBytes (s.dev.issuePav i) op o)] := by
  rcases Nat.eq_zero_or_pos o.len with hlen | hlen
  · refine ⟨_, exec_issues hexec h, ?_⟩
    have hnone : sfBytes (s.dev.issuePav i) op o = [] := by simp [sfBytes, hlen]
    rw [hnone]
    exact sf_empty_visible h hlen _
  · refine exec_walks (exec_issues hexec h) rfl h rfl ?rows (fun b p r hr => ?row)
    case rows =>
      show 0 < ceilDiv o.len 256
      rw [ceilDiv]
      omega
    case row =>
      rw [← sfBytes_reads hr, ← hL]
      exact sfPart_first (a := entering s.dev i (.sf op o) b p) _ op o i.cycle r rfl

/-! ### Results that become readable one after another -/

theorem settle_idle {p : Pav} (h : p.pend = []) (c : Nat) : p.settle c = p := by
  rw [Pav.settle, h, landUpTo, ← h]

theorem lands_pend (es : List Effect) (p : Pav) : (es.foldl Pav.land p).pend = p.pend := by
  induction es generalizing p with
  | nil => rfl
  | cons e rest ih => exact (ih _).trans (by cases e <;> rfl)

/-- Results put on their way in the order of their cycles, with nothing else under way, land in that order. -/
theorem settle_laterAll_ordered {p : Pav} (hp : p.pend = []) (l : List (Nat × Effect)) (hl : l.Pairwise (fun x y => x.1 ≤ y.1)) {T : Nat}
    (hT : ∀ x ∈ l, x.1 ≤ T) : (p.laterAll l).settle T = (l.map Prod.snd).foldl Pav.land p := by
  induction hlen : l.length generalizing l T with
  | zero =>
    rw [List.eq_nil_of_length_eq_zero hlen]
    exact settle_idle hp T
  | succ n ih =>
    obtain rfl | ⟨l, x, rfl⟩ := List.eq_nil_or_concat l
    · cases hlen
    rw [List.concat_eq_append] at hlen hl hT ⊢
    have hlen : l.length = n := by rw [List.length_append] at hlen; exact Nat.succ.inj hlen
    obtain ⟨hl, -, hx⟩ := List.pairwise_append.1 hl
    have hlast : (p.laterAll (l ++ [x])).settle x.1 = ((p.laterAll l).settle x.1).land x.2 := by
      rw [Pav.laterAll, List.foldl_append]
      exact settle_later _ x.1 x.2
    have hland : ((l ++ [x]).map Prod.snd).foldl Pav.land p = ((l.map Prod.snd).foldl Pav.land p).land x.2 := by simp
    rw [← settle_settle _ x.1 T (hT x (by simp)), hlast, ih l hl (fun y hy => hx y hy x (by simp)) hlen, ← hland]
    exact settle_idle ((lands_pend _ p).trans hp) T

/-- An instruction that enters a pavilion with nothing under way, and whose one row puts results on their way in the order of their
cycles, leaves them all by the last. -/
theorem enter_lands {env : Env} {a : Active} {p : Pav} {l : List (Nat × Effect)} {T : Nat} (hn : a.next = 0) (hr : 0 < (rowsOf a.op).1)
    (hk : p.checks.all (fun k => decide (a.start < k.1)) = true) (hp : p.pend = []) (hl : l.Pairwise (fun x y => x.1 ≤ y.1))
    (hT : ∀ x ∈ l, x.1 ≤ T) (hrow : ∀ r : Pav, rowReads r = rowReads p → runRow env a 0 a.start r = (r.laterAll l, [])) :
    ((p.enter env a).1.settle T).visible = ((l.map Prod.snd).foldl Pav.land p).visible ∧ (p.enter env a).2 = [] := by
  have hdue : a.due = a.start := by simp [Active.due, hn]
  simp only [Pav.enter, hr, if_true, stepRow, hdue, hn]
  rw [takeChecks_none { p with active := p.active ++ [a] } _ hk]
  dsimp only
  rw [settle_idle (p := { p with active := p.active ++ [a] }) hp, hrow { p with active := p.active ++ [a] } rfl]
  refine ⟨?_, rfl⟩
  rw [settle_active, visible_active, settle_laterAll_ordered (p := { p with active := p.active ++ [a] }) hp l hl hT, lands_active,
    visible_active]

/-- A command that issues such an instruction with nothing else under way, its one row putting results on their way in the order of their
cycles, leaves them all by the last. -/
theorem exec_walks_ordered {x : Instr} {s : State} {i : Issue} {op : PlanOp} {l : List (Nat × Effect)} {L : Nat}
    (hexec : exec x s = onDev (·.issueOp i op []) s) (hw : walkOp op = true) (h : s.dev.issues i op = true)
    (hb : (s.dev.atIssue i).blocked i.pav false op = none) (hr : 0 < (rowsOf op).1) (hp : (s.dev.issuePav i).pend = [])
    (hl : l.Pairwise (fun x y => x.1 ≤ y.1)) (hT : ∀ x ∈ l, x.1 ≤ i.cycle + L)
    (hrow : ∀ (b : Nat) (p r : Pav), rowReads p = rowReads (s.dev.issuePav i) → rowReads r = rowReads (s.dev.issuePav i) →
      runRow ((s.dev.atIssue i).env i.pav) (entering s.dev i op b p) 0 i.cycle r = (r.laterAll l, [])) :
    ∃ t, exec x s = .next t ∧ Leaves t s.dev i L (l.map Prod.snd) := by
  obtain ⟨q, hreads, hpend, hchecks, hpav⟩ := issueOp_enters hw h hb
  obtain ⟨hlands, hev⟩ := enter_lands (env := (s.dev.atIssue i).env i.pav) (a := entering s.dev i op i.slot.bedNo q) rfl hr hchecks
    (hpend.trans hp) hl hT (fun r hr' => hrow _ q r hreads (hr'.trans hreads))
  refine ⟨_, exec_issues hexec h, ?_⟩
  show (((s.dev.issueOp i op []).pav i.pav).settle (i.cycle + L)).visible = _
  rw [hpav hev, hlands, settle_idle hp]
  exact lands_visible _ _ _ (reads_visible hreads)

/-! ### v.treemask -/

theorem length_toBytes (n v : Nat) : (toBytes n v).length = n := by
  induction n generalizing v with
  | zero => rfl
  | succ n ih => exact congrArg (· + 1) (ih _)

theorem length_flatMap_const {α β : Type} (l : List α) (f : α → List β) {n : Nat} (h : ∀ x, (f x).length = n) :
    (l.flatMap f).length = l.length * n := by
  induction l with
  | nil => exact (Nat.zero_mul n).symm
  | cons x rest ih => rw [List.flatMap_cons, List.length_append, h, ih, List.length_cons, Nat.succ_mul, Nat.add_comm]

theorem length_maskRow (o : TreeArgs) (par ds : List Nat) (n r : Nat) : (maskRow o par ds n r).length = o.rowBytes := by
  unfold maskRow TreeArgs.rowBytes
  cases o.fmt with
  | fp32 => exact length_flatMap_const _ _ (fun _ => length_toBytes 4 _)
  | bf16 => exact length_flatMap_const _ _ (fun _ => length_toBytes 2 _)
  | bit => exact length_toBytes 8 _

theorem ceilDiv_zero {n : Nat} (hn : 0 < n) : ceilDiv 0 n = 0 := Nat.div_eq_of_lt (by omega)

theorem ceilDiv_pos {m n : Nat} (hm : 0 < m) (hn : 0 < n) : 0 < ceilDiv m n := Nat.div_pos (by omega) hn

theorem ceilDiv_step {m n : Nat} (hm : 0 < m) (hn : 0 < n) : ceilDiv m n = ceilDiv (m - n) n + 1 := by
  rcases Nat.le_total n m with h | h
  · have hsum : m + n - 1 = m - n + n - 1 + n := by omega
    rw [ceilDiv, ceilDiv, hsum, Nat.add_div_right _ hn]
  · rw [Nat.sub_eq_zero_of_le h, ceilDiv_zero hn]
    exact Nat.div_eq_of_lt_le (by omega) (by omega)

theorem length_chunksOf {α : Type} {n : Nat} (hn : 0 < n) (fuel : Nat) (l : List α) (h : l.length ≤ fuel) :
    (chunksOf n fuel l).length = ceilDiv l.length n := by
  induction fuel generalizing l with
  | zero => rw [Nat.le_zero.1 h, ceilDiv_zero hn]; rfl
  | succ fuel ih =>
    cases l with
    | nil => exact (ceilDiv_zero hn).symm
    | cons x rest =>
      have hdrop : ((x :: rest).drop n).length = (x :: rest).length - n := List.length_drop
      have hrest : ((x :: rest).drop n).length ≤ fuel := by rw [hdrop]; simp only [List.length_cons] at h ⊢; omega
      rw [ceilDiv_step (by simp) hn, ← hdrop, ← ih _ hrest]
      rfl

theorem length_pieces {α : Type} {n : Nat} (hn : 0 < n) (l : List α) : (pieces n l).length = ceilDiv l.length n :=
  length_chunksOf hn _ l (Nat.le_refl _)

/-- The mask of v.treemask, all its rows (R180). -/
def maskBytes (p : Pav) (o : TreeArgs) : List Byte :=
  let par := (p.sbytes o.par.byte 64).map (·.toNat)
  let n := (p.idxImm o.n).toNat
  (List.range o.rows).flatMap (maskRow o par (treeDepths par n) n)

/-- The validity word of v.treemask (R179). -/
def validBytes (p : Pav) (o : TreeArgs) : List Byte :=
  let ds := treeDepths ((p.sbytes o.par.byte 64).map (·.toNat)) (p.idxImm o.n).toNat
  toBytes 8 ((List.range 64).foldl (fun m k => if nthD ds k 0 != 0 then m + 2 ^ k else m) 0)

/-- The pieces of the mask with the cycles from which they are readable, one after another (R144, R173). -/
def maskPieces (p : Pav) (o : TreeArgs) (t : Nat) : List (Nat × Effect) :=
  (List.range (pieces 1024 (maskBytes p o)).length).map (fun k =>
    (t + k + 6, .bytes (o.dst.byte + 1024 * k) (nthD (pieces 1024 (maskBytes p o)) k [])))

/-- The validity word, where one is named, readable with the last piece of the mask. -/
def validWord (p : Pav) (o : TreeArgs) (t : Nat) : List (Nat × Effect) :=
  match o.vld with
  | some l => [(t + ceilDiv (o.rows * o.rowBytes) 1024 - 1 + 6, .bytes l.byte (validBytes p o))]
  | none => []

/-- The results of v.treemask with the cycles from which they are readable. -/
def maskResults (p : Pav) (o : TreeArgs) (t : Nat) : List (Nat × Effect) := maskPieces p o t ++ validWord p o t

/-- What v.treemask leaves. -/
def maskEffects (p : Pav) (o : TreeArgs) : List Effect :=
  (List.range (pieces 1024 (maskBytes p o)).length).map (fun k =>
      .bytes (o.dst.byte + 1024 * k) (nthD (pieces 1024 (maskBytes p o)) k [])) ++
    (match o.vld with
    | some l => [.bytes l.byte (validBytes p o)]
    | none => [])

theorem maskResults_effects (p : Pav) (o : TreeArgs) (t : Nat) : (maskResults p o t).map Prod.snd = maskEffects p o := by
  unfold maskResults maskPieces validWord maskEffects
  rw [List.map_append, List.map_map]
  cases o.vld <;> rfl

theorem maskResults_reads {p q : Pav} (h : rowReads p = rowReads q) (o : TreeArgs) (t : Nat) : maskResults p o t = maskResults q o t := by
  simp only [maskResults, maskPieces, validWord, maskBytes, validBytes, sbytes_reads h, idxImm_reads h]

theorem length_maskPieces (p : Pav) (o : TreeArgs) : (pieces 1024 (maskBytes p o)).length = ceilDiv (o.rows * o.rowBytes) 1024 := by
  rw [length_pieces (by decide), maskBytes, length_flatMap_const _ _ (length_maskRow o _ _ _), List.length_range]

/-- A list met element by element with its positions. -/
theorem zip_range_map {α β : Type} (l : List α) (x : α) (f : Nat × α → β) :
    ((List.range l.length).zip l).map f = (List.range l.length).map (fun k => f (k, nthD l k x)) := by
  refine List.ext_getElem (by simp) (fun k _ hk => ?_)
  have hk : k < l.length := by simpa using hk
  simp [nthD, hk]

/-- The row of v.treemask, its count of nodes latched, puts its results on their way. -/
theorem treemaskAll_later (lc : LatClass) {a : Active} {o : TreeArgs} (t : Nat) (p : Pav) (hk : a.killed = false)
    (hlat : a.lat = [(p.idxImm o.n).toNat]) : treemaskAll lc a o t p = (p.laterAll (maskResults p o t), []) := by
  unfold treemaskAll
  simp only [hk, hlat, zip_range_map _ []]
  unfold maskResults maskPieces validWord maskBytes validBytes maskRow
  cases o.fmt <;> cases o.vld <;> rfl

/-- The results of v.treemask come in the order of their cycles, the last of them `ceilDiv (rows * rowBytes) 1024 + 5` cycles after the
issue. -/
theorem maskResults_ordered (p : Pav) {o : TreeArgs} (t : Nat) (h : 0 < o.rows) :
    (maskResults p o t).Pairwise (fun x y => x.1 ≤ y.1) ∧
      ∀ x ∈ maskResults p o t, x.1 ≤ t + (ceilDiv (o.rows * o.rowBytes) 1024 + 5) := by
  have hbytes : 0 < o.rowBytes := by unfold TreeArgs.rowBytes; cases o.fmt <;> decide
  have hcount := ceilDiv_pos (n := 1024) (Nat.mul_pos h hbytes) (by decide)
  have hpieces : ∀ x ∈ maskPieces p o t, x.1 ≤ t + ceilDiv (o.rows * o.rowBytes) 1024 - 1 + 6 := by
    intro x hx
    rw [maskPieces, length_maskPieces] at hx
    obtain ⟨k, hk, rfl⟩ := List.mem_map.1 hx
    have hk := List.mem_range.1 hk
    dsimp only
    omega
  have hword : ∀ x ∈ validWord p o t, x.1 = t + ceilDiv (o.rows * o.rowBytes) 1024 - 1 + 6 := by
    unfold validWord
    cases o.vld with
    | none => exact nofun
    | some l => exact fun x hx => congrArg Prod.fst (List.mem_singleton.1 hx)
  refine ⟨List.pairwise_append.2 ⟨?_, ?_, fun x hx y hy => hword y hy ▸ hpieces x hx⟩, fun x hx => ?_⟩
  · exact List.pairwise_map.2 (List.pairwise_lt_range.imp (fun hlt => by dsimp only; omega))
  · unfold validWord
    cases o.vld with
    | none => exact .nil
    | some l => exact List.pairwise_singleton _ _
  · rcases List.mem_append.1 hx with hx | hx
    · have := hpieces x hx
      omega
    · have := hword x hx
      omega

/-- The command of v.treemask with nothing else under way. -/
theorem exec_treemask {s : State} {i : Issue} {o : TreeArgs} (hrows : 0 < o.rows) (h : s.dev.issues i (.treemask o) = true)
    (hp : (s.dev.issuePav i).pend = []) : ∃ t, exec (.vTreemask i o) s = .next t ∧
      Leaves t s.dev i (ceilDiv (o.rows * o.rowBytes) 1024 + 5) (maskEffects (s.dev.issuePav i) o) := by
  obtain ⟨hordered, hlast⟩ := maskResults_ordered (s.dev.issuePav i) i.cycle hrows
  rw [← maskResults_effects _ o i.cycle]
  refine exec_walks_ordered rfl rfl h rfl Nat.one_pos hp hordered hlast (fun b p r hpr hr => ?_)
  rw [← maskResults_reads hr]
  refine treemaskAll_later (a := entering s.dev i (.treemask o) b p) _ i.cycle r rfl ?_
  rw [idxImm_reads (hr.trans hpr.symm)]
  rfl

end Sys2Proof.Laws
end

section
/-! SUPPORT. The statement about special functions and v.treemask. -/
namespace Sys2Proof
open Sys2Proof.Machine Sys2Proof.Laws

/-- Settles O7: the first part of a special function goes its way in the issue cycle, and v.treemask reads its operands there and puts piece
after piece of its mask on the way. -/
theorem specialFunctionsAndTreemask : Obligations.SpecialFunctionsAndTreemask := by
  intro s i
  refine ⟨fun o => ⟨fun h => ?exp, fun h => ?log, fun h => ?rsqrt, fun h => ?tanh, fun h => ?sigm⟩, fun o hrows h hp => ?treemask⟩
  case exp => exact exec_sf rfl h rfl
  case log => exact exec_sf rfl h rfl
  case rsqrt => exact exec_sf rfl h rfl
  case tanh => exact exec_sf rfl h rfl
  case sigm => exact exec_sf rfl h rfl
  case treemask => exact exec_treemask hrows h hp

end Sys2Proof
end

section
/-! SUPPORT. Transfers that the instructions of a plan open: the transfer, and what its opening and its packets leave alone (R185 to R198,
R287, R517). -/
namespace Sys2Proof.Laws
open Sys2Proof.Machine

/-! ### What opening a transfer leaves -/

/-- A transfer of a plan as the instruction that opened it describes it: done counter, place, length, address. -/
def PlanXfer (n : Nat) (kind : XferKind) (done loc len addr : Nat) (x : Xfer) : Prop :=
  x.owner = .plan n ∧ x.kind = kind ∧ x.plan = true ∧ x.done = some done ∧ x.loc = loc ∧ x.len = len ∧ x.addr = addr

/-- From `d` to `e` a transfer of the plan of pavilion `n` has opened; the steps are as they were, and so are the pavilions but for their
fill sequences. -/
structure Opens (d e : Dev) (n : Nat) (kind : XferKind) (done loc len addr : Nat) : Prop where
  xfer : ∃ x ∈ e.xfers, PlanXfer n kind done loc len addr x
  pavs : e.pavs.map withoutFills = d.pavs.map withoutFills
  steps : e.steps = d.steps

section
variable {d e : Dev} {n : Nat} {kind : XferKind} {done loc len addr : Nat} (h : Opens d e n kind done loc len addr)
include h

/-- What a plan reads of a pavilion is as it was. -/
theorem Opens.visible (m : Nat) : (e.pav m).visible = (d.pav m).visible := by
  have hpav : withoutFills (e.pav m) = withoutFills (d.pav m) := pav_map h.pavs m
  have hvisible := congrArg Pav.visible hpav
  exact hvisible

/-- An open transfer may take its place in a fill sequence. -/
theorem Opens.reserveFill (m buf serial kib : Nat) (lp : Bool) : Opens d (e.reserveFill m buf serial kib lp) n kind done loc len addr :=
  ⟨h.xfer, (reserveFill_pavs e m buf serial kib lp).trans h.pavs, h.steps⟩

/-- A change of transfers that keeps what identifies each leaves the transfer open. -/
theorem Opens.mapXfers (f : Xfer → Xfer) (hf : ∀ x, ∃ ps, f x = { x with pages := ps }) :
    Opens d { e with xfers := e.xfers.map f } n kind done loc len addr := by
  obtain ⟨x, hx, hfields⟩ := h.xfer
  obtain ⟨ps, heq⟩ := hf x
  exact ⟨⟨f x, List.mem_map_of_mem hx, by rw [heq]; exact hfields⟩, h.pavs, h.steps⟩

end

/-- A local transfer of a plan. -/
theorem openLocal_opens (d : Dev) (n : Nat) (kind : XferKind) (plot : Nat) {f : Xfer → Xfer} {done loc len addr : Nat}
    (hf : ∀ x, x.owner = .plan n → x.kind = kind → PlanXfer n kind done loc len addr (f x)) :
    Opens d (d.openLocal (.plan n) kind plot f).1 n kind done loc len addr :=
  ⟨⟨_, List.mem_append_right _ (List.mem_singleton_self _), hf _ rfl rfl⟩, rfl, rfl⟩

/-- A fabric transfer of a plan: it takes a tag, and is counted. -/
theorem openFabric_opens (d : Dev) (n : Nat) (kind : XferKind) (plot : Nat) {f : Xfer → Xfer} {done loc len addr : Nat}
    (hf : ∀ x, x.owner = .plan n → x.kind = kind → PlanXfer n kind done loc len addr (f x)) :
    Opens d (d.openFabric (.plan n) kind plot f).1 n kind done loc len addr := by
  obtain ⟨hxfer, hpavs, hsteps⟩ := openLocal_opens d n kind plot
    (f := fun x => f { x with fabric := true, tag := d.freeTag, gen := (d.tagGen.get d.freeTag 0 + 1) % 16 }) (fun _ ho hk => hf _ ho hk)
  refine ⟨?_, ?_, ?_⟩ <;> simp only [Dev.openFabric, Dev_count_xfers, Dev_count_pavs, Dev_count_steps]
  · exact hxfer
  · exact hpavs
  · exact hsteps

/-! ### Packets -/

theorem isShadow_of_rgN {d e : Dev} (h : e.rgN 0x000 0x820 0 = d.rgN 0x000 0x820 0) : e.isShadow = d.isShadow := by
  simp only [Dev.isShadow, Dev.shadowValid, h]

theorem openFabric_isShadow (d : Dev) (owner : XferOwner) (kind : XferKind) (plot : Nat) (f : Xfer → Xfer) :
    (d.openFabric owner kind plot f).1.isShadow = d.isShadow :=
  isShadow_of_rgN (rgN_count_page _ 1 (by decide) (by decide) (by decide) (by decide) (by decide))

/-- On a device that is no shadow the packets of a transfer are handed to the router. -/
theorem offPackets_postAll (d : Dev) (x : Xfer) (ps : List Packet) (h : d.isShadow = false) :
    offPackets (d.postAll x ps) = offPackets d := by
  unfold Dev.postAll
  extract_lets drop d1
  have hdrop : drop = false := by simp [drop, h]
  rw [if_neg (by simp [hdrop])]
  exact forEach_keeps offPackets _ d _ offPackets_post

/-- A transfer of a plan with its packets sent. -/
theorem planSend_opens (d : Dev) (n : Nat) (kind : XferKind) (loc len addr pcount done : Nat) (members : List Nat)
    (mk : Dev → Xfer → List Packet) (h : d.isShadow = false) :
    Opens d (d.planSend n kind loc len addr pcount done members mk) n kind done loc len addr := by
  unfold Dev.planSend
  extract_lets r
  obtain ⟨hxfer, hpavs, hsteps⟩ : Opens d r.1 n kind done loc len addr :=
    openFabric_opens d n kind _ (fun _ ho hk => ⟨ho, hk, rfl, rfl, rfl, rfl, rfl⟩)
  have hshadow : r.1.isShadow = false := (openFabric_isShadow d _ _ _ _).trans h
  have hkept := offPackets_postAll r.1 r.2 (mk r.1 r.2) hshadow
  have hx : (r.1.postAll r.2 (mk r.1 r.2)).xfers = r.1.xfers := (congrArg Dev.xfers hkept).trans rfl
  have hp : (r.1.postAll r.2 (mk r.1 r.2)).pavs = r.1.pavs := (congrArg Dev.pavs hkept).trans rfl
  have hs : (r.1.postAll r.2 (mk r.1 r.2)).steps = r.1.steps := (congrArg Dev.steps hkept).trans rfl
  refine ⟨?_, ?_, ?_⟩
  · rw [Dev_count_xfers, hx]
    exact hxfer
  · rw [Dev_count_pavs, hp, hpavs]
  · rw [Dev_count_steps, hs, hsteps]

/-! ### The bytes that a send reads -/

/-- A run of a working store without an upset word is read without an event. -/
theorem portRead_clean {d : Dev} {n off len : Nat} (h : storeEvents (d.pav n) off len = []) : d.portRead n off len = d := by
  rw [Dev.portRead, h]
  rfl

theorem bytes_length (m : Mem) (a n : Nat) : (m.bytes a n).length = n := by
  induction n generalizing a with
  | zero => rfl
  | succ n ih => rw [Mem.bytes, List.length_cons, ih]

/-! ### The transfer instructions -/

theorem pageIn_opens (d : Dev) (n dst : Nat) (a : PageArgs) (done : Nat) (h : (d.pageWalk n a).2.1 = 0) :
    Opens d (d.pageIn n dst a done) n .pageIn done (n * 2 ^ 25 + dst) (32768 * a.n) (d.number * 2 ^ 52 + n * 2 ^ 25 + dst) := by
  unfold Dev.pageIn
  extract_lets p w st cause r
  have hopen : Opens d r.1 n .pageIn done (n * 2 ^ 25 + dst) (32768 * a.n) (d.number * 2 ^ 52 + n * 2 ^ 25 + dst) :=
    openLocal_opens d n .pageIn p (fun _ ho hk => ⟨ho, hk, rfl, rfl, rfl, rfl, if_neg (by simp [w, h])⟩)
  clear_value st
  cases st with
  | some e => exact hopen.reserveFill n _ _ _ true
  | none => exact hopen

theorem pageOut_part_opens (d : Dev) (n src : Nat) (a : PageArgs) (off : IdxImm) (len done : Nat) (h : (d.pageWalk n a).2.1 = 0) :
    Opens d (d.pageOut n src a (some (off, len)) done) n .pageOut done (n * 2 ^ 25 + src) len ((d.pav n).idxImm off).toNat :=
  openLocal_opens d n .pageOut _ (fun _ ho hk => ⟨ho, hk, rfl, rfl, rfl, rfl, if_neg (by simp [h])⟩)

theorem pageOut_whole_opens (d : Dev) (n src : Nat) (a : PageArgs) (done : Nat) (h : (d.pageWalk n a).2.1 = 0) :
    Opens d (d.pageOut n src a none done) n .pageOut done (n * 2 ^ 25 + src) (32768 * a.n) 0 :=
  openLocal_opens d n .pageOut _ (fun _ ho hk => ⟨ho, hk, rfl, rfl, rfl, rfl, if_neg (by simp [h])⟩)

section
variable (d : Dev) (n : Nat) (hs : d.isShadow = false)
include hs

theorem fput_opens (tgt : ParamRef) (src len : Nat) (trk : Option Nat) (tc0 : Bool) (done : Nat) (hc : storeEvents (d.pav n) src len = []) :
    Opens d (d.fput n false tgt src len trk tc0 done) n .put done (n * 2 ^ 25 + src) len (d.gaOf n tgt) := by
  simp only [Dev.fput, Bool.false_eq_true, if_false, portRead_clean hc]
  exact planSend_opens d n .put _ _ _ _ _ _ _ hs

/-- A read opens its transfer whether or not a staging buffer stands at its destination. -/
theorem fget_opens (src : ParamRef) (dst len done : Nat) :
    Opens d (d.fget n false src dst len done) n .get done (n * 2 ^ 25 + dst) len (d.gaOf n src) := by
  simp only [Dev.fget, Bool.false_eq_true, if_false]
  split
  · exact openFabric_opens d n .get _ (fun _ ho hk => ⟨ho, hk, rfl, rfl, rfl, rfl, rfl⟩)
  · exact (planSend_opens d n .get _ _ _ _ _ _ _ hs).reserveFill n _ _ _ false

theorem fmcast_opens (grp src len off : Nat) (trk : Option Nat) (done : Nat) {b : BundleBody} {g : Group}
    (hb : d.bodyOf (d.pav n).plot = some b) (hg : b.groups.find? (fun x => x.id = grp) = some g) (hc : storeEvents (d.pav n) src len = []) :
    Opens d (d.fmcast n false grp src len off trk done) n .mcast done (n * 2 ^ 25 + src) len off := by
  simp only [Dev.fmcast, hb, Option.bind_some, hg, Bool.false_eq_true, if_false, portRead_clean hc]
  exact (planSend_opens d n .mcast _ _ _ _ _ _ _ hs).mapXfers _ (fun x => by
    split
    · exact ⟨_, rfl⟩
    · exact ⟨x.pages, rfl⟩)

theorem xwSend_opens (x : XwN) (tgt : Nat × Nat × Nat) (src cmp el : Nat) (win : Int) (trk : Option Nat) (done : Nat)
    (hv : storeEvents (d.pav n) src (el * (x.bits / 8)) = []) (hc : storeEvents (d.pav n) cmp (el * 2) = []) :
    Opens d (d.xwSend n false x tgt src cmp el win trk done) n .red done (n * 2 ^ 25 + src) (el * (x.bits / 8) + el * 2) tgt.1 := by
  simp only [Dev.xwSend, Bool.false_eq_true, if_false, bytes_length, portRead_clean hv, portRead_clean hc]
  exact planSend_opens d n .red _ _ _ _ _ _ _ hs

theorem fredF_opens (dst : RedDest) (src el trk done : Nat) (hc : storeEvents (d.pav n) src (4 * el) = []) :
    Opens d (d.fredF n false dst src el trk done) n .red done (n * 2 ^ 25 + src) (4 * el) (d.redTarget n dst).1 := by
  simp only [Dev.fredF, Bool.false_eq_true, if_false, portRead_clean hc]
  exact planSend_opens d n .red _ _ _ _ _ _ _ hs

theorem faddI64_opens (tgt : ParamRef) (val : Nat) (trk : Option Nat) (done : Nat) :
    Opens d (d.faddI64 n false tgt val trk done) n .fadd done (n * 2 ^ 25) 64 (d.gaOf n tgt) := by
  simp only [Dev.faddI64, Bool.false_eq_true, if_false]
  exact planSend_opens d n .fadd _ _ _ _ _ _ _ hs

end

/-! ### The V-mark does not change where a reduction goes -/

theorem markVar_isShadow (d : Dev) (m : Nat) (op : PlanOp) : (d.markVar m op).isShadow = d.isShadow := by
  unfold Dev.markVar
  split <;> rfl

/-- The mark leaves the context and the variant of every step. -/
theorem markVar_step (d : Dev) (m p : Nat) (op : PlanOp) :
    ((d.markVar m op).step p).ctx = (d.step p).ctx ∧ ((d.markVar m op).step p).variant = (d.step p).variant := by
  unfold Dev.markVar Dev.onStep
  split
  · by_cases hp : p = (d.pav m).plot
    · rw [hp, step_setStep_same]
      exact ⟨rfl, rfl⟩
    · rw [step_setStep_other d _ hp]
      exact ⟨rfl, rfl⟩
  · exact ⟨rfl, rfl⟩

theorem markVar_variantOf (d : Dev) (m p : Nat) (op : PlanOp) : (d.markVar m op).variantOf p = d.variantOf p := by
  obtain ⟨hctx, hvariant⟩ := markVar_step d m p op
  have hctxs : (d.markVar m op).ctxs = d.ctxs := by unfold Dev.markVar; split <;> rfl
  simp only [Dev.variantOf, hctx, hvariant, ctx_of_ctxs hctxs]

theorem markVar_redTarget (d : Dev) (m n : Nat) (op : PlanOp) (dst : RedDest) : (d.markVar m op).redTarget n dst = d.redTarget n dst := by
  cases dst with
  | tree id => simp only [Dev.redTarget, Dev.treeRoute, markVar_pav, markVar_variantOf]
  | toAddr p => simp only [Dev.redTarget, markVar_env]

/-! ### The commands -/

/-- The instructions that open a transfer. -/
def opensTransfer : PlanOp → Bool
  | .pageIn _ _ _ | .pageOut _ _ _ _ | .fput _ _ _ _ _ _ | .fget _ _ _ _ | .fmcast _ _ _ _ _ _ | .fredXw _ _ _ _ _ _ _ _
  | .fredF _ _ _ _ _ | .faddI64 _ _ _ _ | .faddXw _ _ _ _ _ _ _ _ => true
  | _ => false

/-- Nothing blocks an instruction that opens a transfer. -/
theorem transfer_free {op : PlanOp} (ho : opensTransfer op = true) (d : Dev) (n : Nat) (killed : Bool) : d.blocked n killed op = none := by
  cases op with
  | pageIn _ _ _ | pageOut _ _ _ _ | fput _ _ _ _ _ _ | fget _ _ _ _ | fmcast _ _ _ _ _ _ | fredXw _ _ _ _ _ _ _ _ | fredF _ _ _ _ _
  | faddI64 _ _ _ _ | faddXw _ _ _ _ _ _ _ _ => rfl
  | _ => cases ho

/-- The command of an instruction that opens a transfer: the transfer is open, what the plan reads is as it was, and the steps are but for
the mark. -/
theorem exec_opens {x : Instr} {s : State} {i : Issue} {op : PlanOp} {kind : XferKind} {done loc len addr : Nat}
    (hexec : exec x s = onDev (·.issueOp i op []) s) (ho : opensTransfer op = true) (h : s.dev.issues i op = true)
    (hop : Opens ((s.dev.atIssue i).markVar i.pav op) (((s.dev.atIssue i).markVar i.pav op).perform i op false []) i.pav
      kind done loc len addr) :
    ∃ t, exec x s = .next t ∧ t.dev.steps = ((s.dev.atIssue i).markVar i.pav op).steps ∧
      (t.dev.pav i.pav).visible = (s.dev.pavAt i).visible ∧ OpenXfer t i.pav kind done loc len addr := by
  refine ⟨_, hexec.trans (onDev_powered _ s (powered_of_issues h)), ?_⟩
  rw [issueOp_eq h (transfer_free ho _ _ _)]
  exact ⟨hop.steps, (hop.visible i.pav).trans (congrArg Pav.visible (markVar_pav _ _ _ _)), hop.xfer⟩

/-- The same of an instruction that is not V-marked. -/
theorem exec_opens_unmarked {x : Instr} {s : State} {i : Issue} {op : PlanOp} {kind : XferKind} {done loc len addr : Nat}
    (hexec : exec x s = onDev (·.issueOp i op []) s) (ho : opensTransfer op = true) (hv : op.vMarked = false)
    (h : s.dev.issues i op = true)
    (hop : Opens (s.dev.atIssue i) ((s.dev.atIssue i).perform i op false []) i.pav kind done loc len addr) :
    ∃ t, exec x s = .next t ∧ (t.dev.pav i.pav).visible = (s.dev.pavAt i).visible ∧ OpenXfer t i.pav kind done loc len addr := by
  obtain ⟨t, ht, -, hvisible, hxfer⟩ := exec_opens hexec ho h (by rw [markVar_unmarked _ _ hv]; exact hop)
  exact ⟨t, ht, hvisible, hxfer⟩

end Sys2Proof.Laws
end

section
/-! SUPPORT. The statement about the transfer instructions. -/
namespace Sys2Proof
open Sys2Proof.Machine Sys2Proof.Laws

/-- Settles O11, instruction by instruction: each is the opening of one transfer, with its packets handed to the router; fred.f marks its
step besides. -/
theorem transferInstructionsOpenATransfer : Obligations.TransferInstructionsOpenATransfer := by
  intro s i w hs
  refine ⟨fun dst pg h hw => ?pageIn, fun src pg off len h hw => ?pageOutPart, fun src pg h hw => ?pageOut,
    fun tgt src len trk tc0 h hc => ?fput, fun src dst len h => ?fget, fun grp src len off trk g b h hb hg hc => ?fmcast,
    fun n dst src cmp el win trk h hv hc => ?fredXw, fun dst src el trk h hc => ?fredF, fun tgt val trk h => ?faddI64,
    fun n tgt src cmp el win trk h hv hc => ?faddXw⟩
  case pageIn => exact exec_opens_unmarked rfl rfl rfl h (pageIn_opens _ i.pav dst pg w.done hw)
  case pageOutPart => exact exec_opens_unmarked rfl rfl rfl h (pageOut_part_opens _ i.pav src pg off len w.done hw)
  case pageOut => exact exec_opens_unmarked rfl rfl rfl h (pageOut_whole_opens _ i.pav src pg w.done hw)
  case fput => exact exec_opens_unmarked rfl rfl rfl h (fput_opens _ i.pav hs tgt src len trk tc0 w.done hc)
  case fget => exact exec_opens_unmarked rfl rfl rfl h (fget_opens _ i.pav hs src dst len w.done)
  case fmcast => exact exec_opens_unmarked rfl rfl rfl h (fmcast_opens _ i.pav hs grp src len off trk w.done hb hg hc)
  case fredXw => exact exec_opens_unmarked rfl rfl rfl h (xwSend_opens _ i.pav hs n _ src cmp el win (some trk) w.done hv hc)
  case fredF =>
    have hopen := fredF_opens ((s.dev.atIssue i).markVar i.pav (.fredF dst src el trk w)) i.pav ((markVar_isShadow _ _ _).trans hs)
      dst src el trk w.done (by rw [markVar_pav]; exact hc)
    rw [markVar_redTarget] at hopen
    obtain ⟨t, ht, hsteps, hvisible, hxfer⟩ := exec_opens (x := .fredF i dst src el trk w) rfl rfl h hopen
    refine ⟨t, ht, ?_, hvisible, hxfer⟩
    rw [VarMarked, step_of_steps hsteps]
    exact markVar_marks _ i.pav rfl
  case faddI64 => exact exec_opens_unmarked rfl rfl rfl h (faddI64_opens _ i.pav hs tgt val trk w.done)
  case faddXw => exact exec_opens_unmarked rfl rfl rfl h (xwSend_opens _ i.pav hs n _ src cmp el win trk w.done hv hc)

end Sys2Proof
end

section
/-! SUPPORT. Bursts of LPDDR5X read for a transfer, read in the background, and written for a transfer (R192, R264, R265, R267, R268, R275,
R277, R282, R283). -/
namespace Sys2Proof.Laws
open Sys2Proof.Machine

/-! ### A class D fault leaves the transfers and the marked bursts -/

/-- The transfers of a device and its bursts that hold an uncorrectable error. -/
def xfersBad (d : Dev) : List Xfer × List Nat := (d.xfers, d.dramBad)

theorem xfersBad_count (d : Dev) (pg o n : Nat) : xfersBad (d.count pg o n) = xfersBad d := by simp [xfersBad]

theorem xfersBad_departing (d : Dev) (n : Nat) (pk : Packet) : xfersBad (d.departing n pk).2 = xfersBad d := by
  unfold Dev.departing
  dsimp only
  split
  · rfl
  · unfold Dev.when
    split <;> rfl

theorem xfersBad_portSend (d : Dev) (n : Nat) (pk : Packet) : xfersBad (d.portSend n pk) = xfersBad d := by
  have hport : ∀ (e : Dev) (f : Port → Port), xfersBad (e.onPort n f) = xfersBad e := fun _ _ => rfl
  have hframe : ∀ (e : Dev) (body : FrameBody) (seq : Nat) (nak : Bool), xfersBad (e.sendFrame n body seq nak) = xfersBad e :=
    fun _ _ _ _ => rfl
  unfold Dev.portSend
  extract_lets r d1
  rw [xfersBad_count, hframe, hport, xfersBad_departing]

theorem xfersBad_flood (d : Dev) (skip : Option Nat) (pk : Packet) : xfersBad (d.flood skip pk) = xfersBad d :=
  forEach_keeps xfersBad _ d _ (fun e n => by
    unfold Dev.portOffer
    split
    · exact xfersBad_portSend e n pk
    · rfl)

theorem xfersBad_ringPlotStep (d : Dev) (p : Nat) (r : Reason) : xfersBad (d.ringPlotStep p r) = xfersBad d := by
  have hring : ∀ (c : Nat) (step : W64), xfersBad (d.ring_ c step r) = xfersBad d := fun c step => by
    unfold Dev.ring_
    dsimp only
    split
    · rfl
    · split
      · rfl
      · rw [xfersBad_count, xfersBad_flood]
        rfl
  unfold Dev.ringPlotStep
  dsimp only
  split
  · exact hring _ _
  · rfl

theorem xfersBad_withhold (d : Dev) (p : Nat) : xfersBad (d.withhold p) = xfersBad d := by
  unfold Dev.withhold
  dsimp only
  split <;> rfl

theorem xfersBad_consD (d : Dev) (w : Where) (r : Reason) : xfersBad (d.consD w r) = xfersBad d :=
  forEach_keeps xfersBad _ d _ (fun e p => (xfersBad_withhold _ p).trans (xfersBad_ringPlotStep e p r))

theorem xfersBad_raiseD (d : Dev) (page bit : Nat) (w : Where) : xfersBad (d.raiseAs page bit .d w) = xfersBad d :=
  (xfersBad_consD _ w .localFault).trans (by simp [xfersBad])

theorem xfersBad_poison (d : Dev) (burst : Nat) : xfersBad (d.poison burst) = xfersBad d := by
  unfold Dev.poison Dev.setPage
  dsimp only
  repeat' split
  all_goals rfl

/-! ### The controller reads a burst -/

/-- A controller that serves is one of the 16 packages'. -/
theorem lt_of_mcServes {d : Dev} {m : Nat} (h : d.mcServes m = true) : m < 16 := by
  simp only [Dev.mcServes, Dev.packageOk, Bool.and_eq_true, decide_eq_true_eq] at h
  exact h.1.1

/-- A corrected burst is its record alone: DRAM_ECC_CORR, bit 0 of a controller's page, is of class C. -/
theorem dramCorr_eq (d : Dev) {m : Nat} (w : Where) (h : m < 16) : d.raise (mcPage m) 0 w = d.recordB (mcPage m) 0 0 .c false w := by
  rw [Dev.raise, Dev.raiseB, blockOf_mcPage h]
  rfl

/-- A burst read within the retry limit, as the controller leaves the device: its reads, its retries, its correction (R265, R283). -/
def burstCounted (d : Dev) (burst fails : Nat) (corrected : Bool) : Dev :=
  let pg := mcPage (burst / 2 ^ 29)
  let d1 := (d.count pg 0x100 1).count pg 0x110 (min fails (bitsN (d.rgN pg 0x40C 0) 0 2))
  if corrected then d1.count pg 0x108 1 else d1

section
variable (d : Dev) {burst fails : Nat} (corrected : Bool) (cls : FaultClass) (plot : Option Nat)

/-- A burst within the retry limit that is not marked is read, with its counts and at most a record. -/
theorem controllerRead_within (hm : burst / 2 ^ 29 < 16) (hf : fails ≤ bitsN (d.rgN (mcPage (burst / 2 ^ 29)) 0x40C 0) 0 2)
    (hb : d.dramBad.contains burst = false) :
    (d.controllerRead burst fails corrected cls plot).2 = true ∧
      ((d.controllerRead burst fails corrected cls plot).1 = burstCounted d burst fails corrected ∨
        ∃ w, (d.controllerRead burst fails corrected cls plot).1 =
          (burstCounted d burst fails corrected).recordB (mcPage (burst / 2 ^ 29)) 0 0 .c false w) := by
  unfold Dev.controllerRead
  extract_lets m pg limit w bad d1 d2 d3 d2'
  have hbad : bad = false := hb
  have hgo : ¬ (limit < fails ∨ bad = true) := fun h => h.elim (Nat.not_lt.2 hf) (by simp [hbad])
  have hd2 : d2' = burstCounted d burst fails corrected := by simp only [d2', d1, hbad]; rfl
  rw [if_neg hgo, hd2]
  refine ⟨rfl, ?_⟩
  show (if corrected = true ∨ 0 < fails then (burstCounted d burst fails corrected).raise pg 0 w
    else burstCounted d burst fails corrected) = _ ∨ _
  split
  · exact .inr ⟨w, dramCorr_eq _ w hm⟩
  · exact .inl rfl

/-- A burst past the retry limit is not read; it is marked, and the transfers are as they were. -/
theorem controllerRead_past (hf : bitsN (d.rgN (mcPage (burst / 2 ^ 29)) 0x40C 0) 0 2 < fails) :
    (d.controllerRead burst fails corrected .d plot).2 = false ∧ (d.controllerRead burst fails corrected .d plot).1.xfers = d.xfers ∧
      burst ∈ (d.controllerRead burst fails corrected .d plot).1.dramBad := by
  unfold Dev.controllerRead
  extract_lets m pg limit w bad d1 d2 d3 d2'
  have hview : xfersBad ((d3.poison burst).raiseAs pg 1 .d w) = xfersBad d3 :=
    (xfersBad_raiseD _ pg 1 w).trans (xfersBad_poison d3 burst)
  obtain ⟨hxfers, hbads⟩ := Prod.mk.inj hview
  have hd1 : d1.xfers = d.xfers := by simp [d1]
  rw [if_pos (.inl hf)]
  refine ⟨rfl, ?_, ?_⟩
  · rw [hxfers]
    simp [d3, d2, Dev.set64, Dev.setN, hd1]
  · rw [hbads]
    simp only [d3]
    split
    next hmem => simpa using hmem
    next => simp

end

theorem hush_burstCounted (d : Dev) (burst fails : Nat) (corrected : Bool) : hush (burstCounted d burst fails corrected) = hush d := by
  unfold burstCounted
  dsimp only
  split <;> simp

theorem readView_burstCounted (d : Dev) (burst fails : Nat) (corrected : Bool) :
    readView (burstCounted d burst fails corrected) = readView d := by
  unfold burstCounted
  dsimp only
  split
  · rw [readView_count _ _ _ (by decide), readView_count _ _ _ (by decide), readView_count _ _ _ (by decide)]
  · rw [readView_count _ _ _ (by decide), readView_count _ _ _ (by decide)]

/-- A fault recorded on a controller's page is no part of what reading leaves alone. -/
theorem readView_recordB_mc (d : Dev) {m : Nat} (bit : Nat) (cls : FaultClass) (w : Where) (hm : m < 16) :
    readView (d.recordB (mcPage m) 0 bit cls false w) = readView d := by
  have hrg : ∀ pg, pg = 0x008 ∨ pg = 0x051 →
      (d.recordB (mcPage m) 0 bit cls false w).rgN pg 0x400 0 = d.rgN pg 0x400 0 := fun pg hpg =>
    rgN_recordB d cls false w (by unfold mcPage; omega) (by omega) (by decide) (by unfold mcPage; omega) (by omega) (by omega) (by omega)
      (by omega)
  exact readView_of_regs (hush_recordB _ _ _ _ _ _ _) (hrg _ (.inl rfl)) (hrg _ (.inr rfl))

/-- Registers that the read of a burst writes: those of a record, and the controller's counts of reads, corrections and retries. -/
def burstWrites (pg o : Nat) : Bool := recordWrites pg o || [0x100, 0x108, 0x110].contains o

theorem touches_burstCounted (d : Dev) {burst : Nat} (fails : Nat) (corrected : Bool) (hm : burst / 2 ^ 29 < 16) :
    Touches burstWrites d (burstCounted d burst fails corrected) := by
  have hcount : ∀ (e : Dev) (o n : Nat), o ∈ [0x100, 0x108, 0x110] →
      Touches burstWrites e (e.count (mcPage (burst / 2 ^ 29)) o n) :=
    fun e o n ho => by
      have hrange : 0x020 < o ∧ o < 4096 := by simp at ho; omega
      exact touches_count e n (by unfold mcPage; omega) hrange.2 hrange.1 (by rw [burstWrites, List.contains_iff_mem.2 ho, Bool.or_true])
  unfold burstCounted
  extract_lets pg d1
  have h1 : Touches burstWrites d d1 := (hcount d _ 1 (by decide)).trans (hcount _ _ _ (by decide))
  exact .ite _ (h1.trans (hcount d1 _ 1 (by decide))) h1

section
variable (d : Dev) {burst fails : Nat} (corrected : Bool) (cls : FaultClass) (plot : Option Nat) (hm : burst / 2 ^ 29 < 16)
  (hf : fails ≤ bitsN (d.rgN (mcPage (burst / 2 ^ 29)) 0x40C 0) 0 2) (hb : d.dramBad.contains burst = false)
include hm hf hb

/-- A burst read within the retry limit leaves alone what a read answers with. -/
theorem readView_controllerRead_within : readView (d.controllerRead burst fails corrected cls plot).1 = readView d := by
  obtain ⟨-, heq | ⟨w, heq⟩⟩ := controllerRead_within d corrected cls plot hm hf hb
  · rw [heq, readView_burstCounted]
  · rw [heq, readView_recordB_mc _ _ _ _ hm, readView_burstCounted]

theorem hush_controllerRead_within : hush (d.controllerRead burst fails corrected cls plot).1 = hush d :=
  congrArg Prod.fst (readView_controllerRead_within d corrected cls plot hm hf hb)

theorem touches_controllerRead_within : Touches burstWrites d (d.controllerRead burst fails corrected cls plot).1 := by
  have hcounted := touches_burstCounted d fails corrected hm
  obtain ⟨-, heq | ⟨w, heq⟩⟩ := controllerRead_within d corrected cls plot hm hf hb
  · rw [heq]
    exact hcounted
  · rw [heq]
    exact hcounted.trans ((touches_recordB _ 0 0 .c false w (by unfold mcPage; omega)).mono
      (fun pg o h => by rw [burstWrites, h, Bool.true_or]))

end

/-! ### A burst read for a transfer -/

/-- The device without its transfers and controllers and without what a record of a fault may change. -/
def offTurn (d : Dev) : Dev := { hush d with xfers := [], memctl := [] }

theorem changes_of_offTurn (s : State) {e : Dev} (h : offTurn e = offTurn s.dev) :
    Changes s { s with dev := e } (fun d x => { d with xfers := x.xfers, memctl := x.memctl }) :=
  changes_dev s e _ (congrArg (fun x : Dev => { x with xfers := e.xfers, memctl := e.memctl }) h)

/-- Whether a transfer's key has gone depends on the keys, the plots' packages and the tenancy. -/
theorem keyStale_congr {d e : Dev} (h : answerView e = answerView d) (x : Xfer) (off : Nat) : e.keyStale x off = d.keyStale x off := by
  simp only [answerView, Prod.mk.injEq] at h
  obtain ⟨hdev, hmode, -⟩ := h
  have hkeys : e.keys = d.keys := (congrArg Dev.keys hdev).trans rfl
  have hslot : ∀ p, e.key p = d.key p := fun p => by rw [Dev.key, Dev.key, hkeys]
  have hplots : e.plots = d.plots := (congrArg Dev.plots hdev).trans rfl
  have hpkg : e.pkgPlot = d.pkgPlot := by
    funext n
    simp only [Dev.pkgPlot, Dev.ownerOf, Dev.livePlots, plot_of_plots hplots]
  unfold Dev.keyStale Dev.keyPlot
  rw [hmode, hpkg, hslot]

/-- A burst served by its controller leaves LPDDR5X and its keys as they are. -/
theorem lpRead_planServed (d : Dev) (m off n : Nat) : (d.planServed m).lpRead off n = d.lpRead off n :=
  lpBytesUnder_congr (d := d.planServed m) (e := d) rfl _ _ _

/-- A transfer with a burst's bytes decrypted in its place `u`. -/
def burstTaken (u : Nat) (bs : List Byte) (x : Xfer) : Xfer :=
  { x with got := x.got.store (64 * u) bs, gotBursts := if x.gotBursts.contains u then x.gotBursts else x.gotBursts ++ [u] }

theorem burstTaken_serial (u : Nat) (bs : List Byte) (x : Xfer) : (burstTaken u bs x).serial = x.serial := rfl

section
variable {d : Dev} {burst k fails u : Nat} {x : Xfer} (corrected : Bool) (hs : d.mcServes (burst / 2 ^ 29) = true) (hx : d.xfer k = some x)
  (hkind : x.kind = .pageIn ∨ x.kind = .inputFill) (hu : x.unitsIn burst = [u])
include hs hx hkind hu

/-- A burst of a reading transfer is judged by the controller's read, then by its key. -/
theorem burstRead_judged {r : Dev × Bool}
    (hr : (d.planServed (burst / 2 ^ 29)).controllerRead burst fails corrected .d (some x.plot) = r) :
    d.burstRead burst (some k) fails corrected =
      if r.2 = false then r.1.onXfer k (·.fail 0x08)
      else if r.1.keyStale x (64 * burst) = true then (r.1.staleBlock).onXfer k (·.fail 0x09)
      else (r.1.count 0x090 0x104 1).onXfer k (burstTaken u (r.1.lpRead (64 * burst) 64)) := by
  have hgo : ¬ (([u] : List Nat).isEmpty || !(decide (x.kind = .pageIn) || decide (x.kind = .inputFill))) = true := by
    rcases hkind with h | h <;> simp [h]
  simp only [Dev.burstRead, hs, hx, hr, hu, if_neg hgo, Bool.not_true, Bool.false_eq_true, if_false, Bool.not_eq_true']
  rfl

/-- A burst past the retry limit fails its transfer and is marked. -/
theorem burstRead_fails (hf : bitsN (d.rgN (mcPage (burst / 2 ^ 29)) 0x40C 0) 0 2 < fails) :
    (d.burstRead burst (some k) fails corrected).xfer k = some (x.fail 0x08) ∧
      burst ∈ (d.burstRead burst (some k) fails corrected).dramBad := by
  obtain ⟨hfail, hxfers, hbad⟩ := controllerRead_past (d.planServed (burst / 2 ^ 29)) corrected (some x.plot) (burst := burst) hf
  rw [burstRead_judged corrected hs hx hkind hu rfl, if_pos hfail]
  refine ⟨xfer_onXfer_same ?_ ?_, hbad⟩
  · rw [Dev.xfer, hxfers]
    exact hx
  · unfold Xfer.fail
    split <;> rfl

section
variable (hnew : x.gotBursts.contains u = false) (hkey : d.keyStale x (64 * burst) = false)
  (hf : fails ≤ bitsN (d.rgN (mcPage (burst / 2 ^ 29)) 0x40C 0) 0 2) (hb : d.dramBad.contains burst = false)
include hkey hf hb

/-- A burst read within the retry limit under a live key goes into its transfer. -/
theorem burstRead_takes : ∃ e, readView e = readView (d.planServed (burst / 2 ^ 29)) ∧
    d.burstRead burst (some k) fails corrected = (e.count 0x090 0x104 1).onXfer k (burstTaken u (d.lpRead (64 * burst) 64)) := by
  have hm := lt_of_mcServes hs
  have hread := (controllerRead_within (d.planServed (burst / 2 ^ 29)) corrected .d (some x.plot) hm hf hb).1
  have hview := readView_controllerRead_within (d.planServed (burst / 2 ^ 29)) corrected .d (some x.plot) hm hf hb
  have hlive : (((d.planServed (burst / 2 ^ 29)).controllerRead burst fails corrected .d (some x.plot)).1.keyStale x
      (64 * burst)) = false :=
    (keyStale_congr (answerView_of_readView hview) x _).trans hkey
  refine ⟨_, hview, ?_⟩
  rw [burstRead_judged corrected hs hx hkind hu rfl, if_neg (ne_false_of_eq_true hread), if_neg (ne_true_of_eq_false hlive),
    lpRead_congr (answerView_of_readView hview), lpRead_planServed]

include hnew

/-- The burst stands decrypted in its transfer; the controller's turn is all else that changes. -/
theorem burstRead_leaves : (d.burstRead burst (some k) fails corrected).xfer k =
      some { x with got := x.got.store (64 * u) (d.lpRead (64 * burst) 64), gotBursts := x.gotBursts ++ [u] } ∧
    offTurn (d.burstRead burst (some k) fails corrected) = offTurn d := by
  obtain ⟨e, hview, heq⟩ := burstRead_takes corrected hs hx hkind hu hkey hf hb
  have hhush : hush (e.count 0x090 0x104 1) = hush (d.planServed (burst / 2 ^ 29)) := (hush_count _ _ _ _).trans (congrArg Prod.fst hview)
  have hxfers : (e.count 0x090 0x104 1).xfers = d.xfers := (congrArg Dev.xfers hhush).trans rfl
  have htaken : ((e.count 0x090 0x104 1).onXfer k (burstTaken u (d.lpRead (64 * burst) 64))).xfer k =
      some (burstTaken u (d.lpRead (64 * burst) 64) x) :=
    xfer_onXfer_same (by rw [Dev.xfer, hxfers]; exact hx) (burstTaken_serial _ _ x)
  rw [heq, htaken, burstTaken, if_neg (ne_true_of_eq_false hnew)]
  refine ⟨rfl, ?_⟩
  calc offTurn ((e.count 0x090 0x104 1).onXfer k (burstTaken u (d.lpRead (64 * burst) 64)))
      = offTurn (e.count 0x090 0x104 1) := rfl
    _ = offTurn (d.planServed (burst / 2 ^ 29)) := congrArg (fun g : Dev => { g with xfers := [], memctl := [] }) hhush
    _ = offTurn d := rfl

end

end

/-! ### A burst written for a transfer -/

/-- The device without LPDDR5X, its transfers and controllers and without what a record of a fault may change. -/
def offBurst (d : Dev) : Dev := { offMemory d with xfers := [], memctl := [] }

theorem changes_of_offBurst (s : State) {e : Dev} (h : offBurst e = offBurst s.dev) : Changes s { s with dev := e } (fun d x => { d with
    xfers := x.xfers, lpddr := x.lpddr, burstKey := x.burstKey, dramBad := x.dramBad, memctl := x.memctl }) :=
  changes_dev s e _ (congrArg (fun x : Dev => { x with
    xfers := e.xfers, lpddr := e.lpddr, burstKey := e.burstKey, dramBad := e.dramBad, memctl := e.memctl }) h)

/-- The bytes of a page.out's unit `u` as its pavilion holds them. -/
def unitBytes (d : Dev) (x : Xfer) (u : Nat) : List Byte := (d.pav x.pav).store.bytes (x.off + 64 * u) (min 64 (x.len - 64 * u))

/-- A page.out from the start of a burst on has each of its units at the start of one. -/
theorem pageOff_aligned {x : Xfer} (hkind : x.kind = .pageOut) (h : x.addr % 64 = 0) (u : Nat) : x.pageOff (64 * u) % 64 = 0 := by
  simp only [Xfer.pageOff, hkind]
  omega

theorem burst_of_unitsIn {x : Xfer} {burst u : Nat} (hkind : x.kind = .pageOut) (hu : x.unitsIn burst = [u]) :
    x.pageOff (64 * u) / 64 = burst := by
  have hmem : u ∈ x.unitsIn burst := by simp [hu]
  simpa [Xfer.srcOff, hkind] using (List.mem_filter.1 hmem).2

section
variable {d : Dev} {burst k u : Nat} {x : Xfer} (hs : d.mcServes (burst / 2 ^ 29) = true) (hx : d.xfer k = some x)
  (hkind : x.kind = .pageOut) (hu : x.unitsIn burst = [u]) (hnew : x.placed.contains u = false) (hkey : d.keyStale x (64 * burst) = false)
  (hclean : storeEvents (d.pav x.pav) (x.off + 64 * u) 64 = [])
include hs hx hkind hu hnew hkey hclean

/-- A burst written under a live key from words that are not upset is one write into LPDDR5X, counted, in its transfer. -/
theorem burstWrite_eq : ∃ n, d.burstWrite burst k =
    (((d.planServed (burst / 2 ^ 29)).lpWrite (x.pageOff (64 * u)) (unitBytes d x u)).count (pavPage x.pav) 0x148 n).onXfer k
      (fun y => { y with placed := y.placed ++ [u] }) := by
  have hus : (x.unitsIn burst).filter (fun v => !x.placed.contains v) = [u] := by
    rw [hu, List.filter_cons_of_pos (by rw [hnew]; rfl), List.filter_nil]
  have hread : (d.planServed (burst / 2 ^ 29)).portRead x.pav (x.off + 64 * u) 64 = d.planServed (burst / 2 ^ 29) := portRead_clean hclean
  have hgo : (!d.mcServes (burst / 2 ^ 29) || decide (x.kind ≠ .pageOut) || ([u] : List Nat).isEmpty) = false := by
    rw [hs, hkind]
    rfl
  simp only [Dev.burstWrite, hx, hus, hgo, hkey, Bool.false_eq_true, if_false, forEach, List.foldl_cons, List.foldl_nil, hread]
  exact ⟨_, rfl⟩

/-- The unit counts as placed, and the other bursts are as they were. -/
theorem burstWrite_leaves (haddr : x.addr % 64 = 0) :
    (d.burstWrite burst k).xfer k = some { x with placed := x.placed ++ [u] } ∧
      (∀ a, a / 64 ≠ burst → (d.burstWrite burst k).lpddr.read a = d.lpddr.read a) := by
  obtain ⟨n, heq⟩ := burstWrite_eq hs hx hkind hu hnew hkey hclean
  have haligned := pageOff_aligned hkind haddr u
  have hburst := burst_of_unitsIn hkind hu
  have hoff := offMemory_lpWrite (d.planServed (burst / 2 ^ 29)) (x.pageOff (64 * u)) (unitBytes d x u)
  have hxfers : ((d.planServed (burst / 2 ^ 29)).lpWrite (x.pageOff (64 * u)) (unitBytes d x u)).xfers = d.xfers :=
    (congrArg Dev.xfers hoff).trans rfl
  have hlen : (unitBytes d x u).length ≤ 64 := by
    rw [unitBytes, bytes_length]
    omega
  rw [heq]
  refine ⟨xfer_onXfer_same ?_ rfl, fun a ha => ?_⟩
  · rw [Dev.xfer, Dev_count_xfers, hxfers]
    exact hx
  · show Mem.read (Dev.count _ _ _ _).lpddr a = _
    rw [Dev_count_lpddr, lpWrite_read_other _ _ _ (by omega)]
    rfl

/-- Besides, a write changes LPDDR5X, the transfer and the controller's turn. -/
theorem offBurst_burstWrite : offBurst (d.burstWrite burst k) = offBurst d := by
  obtain ⟨n, heq⟩ := burstWrite_eq hs hx hkind hu hnew hkey hclean
  have hoff := offMemory_lpWrite (d.planServed (burst / 2 ^ 29)) (x.pageOff (64 * u)) (unitBytes d x u)
  rw [heq]
  generalize (d.planServed (burst / 2 ^ 29)).lpWrite (x.pageOff (64 * u)) (unitBytes d x u) = e at hoff
  calc offBurst ((e.count (pavPage x.pav) 0x148 n).onXfer k (fun y => { y with placed := y.placed ++ [u] }))
      = offBurst (e.count (pavPage x.pav) 0x148 n) := rfl
    _ = offBurst e :=
      congrArg (fun g : Dev => { g with lpddr := [], burstKey := [], dramBad := [], xfers := [], memctl := [] }) (hush_count e _ _ n)
    _ = offBurst (d.planServed (burst / 2 ^ 29)) := congrArg (fun g : Dev => { g with xfers := [], memctl := [] }) hoff
    _ = offBurst d := rfl

end

/-! ### A burst read by the patrol scrub -/

theorem hush_memctl {d e : Dev} (h : hush e = hush d) (m : List MemCtl) : hush { e with memctl := m } = hush { d with memctl := m } :=
  congrArg (fun g : Dev => { g with memctl := m }) h

/-- A burst of the background queue changes the controller's turn. -/
theorem hush_backgroundServed (d : Dev) (m : Nat) :
    hush (d.backgroundServed m) = hush { d with memctl := (d.backgroundServed m).memctl } := by
  rw [Dev.backgroundServed, hush_count, Dev_count_memctl]
  rfl

theorem count_zero (d : Dev) (pg o : Nat) : d.count pg o 0 = d := by simp [Dev.count, Dev.countB]

/-- The registers of a controller's page that the read of a burst leaves alone. -/
theorem burstWrites_other {m o : Nat} (ho : o = 0x010 ∨ o = 0x118 ∨ o = 0x11C) : burstWrites (mcPage m) o = false := by
  rcases ho with rfl | rfl | rfl <;> simp [burstWrites, recordWrites]

section
variable {d : Dev} {burst fails : Nat} (corrected : Bool) (hs : d.mcServes (burst / 2 ^ 29) = true)
  (hturn : d.backgroundTurn (burst / 2 ^ 29) = true) (hf : fails ≤ bitsN (d.rgN (mcPage (burst / 2 ^ 29)) 0x40C 0) 0 2)
  (hb : d.dramBad.contains burst = false) (hon : bitsN (d.rgN (mcPage (burst / 2 ^ 29)) 0x408 0) 0 8 ≠ 0)
include hs hturn hf hb hon

/-- A patrol read within the retry limit is the controller's read, counted in the background, and counted as corrected where it is. -/
theorem patrol_eq : d.patrol burst fails corrected =
    ((d.controllerRead burst fails corrected .none none).1.backgroundServed (burst / 2 ^ 29)).count (mcPage (burst / 2 ^ 29)) 0x11C
      (if corrected then 1 else 0) := by
  have hread := (controllerRead_within d corrected .none none (lt_of_mcServes hs) hf hb).1
  have hgo : (!d.mcServes (burst / 2 ^ 29) || decide (bitsN (d.rgN (mcPage (burst / 2 ^ 29)) 0x408 0) 0 8 = 0) ||
      !d.backgroundTurn (burst / 2 ^ 29)) = false := by
    rw [hs, hturn, decide_eq_false hon]
    rfl
  simp only [Dev.patrol, hgo, hread, Bool.false_eq_true, if_false, Bool.true_and]
  cases corrected
  · exact (count_zero _ _ _).symm
  · rfl

/-- The patrol counts the burst it has read, and counts it as corrected where it is (R268). -/
theorem patrol_counts :
    let t := d.patrol burst fails corrected
    let pg := mcPage (burst / 2 ^ 29)
    t.rgN pg 0x118 0 = (if bitN (d.rgN pg 0x010 0) 0 then d.rgN pg 0x118 0 else min (2 ^ 32 - 1) (d.rgN pg 0x118 0 + 1)) ∧
      t.rgN pg 0x11C 0 = if bitN (d.rgN pg 0x010 0) 0 then d.rgN pg 0x11C 0
        else min (2 ^ 32 - 1) (d.rgN pg 0x11C 0 + if corrected then 1 else 0) := by
  intro t pg
  have hm := lt_of_mcServes hs
  have hpg : pg < 4096 := by simp only [pg, mcPage]; omega
  have hkept : ∀ o, o = 0x010 ∨ o = 0x118 ∨ o = 0x11C →
      (d.controllerRead burst fails corrected .none none).1.rgN pg o 0 = d.rgN pg o 0 :=
    fun o ho => (touches_controllerRead_within d corrected .none none hm hf hb).1 pg o 0 hpg (by omega) (burstWrites_other ho)
  have hother : ∀ (e : Dev) {o o' : Nat} (n : Nat), o < 4096 → o' < 4096 → o' ≠ o →
      (e.count pg o n).rgN pg o' 0 = e.rgN pg o' 0 :=
    fun e o o' n ho ho' hne => rgN_count_other e n (rk_ne_of_off ho ho' hne)
  simp only [t, patrol_eq corrected hs hturn hf hb hon, Dev.backgroundServed]
  constructor
  · rw [hother _ _ (by decide) (by decide) (by decide), rgN_count_same, ← hkept 0x010 (by decide), ← hkept 0x118 (by decide)]
    rfl
  · rw [rgN_count_same, hother _ _ (by decide) (by decide) (by decide), hother _ _ (by decide) (by decide) (by decide),
      ← hkept 0x010 (by decide), ← hkept 0x11C (by decide)]
    rfl

/-- Besides registers and the log, the patrol changes the controller's turn. -/
theorem hush_patrol : hush (d.patrol burst fails corrected) = hush { d with memctl := (d.patrol burst fails corrected).memctl } := by
  have hread := hush_controllerRead_within d corrected .none none (lt_of_mcServes hs) hf hb
  rw [patrol_eq corrected hs hturn hf hb hon, hush_count, Dev_count_memctl, hush_backgroundServed]
  exact hush_memctl hread _

end

end Sys2Proof.Laws
end

section
/-! SUPPORT. The statement about bursts of LPDDR5X. -/
namespace Sys2Proof
open Sys2Proof.Machine Sys2Proof.Laws

/-- Settles O13, command by command: a burst read is the controller's read, judged by the retry limit and the key; a burst written is one
write into LPDDR5X; the patrol's read is the controller's, counted in the background. -/
theorem burstsMoveAndScrub : Obligations.BurstsMoveAndScrub := by
  intro s burst k fails u corrected hp hs
  refine ⟨fun x hx hkind hu hnew hkey hf hb => ?read, fun x hx hkind hu hf => ?fails, fun x hx hkind haddr hu hnew hkey hclean => ?write,
    fun hturn hf hb hon => ?patrol⟩
  case read =>
    obtain ⟨hxfer, hoff⟩ := burstRead_leaves corrected hs hx hkind hu hnew hkey hf hb
    exact ⟨_, onDev_powered (·.burstRead burst (some k) fails corrected) s hp, hxfer, changes_of_offTurn s hoff⟩
  case fails => exact ⟨_, onDev_powered (·.burstRead burst (some k) fails corrected) s hp, burstRead_fails corrected hs hx hkind hu hf⟩
  case write =>
    obtain ⟨hxfer, hbytes⟩ := burstWrite_leaves hs hx hkind hu hnew hkey hclean haddr
    exact ⟨_, onDev_powered (·.burstWrite burst k) s hp, hxfer, hbytes,
      changes_of_offBurst s (offBurst_burstWrite hs hx hkind hu hnew hkey hclean)⟩
  case patrol =>
    obtain ⟨hreads, hcorrected⟩ := patrol_counts corrected hs hturn hf hb hon
    exact ⟨_, onDev_powered (·.patrol burst fails corrected) s hp, hreads, hcorrected,
      changes_dev s _ _ (hush_patrol corrected hs hturn hf hb hon)⟩

end Sys2Proof
end

section
/-! SUPPORT. The statement about oscillators and crossing resets fails in its clause of UNFENCE: the choice of sets that follows (R237) may
leave a context with no set that can run, and then the Kiosk notes the context's requests for the abort at the next commit point (R238,
R413), while the clause lets UNFENCE change pavilions and contexts only. -/
namespace Sys2Proof
open Sys2Proof.Machine Sys2Proof.Laws

/-- A bundle of one set, the base set, whose one variant has a stream for pavilion 1, and no fallback set. -/
def soleSetBundle : Bundle where
  hdr := ⟨0, 1, 4096, 0, 0, 0, 1, 0, [], [], 4096, 2, 1, 0, 0, 0, 0, true⟩
  body := ⟨true, [(0x7F, [⟨[(1, [])], [], [], [], 4, 1, 4, 0, []⟩])], [], [], [], [], [], [], [], [], [], [], [], none, none, 4, 1, 16, 64⟩

/-- A pavilion fenced, its pair reset since. -/
def fencedAndReset : Pav := { Pav.off false with run := .fenced, lockedOnce := true }

/-- Plot 0 owns pair 0, both pavilions of which are fenced; the oscillator of pavilion 0 is locked. Context 0 of the plot is CREATED with
a bundle whose base set uses pavilion 1, and sequence 5 is a request of it that is QUEUED. -/
def oneOfTwoReturns : State := { State.reset with dev := { Dev.powerUp Module.a512 with
  power := { Power.reset with phase := .live }
  pavs := [fencedAndReset, fencedAndReset]
  regs := [(rk (pavPage 0) 0x600 0, 8)]
  plots := [(0, { Plot.free with st := 1, desc := [1] })]
  ctxs := [(0, { Ctx.free with st := 1, active := some soleSetBundle })]
  seqs := [(5, { SeqEntry.free with st := .queued })] } }

/-- UNFENCE of pavilion 0 leaves pavilion 1 lost, so that no set can run: request 5 is to be aborted. -/
theorem unfence_notes_abort : ((oneOfTwoReturns.dev.unfence 0).kc 0).aborts = [5] := by decide

/-- Refutes O18: UNFENCE of a pavilion beside one that stays fenced changes the Kiosk's list of requests to abort. -/
theorem not_oscillatorsAndCrossingResets : ¬ Obligations.OscillatorsAndCrossingResets := by
  intro h
  obtain ⟨-, -, -, hunfence, -⟩ := h oneOfTwoReturns 0 (by decide) (by decide) (by decide)
  obtain ⟨t, hexec, -, -, -, hframe⟩ := hunfence (.belvedere .admin) (by decide) (by decide) (by decide) (by decide)
  have hnext : exec (.unfence (.belvedere .admin) 0) oneOfTwoReturns =
    .next { oneOfTwoReturns with dev := oneOfTwoReturns.dev.unfence 0 } := rfl
  have hdev : t.dev = oneOfTwoReturns.dev.unfence 0 := congrArg State.dev (Host.Outcome.next.inj (hexec.symm.trans hnext))
  have hkept : t.dev.kctx = oneOfTwoReturns.dev.kctx := (congrArg Dev.kctx hframe).trans rfl
  have haborts : ((oneOfTwoReturns.dev.unfence 0).kc 0).aborts = [] := by
    rw [kc_of_kctx (hdev ▸ hkept)]
    rfl
  exact absurd (unfence_notes_abort.symm.trans haborts) (by decide)

end Sys2Proof
end

section
/-! SUPPORT. What the Gatehouse does with a context's slots: references on regions, issue-memory banks, the verdict on a bundle, activation,
discarding, an image received whole (R222 to R226, R243, R246, R256, R258). -/
namespace Sys2Proof.Laws
open Sys2Proof.Machine

/-! ### What a slot's operations leave alone -/

/-- The device without contexts and regions and without what a record of a fault may change. -/
def offSlots (d : Dev) : Dev := { hush d with ctxs := [], regions := [] }

theorem offSlots_onCtx (d : Dev) (c : Nat) (f : Ctx → Ctx) : offSlots (d.onCtx c f) = offSlots d := rfl
theorem offSlots_count (d : Dev) (pg o n : Nat) : offSlots (d.count pg o n) = offSlots d := by simp [offSlots]
theorem offSlots_record (d : Dev) (pg b : Nat) (w : Where) : offSlots (d.record pg b w) = offSlots d := by simp [offSlots]

theorem changes_of_offSlots (s : State) {e : Dev} (h : offSlots e = offSlots s.dev) :
    Changes s { s with dev := e } (fun d x => { d with ctxs := x.ctxs, regions := x.regions }) :=
  changes_dev s e _ (congrArg (fun g : Dev => { g with ctxs := e.ctxs, regions := e.regions }) h)

/-- The device without the banks of its pavilions either. -/
def offBanks (d : Dev) : Dev := { offSlots d with pavs := [] }

theorem offBanks_of_offSlots {d e : Dev} (h : offSlots e = offSlots d) : offBanks e = offBanks d :=
  congrArg (fun g : Dev => { g with pavs := [] }) h

theorem changes_of_offBanks (s : State) {e : Dev} (h : offBanks e = offBanks s.dev) :
    Changes s { s with dev := e } (fun d x => { d with ctxs := x.ctxs, regions := x.regions, pavs := x.pavs }) :=
  changes_dev s e _ (congrArg (fun g : Dev => { g with ctxs := e.ctxs, regions := e.regions, pavs := e.pavs }) h)

/-- The device without the Kiosk's contexts either. -/
def offKiosk (d : Dev) : Dev := { offBanks d with kctx := [] }

theorem offKiosk_of_offSlots {d e : Dev} (h : offSlots e = offSlots d) : offKiosk e = offKiosk d :=
  congrArg (fun g : Dev => { g with pavs := [], kctx := [] }) h

theorem changes_of_offKiosk (s : State) {e : Dev} (h : offKiosk e = offKiosk s.dev) :
    Changes s { s with dev := e } (fun d x => { d with ctxs := x.ctxs, regions := x.regions, pavs := x.pavs, kctx := x.kctx }) :=
  changes_dev s e _ (congrArg (fun g : Dev => { g with ctxs := e.ctxs, regions := e.regions, pavs := e.pavs, kctx := e.kctx }) h)

theorem offBanks_dropBanks (d : Dev) (c : Nat) (f : Nat → Bool) : offBanks (d.dropBanks c f) = offBanks d := rfl
theorem offBanks_onCtx (d : Dev) (c : Nat) (f : Ctx → Ctx) : offBanks (d.onCtx c f) = offBanks d := rfl
theorem offKiosk_dropBanks (d : Dev) (c : Nat) (f : Nat → Bool) : offKiosk (d.dropBanks c f) = offKiosk d := rfl
theorem offKiosk_onCtx (d : Dev) (c : Nat) (f : Ctx → Ctx) : offKiosk (d.onCtx c f) = offKiosk d := rfl
theorem offKiosk_onKc (d : Dev) (c : Nat) (f : KCtx → KCtx) : offKiosk (d.onKc c f) = offKiosk d := rfl

/-! ### References -/

section
variable {β : Type} (view : Dev → β) (hview : ∀ e i g, view (e.setRegion i g) = view e)
include hview

/-- References taken change regions only. -/
theorem takeRefs_keeps (d : Dev) (p : Nat) (b : Bundle) : view (d.takeRefs p b) = view d :=
  forEach_keeps view _ d _ (fun e r => by
    split
    · exact hview e _ _
    · rfl)

/-- References released change regions only. -/
theorem dropRefs_keeps (d : Dev) (p : Nat) (b : Bundle) : view (d.dropRefs p b) = view d :=
  forEach_keeps view _ d _ (fun e r => by
    split
    · exact hview e _ _
    · rfl)

end

theorem takeRefs_ctx (d : Dev) (p : Nat) (b : Bundle) (c : Nat) : (d.takeRefs p b).ctx c = d.ctx c :=
  takeRefs_keeps (·.ctx c) (fun _ _ _ => rfl) d p b
theorem offSlots_takeRefs (d : Dev) (p : Nat) (b : Bundle) : offSlots (d.takeRefs p b) = offSlots d :=
  takeRefs_keeps offSlots (fun _ _ _ => rfl) d p b
theorem dropRefs_ctx (d : Dev) (p : Nat) (b : Bundle) (c : Nat) : (d.dropRefs p b).ctx c = d.ctx c :=
  dropRefs_keeps (·.ctx c) (fun _ _ _ => rfl) d p b
theorem offSlots_dropRefs (d : Dev) (p : Nat) (b : Bundle) : offSlots (d.dropRefs p b) = offSlots d :=
  dropRefs_keeps offSlots (fun _ _ _ => rfl) d p b

/-! ### The time of a verification, and the banks -/

/-- Counting a verification moves the tick from which it is counted. -/
theorem chargeVerify_ctx (d : Dev) (c : Nat) :
    ∃ since, (d.chargeVerify c).ctx c = { d.ctx c with staged := { (d.ctx c).staged with since := since } } := by
  unfold Dev.chargeVerify
  extract_lets sg n
  split
  · exact ⟨sg.since, rfl⟩
  · exact ⟨_, (ctx_of_ctxs (Dev_count_ctxs _ _ _ _) c).trans (ctx_onCtx_same d c _)⟩

theorem offSlots_chargeVerify (d : Dev) (c : Nat) : offSlots (d.chargeVerify c) = offSlots d := by
  unfold Dev.chargeVerify
  extract_lets sg n
  split
  · rfl
  · exact (offSlots_count _ _ _ _).trans (offSlots_onCtx d c _)

/-- No bank holds a set of the context whose number the test picks out. -/
theorem dropBanks_free {d : Dev} {c k : Nat} {f : Nat → Bool} (hf : f k = true) {q : Pav} (hq : q ∈ (d.dropBanks c f).pavs) :
    some (c, k) ∉ q.banks := by
  obtain ⟨p, -, rfl⟩ := List.mem_map.1 hq
  intro hmem
  obtain ⟨e, -, he⟩ := List.mem_map.1 hmem
  cases e with
  | none => cases he
  | some a =>
    obtain ⟨c', k'⟩ := a
    dsimp only at he
    split at he
    · cases he
    · next hne =>
      cases he
      simp [hf] at hne

/-! ### The verdict on a bundle -/

section
variable {d : Dev} {c : Nat} (body : BundleBody) (hst : (d.ctx c).staged.st = 2) (hheld : bitN (d.rgN 0x002 0x030 0) 0 = false)
  {img : List Byte} (himg : d.lpRead (d.imageArea c).1 (d.ctx c).staged.recvd = img)
include hst hheld himg

/-- A bundle that passes every check is VERIFIED and takes its references. -/
theorem verifyDone_verified (hv : d.verdict c (d.ctx c).staged.recvd img ⟨parseHdr img, body⟩ = none) :
    d.verifyDone c body = ((d.chargeVerify c).setCtx c { d.ctx c with
      staged := { (d.ctx c).staged with st := 3, bundle := some ⟨parseHdr img, body⟩ }, rejectCode := 0 }).takeRefs
        (d.ctx c).plot ⟨parseHdr img, body⟩ := by
  simp [Dev.verifyDone, hst, hheld, himg, hv]

/-- A bundle that fails a check is REJECTED with the code and place of the first failure. -/
theorem verifyDone_rejected {r : Reject} (hv : d.verdict c (d.ctx c).staged.recvd img ⟨parseHdr img, body⟩ = some r) :
    ∃ place cycle w, d.verifyDone c body = (((d.chargeVerify c).setCtx c { d.ctx c with
      staged := { (d.ctx c).staged with st := 4 }, rejectCode := r.code, rejectWhere := place, rejectCycle := cycle
      }).count 0x002 0x104 1).record 0x002 0 w := by
  have hwalks : ((d.ctx c).staged.st ≠ 2 || bitN (d.rgN 0x002 0x030 0) 0) = false := by simp [hst, hheld]
  simp only [Dev.verifyDone, hwalks, himg, hv, Bool.false_eq_true, if_false]
  exact ⟨_, _, _, rfl⟩

/-- What the walker leaves of the context: the slot's state and the code of the first failure. -/
theorem verifyDone_judges :
    (d.verdict c (d.ctx c).staged.recvd img ⟨parseHdr img, body⟩ = none →
      ((d.verifyDone c body).ctx c).staged.st = 3 ∧ ((d.verifyDone c body).ctx c).staged.bundle = some ⟨parseHdr img, body⟩ ∧
        ((d.verifyDone c body).ctx c).rejectCode = 0) ∧
    (∀ r, d.verdict c (d.ctx c).staged.recvd img ⟨parseHdr img, body⟩ = some r →
      ((d.verifyDone c body).ctx c).staged.st = 4 ∧ ((d.verifyDone c body).ctx c).rejectCode = r.code) := by
  refine ⟨fun hv => ?_, fun r hv => ?_⟩
  · rw [verifyDone_verified body hst hheld himg hv, takeRefs_ctx, ctx_setCtx_same]
    exact ⟨rfl, rfl, rfl⟩
  · obtain ⟨place, cycle, w, heq⟩ := verifyDone_rejected body hst hheld himg hv
    rw [heq, ctx_of_ctxs (record_ctxs _ _ _ _), ctx_of_ctxs (Dev_count_ctxs _ _ _ _), ctx_setCtx_same]
    exact ⟨rfl, rfl⟩

/-- Either way the active slot stays, and what is neither slot nor region. -/
theorem verifyDone_leaves : ((d.verifyDone c body).ctx c).active = (d.ctx c).active ∧ offSlots (d.verifyDone c body) = offSlots d := by
  cases hv : d.verdict c (d.ctx c).staged.recvd img ⟨parseHdr img, body⟩ with
  | none =>
    rw [verifyDone_verified body hst hheld himg hv, takeRefs_ctx, ctx_setCtx_same, offSlots_takeRefs]
    exact ⟨rfl, offSlots_chargeVerify d c⟩
  | some r =>
    obtain ⟨place, cycle, w, heq⟩ := verifyDone_rejected body hst hheld himg hv
    rw [heq, ctx_of_ctxs (record_ctxs _ _ _ _), ctx_of_ctxs (Dev_count_ctxs _ _ _ _), ctx_setCtx_same, offSlots_record, offSlots_count]
    exact ⟨rfl, offSlots_chargeVerify d c⟩

end

/-! ### Activation -/

theorem abortAll_ctxs (d : Dev) (c : Nat) : (d.abortAll c).ctxs = d.ctxs := by
  unfold Dev.abortAll
  dsimp only
  split <;> rfl

/-- An activation moves the staged bundle to the active slot and ends the launch, whatever set is chosen. -/
theorem activate_slots {d : Dev} {c : Nat} {b : Bundle} (hb : (d.ctx c).staged.bundle = some b) :
    ((d.activate c).ctx c).active = some b ∧ ((d.activate c).ctx c).staged = Staged.empty ∧ ((d.activate c).ctx c).launch = none := by
  unfold Dev.activate
  extract_lets x d1 d2
  split
  next hnone => exact absurd (hnone.symm.trans hb) nofun
  next b' hb' =>
    obtain rfl : b' = b := Option.some.inj (hb'.symm.trans hb)
    extract_lets k fixed pend d3 d4 d5
    have h5 : d5.ctx c = d4.ctx c := ctx_of_ctxs (Dev_count_ctxs _ _ _ _) c
    have habort : (((d5.abortAll c).recordB 0x002 0 2 .f false ⟨none, some x.plot, 0, 0, 0⟩)).ctx c = d5.ctx c :=
      ctx_of_ctxs ((recordB_ctxs _ _ _ _ _ _ _).trans (abortAll_ctxs d5 c)) c
    have hend : (if k.isSome then d5 else (d5.abortAll c).recordB 0x002 0 2 .f false ⟨none, some x.plot, 0, 0, 0⟩).ctx c = d4.ctx c := by
      split
      · exact h5
      · exact habort.trans h5
    rw [hend, ctx_setCtx_same]
    exact ⟨rfl, rfl, rfl⟩

/-- The context with its activation requested in tick `now`. -/
def activating (now : Nat) (x : Ctx) : Ctx := { x with staged := { x.staged with st := 5, since := now } }

/-- The device with the activation of a context requested and measured (R485). -/
def activationAsked (d : Dev) (c : Nat) (dg : List Byte) : Dev :=
  (d.onCtx c (activating d.time.elapsed)).mrExtend 12 0 (toBytes 1 c ++ dg)

theorem activationAsked_ctx (d : Dev) (c : Nat) (dg : List Byte) : (activationAsked d c dg).ctx c = activating d.time.elapsed (d.ctx c) :=
  ctx_onCtx_same d c _

/-- ACTIVATE acts at once where the active slot is empty, else it waits for a release or, under PIN, for the switch. -/
theorem loadActivate_eq (d : Dev) (c : Nat) : ∃ dg, d.loadActivate c =
    if (d.ctx c).active.isNone then (activationAsked d c dg).activate c else (activationAsked d c dg).pinSwitch c := ⟨_, rfl⟩

/-- A context that is not under PIN leaves its activation to the next release. -/
theorem pinSwitch_unpinned {d : Dev} {c : Nat} (h : bitN (d.ctx c).modes.toNat 8 = true) : d.pinSwitch c = d := by
  simp [Dev.pinSwitch, Ctx.pinWaits, Ctx.pin, h]

/-- ACTIVATE into an empty active slot. -/
theorem loadActivate_empty {d : Dev} {c : Nat} {b : Bundle} (hb : (d.ctx c).staged.bundle = some b) (ha : (d.ctx c).active = none) :
    ((d.loadActivate c).ctx c).active = some b ∧ ((d.loadActivate c).ctx c).staged = Staged.empty ∧
      ((d.loadActivate c).ctx c).launch = none := by
  obtain ⟨dg, heq⟩ := loadActivate_eq d c
  rw [heq, if_pos (by rw [ha]; rfl)]
  exact activate_slots (by rw [activationAsked_ctx]; exact hb)

/-- ACTIVATE beside an active bundle, not under PIN. -/
theorem loadActivate_waits {d : Dev} {c : Nat} {a : Bundle} (ha : (d.ctx c).active = some a)
    (hm : bitN (d.ctx c).modes.toNat 8 = true) : (d.loadActivate c).ctx c = activating d.time.elapsed (d.ctx c) := by
  obtain ⟨dg, heq⟩ := loadActivate_eq d c
  rw [heq, if_neg (by rw [ha]; nofun), pinSwitch_unpinned (by rw [activationAsked_ctx]; exact hm), activationAsked_ctx]

/-! ### Discarding -/

/-- The staged slot emptied, once its references are released and its verification is counted. -/
theorem dropStaged_eq (d : Dev) (c : Nat) : ∃ e : Dev, e.ctx c = d.ctx c ∧ offSlots e = offSlots d ∧
    d.dropStaged c = ((e.chargeVerify c).dropBanks c (fun n => decide (128 ≤ n))).onCtx c (fun y => { y with staged := Staged.empty }) := by
  unfold Dev.dropStaged
  extract_lets x d1
  have h1 : d1.ctx c = d.ctx c ∧ offSlots d1 = offSlots d := by
    simp only [d1]
    split
    · exact ⟨dropRefs_ctx d _ _ c, offSlots_dropRefs d _ _⟩
    · exact ⟨rfl, rfl⟩
  exact ⟨d1, h1.1, h1.2, rfl⟩

/-- DISCARD of the staged slot empties it and leaves the active slot. -/
theorem dropStaged_ctx (d : Dev) (c : Nat) : (d.dropStaged c).ctx c = { d.ctx c with staged := Staged.empty } := by
  obtain ⟨e, hctx, -, heq⟩ := dropStaged_eq d c
  obtain ⟨since, hcharged⟩ := chargeVerify_ctx e c
  have hbanks : ((e.chargeVerify c).dropBanks c (fun n => decide (128 ≤ n))).ctx c = (e.chargeVerify c).ctx c := rfl
  rw [heq, ctx_onCtx_same, hbanks, hcharged, hctx]

theorem offBanks_dropStaged (d : Dev) (c : Nat) : offBanks (d.dropStaged c) = offBanks d := by
  obtain ⟨e, -, hoff, heq⟩ := dropStaged_eq d c
  rw [heq, offBanks_onCtx, offBanks_dropBanks]
  exact offBanks_of_offSlots ((offSlots_chargeVerify e c).trans hoff)

/-- DISCARD of the staged slot frees the banks filled from it. -/
theorem dropStaged_banks {d : Dev} {c k : Nat} (hk : 128 ≤ k) {q : Pav} (hq : q ∈ (d.dropStaged c).pavs) : some (c, k) ∉ q.banks := by
  obtain ⟨e, -, -, heq⟩ := dropStaged_eq d c
  rw [heq] at hq
  exact dropBanks_free (decide_eq_true hk) hq

/-- The context with its active slot discarded: after a failed restore it may start again with a new bundle (R479). -/
def discarded (y : Ctx) : Ctx := { y with
  active := none, set := 0x7F, want := 0x7F, noVariant := false, imageEcc := false, launch := none, ended := none
  st := if y.st = 2 then 1 else y.st, freshSet := y.freshSet || y.st = 2 }

/-- DISCARD of the active slot: references and banks given back, the slot emptied, the Kiosk's composition opened anew. -/
theorem dropActive_eq {d : Dev} {c : Nat} {a : Bundle} (ha : (d.ctx c).active = some a) : d.dropActive c =
    (((d.dropRefs (d.ctx c).plot a).dropBanks c (fun n => decide (n < 128))).onCtx c discarded).onKc c
      (fun k => { k with phase := .open_, batch := [] }) := by
  simp only [Dev.dropActive, ha]
  rfl

theorem dropActive_ctx {d : Dev} {c : Nat} {a : Bundle} (ha : (d.ctx c).active = some a) :
    (d.dropActive c).ctx c = discarded (d.ctx c) := by
  rw [dropActive_eq ha]
  exact (ctx_onCtx_same ((d.dropRefs (d.ctx c).plot a).dropBanks c _) c discarded).trans
    (congrArg discarded (dropRefs_ctx d (d.ctx c).plot a c))

/-- Besides slots, regions and banks, DISCARD of the active slot changes the Kiosk's composition. -/
theorem offKiosk_dropActive {d : Dev} {c : Nat} {a : Bundle} (ha : (d.ctx c).active = some a) :
    offKiosk (d.dropActive c) = offKiosk d := by
  rw [dropActive_eq ha, offKiosk_onKc, offKiosk_onCtx, offKiosk_dropBanks]
  exact offKiosk_of_offSlots (offSlots_dropRefs d (d.ctx c).plot a)

/-! ### An image received whole -/

/-- PROG_BEGIN of a size within the limits: the slot emptied and RECEIVING. -/
theorem progBegin_opens {d : Dev} {c total : Nat} (hctx : (d.ctx c).st ≠ 0) (hplot : (d.plot (d.ctx c).plot).st ≠ 2)
    (hmin : 256 ≤ total) (hmax : total ≤ 2 ^ 30) (harea : total ≤ (d.imageArea c).2) :
    d.progBegin c total = ((d.dropStaged c).onCtx c (fun y => { y with staged := ⟨1, total, 0, d.time.elapsed, none⟩ }), 0) := by
  have hserved : ((d.ctx c).st = 0 || (d.plot (d.ctx c).plot).st = 2) = false := by simp [hctx, hplot]
  have hrange : ¬ (total < 256 ∨ 2 ^ 30 < total ∨ (d.imageArea c).2 < total) := by omega
  simp only [Dev.progBegin, hserved, if_neg hrange, Bool.false_eq_true, if_false]

theorem lpWrite_ctx (d : Dev) (off : Nat) (bs : List Byte) (c : Nat) : (d.lpWrite off bs).ctx c = d.ctx c :=
  ctx_of_ctxs ((congrArg Dev.ctxs (offMemory_lpWrite d off bs)).trans rfl) c

/-- With the last byte of an image verification starts. -/
theorem imageBytes_last {d : Dev} {c : Nat} {data : List Byte} (h : (d.ctx c).staged.total ≤ (d.ctx c).staged.recvd + data.length) :
    ∃ now, (d.imageBytes c data).ctx c =
      { d.ctx c with staged := { (d.ctx c).staged with recvd := (d.ctx c).staged.recvd + data.length, st := 2, since := now } } := by
  unfold Dev.imageBytes
  extract_lets sg d1 n
  have hlast : ¬ n < sg.total := Nat.not_lt.2 h
  rw [if_neg hlast, ctx_of_ctxs (Dev_count_ctxs _ _ _ _), ctx_onCtx_same, lpWrite_ctx]
  exact ⟨_, rfl⟩

/-- An image read whole is with the walker. -/
theorem dmaLoad_receives {d : Dev} {c : Nat} {data : List Byte} (hctx : (d.ctx c).st ≠ 0) (hplot : (d.plot (d.ctx c).plot).st ≠ 2)
    (hmin : 256 ≤ data.length) (hmax : data.length ≤ 2 ^ 30) (harea : data.length ≤ (d.imageArea c).2) :
    ∃ now, (d.dmaLoad c data).ctx c = { d.ctx c with staged := ⟨2, data.length, data.length, now, none⟩ } := by
  have hbegin := progBegin_opens hctx hplot hmin hmax harea
  have hopen : (d.progBegin c data.length).1.ctx c = { d.ctx c with staged := ⟨1, data.length, 0, d.time.elapsed, none⟩ } := by
    rw [hbegin, ctx_onCtx_same, dropStaged_ctx]
  obtain ⟨now, hlast⟩ := imageBytes_last (d := (d.progBegin c data.length).1) (c := c) (data := data) (by rw [hopen]; simp)
  refine ⟨now, ?_⟩
  rw [Dev.dmaLoad, if_pos (by rw [hbegin]), hlast, hopen, Nat.zero_add]

/-- As many bytes are read at an address as the fabric read brings. -/
theorem imageFrom_length (d : Dev) (a : Nat) (data : List Byte) : (d.imageFrom a data).length = data.length := by
  unfold Dev.imageFrom
  split
  · exact lpBytesUnder_length d _ _ _
  · split
    · exact bytes_length _ _ _
    · rfl

/-! ### The system digest -/

/-- A list of bytes is a number of as many digits to the base 256. -/
theorem leNat_lt (bs : List Byte) : leNat bs < 256 ^ bs.length := by
  induction bs with
  | nil => decide
  | cons b rest ih =>
    have hb := b.isLt
    rw [leNat, List.length_cons, Nat.pow_succ]
    omega

/-- Words written one after another read back. -/
theorem rgN_setWords (d : Dev) {pg o : Nat} (v : Nat → Nat) (m : Nat) {k : Nat} (hk : k < m) :
    (forEach (List.range m) d (fun s j => s.setN pg (o + 4 * j) 0 (v j))).rgN pg (o + 4 * k) 0 = v k % 2 ^ 32 := by
  induction m with
  | zero => omega
  | succ m ih =>
    rw [forEach, List.range_succ, List.foldl_append, List.foldl_cons, List.foldl_nil, ← forEach]
    by_cases h : k = m
    · rw [h, rgN_setN_same]
    · rw [rgN_setN_other _ _ (by unfold rk; omega), ih (by omega)]

/-- The system digest reads back word by word. -/
theorem writeSysDigest_reads (d : Dev) (digest : List Byte) {k : Nat} (hk : k < 12) :
    (d.writeSysDigest digest).rgN 0x002 (0x440 + 4 * k) 0 = leNat ((digest.drop (4 * k)).take 4) := by
  have hlen : ((digest.drop (4 * k)).take 4).length ≤ 4 := List.length_take_le 4 _
  have hlt : leNat ((digest.drop (4 * k)).take 4) < 2 ^ 32 :=
    Nat.lt_of_lt_of_le (leNat_lt _) (Nat.pow_le_pow_right (by decide) hlen)
  have hmeasured : ∀ (e : Dev) (ev : List Byte) (pg o : Nat), (e.mrExtend 10 0 ev).rgN pg o 0 = e.rgN pg o 0 := fun _ _ _ _ => rfl
  rw [Dev.writeSysDigest, hmeasured, rgN_setWords d (fun j => leNat ((digest.drop (4 * j)).take 4)) 12 hk, Nat.mod_eq_of_lt hlt]

theorem hush_belv {d e : Dev} (h : hush d = hush e) (b : Belv) : hush { d with belv := b } = hush { e with belv := b } :=
  congrArg (fun g : Dev => { g with belv := b }) h

theorem hush_writeSysDigest (d : Dev) (digest : List Byte) :
    hush (d.writeSysDigest digest) = hush { d with belv := (d.writeSysDigest digest).belv } := by
  unfold Dev.writeSysDigest
  extract_lets d1
  have h1 : hush d1 = hush d := hush_forEach _ _ _ (fun e k => hush_setN e _ _ _ _)
  exact hush_belv h1 (d1.mrExtend 10 0 (toBytes 1 d1.role ++ d1.sysDigest)).belv

/-! ### Commands of a context -/

theorem ctx_onCtx_other (d : Dev) {c j : Nat} (f : Ctx → Ctx) (h : j ≠ c) : (d.onCtx c f).ctx j = d.ctx j :=
  smap_get_put_other d.ctxs _ _ h

theorem hush_ctxs {d e : Dev} (h : hush d = hush e) (m : SMap Ctx) : hush { d with ctxs := m } = hush { e with ctxs := m } :=
  congrArg (fun g : Dev => { g with ctxs := m }) h

/-- A write to a command register of the Gatehouse that names a context, its check passed. -/
theorem exec_namesContext {i : Instr} {s : State} {r : Route} {off v c : Nat} (f : Nat → Dev → Dev) (hc : c < 256)
    (hexec : exec i s = onReg r 0x002 off (c % 256 + v) (f (c % 256)) s) (h : s.admits r 0x002 off (c + v)) :
    exec i s = .next { s with dev := f c (s.dev.count 0x000 0x104 1) } := by
  rw [Nat.mod_eq_of_lt hc] at hexec
  exact exec_admits (f c) hexec h

end Sys2Proof.Laws
end

section
/-! SUPPORT. The statement about the commands of the Gatehouse. -/
namespace Sys2Proof
open Sys2Proof.Machine Sys2Proof.Laws

/-- Settles O19, command by command: the walker judges the bundle it has received; ACTIVATE and DISCARD are updates of the context's slots;
PARAM_READY is one flag; the digest is twelve words and a measurement; an image read whole starts its verification. -/
theorem gatehouseCommands : Obligations.GatehouseCommands := by
  intro s r c hc
  have hcounted : hush (s.dev.count 0x000 0x104 1) = hush s.dev := hush_count s.dev 0x000 0x104 1
  have hslots : offSlots (s.dev.count 0x000 0x104 1) = offSlots s.dev := offSlots_count s.dev 0x000 0x104 1
  have hctx : ∀ j, (s.dev.count 0x000 0x104 1).ctx j = s.dev.ctx j := ctx_of_ctxs (Dev_count_ctxs s.dev 0x000 0x104 1)
  refine ⟨fun body hp hst hheld => ?verify, fun b h hb ha => ?activate, fun b a h hb ha hm => ?waits, fun h => ?discardStaged,
    fun a h ha => ?discardActive, fun h => ?commit, fun digest h => ?digest, fun addr data hp hx hplot hmin hmax harea => ?image⟩
  case verify =>
    obtain ⟨hverified, hrejected⟩ := verifyDone_judges body hst hheld rfl
    obtain ⟨hactive, hoff⟩ := verifyDone_leaves body hst hheld rfl
    exact ⟨_, onDev_powered (·.verifyDone c body) s hp, hverified, hrejected, hactive, changes_of_offSlots s hoff⟩
  case activate =>
    rw [← hctx] at hb ha
    exact ⟨_, exec_namesContext (fun c d => d.loadActivate c) hc rfl h, loadActivate_empty hb ha⟩
  case waits =>
    rw [← hctx] at hb ha hm
    refine ⟨_, exec_namesContext (fun c d => d.loadActivate c) hc rfl h, ?_⟩
    rw [loadActivate_waits ha hm]
    exact ⟨ha, rfl, hb⟩
  case discardStaged =>
    refine ⟨_, exec_namesContext (fun c d => d.dropStaged c) hc rfl h, ?_, ?_, fun p k hq hk => dropStaged_banks hk hq,
      changes_of_offBanks s ((offBanks_dropStaged _ c).trans (offBanks_of_offSlots hslots))⟩
    · rw [dropStaged_ctx]
    · rw [dropStaged_ctx, hctx]
  case discardActive =>
    rw [← hctx] at ha
    refine ⟨_, exec_namesContext (fun c d => d.dropActive c) hc rfl h, ?_, ?_, ?_, ?_,
      changes_of_offKiosk s ((offKiosk_dropActive ha).trans (offKiosk_of_offSlots hslots))⟩
    · rw [dropActive_ctx ha]
      rfl
    · rw [dropActive_ctx ha]
      rfl
    · rw [dropActive_ctx ha, hctx]
      rfl
    · rw [dropActive_eq ha, Dev.onKc, kc_setKc_same]
  case commit =>
    refine ⟨_, exec_namesContext (fun c d => d.onCtx c (fun x => { x with paramReady := true })) hc rfl h, ?_, fun j hj => ?_,
      changes_dev s _ _ (hush_ctxs hcounted _)⟩
    · rw [ctx_onCtx_same, hctx]
    · rw [ctx_onCtx_other _ _ hj, hctx]
  case digest =>
    refine ⟨_, exec_admits (fun d => (d.writeSysDigest digest).count 0x000 0x104 11) rfl h, fun k hk => ?_, changes_dev s _ _ ?_⟩
    · exact (reg_count _ (by decide) (by omega) (by omega)).trans (writeSysDigest_reads _ digest hk)
    · rw [hush_count, Dev_count_belv, hush_writeSysDigest]
      exact hush_belv hcounted _
  case image =>
    have hlen := imageFrom_length s.dev addr data
    rw [← hlen] at hmin hmax harea ⊢
    obtain ⟨now, hslot⟩ := dmaLoad_receives hx hplot hmin hmax harea
    refine ⟨_, onDev_powered (fun d => d.dmaLoad c (d.imageFrom addr data)) s hp, ?_⟩
    rw [hslot]
    exact ⟨rfl, rfl, rfl⟩

end Sys2Proof
end

section
/-! SUPPORT. What a tick changes of the device, beside the time domain (R256, R260, R277, R311, R342, R355, R372, R556, R596). -/
namespace Sys2Proof.Laws
open Sys2Proof.Machine

/-! ### Packets that leave a port -/

/-- The device without its fabric ports and its count of free draws, and without what a record of a fault may change. -/
def offPorts (d : Dev) : Dev := { hush d with ports := [], free := 0 }

theorem offPorts_count (d : Dev) (pg o n : Nat) : offPorts (d.count pg o n) = offPorts d := by simp [offPorts]

theorem offPorts_departing (d : Dev) (n : Nat) (pk : Packet) : offPorts (d.departing n pk).2 = offPorts d := by
  unfold Dev.departing
  dsimp only
  split
  · rfl
  · unfold Dev.when
    split <;> rfl

theorem offPorts_portSend (d : Dev) (n : Nat) (pk : Packet) : offPorts (d.portSend n pk) = offPorts d := by
  have hport : ∀ (e : Dev) (f : Port → Port), offPorts (e.onPort n f) = offPorts e := fun _ _ => rfl
  have hframe : ∀ (e : Dev) (body : FrameBody) (seq : Nat) (nak : Bool), offPorts (e.sendFrame n body seq nak) = offPorts e :=
    fun _ _ _ _ => rfl
  unfold Dev.portSend
  extract_lets r d1
  rw [offPorts_count, hframe, hport, offPorts_departing]

theorem offPorts_portOffer (d : Dev) (n : Nat) (pk : Packet) : offPorts (d.portOffer n pk) = offPorts d := by
  unfold Dev.portOffer
  split
  · exact offPorts_portSend d n pk
  · rfl

theorem offPorts_sendWaiting (d : Dev) (n : Nat) : offPorts (d.sendWaiting n) = offPorts d :=
  forEach_keeps offPorts _ d _ (fun e pk => by
    split
    · exact (offPorts_portSend _ n pk).trans rfl
    · rfl)

theorem offPorts_tickPort (d : Dev) (n : Nat) : offPorts (d.tickPort n) = offPorts d := by
  unfold Dev.tickPort
  dsimp only
  rw [offPorts_sendWaiting, offPorts_count, offPorts_count]

theorem sendWaiting_idle {d : Dev} {n : Nat} (h : (d.port n).waiting = []) : d.sendWaiting n = d := by
  unfold Dev.sendWaiting
  rw [h]
  rfl

/-- A port at which nothing waits counts only. -/
theorem hush_tickPort_idle {d : Dev} {n : Nat} (h : (d.port n).waiting = []) : hush (d.tickPort n) = hush d := by
  unfold Dev.tickPort
  dsimp only
  rw [sendWaiting_idle, hush_count, hush_count]
  rw [port_of_ports (d := d) (by rw [Dev_count_ports, Dev_count_ports]), h]

/-! ### Receive buffers and written-back words -/

theorem hush_drainRx (d : Dev) (n : Nat) : hush (d.drainRx n) = hush d := by
  unfold Dev.drainRx
  dsimp only
  split
  · rfl
  · exact hush_forEach _ (d.onHport n _) _ (fun e k => by rw [hush_count, hush_emit])

theorem quiet_writeBack (d : Dev) (n : Nat) : quiet (d.writeBack n) = quiet d := by
  unfold Dev.writeBack
  dsimp only
  split
  · rfl
  · rw [quiet_count, quiet_onPav]

theorem writeBack_idle {d : Dev} {n : Nat} (h : (d.pav n).scrubQ = []) : d.writeBack n = d := by
  simp [Dev.writeBack, h]

/-! ### The end of the old tick -/

/-- The device without what commands leave for the end of a tick, and without the regions, shards and keys that it changes. -/
def offTickEnd (d : Dev) : Dev := { hush d with tickEnd := [], fencePrev := [], regions := [], shards := [], keys := [] }

theorem offTickEnd_regionResult (d : Dev) (code : Nat) : offTickEnd (d.regionResult code) = offTickEnd d := by
  unfold Dev.regionResult
  dsimp only
  split
  · rfl
  · simp [offTickEnd]

theorem offTickEnd_freeNow (d : Dev) (idx : Nat) : offTickEnd (d.freeNow idx) = offTickEnd d := by
  unfold Dev.freeNow
  dsimp only
  split
  · exact offTickEnd_regionResult d 2
  · split
    · exact offTickEnd_regionResult d 5
    · exact (offTickEnd_regionResult _ 0).trans rfl

theorem offTickEnd_endTick (d : Dev) : offTickEnd d.endTick = offTickEnd d :=
  (forEach_keeps offTickEnd _ _ _ (fun e a => by
    cases a with
    | freeRegion idx => exact offTickEnd_freeNow e idx
    | killKey slot => rfl)).trans rfl

/-- A tick for whose end nothing is left ends without a change. -/
theorem endTick_idle {d : Dev} (hend : d.tickEnd = []) (hfence : d.fencePrev = []) : d.endTick = d := by
  have hself : { d with tickEnd := [], fencePrev := [] } = d := by rw [← hend, ← hfence]
  rw [Dev.endTick, hend, hself]
  rfl

/-! ### The tick -/

/-- The time domain after a tick: its counter advances once the PLL has locked (R372). -/
def timeTicked (t : Time) : Time := { t with elapsed := t.elapsed + 1, count := if t.everLocked then t.count + 1 else t.count }

/-- The old tick ended and the time domain advanced. -/
def tickBegun (d : Dev) : Dev := { d.endTick.alertDrop with time := timeTicked d.time }

/-- The ports counted, with what leaves them. -/
def portsTicked (d : Dev) : Dev := forEach (List.range 12) d Dev.tickPort

/-- The receive buffers of the host ports drained. -/
def rxDrained (d : Dev) : Dev := forEach (List.range 2) d Dev.drainRx

/-- The corrected words of every pavilion written back. -/
def allWrittenBack (d : Dev) : Dev := forEach (List.range 32) d Dev.writeBack

theorem tick_eq (d : Dev) : ∃ n, d.tick = allWrittenBack (rxDrained ((portsTicked (tickBegun d)).count 0x004 0x110 n)) := ⟨_, rfl⟩

/-- The device without everything that a tick may change. -/
def offTick (d : Dev) : Dev := { offTickEnd d with ports := [], pavs := [], free := 0 }

theorem offTick_of_offPorts {d e : Dev} (h : offPorts e = offPorts d) : offTick e = offTick d :=
  congrArg (fun g : Dev => { g with tickEnd := [], fencePrev := [], regions := [], shards := [], keys := [], pavs := [] }) h

theorem offTick_of_quiet {d e : Dev} (h : quiet e = quiet d) : offTick e = offTick d :=
  congrArg (fun g : Dev => { g with tickEnd := [], fencePrev := [], regions := [], shards := [], keys := [], ports := [], free := 0 }) h

theorem offTick_of_hush {d e : Dev} (h : hush e = hush d) : offTick e = offTick d :=
  offTick_of_quiet (congrArg (fun g : Dev => { g with pavs := [] }) h)

theorem offTick_of_offTickEnd {d e : Dev} (h : offTickEnd e = offTickEnd d) : offTick e = offTick d :=
  congrArg (fun g : Dev => { g with ports := [], pavs := [], free := 0 }) h

theorem hush_rxDrained (d : Dev) : hush (rxDrained d) = hush d := hush_forEach _ d _ hush_drainRx

theorem offTick_portsTicked (d : Dev) : offTick (portsTicked d) = offTick d :=
  offTick_of_offPorts (forEach_keeps offPorts _ d _ offPorts_tickPort)

theorem offTick_allWrittenBack (d : Dev) : offTick (allWrittenBack d) = offTick d :=
  offTick_of_quiet (forEach_keeps quiet _ d _ quiet_writeBack)

theorem offTick_tickBegun (d : Dev) : offTick (tickBegun d) = offTick { d with time := timeTicked d.time } :=
  congrArg (fun g : Dev => { g with time := timeTicked d.time }) (offTick_of_offTickEnd (offTickEnd_endTick d))

/-- A tick advances the time domain; beside it, it changes what it may change alone. -/
theorem offTick_tick (d : Dev) : offTick d.tick = offTick { d with time := timeTicked d.time } := by
  obtain ⟨n, hn⟩ := tick_eq d
  rw [hn, offTick_allWrittenBack, offTick_of_hush (hush_rxDrained _), offTick_of_hush (hush_count _ _ _ _), offTick_portsTicked,
    offTick_tickBegun]

theorem time_of_offTick {d e : Dev} (h : offTick e = offTick d) : e.time = d.time :=
  show (offTick e).time = (offTick d).time from congrArg Dev.time h

theorem tick_time (d : Dev) : d.tick.time = timeTicked d.time := time_of_offTick (offTick_tick d)

/-- A command that leaves alone what no tick changes, the time domain apart. -/
theorem changes_of_offTick (s : State) {e : Dev} (h : offTick e = offTick { s.dev with time := e.time }) :
    Changes s { s with dev := e } (fun d x => { d with
      time := x.time, tickEnd := x.tickEnd, fencePrev := x.fencePrev, regions := x.regions, shards := x.shards, keys := x.keys, ports := x.ports,
      pavs := x.pavs, free := x.free }) :=
  changes_dev s e _ (congrArg (fun g : Dev => { g with
    tickEnd := e.tickEnd, fencePrev := e.fencePrev, regions := e.regions, shards := e.shards, keys := e.keys, ports := e.ports
    pavs := e.pavs, free := e.free }) h)

/-! ### A tick that finds nothing to do -/

theorem ports_of_hush {d e : Dev} (h : hush e = hush d) : e.ports = d.ports :=
  show (hush e).ports = (hush d).ports from congrArg Dev.ports h

theorem pavs_of_hush {d e : Dev} (h : hush e = hush d) : e.pavs = d.pavs :=
  show (hush e).pavs = (hush d).pavs from congrArg Dev.pavs h

theorem hush_portsTicked_idle {d : Dev} (h : ∀ n, (d.port n).waiting = []) : hush (portsTicked d) = hush d :=
  forEach_keeps_of_mem hush _ _ rfl (fun e n _ he =>
    (hush_tickPort_idle (by rw [port_of_ports (ports_of_hush he), h n])).trans he)

theorem hush_allWrittenBack_idle {d : Dev} (h : ∀ n, (d.pav n).scrubQ = []) : hush (allWrittenBack d) = hush d :=
  forEach_keeps_of_mem hush _ _ rfl (fun e n _ he => by
    rw [writeBack_idle (by rw [pav_of_pavs (pavs_of_hush he), h n]), he])

/-- A tick for whose end nothing is left, at which no packet and no corrected word waits, changes the time domain, and what a record may
change. -/
theorem hush_tick_idle {d : Dev} (hend : d.tickEnd = []) (hfence : d.fencePrev = []) (hports : ∀ n, (d.port n).waiting = [])
    (hpavs : ∀ n, (d.pav n).scrubQ = []) : hush d.tick = hush { d with time := timeTicked d.time } := by
  obtain ⟨n, hn⟩ := tick_eq d
  have hbegun : hush (tickBegun d) = hush { d with time := timeTicked d.time } := by
    rw [tickBegun, endTick_idle hend hfence]
    rfl
  have hwait : ∀ k, ((tickBegun d).port k).waiting = [] :=
    fun k => (congrArg Port.waiting (port_of_ports (ports_of_hush hbegun) k)).trans (hports k)
  have hticked : hush (rxDrained ((portsTicked (tickBegun d)).count 0x004 0x110 n)) = hush { d with time := timeTicked d.time } := by
    rw [hush_rxDrained, hush_count, hush_portsTicked_idle hwait, hbegun]
  have hscrub : ∀ k, ((rxDrained ((portsTicked (tickBegun d)).count 0x004 0x110 n)).pav k).scrubQ = [] :=
    fun k => (congrArg Pav.scrubQ (pav_of_pavs (pavs_of_hush hticked) k)).trans (hpavs k)
  rw [hn, hush_allWrittenBack_idle hscrub, hticked]

/-- Without power a tick is time that passes, and nothing else. -/
theorem tick_unpowered {s : State} (h : s.dev.powered = false) :
    s.tick = { s with dev := { s.dev with time := { s.dev.time with elapsed := s.dev.time.elapsed + 1 } } } := by
  simp [State.tick, h]

theorem tick_powered {s : State} (h : s.dev.powered = true) : s.tick = { s with dev := s.dev.tick } := by simp [State.tick, h]

theorem step_idle {s : State} (h : s.pending = []) : step s = .next s.tick := by simp [step, h]

end Sys2Proof.Laws
end

section
/-! SUPPORT. The statement about a step of the block. -/
namespace Sys2Proof
open Sys2Proof.Machine Sys2Proof.Laws

/-- Settles O53: a waiting command is what `step` runs; with none waiting a device with power ticks and one without lets time pass. -/
theorem stepRunsTheFrontCommand : Obligations.StepRunsTheFrontCommand := by
  unfold Obligations.StepRunsTheFrontCommand
  refine ⟨fun s c rest h => by simp [step, h], fun s h => ⟨s.tick, step_idle h, ?_⟩⟩
  cases hp : s.dev.powered with
  | true =>
    rw [tick_powered hp]
    have htime := tick_time s.dev
    refine ⟨by rw [htime]; rfl, fun _ hlock => by rw [htime]; simp [timeTicked, hlock], changes_of_offTick s ?_, ?_⟩
    · rw [htime, offTick_tick]
    · intro hend hfence hports hpavs
      exact changes_dev s _ _ (by rw [htime, hush_tick_idle hend hfence hports hpavs])
  | false =>
    rw [tick_unpowered hp]
    exact ⟨rfl, fun h => by simp at h, ⟨rfl, rfl, rfl⟩, fun _ _ _ _ => ⟨rfl, rfl, rfl⟩⟩

end Sys2Proof
end

section
/-! SUPPORT. The exchanges of a port with its neighbour: what a packet of its shell leaves of the port, a REQ sent and taken, a RESP taken, an
exchange lost (R334, R336, R340, R344, R376, R377). -/
namespace Sys2Proof.Laws
open Sys2Proof.Machine

/-! ### Packets of a port's shell -/

theorem port_onPort_same (d : Dev) {n : Nat} (f : Port → Port) (h : n < d.ports.length) : (d.onPort n f).port n = f (d.port n) :=
  port_setPort_same d n _ h

theorem onPort_length (d : Dev) (n : Nat) (f : Port → Port) : (d.onPort n f).ports.length = d.ports.length := by
  simp [Dev.onPort, Dev.setPort, setAt]

/-- A packet that departs leaves its port as it was, the stamp of an exchange apart. -/
theorem departing_port (d : Dev) {n : Nat} (pk : Packet) (h : n < d.ports.length) :
    (d.departing n pk).2.ports.length = d.ports.length ∧ ∃ t1, (d.departing n pk).2.port n = { d.port n with exchStamp := t1 } := by
  unfold Dev.departing
  extract_lets st
  split
  · exact ⟨rfl, _, rfl⟩
  · unfold Dev.when
    split
    · exact ⟨(onPort_length st.2 n _).trans rfl, st.1, port_onPort_same st.2 _ h⟩
    · exact ⟨rfl, _, rfl⟩

/-- What a packet sent leaves of its port: the next SEQ, the packet kept for a replay, credits charged, all acknowledged (R334, R336, R342). -/
theorem portSend_port (d : Dev) {n : Nat} (pk : Packet) (h : n < d.ports.length) :
    ∃ t1 kept ack, (d.portSend n pk).port n = { d.port n with
      exchStamp := t1, txSeq := ((d.port n).txSeq + 1) % 65536, replay := (d.port n).replay ++ [kept]
      chargedH := addAt (d.port n).chargedH pk.tc 1, chargedD := addAt (d.port n).chargedD pk.tc (pk.len / 64)
      lastAckSent := ack, unacked := 0 } := by
  obtain ⟨hlen, t1, hport⟩ := departing_port d pk h
  unfold Dev.portSend
  extract_lets r d1
  have h1 : n < d1.ports.length := by rw [onPort_length, hlen]; exact h
  have hd1 : d1.port n = _ := port_onPort_same r.2 _ (by rw [hlen]; exact h)
  have hframe : ∀ (e : Dev) (body : FrameBody) (seq : Nat) (nak : Bool), n < e.ports.length →
      (e.sendFrame n body seq nak).port n = { e.port n with lastAckSent := ((e.port n).rxE + 65535) % 65536, unacked := 0 } :=
    fun e body seq nak he => port_setPort_same e n _ he
  refine ⟨t1, ((d.port n).txSeq, d.time.elapsed, r.1), ((d.port n).rxE + 65535) % 65536, ?_⟩
  rw [port_of_ports (Dev_count_ports _ _ _ _), hframe _ _ _ _ h1, hd1, hport]

theorem portOffer_sends (d : Dev) {n : Nat} {pk : Packet} (h : (d.port n).waiting = [] ∧ (d.port n).busyFor pk.tc pk.len = false) :
    d.portOffer n pk = d.portSend n pk := by
  simp [Dev.portOffer, h.1, h.2]

theorem portOffer_waits (d : Dev) {n : Nat} {pk : Packet} (h : ¬((d.port n).waiting = [] ∧ (d.port n).busyFor pk.tc pk.len = false)) :
    d.portOffer n pk = d.onPort n (fun p => { p with waiting := p.waiting ++ [pk] }) := by
  simp only [Dev.portOffer]
  rw [if_neg (by simpa using h)]

/-- What a packet of the shell offered to a port keeps of the port: whatever its sending and its waiting leave alone. -/
theorem portOffer_port_keeps {β : Type} (view : Port → β) (d : Dev) {n : Nat} (pk : Packet) (h : n < d.ports.length)
    (hsend : ∀ p t1 q l ch cd ack, view { p with
      exchStamp := t1, txSeq := q, replay := l, chargedH := ch, chargedD := cd, lastAckSent := ack, unacked := 0 } = view p)
    (hwait : ∀ p l, view { p with waiting := l } = view p) : view ((d.portOffer n pk).port n) = view (d.port n) := by
  by_cases hgo : (d.port n).waiting = [] ∧ (d.port n).busyFor pk.tc pk.len = false
  · obtain ⟨t1, kept, ack, hport⟩ := portSend_port d pk h
    rw [portOffer_sends d hgo, hport, hsend]
  · rw [portOffer_waits d hgo, port_onPort_same _ _ h, hwait]

/-! ### The sync state and the ports -/

/-- The time domain after a change of the sync state: nothing but the state, its upstream port and the run of good exchanges. -/
theorem setSync_time (d : Dev) (st : Nat) (up : Option Nat) :
    (d.setSync st up).time = { d.time with sync := st, upstream := up, good := if st = d.time.sync then d.time.good else 0 } := by
  unfold Dev.setSync
  dsimp only
  split
  · rw [raise_syncAlarm, recordB_time, Dev_count_time]
  · rfl

theorem setSync_ports (d : Dev) (st : Nat) (up : Option Nat) : (d.setSync st up).ports = d.ports :=
  (ports_of_hush (hush_setSync d st up)).trans rfl

/-- Choosing the sync state anew is no part of holdover. -/
theorem retime_holdover (d : Dev) : d.retime.time.holdover = d.time.holdover ∧ d.retime.time.expired = d.time.expired := by
  rcases retime_cases d with h | ⟨st, up, h⟩ <;> rw [h]
  · exact ⟨rfl, rfl⟩
  · rw [setSync_time]
    exact ⟨rfl, rfl⟩

theorem jumpTo_ports (d : Dev) (v : W64) : (d.jumpTo v).ports = d.ports := Dev_count_ports _ _ _ _

theorem judgeSync_ports (d : Dev) (theta : Int) : (d.judgeSync theta).ports = d.ports := by
  unfold Dev.judgeSync
  extract_lets good time d1
  split
  · rfl
  · split
    · exact setSync_ports d1 2 _
    · rfl

/-- Steering changes no port. -/
theorem steer_ports (d : Dev) (theta : Int) : (d.steer theta).ports = d.ports := by
  unfold Dev.steer
  extract_lets time d0 f
  rw [judgeSync_ports]
  split
  · exact jumpTo_ports d0 _
  · rfl

/-! ### Exchanges -/

theorem sendTime_eq (d : Dev) (n : Nat) (b : TimeBody) :
    ∃ pk : Packet, d.sendTime n b = d.portOffer n pk ∧ pk.typ = 0x0F ∧ pk.tc = 2 ∧ pk.len = 64 :=
  ⟨_, rfl, rfl, rfl, rfl⟩

/-- A REQ is sent under the next number, and opens its exchange (R377). -/
theorem startExchange_port (d : Dev) {n : Nat} (h : n < d.ports.length) :
    ((d.startExchange n).port n).exchOpen = true ∧ ((d.startExchange n).port n).exchNum = ((d.port n).exchNum + 1) % 65536 ∧
      ((d.startExchange n).port n).lastExch = d.time.elapsed := by
  unfold Dev.startExchange
  extract_lets num d1
  obtain ⟨pk, hsend, -⟩ := sendTime_eq d1 n ⟨0, 0, num, 1, d.flagSynced, d.flagManager⟩
  have hkept := portOffer_port_keeps (fun p => (p.exchOpen, p.exchNum, p.lastExch)) d1 pk (by rw [onPort_length]; exact h)
    (fun _ _ _ _ _ _ _ => rfl) (fun _ _ => rfl)
  rw [← hsend, port_onPort_same d _ h] at hkept
  simpa only [Prod.mk.injEq] using hkept

theorem timeExchange_starts {d : Dev} {n : Nat} (hup : (d.port n).st = .up) (hopen : (d.port n).exchOpen = false)
    (hlast : (d.port n).lastExch + 10000000 ≤ d.time.elapsed) : d.timeExchange n = d.startExchange n := by
  have hdue : ¬ d.time.elapsed < (d.port n).lastExch + 10 * ticksMs := Nat.not_lt.2 hlast
  simp [Dev.timeExchange, hup, hopen, hdue]

/-- The RESP to the open exchange closes it, gives the link's delay and shows the peer's flags (R377, R378). -/
theorem takeTimeResp_port {d : Dev} {n : Nat} {b : TimeBody} (arrive : Nat) (h : n < d.ports.length) (hopen : (d.port n).exchOpen = true)
    (hnum : b.exch = (d.port n).exchNum) (hphase : (d.port n).phase ≠ .init) :
    (d.takeTimeResp n b arrive).port n = { d.port n with
      exchOpen := false, linkDelay := some ((exchDelay (d.port n).exchStamp b.reqArrive b.depart arrive).toNat % 2 ^ 20)
      peerSynced := b.synced, peerManager := b.manager } := by
  unfold Dev.takeTimeResp
  extract_lets p dl th d1 d2
  have hd1 : d1.port n = _ := (port_of_ports (Dev_count_ports _ _ _ _) n).trans (port_setPort_same d n _ h)
  have hd2 : d2.ports = d1.ports := by
    simp only [d2, p, if_neg hphase, retime_ports]
  rw [if_neg (by simp [p, hopen, hnum])]
  have hports : (if d2.time.upstream = some n then d2.steer th else d2).ports = d1.ports := by
    split
    · rw [steer_ports, hd2]
    · exact hd2
  rw [port_of_ports hports, hd1]

/-- A TIME packet taken from its port's receive buffer, the peer's flags noted. -/
def timeTaken (d : Dev) (n : Nat) (q : Packet) (b : TimeBody) : Dev :=
  (d.routerTake n q).onPort n (fun r => { r with peerSynced := b.synced, peerManager := b.manager })

theorem timeTaken_port (d : Dev) {n : Nat} (q : Packet) (b : TimeBody) (hn : n < 12) (h : n < d.ports.length) :
    (timeTaken d n q b).port n = { d.port n with
      rx := (d.port n).rx.erase q, takenH := addAt (d.port n).takenH q.tc 1, takenD := addAt (d.port n).takenD q.tc (q.len / 64)
      peerSynced := b.synced, peerManager := b.manager } := by
  have htake : d.routerTake n q = d.onPort n (fun p => { p with
      rx := p.rx.erase q, takenH := addAt p.takenH q.tc 1, takenD := addAt p.takenD q.tc (q.len / 64) }) := by
    simp [Dev.routerTake, Nat.not_le.2 hn]
  rw [timeTaken, htake, port_onPort_same _ _ (by rw [onPort_length]; exact h), port_onPort_same d _ h]

theorem timeTaken_length (d : Dev) {n : Nat} (q : Packet) (b : TimeBody) (hn : n < 12) :
    (timeTaken d n q b).ports.length = d.ports.length := by
  rw [timeTaken, onPort_length, Dev.routerTake, if_neg (Nat.not_le.2 hn), onPort_length]

section
variable {d : Dev} {n : Nat} {b : TimeBody} {q : Packet}
    (hq : (d.port n).rx.find? (fun y => y.typ = 0x0F && timeBodyOf y.payload = b) = some q)
include hq

theorem timePacket_request (arrive : Nat) (hk : b.kind = 1) : ∃ body : TimeBody,
    d.timePacket n b arrive = ((timeTaken d n q b).sendTime n body).retime := by
  refine ⟨⟨0, arrive % 2 ^ 64, b.exch, 2, d.flagSynced, d.flagManager⟩, ?_⟩
  simp only [Dev.timePacket, hq, hk, if_true, true_or]
  rfl

theorem timePacket_answer (arrive : Nat) (hk : b.kind = 2) : d.timePacket n b arrive = (timeTaken d n q b).takeTimeResp n b arrive := by
  simp only [Dev.timePacket, hq, hk]
  rfl

variable (hn : n < 12) (h : n < d.ports.length)
include hn h

/-- A REQ taken is answered at once or by a packet that waits (R376). -/
theorem request_leaves (arrive : Nat) (hk : b.kind = 1) :
    let p := (d.timePacket n b arrive).port n
    p.rx = (d.port n).rx.erase q ∧ p.peerSynced = b.synced ∧ p.peerManager = b.manager ∧
      ((d.port n).waiting = [] ∧ (d.port n).busyFor 2 64 = false → p.txSeq = ((d.port n).txSeq + 1) % 65536) ∧
      (¬((d.port n).waiting = [] ∧ (d.port n).busyFor 2 64 = false) → p.txSeq = (d.port n).txSeq ∧
        ∃ pk, p.waiting = (d.port n).waiting ++ [pk] ∧ pk.typ = 0x0F) := by
  intro p
  obtain ⟨body, hreq⟩ := timePacket_request hq arrive hk
  obtain ⟨pk, hsend, htyp, htc, hlen⟩ := sendTime_eq (timeTaken d n q b) n body
  have htaken := timeTaken_port d q b hn h
  have hin : n < (timeTaken d n q b).ports.length := by rw [timeTaken_length d q b hn]; exact h
  have hp : p = ((timeTaken d n q b).portOffer n pk).port n := by
    simp only [p]
    rw [hreq, port_of_ports (retime_ports _), hsend]
  have hkept := portOffer_port_keeps (fun p => (p.rx, p.peerSynced, p.peerManager)) (timeTaken d n q b) pk hin
    (fun _ _ _ _ _ _ _ => rfl) (fun _ _ => rfl)
  rw [← hp, htaken] at hkept
  simp only [Prod.mk.injEq] at hkept
  obtain ⟨hrx, hsynced, hmanager⟩ := hkept
  have hgoes : ((timeTaken d n q b).port n).waiting = [] ∧ ((timeTaken d n q b).port n).busyFor pk.tc pk.len = false ↔
      (d.port n).waiting = [] ∧ (d.port n).busyFor 2 64 = false := by
    rw [htaken, htc, hlen]
    exact Iff.rfl
  refine ⟨hrx, hsynced, hmanager, fun hgo => ?_, fun hstay => ?_⟩
  · obtain ⟨t1, kept, ack, hport⟩ := portSend_port (timeTaken d n q b) pk hin
    rw [hp, portOffer_sends _ (hgoes.2 hgo), hport, htaken]
  · rw [hp, portOffer_waits _ (fun hgo => hstay (hgoes.1 hgo)), port_onPort_same _ _ hin, htaken]
    exact ⟨rfl, pk, rfl, htyp⟩

/-- The RESP to the open exchange closes it and gives the link's delay (R377). -/
theorem answer_leaves (arrive : Nat) (hk : b.kind = 2) (hopen : (d.port n).exchOpen = true) (hnum : b.exch = (d.port n).exchNum)
    (hphase : (d.port n).phase ≠ .init) :
    let p := (d.timePacket n b arrive).port n
    p.rx = (d.port n).rx.erase q ∧ p.exchOpen = false ∧
      p.linkDelay = some (((((arrive : Int) - (d.port n).exchStamp) - ((b.depart : Int) - b.reqArrive)) / 2).toNat % 2 ^ 20) := by
  have htaken := timeTaken_port d q b hn h
  have hport := takeTimeResp_port (d := timeTaken d n q b) (b := b) arrive (by rw [timeTaken_length d q b hn]; exact h)
    (by rw [htaken]; exact hopen) (by rw [htaken]; exact hnum) (by rw [htaken]; exact hphase)
  rw [← timePacket_answer hq arrive hk, htaken] at hport
  rw [hport]
  exact ⟨rfl, rfl, rfl⟩

end

/-- An exchange without its RESP after 1 ms is given up and counted (R377). -/
theorem exchangeLost_gives_up {d : Dev} {n tie : Nat} (hopen : (d.port n).exchOpen = true)
    (hlate : (d.port n).exchAt + 1000000 + tie ≤ d.time.elapsed) (hphase : (d.port n).phase ≠ .init) :
    d.exchangeLost tie n = (d.onPort n (fun q => { q with exchOpen := false })).count 0x004 0x104 1 := by
  have hdue : ¬ d.time.elapsed < (d.port n).exchAt + ticksMs + tie := Nat.not_lt.2 hlate
  simp [Dev.exchangeLost, hopen, hdue, hphase]

end Sys2Proof.Laws
end

section
/-! SUPPORT. Holdover, and a time PLL that unlocks: what the class X fault leaves of the time domain and the pavilions (R374, R375, R500). -/
namespace Sys2Proof.Laws
open Sys2Proof.Machine

/-! ### Holdover and the PLL -/

/-- REF_LOSS and HOLDOVER_EXPIRED are class C: their record is all they do. -/
theorem raise_refLoss (d : Dev) (w : Where) : d.raise 0x004 0 w = d.recordB 0x004 0 0 .c false w := rfl
theorem raise_holdoverExpired (d : Dev) (w : Where) : d.raise 0x004 1 w = d.recordB 0x004 0 1 .c false w := rfl

/-- An unlocked PLL is class X: its record stops the device, which is recorded too (R375, R500). -/
theorem raise_pllUnlock (d : Dev) (w : Where) :
    d.raise 0x004 2 w = ((d.recordB 0x004 0 2 .x false w).fatalStop).recordB 0x000 0 20 .x false Where.none := rfl

/-- The device as a reference that goes leaves it: holdover begins (R374). -/
def refGone (d : Dev) : Dev :=
  { d with
    power := { d.power with refOk := false, refSince := d.time.elapsed }
    time := { d.time with holdover := true, holdSince := d.time.elapsed } }

theorem refLoss_eq {d : Dev} (h : d.power.refOk = true) :
    d.refLoss = ((refGone d).count 0x004 0x10C 1).recordB 0x004 0 0 .c false Where.none := by
  simp only [Dev.refLoss, h, raise_refLoss]
  rfl

theorem refReturn_leaves {d : Dev} (h : d.power.refOk = false) :
    d.refReturn.power.refOk = true ∧ d.refReturn.time.holdover = false ∧ d.refReturn.time.expired = false := by
  have hpower : ∀ e : Dev, e.retime.power = e.power := fun e =>
    show (hush e.retime).power = (hush { e with time := e.retime.time }).power from congrArg Dev.power (hush_retime e)
  unfold Dev.refReturn
  rw [if_neg (by simp [h]), hpower, (retime_holdover _).1, (retime_holdover _).2]
  exact ⟨rfl, rfl, rfl⟩

theorem holdoverExpiry_leaves {d : Dev} {tie : Nat} (hhold : d.time.holdover = true) (hexp : d.time.expired = false)
    (hlate : d.time.holdSince + 1000000 * d.rgN 0x004 0x418 0 + tie ≤ d.time.elapsed) :
    (d.holdoverExpiry tie).time.expired = true ∧ (d.holdoverExpiry tie).time.sync = if d.time.sync = 0 then 0 else 1 := by
  have hdue : ¬ d.time.elapsed < d.time.holdSince + ticksMs * d.rgN 0x004 0x418 0 + tie := Nat.not_lt.2 hlate
  unfold Dev.holdoverExpiry
  extract_lets time d1
  have htime : d1.time = { d.time with expired := true } := recordB_time _ _ _ _ _ _ _
  rw [if_neg (by simp [hhold, hexp, hdue])]
  by_cases h0 : d.time.sync = 0
  · rw [if_pos (by rw [htime]; exact h0), if_pos h0, htime]
    exact ⟨rfl, h0⟩
  · rw [if_neg (by rw [htime]; exact h0), if_neg h0, setSync_time, htime]
    exact ⟨rfl, rfl⟩

/-! ### What a class X fault leaves of the time domain and the pavilions -/

theorem flood_time (d : Dev) (skip : Option Nat) (pk : Packet) : (d.flood skip pk).time = d.time :=
  forEach_keeps Dev.time _ d _ (fun e n =>
    show (offPorts (e.portOffer n pk)).time = (offPorts e).time from congrArg Dev.time (offPorts_portOffer e n pk))

theorem ringPlotStep_time (d : Dev) (p : Nat) (r : Reason) : (d.ringPlotStep p r).time = d.time := by
  unfold Dev.ringPlotStep Dev.ring_
  dsimp only
  split
  · split
    · rfl
    · split
      · rfl
      · rw [Dev_count_time, flood_time]
  · rfl

theorem verdictSend_time (d : Dev) (c : Nat) (step : W64) (clean : Bool) : (d.verdictSend c step clean).time = d.time := by
  have hpost : ∀ pk, (d.post pk).time = d.time := fun pk => by unfold Dev.post; split <;> rfl
  unfold Dev.verdictSend
  dsimp only
  split
  · split
    · rfl
    · rw [Dev_count_time, hpost]
  · rfl

theorem closeStall_time (d : Dev) (n : Nat) : (d.closeStall n).time = d.time := by
  unfold Dev.closeStall
  dsimp only
  split
  · rfl
  · rw [Dev_count_time, Dev_setPav_time]

theorem closeGate_time (d : Dev) (n : Nat) : (d.closeGate n).time = d.time :=
  show (quiet (d.closeGate n)).time = (quiet d).time from congrArg Dev.time (quiet_closeGate d n)

theorem dropGate_time (d : Dev) (n : Nat) : (d.dropGate n).time = d.time := by
  unfold Dev.dropGate
  split
  · rw [closeGate_time]; rfl
  · rfl

theorem sliceLate_time (d : Dev) (p : Nat) : (d.sliceLate p).time = d.time := by
  unfold Dev.sliceLate
  split
  · split
    · rw [recordB_time, Dev_countB_time]
    · rfl
  · rfl

theorem chargeStep_time (d : Dev) (p : Nat) : (d.chargeStep p).time = d.time := by simp [Dev.chargeStep]

theorem abandon_time (d : Dev) (p : Nat) (r : Reason) (origin launch : Nat) : (d.abandon p r origin launch).time = d.time := by
  unfold Dev.abandon
  extract_lets sc no grp d1 d2 d3 d4 now dur d5 d6 d7 recov d8
  have h1 : d1.time = d.time := forEach_keeps Dev.time _ d _ (fun e n => (dropGate_time _ n).trans (closeStall_time e n))
  have h2 : d2.time = d1.time := (sliceLate_time _ p).trans (chargeStep_time d1 p)
  have h4 : d4.time = d2.time := forEach_keeps Dev.time grp d2 _ (fun _ _ => rfl)
  have h6 : d6.time = d4.time := (Dev_countB_time _ _ _ _ _).trans (recordB_time _ _ _ _ _ _ _)
  have h8 : d8.time = d6.time := by simp only [d8]; split <;> rfl
  split
  · rfl
  · rw [verdictSend_time]
    exact h8.trans (h6.trans (h4.trans (h2.trans h1)))

theorem fatalStop_time (d : Dev) : d.fatalStop.time = d.time :=
  forEach_keeps Dev.time _ d _ (fun e p => (abandon_time _ p _ _ _).trans (ringPlotStep_time e p _))

theorem stopIdle_run (p : Pav) : p.stopIdle.run ≠ .running := by
  unfold Pav.stopIdle Pav.stop
  dsimp only
  split <;> simp_all

/-- A class X fault stops every pavilion (R500). -/
theorem fatalStop_pav (d : Dev) {m : Nat} (h : m < d.fatalStop.pavs.length) : (d.fatalStop.pav m).run ≠ .running := by
  obtain ⟨p, -, hp⟩ := List.mem_map.1 (List.getElem_mem h)
  rw [Dev.pav, nthD, List.getElem?_eq_getElem h, Option.getD_some, ← hp]
  exact stopIdle_run p

theorem pllUnlock_leaves {d : Dev} (hlock : d.time.locked = true) (href : d.power.refOk = true) :
    d.pllUnlock.time.locked = false ∧ d.pllUnlock.power.fatal = true ∧
      ∀ m, m < d.pllUnlock.pavs.length → (d.pllUnlock.pav m).run ≠ .running := by
  unfold Dev.pllUnlock
  rw [if_neg (by simp [hlock, href]), raise_pllUnlock]
  refine ⟨?_, ?_, fun m hm => ?_⟩
  · rw [recordB_time, fatalStop_time, recordB_time]
  · rw [recordB_power]
    rfl
  · rw [pav_of_pavs (recordB_pavs _ _ _ _ _ _ _)]
    rw [recordB_pavs] at hm
    exact fatalStop_pav _ hm

end Sys2Proof.Laws
end

section
/-! SUPPORT. Launches and jumps: what a release reads does not depend on the count of register writes; a launch armed, cancelled and started; a jump
of a FREE device (R379, R382 to R384, R386). -/
namespace Sys2Proof.Laws
open Sys2Proof.Machine

/-! ### What a release reads does not depend on REG_WRITES -/

/-- A device with other registers, all of which read as they did but those at offset 0x104 of their page, where DEVICE has REG_WRITES. -/
def AlikeBut104 (d : Dev) (rs : SMap W32) : Prop :=
  ∀ pg o b, o < 4096 → o ≠ 0x104 → ({ d with regs := rs } : Dev).rgN pg o b = d.rgN pg o b

theorem regWritten_eq (d : Dev) : ∃ rs, d.count 0x000 0x104 1 = { d with regs := rs } ∧ AlikeBut104 d rs := by
  have heq : d.count 0x000 0x104 1 = { d with regs := (d.count 0x000 0x104 1).regs } := by
    unfold Dev.count Dev.countB
    split <;> rfl
  exact ⟨_, heq, fun pg o b ho hne => heq ▸ reg_count d (by decide) ho hne⟩

section
variable {d : Dev} {rs : SMap W32} (h : AlikeBut104 d rs)
include h

theorem shadowValid_alike : ({ d with regs := rs } : Dev).shadowValid = d.shadowValid := by
  rw [Dev.shadowValid, Dev.shadowValid, h _ _ _ (by decide) (by decide)]

theorem isShadow_alike : ({ d with regs := rs } : Dev).isShadow = d.isShadow := isShadow_of_rgN (h _ _ _ (by decide) (by decide))

theorem follows_alike (c : Nat) : ({ d with regs := rs } : Dev).follows c = d.follows c := by
  rw [Dev.follows, Dev.follows, Dev.kcfg, Dev.kcfg, h _ _ _ (by decide) (by decide)]

theorem taking_alike (c : Nat) : ({ d with regs := rs } : Dev).taking c = d.taking c := by
  rw [Dev.taking, Dev.taking, Dev.epochWaits, Dev.epochWaits, shadowValid_alike h]
  rfl

theorem nextBundle_alike (c : Nat) : ({ d with regs := rs } : Dev).nextBundle c = d.nextBundle c := by
  rw [Dev.nextBundle, Dev.nextBundle, taking_alike h]
  rfl

theorem inputImage_alike (b : BundleBody) (v : VariantBody) (slots : List Nat) :
    ({ d with regs := rs } : Dev).inputImage b v slots = d.inputImage b v slots := by
  have hview : readView { d with regs := rs } = readView d :=
    readView_of_regs rfl (h _ _ _ (by decide) (by decide)) (h _ _ _ (by decide) (by decide))
  have hnum : ({ d with regs := rs } : Dev).number = d.number := congrArg (fun v : Dev × Bool × Nat => v.2.2) hview
  have hmem : ∀ a, ({ d with regs := rs } : Dev).localMem a = d.localMem a := fun a => by rw [Dev.localMem, Dev.localMem, hnum]
  have hread : ∀ off n, ({ d with regs := rs } : Dev).lpRead off n = d.lpRead off n := lpRead_congr (answerView_of_readView hview)
  unfold Dev.inputImage
  simp only [hmem, hread]
  rfl

theorem composed_alike (c : Nat) (b : BundleBody) (vs : List VariantBody) :
    ({ d with regs := rs } : Dev).composed c b vs = d.composed c b vs := by
  unfold Dev.composed
  simp only [follows_alike h, isShadow_alike h, taking_alike h, inputImage_alike h]
  rfl

theorem groupReady_alike (c set key : Nat) (b : Bundle) :
    ({ d with regs := rs } : Dev).groupReady c set key b = d.groupReady c set key b := by
  have hosc : ∀ n, ({ d with regs := rs } : Dev).oscState n = d.oscState n := fun n => by
    rw [Dev.oscState, Dev.oscState, h _ _ _ (by decide) (by decide)]
  have hgroup : ∀ p, ({ d with regs := rs } : Dev).groupOf p = d.groupOf p := fun p => by
    unfold Dev.groupOf
    simp only [hosc]
    rfl
  rw [Dev.groupReady, Dev.groupReady, hgroup]
  rfl

theorem roomFor_alike (c : Nat) (v : VariantBody) : ({ d with regs := rs } : Dev).roomFor c v = d.roomFor c v := by
  have hcfg : ∀ r, ({ d with regs := rs } : Dev).ringCfg r = d.ringCfg r := fun r => h 0x003 0x50C r (by decide) (by decide)
  have hrings : ({ d with regs := rs } : Dev).outRings c = d.outRings c := by
    unfold Dev.outRings Dev.isRing Dev.ringKind Dev.ringCtx
    simp only [hcfg]
    rfl
  have hroom : ∀ r n, ({ d with regs := rs } : Dev).ringRoom r n = d.ringRoom r n := fun r n => by
    rw [Dev.ringRoom, Dev.ringRoom, Dev.ringSize, Dev.ringSize, hcfg]
    rfl
  rw [Dev.roomFor, Dev.roomFor, hrings]
  simp only [hroom]

theorem canaryAllows_alike (c : Nat) : ({ d with regs := rs } : Dev).canaryAllows c = d.canaryAllows c := by
  rw [Dev.canaryAllows, Dev.canaryAllows, Dev.canaryCtx, Dev.canaryCtx, h _ _ _ (by decide) (by decide)]

theorem canRelease_alike (c : Nat) : ({ d with regs := rs } : Dev).canRelease c = d.canRelease c := by
  have hhalt : ({ d with regs := rs } : Dev).rgN 0x003 0x030 0 = d.rgN 0x003 0x030 0 := h _ _ _ (by decide) (by decide)
  unfold Dev.canRelease
  simp only [hhalt, canaryAllows_alike h, nextBundle_alike h, composed_alike h, groupReady_alike h, follows_alike h,
    isShadow_alike h, roomFor_alike h]
  rfl

theorem launchDue_alike : ({ d with regs := rs } : Dev).launchDue = d.launchDue := by
  unfold Dev.launchDue
  simp only [canRelease_alike h]
  rfl

theorem jumpOk_alike : ({ d with regs := rs } : Dev).jumpOk = d.jumpOk := by
  rw [Dev.jumpOk, Dev.jumpOk, shadowValid_alike h]

end

/-! ### Launches -/

/-- The device once the armed launch has released its step, `e` the device as the release leaves it: the context runs under its launch (R382). -/
def launched (d e : Dev) : Dev :=
  let d1 := e.onCtx d.time.launchCtx (fun x => { x with launch := some d.time.launchAt })
  ({ d1 with time := { d1.time with
      launch := 2, launchLate := decide (d.time.launchAt < d.time.count), launchTick := d.time.count } }).count 0x004 0x114 1

theorem launched_time (d e : Dev) : (launched d e).time = { e.time with
    launch := 2, launchLate := decide (d.time.launchAt < d.time.count), launchTick := d.time.count } := Dev_count_time _ _ _ _

theorem launched_ctx (d e : Dev) : ((launched d e).ctx d.time.launchCtx).launch = some d.time.launchAt := by
  rw [launched, ctx_of_ctxs (Dev_count_ctxs _ _ _ _)]
  exact congrArg Ctx.launch (ctx_onCtx_same e d.time.launchCtx (fun x => { x with launch := some d.time.launchAt }))

section
variable {d : Dev} {b : Bundle} {set vn : Nat} {v : VariantBody} {vals : List (Nat × Nat)} {img : List Byte}
    (harmed : d.time.launch = 1) (hdue : d.time.launchAt ≤ d.time.count) (hcan : d.canRelease d.time.launchCtx = some (b, set, vn, v, vals, img))
    (hturn : d.turnOf d.time.launchCtx = true) (hfit : d.sliceFits d.time.launchCtx v.deadline = true)
include harmed hdue hcan hturn hfit

theorem launch_eq : ∃ e, d.launch = if d.time.launchAt < d.time.count then (launched d e).record 0x004 5 Where.none else launched d e := by
  refine ⟨d.release d.time.launchCtx b set vn v vals img, ?_⟩
  simp only [Dev.launch, harmed, BitVec.not_lt.2 hdue, hcan, hturn, hfit, launched, decide_eq_true_eq, ne_eq, not_true, decide_false,
    Bool.or_self, Bool.not_true, Bool.false_eq_true, if_false]

/-- A launch that is due starts its context's step under the launch count; one that comes after it is late (R382, R384). -/
theorem launch_releases : d.launch.time.launch = 2 ∧ d.launch.time.launchLate = decide (d.time.launchAt < d.time.count) ∧
      (d.launch.ctx d.time.launchCtx).launch = some d.time.launchAt := by
  obtain ⟨e, hlaunch⟩ := launch_eq harmed hdue hcan hturn hfit
  have htime : d.launch.time = (launched d e).time := by
    rw [hlaunch]
    split
    · exact record_time _ _ _ _
    · rfl
  have hctxs : d.launch.ctxs = (launched d e).ctxs := by
    rw [hlaunch]
    split
    · exact record_ctxs _ _ _ _
    · rfl
  rw [htime, launched_time, ctx_of_ctxs hctxs]
  exact ⟨rfl, rfl, launched_ctx d e⟩

end

/-- The conditions under which a context is armed (R382): a count still to come, a device in step with the system, a bundle of several
devices. -/
def Arms (d : Dev) (c : Nat) : Prop :=
  d.time.count < BitVec.ofNat 64 (d.rg64 0x004 0x420 0) ∧ (d.time.sync = 0 ∨ d.time.sync = 3) ∧ (d.ctx c).multi = true

theorem launchArm_arms {d : Dev} {c : Nat} (h : Arms d c) : d.launchArm c =
    { d with time := { d.time with launch := 1, launchLate := false, launchCtx := c, launchAt := BitVec.ofNat 64 (d.rg64 0x004 0x420 0) } } := by
  obtain ⟨hat, hsync, hmulti⟩ := h
  have hok : (decide (d.time.count < BitVec.ofNat 64 (d.rg64 0x004 0x420 0)) && (decide (d.time.sync = 0) || decide (d.time.sync = 3)) &&
      (d.ctx c).multi) = true := by simp [hat, hsync, hmulti]
  exact if_pos hok

theorem launchArm_refuses {d : Dev} {c : Nat} (h : ¬Arms d c) :
    d.launchArm c = ({ d with time := { d.time with launch := 3, launchLate := false, launchCtx := c } }).record 0x004 4 Where.none := by
  have hno : ¬(decide (d.time.count < BitVec.ofNat 64 (d.rg64 0x004 0x420 0)) && (decide (d.time.sync = 0) || decide (d.time.sync = 3)) &&
      (d.ctx c).multi) = true := fun hok => h (by simpa [Arms, and_assoc] using hok)
  exact if_neg hno

/-- A record leaves its bit in ERR_STATUS of its page (R595). -/
theorem record_status (d : Dev) {page bit : Nat} (w : Where) (hpg : page < 4096) (hb : bit < 32) :
    bitN ((d.record page bit w).rgN page 0x018 0) bit = true :=
  ((touches_recordB_of_flagged d 0 bit _ false w hpg).2 page 0 hpg).1 bit (flagged_status d page 0 false hb)

/-- What an arm leaves: the armed launch, or a refused one that is recorded (R382, R383). -/
theorem launchArm_leaves (d : Dev) (c : Nat) :
    let e := d.launchArm c
    e.time.launchCtx = c ∧ (Arms d c → e.time.launch = 1 ∧ e.time.launchAt = BitVec.ofNat 64 (d.rg64 0x004 0x420 0)) ∧
      (¬Arms d c → e.time.launch = 3 ∧ bitN (e.rgN 0x004 0x018 0) 4 = true) ∧ hush e = hush { d with time := e.time } := by
  intro e
  by_cases h : Arms d c
  · have he : e = _ := launchArm_arms h
    rw [he]
    exact ⟨rfl, fun _ => ⟨rfl, rfl⟩, fun hno => absurd h hno, rfl⟩
  · have he : e = _ := launchArm_refuses h
    rw [he, record_time, hush_record]
    exact ⟨rfl, fun ha => absurd ha h, fun _ => ⟨rfl, record_status _ _ (by decide) (by decide)⟩, rfl⟩

/-- A register pair is no part of the count of REG_WRITES. -/
theorem rg64_written (d : Dev) {pg o : Nat} (b : Nat) (ho : o + 4 < 4096) (h : o ≠ 0x104) (h' : o + 4 ≠ 0x104) :
    (d.count 0x000 0x104 1).rg64 pg o b = d.rg64 pg o b := by
  rw [Dev.rg64, Dev.rg64, reg_count d (by decide) (by omega) h, reg_count d (by decide) ho h']

theorem arms_written (d : Dev) (c : Nat) : Arms (d.count 0x000 0x104 1) c ↔ Arms d c := by
  rw [Arms, Arms, rg64_written d 0 (by decide) (by decide) (by decide), Dev_count_time, ctx_of_ctxs (Dev_count_ctxs d _ _ _)]

theorem launchCancel_cancels {d : Dev} {c : Nat} (harmed : d.time.launch = 1) (hctx : d.time.launchCtx = c) (hdue : d.launchDue = false) :
    d.launchCancel c = { d with time := { d.time with launch := 0 } } := by
  simp [Dev.launchCancel, Dev.when, harmed, hctx, hdue]

theorem launchDue_written (d : Dev) : (d.count 0x000 0x104 1).launchDue = d.launchDue := by
  obtain ⟨rs, heq, h⟩ := regWritten_eq d
  rw [heq, launchDue_alike h]

theorem jumpOk_written (d : Dev) : (d.count 0x000 0x104 1).jumpOk = d.jumpOk := by
  obtain ⟨rs, heq, h⟩ := regWritten_eq d
  rw [heq, jumpOk_alike h]

/-- A write to LAUNCH_CMD that names a context, its check passed. -/
theorem exec_namesLaunch {i : Instr} {s : State} {r : Route} {v c : Nat} (f : Nat → Dev → Dev) (hc : c < 256)
    (hexec : exec i s = onReg r 0x004 0x428 (c % 256 + v) (f (c % 256)) s) (h : s.admits r 0x004 0x428 (c + v)) :
    exec i s = .next { s with dev := f c (s.dev.count 0x000 0x104 1) } := by
  rw [Nat.mod_eq_of_lt hc] at hexec
  exact exec_admits (f c) hexec h

theorem jump_taken {d : Dev} (v : W64) (hsync : d.time.sync = 0) (hok : d.jumpOk = true) :
    d.when (d.time.sync = 0 && d.jumpOk) (·.jumpTo v) = d.jumpTo v := by
  simp [Dev.when, hsync, hok]

theorem jumpTo_ptp (d : Dev) (v : W64) : (d.jumpTo v).ptp = { d.ptp with valid := false } := Dev_count_ptp _ _ _ _
theorem jumpTo_time (d : Dev) (v : W64) : (d.jumpTo v).time = { d.time with count := v } := Dev_count_time _ _ _ _

theorem hush_time {d e : Dev} (h : hush d = hush e) (t : Time) : hush { d with time := t } = hush { e with time := t } :=
  congrArg (fun g : Dev => { g with time := t }) h

theorem hush_time_ptp {d e : Dev} (h : hush d = hush e) (t : Time) (p : Ptp) :
    hush { d with time := t, ptp := p } = hush { e with time := t, ptp := p } :=
  congrArg (fun g : Dev => { g with time := t, ptp := p }) h

/-- A jump sets the counter and discards the PTP mapping (R373, R379). -/
theorem hush_jumpTo (d : Dev) (v : W64) :
    hush (d.jumpTo v) = hush { d with time := { d.time with count := v }, ptp := { d.ptp with valid := false } } :=
  hush_count _ _ _ _

end Sys2Proof.Laws
end

section
/-! SUPPORT. The statement about the time domain and launches. -/
namespace Sys2Proof
open Sys2Proof.Machine Sys2Proof.Laws

/-- Settles O30, command by command: each is one function of a powered device, or of a device whose register write is counted; none of what
an arm, a cancel or a jump reads depends on that count. -/
theorem timeAndLaunches : Obligations.TimeAndLaunches := by
  unfold Obligations.TimeAndLaunches
  intro s r n hn
  refine ⟨fun hp => ⟨fun hup hopen hlast => ?exchange, fun b q arrive hq h12 => ⟨fun hk => ?request, fun hk hopen hnum hphase => ?answer⟩,
      fun hopen hlate hphase => ?lost, fun href => ?refLoss, fun href => ?refReturn, fun hhold hexp hlate => ?holdover, fun hlock href => ?pll,
      fun b set vn v vals img harmed hdue hcan hturn hfit => ?launch⟩,
    fun c hc h => ?arm, fun c hc h harmed hctx hdue => ?cancel, fun h hsync hjump => ?jump⟩
  case exchange =>
    refine ⟨_, onDev_powered (·.timeExchange n) s hp, ?_⟩
    rw [timeExchange_starts hup hopen hlast]
    exact startExchange_port s.dev hn
  case request => exact ⟨_, onDev_powered (·.timePacket n b arrive) s hp, request_leaves hq h12 hn arrive hk⟩
  case answer => exact ⟨_, onDev_powered (·.timePacket n b arrive) s hp, answer_leaves hq h12 hn arrive hk hopen hnum hphase⟩
  case lost =>
    refine ⟨_, onDev_powered (·.exchangeLost s.tie n) s hp, ?_⟩
    rw [exchangeLost_gives_up hopen hlate hphase]
    refine ⟨?_, rgN_count_same _ _ _ _, changes_dev s _ _ ?_⟩
    · rw [port_of_ports (Dev_count_ports _ _ _ _), port_onPort_same _ _ hn]
    · rw [hush_count, Dev_count_ports]
      rfl
  case refLoss =>
    refine ⟨_, onDev_powered Dev.refLoss s hp, ?_⟩
    rw [refLoss_eq href]
    refine ⟨?_, ?_, ?_, changes_dev s _ _ ?_⟩
    · rw [recordB_power, Dev_count_power]
      rfl
    · rw [recordB_time, Dev_count_time]
      rfl
    · rw [recordB_time, Dev_count_time]
      rfl
    · rw [hush_recordB, hush_count, recordB_power, recordB_time, Dev_count_power, Dev_count_time]
      rfl
  case refReturn => exact ⟨_, onDev_powered Dev.refReturn s hp, refReturn_leaves href⟩
  case holdover => exact ⟨_, onDev_powered (Dev.holdoverExpiry s.tie) s hp, holdoverExpiry_leaves hhold hexp hlate⟩
  case pll => exact ⟨_, onDev_powered Dev.pllUnlock s hp, pllUnlock_leaves hlock href⟩
  case launch => exact ⟨_, onDev_powered Dev.launch s hp, launch_releases harmed hdue hcan hturn hfit⟩
  case arm =>
    obtain ⟨hctx, harms, hrefuses, hhush⟩ := launchArm_leaves (s.dev.count 0x000 0x104 1) c
    rw [arms_written] at harms hrefuses
    rw [rg64_written _ _ (by decide) (by decide) (by decide)] at harms
    refine ⟨_, exec_namesLaunch (fun c d => d.launchArm c) hc rfl h, hctx, fun hat hsync hmulti => harms ⟨hat, hsync, hmulti⟩,
      fun hno => hrefuses ?_, changes_dev s _ _ (hhush.trans (hush_time (hush_count _ _ _ _) _))⟩
    rintro ⟨hat, hsync, hmulti⟩
    rcases hno with hno | ⟨h0, h3⟩ | hno
    · exact hno hat
    · exact hsync.elim h0 h3
    · simp [hmulti] at hno
  case cancel =>
    have hcancel := launchCancel_cancels (d := s.dev.count 0x000 0x104 1) (c := c) (by rw [Dev_count_time, harmed])
      (by rw [Dev_count_time, hctx]) (by rw [launchDue_written, hdue])
    refine ⟨_, exec_namesLaunch (fun c d => d.launchCancel c) hc rfl h, ?_⟩
    rw [hcancel, Dev_count_time]
    exact ⟨rfl, changes_dev s _ _ (hush_time (hush_count _ _ _ _) _)⟩
  case jump =>
    have htaken := jump_taken (d := s.dev.count 0x000 0x104 1) (BitVec.ofNat 64 ((s.dev.count 0x000 0x104 1).rg64 0x004 0x470 0))
      (by rw [Dev_count_time, hsync]) (by rw [jumpOk_written, hjump])
    refine ⟨_, exec_admits (fun d => d.when (d.time.sync = 0 && d.jumpOk) (·.jumpTo (BitVec.ofNat 64 (d.rg64 0x004 0x470 0)))) rfl h, ?_⟩
    rw [htaken, rg64_written _ _ (by decide) (by decide) (by decide)]
    refine ⟨by rw [jumpTo_time], by rw [jumpTo_ptp], changes_dev s _ _ ?_⟩
    rw [hush_jumpTo, jumpTo_time, jumpTo_ptp]
    exact hush_time_ptp (hush_count _ _ _ _) _ _

end Sys2Proof
end
